-- ==== Sys2Proof/Word.lean ====
section
/-!
DEFINITION. The word types of the Floxel 7216 (00_scope.md, R15, R16).
-/
namespace Sys2Proof

/-- A register: 32 bits (R15). -/
abbrev Word := BitVec 32

/-- A byte of memory, of the host link or of the boot flash. -/
abbrev Byte := BitVec 8

/-- A 64-bit quantity: an LCT entry (R72), a word of the Ozide store (R381). -/
abbrev DWord := BitVec 64

end Sys2Proof
end

