-- ==== Sys2Proof/Syntax.lean ====
section
/-!
DEFINITION. The commands of the Floxel 7216: one constructor per row of spec/opcode_table.json. The table gives
the rows no operands and no bits; the operands are what the rule of the row names (log entry 9, DESIGN CHOICE).
-/
namespace Sys2Proof

/-- M0–M10 (R44). -/
abbrev Master := Fin 11

/-- M3–M10, as the value MST of a flit header: `h` stands for M(3 + h) (R132). -/
abbrev HostMaster := Fin 8

/-- An access to a data register of an indexed table: a read, or a write of a word. -/
inductive Acc where
  | read
  | write (v : Word)
deriving DecidableEq, Repr

/-- A host request (R143), with the data bytes that follow its header. `len` is the header's LEN field. -/
structure Req where
  m      : HostMaster
  vc     : Fin 4
  rseq   : BitVec 16
  tag    : BitVec 8
  len    : Nat
  addr   : BitVec 48
  arg    : BitVec 16
  ackreq : Bool
  data   : List Byte
deriving DecidableEq, Repr

/-- A lane: HLn (host, both directions of one number) or PLn (panel) (06_lanes.md). -/
inductive Lane where
  | host (n : Fin 18)
  | panel (n : Fin 108)
deriving DecidableEq, Repr

/-- A direction of chain path (R293). -/
inductive Path where
  | a
  | b
deriving DecidableEq, Repr

/-- One 432-bit word of a chain frame (R283), a command word or a response word. -/
structure ChainWord where
  opc     : BitVec 4
  pos     : BitVec 4
  seq     : BitVec 8
  arg     : BitVec 16
  payload : BitVec 384
  crc     : BitVec 16
deriving DecidableEq, Repr

/-- A DRAM unit that keeps a refresh debt (R320): a pseudo-channel of the frame store or a rank of scene memory. -/
inductive DramUnit where
  | pc (n : Fin 32)
  | rank (ch : Fin 4) (k : Fin 2)
deriving DecidableEq, Repr

/-- The two memory systems of 11_memory.md. -/
inductive MemSys where
  | frame
  | scene
deriving DecidableEq, Repr

/-- What a codeword's check at a read finds (R327). -/
inductive Ecc where
  | clean
  | corrected
  | uncorrectable
deriving DecidableEq, Repr

/-- The errors on a codeword as it is read: symbols, data before check symbols, and the bits that are wrong in each (R327). -/
abbrev SymErrs : Type := List (Nat × BitVec 8)

/-- What an input receives up to a marker position (R172–R175): the 64 bits of the marker as unstuffed, the line bits since the
last one, and the bit time at which the marker ends, counted alike on every input. -/
structure MarkerSeen where
  bits : DWord
  line : List Bool
  pos  : Nat
deriving DecidableEq, Repr

/-- The bits that an input's checker receives (R177). -/
structure CheckerBits where
  l    : Fin 18
  bits : List Bool
deriving DecidableEq, Repr

/-- An engine ends its work; the values of its result that came out wrong, by pixel and colour (R219, R227). -/
structure EngineEnd where
  e     : Fin 68
  upset : List (Nat × BitVec 18)
deriving DecidableEq, Repr

/-- A word of the Ozide store that has an error when the store is scanned (R383): one bit, or more. -/
structure OzErr where
  word   : BitVec 16
  double : Bool
deriving DecidableEq, Repr

/-- A request that reaches a memory controller (R316, R317). `age` is the time since then, in nanoseconds; `rank` is that of
a scene-memory access. -/
structure MemReq where
  port    : Nat
  age     : Nat
  write   : Bool
  offset  : Nat
  rank    : Fin 2
  bank    : BitVec 5
  row     : BitVec 17
deriving DecidableEq, Repr

/-- What the 7216 uses of a received PTP message's transport and common header (R338–R341): `via` is 0 layer 2, 1 UDP over
IPv4, 2 UDP over IPv6, and `corr` correctionField in 2^-16 ns. -/
structure PtpHdr where
  via    : Fin 3
  domain : BitVec 8
  clock  : BitVec 64
  port   : BitVec 16
  seq    : BitVec 16
  corr   : Int
deriving DecidableEq, Repr

/-- The fields of an Announce that the foreign master table records, and its grandmasterIdentity, which the dataset
comparison needs (R341, R346). -/
structure AnnounceMsg where
  hdr       : PtpHdr
  gm        : BitVec 64
  priority1 : BitVec 8
  clockClass : BitVec 8
  accuracy  : BitVec 8
  variance  : BitVec 16
  priority2 : BitVec 8
  steps     : BitVec 16
  timeSource : BitVec 8
  utcOffset : BitVec 16
  utcValid  : Bool
deriving DecidableEq, Repr

/-- Who waits for a delay answer (R340): a tracker (Delay_Req) or a port (Pdelay_Req). -/
inductive DelayAsker where
  | tracker (k : Fin 4)
  | port (p : Fin 2)
deriving DecidableEq, Repr

/-- The source of a PIN reset (R408): the RESET_N pin, or a supply of R421 other than VDD_AON below its reset level. -/
inductive PinCause where
  | resetN
  | supply (rail : Fin 8)
deriving DecidableEq, Repr

/-- The commands. One constructor per row of spec/opcode_table.json, in the table's order. -/
inductive Instr where
  -- control plane (02_control_plane.md)
  | registerWrite (m : Master) (a : BitVec 24) (v : Word)
  | holdingRead (m : Master) (a : BitVec 24)
  | shadowWrite (m : Master) (a : BitVec 24) (v : Word)
  | mstThaw (m : Master) (v : Word)
  | owner (m : Master) (page : Fin 60) (v : Word)
  | cmtReq (m : Master) (v : Word)
  | cmtReady (m : Master) (v : Word)
  | cmtCancel (m : Master) (v : Word)
  | lfTick
  | heldAccessExecute
  | blockResetApply
  | dayStart
  | sunset
  | twilightWindowOpen
  | slotTick
  | lineStart (fill : Fin 49) (shownMissing refMissing : Bool)
  -- backlight (10_backlight.md)
  | chainResponse (t : Fin 24) (p : Path) (words : Vector ChainWord 8)
  | alertN (t : Fin 24)
  | pathVerifyTimer (t : Fin 24) (p : Path)
  | lifeRecordWrite (t : Fin 24)
  | bklRestore (m : Master) (t : Fin 24) (p : Path)
  | bklVerify (m : Master) (t : Fin 24) (p : Path)
  | bklFail (m : Master) (t : Fin 24) (p : Path)
  | clearOpen (m : Master) (t : Fin 24)
  | reinit (m : Master) (t : Fin 24)
  | bklTcData (m : Master) (x : Acc)
  -- lenslet calibration table (03_ray_geometry.md)
  | lctLoadArm (m : Master) (v : Word)
  | lctLoadBegin
  | lctLoadComplete
  | lctLoadReadError (written : Nat)
  | lctRdataLo (m : Master)
  | lctRdataHi (m : Master)
  | lctWdataHi (m : Master) (v : Word)
  | lctCrcExp (m : Master) (v : Word)
  | lctAudit (m : Master) (v : Word)
  | auditRead
  -- layers (04_layers.md)
  | contextWrite (m : Master) (n : Fin 3072) (w : Fin 32) (v : Word)
  | arm (m : Master) (n : Fin 3072) (v : Word)
  | define (m : Master) (h : Fin 8192)
  | seal (m : Master) (h : Fin 8192)
  | refill (m : Master) (h : Fin 8192)
  | release (m : Master) (h : Fin 8192)
  | query (m : Master) (h : Fin 8192)
  | lyrCmxData (m : Master) (x : Acc)
  | lyrEotfData (m : Master) (x : Acc)
  | scalerStart
  | scalerDone
  -- host link (05_ingest_decompression.md)
  | flitReceive (bytes : Vector Byte 128)
  | retry (ack : Byte)
  | replayTimeout
  | retryStorm
  | linkRetrain
  | linkUp
  | rd (r : Req)
  | wr (r : Req)
  | bput (r : Req)
  | bget (r : Req)
  | crd (m : HostMaster) (vc : Fin 4) (counts : Vector (BitVec 16) 4) (init : Bool)
  | creditReturnTimer (m : HostMaster) (vc : Fin 2)
  | completionSend (m : HostMaster) (vc : Fin 2)
  | bputCompletion (m : HostMaster)
  | evtTimer (m : HostMaster)
  | evt (m : HostMaster)
  -- decompression
  | openCtx (m : Master) (owner : BitVec 4) (ctx : BitVec 12)
  | closeCtx (m : Master) (ctx : BitVec 12)
  | abortCtx (m : Master) (ctx : BitVec 12)
  | ctxQuery (m : Master) (ctx : BitVec 12)
  | contextLoad (ctx : Fin 3072) (engine : Fin 17) (stateOk : Bool)
  | contextPark (ctx : Fin 3072)
  | tokenDecode (ctx : Fin 3072)
  | streamDone (ctx : Fin 3072)
  | writeCapGrant
  -- lanes (06_lanes.md)
  | marker (l : Fin 18) (got : MarkerSeen)
  | laneEnable (l : Lane)
  | detectRetry (l : Lane) (seen : Bool) (ms : Nat)
  | trainDone (l : Lane)
  | laneStateTimeout (l : Lane)
  | laneFail (l : Lane) (cause : Fin 8)
  | copyStart (l : Fin 18)
  | copyMissingTimer (l : Fin 18)
  | laneVerifyTimer (l : Lane)
  | restore (m : Master) (l : Lane)
  | forceFail (m : Master) (l : Lane)
  | verify (m : Master) (l : Lane)
  | prbsClr (m : Master) (l : Lane)
  | psbFrame (attention : BitVec 72) (reply : Option (Word × Byte))
  | lnpPsbSel (m : Master) (v : Word)
  | lnpDrvreg (m : Master) (v : Word)
  -- composer and finishing (07_composer.md, 08_finishing.md)
  | workItemStart (e : Fin 68)
  | workItemDone (w : EngineEnd)
  | residueFault (e : Fin 68)
  | zoneAnalysisDone
  | compositionComplete
  | engineVerifyTimer (e : Fin 68)
  | cmpVerify (m : Master) (e : Fin 68)
  | cmpAdmit (m : Master) (e : Fin 68)
  | retire (m : Master) (e : Fin 68)
  | lineTransaction
  | finZdata (m : Master)
  | finSprData (m : Master) (x : Acc)
  | finXfrData (m : Master) (x : Acc)
  | finMtbData (m : Master) (x : Acc)
  | scnOdData (m : Master) (x : Acc)
  | pnlNsbData (m : Master) (x : Acc)
  | scnFifoMin (m : Master)
  | tickSeed
  -- memory (11_memory.md)
  | refreshUrgent (u : DramUnit)
  | refreshDue (u : DramUnit) (early : Bool)
  | memoryRequestIssue (u : DramUnit) (arrivals : List MemReq) (errs : SymErrs)
  | neighbourRefresh (u : DramUnit)
  | refreshWindowClear (stack : Fin 2)
  | memoryTempRead (u : DramUnit) (t : BitVec 16) (code : Byte)
  | powerDownEntry (u : DramUnit)
  | scrubRead (sys : MemSys) (errs : SymErrs) (writeArrived : Bool)
  | scrubRewrite (sys : MemSys)
  | soft (m : Master) (sys : MemSys) (entry : Fin 16)
  | drop (m : Master) (sys : MemSys) (entry : Fin 16)
  -- time (12_time.md)
  | sync (p : Fin 2) (h : PtpHdr) (origin : Int) (twoStep : Bool)
  | followUp (p : Fin 2) (h : PtpHdr) (origin : Int)
  | delayResp (p : Fin 2) (h : PtpHdr) (receipt : Int)
  | pdelayReq (p : Fin 2) (h : PtpHdr)
  | pdelayResp (p : Fin 2) (h : PtpHdr) (t2 t3 : Int)
  | announce (p : Fin 2) (a : AnnounceMsg)
  | ptpDiscard (p : Fin 2)
  | delayReq (k : Fin 4)
  | pdelayReqSend (p : Fin 2)
  | delayAnswerTimeout (who : DelayAsker)
  | foreignMasterExpire (p : Fin 2) (entry : Fin 8)
  | sourceLoss (k : Fin 4)
  | ppsEdge (i : Fin 2)
  | ethLinkChange (p : Fin 2) (up : Bool) (speed : Bool)
  | tbSet (m : Master) (k : Fin 4)
  | tbStep (m : Master) (k : Fin 4)
  | tbSwitch (m : Master) (k : Fin 4)
  | reservo (m : Master) (k : Fin 4)
  | timTbPri (m : Master) (k : Fin 4) (v : Word)
  | timTbNs (m : Master) (k : Fin 4)
  | timEthTxqW0 (m : Master) (p : Fin 2)
  | triggerFire (k : Fin 4)
  | ppsOut (i : Fin 2)
  | reseedPending
  | timeclkChange (present : Bool)
  -- temperature and calibration (13_thermal_calibration.md)
  | thermalSample (codes : Vector (BitVec 12) 12) (refDeviation : Nat)
  | shutdownRecords
  | sensorCrossCheck
  | thmZcmdRestore (m : Master) (z : BitVec 4)
  | shutdown (m : Master)
  | thmMax (m : Master)
  | calReq (m : Master) (v : Word)
  | calRetryTimer (domain : Fin 5)
  | calRunDone (domain : Fin 5) (unit : BitVec 7) (ok : Bool)
  | calLedsetData (m : Master) (x : Acc)
  -- Ozide store (14_ozide.md)
  | ozdLowWrite (m : Master) (word : BitVec 16) (v : Word)
  | ozdHighWrite (m : Master) (word : BitVec 16) (v : Word)
  | ozdUnlKey (m : Master) (v : Word)
  | ozdRelock (m : Master) (v : Word)
  | inc (m : Master) (ctr : BitVec 6)
  | ozdRecordFlush
  -- resets and power (15_resets_power.md)
  | bootSequence
  | por
  | pin (cause : PinCause)
  | wdg (m2 : Bool)
  | chip (m : Master) (key : BitVec 16)
  | masterReset (m : Master) (target : BitVec 4)
  | srst (m : Master) (page : Fin 60)
  | pwrReq (m : Master) (v : Word)
  | powerStateChange
  | wake (src : Fin 3)
  | supplyWarning (rail : Fin 8) (below : Bool) (mv : Nat)
  | dipRecovery (minMv : Nat) (durUs : Nat)
  | dipShutdownTimer
  -- maintenance (16_faults.md)
  | mntActivityStart
  | mntActivityDone (act : BitVec 4) (unit : BitVec 16) (pass : Bool)
  | mntRequestAged (entry : Fin 16)
  | dcxEngineFault (e : Fin 17)
  | mntDecmdVerify (m : Master) (e : BitVec 5)
  | mntDecmdAdmit (m : Master) (e : BitVec 5)
  | mntDecmdRetire (m : Master) (e : BitVec 5)
  -- ports (17_pins_electrical.md)
  | smbusWrite (cmd : Byte) (a : BitVec 24) (v : Word) (pec : Option Bool)
  | smbusRead (cmd : Byte) (a : BitVec 24) (pec : Option Bool)
  | extest
  | idcode
  | samplePreload (chain : List Bool)
  | highz
  | clamp
  | extestPulse
  | extestTrain
  | bypass
  -- later rows of the table
  | slewEnd
  | dcxVerifyTimer (e : Fin 17)
  | secondsOutsideMidnight
  | mntRequeueRetry
  | prbsCheckerReseed (rx : CheckerBits)
deriving DecidableEq, Repr

end Sys2Proof
end

