-- ==== Sys2Proof/Decode.lean ====
section
/-!
DEFINITION. The decoder over the rows of spec/opcode_table.json that give bits. No row gives any (every row's list of
fields is empty), so no word spells a command.
-/
namespace Sys2Proof

/-- The command that the word of `_w` bits spells by the table: none does. -/
def decodeTableWord (_nbits _w : Nat) : Option Instr := none

end Sys2Proof
end

