-- ==== Sys2Proof/Config.lean ====
section
/-!
DEFINITION. What an implementation fixes and the manual does not state. Every constant here is opaque: nothing
can be proved of its value, so a claim about it holds for every value. Log entry 4 names each use.
-/
namespace Sys2Proof.Config

/-- A value the manual leaves unspecified, the `n`-th of a run (State.freeCtr counts them). -/
opaque freeNat : Nat → Nat

/-- Which event numbers are fault events in the sense of R43 (PAGE_CTL.FRZ_ON_FAULT, PAGE_STAT.FAULT): no chapter lists them. -/
opaque faultEvent : Nat → Bool

/-- MSC_POP: the population of the scene-memory channels found on the board (R310). -/
opaque memoryPopulation : Word

/-- The row of a scene-memory or frame-store codeword (R311, R313: fixed by the 7216, not stated). The first
argument is 0 for the frame store and 1 for scene memory, the second the offset of the codeword. -/
opaque codewordRow : Nat → Nat → BitVec 17

/-- The bank of a codeword, arguments as in `codewordRow`. -/
opaque codewordBank : Nat → Nat → BitVec 5

/-- The rank of a scene-memory codeword (R311), of a channel with two ranks. -/
opaque codewordRank : Nat → Bool

/-- Whether the Galois register of R226 and R324 shifts toward its most significant end; the manual gives its polynomial only. -/
opaque lfsrUp : Bool

/-- Whether memory that was in self-refresh across a warm reset would be found complete (R410: the SR bits). -/
opaque selfRefreshReached : Nat → Bool

/-- The trim codes that a word of a domain's calibration set holds (R401: interpreted only by the 7216's circuits): the
lowest bit, the width and whether it is signed. -/
opaque calFields : Nat → List (Nat × Nat × Bool)

/-- What the calibration circuits read from the bytes of the image's CALFB section for a domain and unit (R374). -/
opaque calFallback : List (BitVec 8) → Nat → BitVec 64

/-- The settings that a calibration run, begun from a word of settings, adapts to (R376), the `n`-th open value of a run. -/
opaque calResult : Nat → BitVec 64 → BitVec 64

/-- The code that a hard or soft post-package repair finds for a row: 0 done, 1 failed, 2 no further resource (R331). -/
opaque repairOutcome : Nat → Nat

end Sys2Proof.Config
end

