-- ==== Sys2Proof/Machine/Bits.lean ====
section
/-!
DEFINITION. Bit fields, sign extension, byte order, rounding and cyclic redundancy checks.
-/
namespace Sys2Proof.Machine

abbrev w32 (n : Nat) : Word := BitVec.ofNat 32 n

abbrev w64 (n : Nat) : DWord := BitVec.ofNat 64 n

def bit (v : Word) (n : Nat) : Bool := v.getLsbD n

/-- Bits [lsb + w − 1 : lsb] of a number. -/
def nfld (v lsb w : Nat) : Nat := (v >>> lsb) % 2 ^ w

/-- Bits [lsb + w − 1 : lsb] of a word. -/
def fld (v : Word) (lsb w : Nat) : Nat := nfld v.toNat lsb w

/-- The word with ones in [lsb + w − 1 : lsb]. -/
def fmask (lsb w : Nat) : Word := BitVec.ofNat 32 ((2 ^ w - 1) <<< lsb)

/-- `v` with `x` in its field [lsb + w − 1 : lsb]. -/
def setFld (v : Word) (lsb w x : Nat) : Word :=
  (v &&& ~~~ fmask lsb w) ||| (BitVec.ofNat 32 (x <<< lsb) &&& fmask lsb w)

def setBit (v : Word) (n : Nat) (b : Bool) : Word := setFld v n 1 b.toNat

/-- The low half of a 64-bit word. -/
def lo32 (d : DWord) : Word := d.setWidth 32

/-- The high half of a 64-bit word. -/
def hi32 (d : DWord) : Word := (d >>> 32).setWidth 32

def mk64 (hi lo : Word) : DWord := hi ++ lo

/-- The low `w` bits of `n` as a two's complement number. -/
def sx (w n : Nat) : Int :=
  let m := n % 2 ^ w
  if m < 2 ^ (w - 1) then (m : Int) else (m : Int) - (2 ^ w : Nat)

/-- `x` in two's complement of `w` bits. -/
def tc (w : Nat) (x : Int) : Nat := (x % (2 ^ w : Nat)).toNat

/-- `x` held within lo and hi. -/
def clampI (lo hi x : Int) : Int := if x < lo then lo else if hi < x then hi else x

def clampN (lo hi x : Nat) : Nat := if x < lo then lo else if hi < x then hi else x

/-- `n / d` rounded to nearest, halves up. -/
def divRound (n d : Nat) : Nat := (2 * n + d) / (2 * d)

/-- `n / d` rounded down, of an integer. -/
def divFloor (n : Int) (d : Nat) : Int := Int.fdiv n d

/-- ⌈n / d⌉. -/
def divCeil (n d : Nat) : Nat := (n + d - 1) / d

/-- `n / d` rounded to nearest, halves away from zero. -/
def divRoundI (n : Int) (d : Nat) : Int :=
  if n < 0 then -(divRound n.natAbs d : Int) else divRound n.natAbs d

/-- Bytes of `n`, least significant first. -/
def leBytes : Nat → Nat → List Byte
  | 0, _ => []
  | k + 1, n => BitVec.ofNat 8 n :: leBytes k (n / 256)

/-- The number whose bytes, least significant first, are given. -/
def ofLe : List Byte → Nat
  | [] => 0
  | b :: t => b.toNat + 256 * ofLe t

/-- Bits of `n`, most significant first. -/
def msbBits : Nat → Nat → List Bool
  | 0, _ => []
  | k + 1, n => n.testBit k :: msbBits k n

/-- Bits of `n`, least significant first. -/
def lsbBits : Nat → Nat → List Bool
  | 0, _ => []
  | k + 1, n => n.testBit 0 :: lsbBits k (n / 2)

/-- One shift of a register of `w` bits that takes its input at the most significant end. -/
def crcBit (w poly c : Nat) (b : Bool) : Nat :=
  let top := c.testBit (w - 1)
  let s := (2 * c) % 2 ^ w
  if Bool.xor top b then s ^^^ poly else s

def crcBits (w poly init : Nat) (bs : List Bool) : Nat := bs.foldl (crcBit w poly) init

/-- A check register that takes bits most significant first, over bytes. -/
def crcMsb (w poly init : Nat) (bytes : List Byte) : Nat :=
  bytes.foldl (fun c b => crcBits w poly c (msbBits 8 b.toNat)) init

/-- One shift of a reflected register. -/
def crcBitR (poly c : Nat) (b : Bool) : Nat :=
  if Bool.xor (c.testBit 0) b then (c / 2) ^^^ poly else c / 2

/-- A reflected check register over bytes, each byte least significant bit first. -/
def crcLsb (poly init : Nat) (bytes : List Byte) : Nat :=
  bytes.foldl (fun c b => (lsbBits 8 b.toNat).foldl (crcBitR poly) c) init

/-- A Galois or Fibonacci step is given by its own chapter; this is how often to repeat one. -/
def iter {α : Type} (f : α → α) : Nat → α → α
  | 0, x => x
  | n + 1, x => iter f n (f x)

end Sys2Proof.Machine
end

