-- ==== Sys2Proof/Machine/State.lean ====
section
/-!
DEFINITION. The state of the Floxel 7216 as plain data, and State.reset: the machine right after a power-on reset,
before the boot sequencer has run (log entry 10, DESIGN CHOICE). INVENTORY.md '## State' names the rule for each field.
-/
namespace Sys2Proof.Machine

/-- A sparse store: (key, value) pairs with keys rising strictly and no value equal to what an unlisted key reads
as. Register file, tables, memories and arrays of like units are held so. -/
abbrev Sparse (α : Type) := List (Nat × α)

/-- No command raises a fault: the block has no stop of its own (log entry 11, DEDUCED). -/
inductive Fault where
  /-- Raised by no command. Safe: it can never be observed. -/
  | never
deriving DecidableEq, Repr

/-- Why a command has no meaning. -/
inductive Refusal where
  /-- Raised by Dispatch for a command without a meaning yet. Safe: nothing can be proved of it. -/
  | notModelled (mnemonic : String)
deriving DecidableEq, Repr

/-- How the last register access was answered. `pecFailed` and `nacked` are of the management port: a PEC that did not
check, a command that it does not know (R448). -/
inductive AccessResult where
  | done
  | violation (reason : Nat)
  | frozen
  | held
  | busy
  | refused
  | closed
  | pecFailed
  | nacked
deriving DecidableEq, Repr

/-- Why an access is held: the commit decision (R60), a full LCT queue (R85), a full DRVREG queue (06, LNP_DRVREG), a dip (R405). -/
inductive HoldWhy where
  | commit
  | lctQueue
  | drvQueue
  | dip
deriving DecidableEq, Repr

/-- A held access, or what is left of the transaction that contains it. -/
inductive HeldOp where
  | write (m : Master) (a : Nat) (v : Word)
  | read (m : Master) (a : Nat)
  | txn (r : Req) (isWrite : Bool) (done : Nat) (got : List Byte)
deriving DecidableEq, Repr

structure Held where
  why : HoldWhy
  op  : HeldOp
deriving DecidableEq, Repr

/-- The holding register of a master for one high word (R16, R337, R349). -/
structure Hold where
  m : Nat
  a : Nat
  v : Word
deriving DecidableEq, Repr

/-- An event record (R64): waiting for its EVT transaction, or, in State.evRecs, what an event carried when its
EVT_RAW bit last turned to 1. -/
structure EvtRec where
  lost   : Bool := false
  tb     : BitVec 2 := 0
  num    : BitVec 9 := 0
  mseq   : BitVec 16 := 0
  ns     : BitVec 30 := 0
  sec    : BitVec 48 := 0
  frac   : BitVec 16 := 0
  detail : DWord := 0
deriving DecidableEq, Repr

/-- The event queue of one host master (R63). `formed` counts, oldest first, the records of each EVT transaction formed and not yet sent. -/
structure MsgQ where
  recs    : List EvtRec := []
  formed  : List Nat := []
  mseq    : BitVec 16 := 0
  lost    : Bool := false
  evtRseq : BitVec 16 := 0
  mirRseq : BitVec 16 := 0
deriving DecidableEq, Repr

/-- States of a buffer (R115). -/
inductive BufState where
  | free
  | filling
  | ready
  | bound
  | inUse
  | releasePending
deriving DecidableEq, Repr

/-- A reduction description (R103). -/
structure RedDesc where
  family : BitVec 2
  depth  : BitVec 2
  abits  : BitVec 2
  w      : Nat
  h      : Nat
  stripe : Bool
deriving DecidableEq, Repr

/-- The record of a buffer handle (R113); `base`, `size` in 256 bytes, `pitch` in 128 bytes. -/
structure Handle where
  st      : BufState := .free
  base    : BitVec 28 := 0
  size    : BitVec 28 := 0
  pitch   : BitVec 10 := 0
  bad     : Bool := false
  redDone : Bool := false
  rdesc   : Option RedDesc := none
deriving DecidableEq, Repr

/-- An item of the indirect LCT write queue (R85). -/
inductive LctItem where
  | entry (idx : Nat) (v : DWord)
  | crc (v : Word)
deriving DecidableEq, Repr

/-- Control state of the lenslet calibration table (R79–R90, R204). `src` is LOAD_SRC of the load armed, `loadH` the
buffer of the load begun, `put` the entries it has written, `pass` the next index of the audit pass with its running CRC, DEAD count and extremes, `told`
the indexes that raised LCT_EV_UNCORR in this period (R84). -/
structure LctCtl where
  loaded   : Bool := false
  auditOk  : Bool := false
  loading  : Bool := false
  src      : Bool := false
  loadH    : Option Nat := none
  begun    : Bool := false
  put      : Nat := 0
  qdiscard : Bool := false
  loadErr  : BitVec 4 := 0
  queue    : List LctItem := []
  pass     : Option Nat := none
  crc      : Word := 0
  dead     : Nat := 0
  passD    : Nat := 0
  passG    : Nat := 0
  dmax     : Nat := 0
  gmax     : Nat := 0
  told     : List Nat := []
deriving DecidableEq, Repr

/-- A numbered flit in the replay buffer (R133, R140); NULL and RETRY flits use KIND 0 and 3. -/
structure Flit where
  seq     : Byte
  vc      : BitVec 2
  mst     : BitVec 3
  kind    : BitVec 2
  last    : Bool
  payload : List Byte
deriving DecidableEq, Repr

/-- A host transaction received but not executed, with the flits it holds in the receive pool (R136). `dup`: its read
tag was outstanding when it arrived (R145). -/
structure RxTxn where
  typ   : BitVec 3
  req   : Req
  flits : Nat
  dup   : Bool
deriving DecidableEq, Repr

/-- A transaction being assembled from flits (R134). -/
structure Asm where
  m     : HostMaster
  vc    : Fin 4
  bytes : List Byte
  flits : Nat
deriving DecidableEq, Repr

/-- A transaction of the device waiting to be sent (R137): a completion, NAK, CRD or MIR. `len` and `addr` are what bytes
4–7 and 8–13 of its header hold (in a CRD, the credit counts and INIT); `gone` counts its flits already sent. -/
structure OutTxn where
  m    : Nat
  vc   : BitVec 2
  typ  : BitVec 3
  rsp  : Bool
  tag  : Byte
  rseq : BitVec 16
  len  : Nat
  addr : BitVec 48
  arg  : BitVec 16
  data : List Byte
  gone : Nat := 0
deriving DecidableEq, Repr

/-- The host link layer (R131–R149). Keys of the sparse maps: 4·m + vc (rseq,
credit), 2·m + vc (used, freed), m (init). `rseq` is the RSEQ expected next, `none` where the next is taken as given;
`used` counts the credits of a receive pool that the host has used and not got back, `freed` those of them that are
free again; `tags` are the read tags held, (m, tag); `sent` records the flits sent, newest first, RETRY flits with
their ACK; `wire` what the logical lanes carried of the last of them, lane 0 first (R132); `last2` says that VC2 sent after
VC1 last did (R138); `check`, that a lane check is under way (R141). -/
structure Link where
  rxSeq   : Byte := 0xFF
  retried : Bool := false
  txSeq   : Byte := 0
  replay  : List Flit := []
  replays : Nat := 0
  check   : Bool := false
  asm     : List Asm := []
  rseq    : Sparse (Option (BitVec 16)) := []
  used    : Sparse Nat := []
  freed   : Sparse Nat := []
  init    : Sparse Bool := []
  credit  : Sparse Nat := []
  tags    : List (Nat × Nat) := []
  reqs    : List RxTxn := []
  out     : List OutTxn := []
  sent    : List (Byte × Flit) := []
  wire    : List (List Byte) := []
  last2   : Bool := false
deriving DecidableEq, Repr

inductive CtxState where
  | closed
  | opened
  | done
  | error
deriving DecidableEq, Repr

/-- The block being decoded (R161, R169). -/
structure FdcBlock where
  last   : Bool
  table  : Option (List Nat)
  outlen : Nat
  made   : Nat
deriving DecidableEq, Repr

/-- A decompression context (R152–R170). `input` holds the unread bytes, `bit` the bits of its first byte already
read, `pos` the stream bit offset of the next bit; `dict` the entries from 259 up; `hist` the output, newest byte first;
`ended` after the last END_BLOCK, `ending` an error whose earlier output is not yet written, `ran` the engine that last
held the context, `acks` the BPUTs with ACKREQ not yet completed and the stream bits that their data ends at; `waitAt` is
the time since when its input has waited while it was not resident, `idleAt` since when it has had none, `loadAt` when it
was loaded last (R157). -/
structure Dcx where
  st       : CtxState := .closed
  owner    : BitVec 4 := 0
  handle   : BitVec 13 := 0
  offset   : Nat := 0
  err      : BitVec 3 := 0
  ebit     : Nat := 0
  inCnt    : Nat := 0
  outCnt   : Nat := 0
  decoded  : Nat := 0
  input    : List Byte := []
  bit      : Nat := 0
  pos      : Nat := 0
  dict     : List (List Byte) := []
  prev     : Option (List Byte) := none
  hist     : List Byte := []
  blk      : Option FdcBlock := none
  ended    : Bool := false
  ending   : Option (BitVec 3) := none
  aborting : Bool := false
  resident : Option Nat := none
  ran      : Option Nat := none
  acks     : List (Nat × Req) := []
  waitAt   : Nat := 0
  idleAt   : Nat := 0
  loadAt   : Nat := 0
deriving DecidableEq, Repr

/-- Who waits at the ingest write cap (R171). -/
inductive CapSrc where
  | ctx (n : Nat)
  | wr (r : Req)
deriving DecidableEq, Repr

structure CapWrite where
  src    : CapSrc
  offset : Nat
  data   : List Byte
deriving DecidableEq, Repr

/-- A lane's transmitter (R172–R175): the payload line bits sent, newest first, as far as the scrambler looks back; the
payload bits to go before the next marker; the last line bit and how many stand alike; the markers sent and the last of
them; the line bits of what it sent last, newest first. -/
structure LaneTx where
  hist  : List Bool := []
  left  : Nat := 16384
  prev  : Bool := false
  run   : Nat := 0
  marks : Nat := 0
  mark  : DWord := 0
  line  : List Bool := []
deriving DecidableEq, Repr

/-- A lane's receiver (R173, R174): the payload line bits received, newest first; the last line bit, how many stand alike,
and whether the next is to be removed; a stuffing violation in this marker period; the payload of the last period. -/
structure LaneRx where
  hist : List Bool := []
  prev : Bool := false
  run  : Nat := 0
  drop : Bool := false
  viol : Bool := false
  data : List Bool := []
deriving DecidableEq, Repr

/-- A PRBS checker (R177): the pattern's last bits as it predicts them, newest first, and which of the last 64 bits were in
error, newest first. -/
structure Checker where
  pat  : List Bool := []
  errs : List Bool := []
deriving DecidableEq, Repr

/-- Where a lane stands in a planned change to a copy and back (R185, R187, R190); `n` counts marker periods. -/
inductive CopyPhase where
  | none
  | asked
  | copying (n : Nat)
  | away
  | returning (n : Nat)
  | restoring (n : Nat)
deriving DecidableEq, Repr

/-- What the lane registers do not show of a lane (R175–R190): TRAIN timeouts in a row, invalid and valid markers in a
row, markers in a row with RQ = 1 and with RQ = 0, RQ as sent, the number it receives (host: the logical lane), the number
its transmitter copies, a calibration on it, and a verification due at the next retrain. Further: marker periods in a row
with a stuffing violation, the rate in force, where its last marker ended, the number that a host transmitter was given,
the number whose copy begins at that lane's next marker position, a planned change under way, command words to be sent in
its stream, a verification passed and not followed by RESTORE. -/
structure LaneAux where
  timeouts : Nat := 0
  misses   : Nat := 0
  goods    : Nat := 0
  rqIn     : Nat := 0
  rqGone   : Nat := 0
  rqOut    : Bool := false
  logical  : Option Nat := none
  txCopy   : Option Nat := none
  calib    : Bool := false
  verifyAt : Bool := false
  stuffs   : Nat := 0
  rate     : Nat := 0
  pos      : Nat := 0
  txNum    : Option Nat := none
  copyNext : Option Nat := none
  phase    : CopyPhase := .none
  cmds     : List Word := []
  verified : Bool := false
  tx       : LaneTx := {}
  rx       : LaneRx := {}
  ck       : Checker := {}
deriving DecidableEq, Repr

/-- The panel status bus and the DRVREG queue (R193, R199); the drivers that stay dark (R180). -/
structure Psb where
  dark  : List Nat := []
  frame : Nat := 0
  sel   : Option (Nat × Nat) := none
  bad   : Sparse Nat := []
  drvq  : List Word := []
deriving DecidableEq, Repr

/-- A packet sent to a panel lane in the current line (R192–R195). -/
structure LanePkt where
  lane  : Nat
  words : List Word
deriving DecidableEq, Repr

inductive FrameState where
  | none
  | composing
  | complete
deriving DecidableEq, Repr

/-- What an engine works on (R201, R219, R226–R228). -/
inductive Work where
  | coarse (t : Nat)
  | full (i : Nat)
  | audit (i : Nat)
  | third (i : Nat)
  | redo (i : Nat)
  | verify (i : Nat)
deriving DecidableEq, Repr

structure Running where
  e : Nat
  w : Work
deriving DecidableEq, Repr

/-- A full-pass item as computed: the engine, its ray values in the order of R221, its item signature, and the mark of
R215. -/
structure ItemSig where
  item   : Nat
  e      : Nat
  vals   : List Nat
  sig    : Word
  marked : Bool
deriving DecidableEq, Repr

/-- An audit selection (R226, R227). -/
structure Audit where
  item    : Nat
  auditor : Option Nat := none
  sig     : Option ItemSig := none
  third   : Bool := false
  decided : Option Word := none
  settled : Bool := false
deriving DecidableEq, Repr

/-- The composition of the frame in the composing region (R200–R230). `coarse` counts the coarse items complete, `finQ` holds
the items that wait for zone analysis, `replaced` the items replaced with the bytes copied in, `left` the items not written
at the last Sunset, `vacant` the places of retired ACTIVE engines not yet taken. -/
structure Comp where
  st       : FrameState := .none
  day      : Bool := false
  coarseQ  : List Nat := []
  fullQ    : List Nat := []
  running  : List Running := []
  coarse   : Nat := 0
  zoned    : Bool := false
  finQ     : List Nat := []
  done     : List ItemSig := []
  lists    : Sparse (List Nat) := []
  trunc    : Bool := false
  stale    : Bool := false
  audits   : List Audit := []
  redo     : List Nat := []
  replaced : List (Nat × List Byte) := []
  left     : Nat := 0
  verItems : List (Nat × Nat) := []
  verSigs  : List ItemSig := []
  lfsr     : Word := 1
  reseed   : Bool := false
  vacant   : Nat := 0
  roleReq  : List (Nat × BitVec 3) := []
  texerr   : Bool := false
  seqAt    : Word := 0
  startAt  : Nat := 0
deriving DecidableEq, Repr

/-- A mirror frame staged or being sent (R247–R250). `out`: its transaction is among those waiting to be sent; `lost`: the
frame will never be shown. -/
structure MirFrame where
  frame  : Word
  buf    : Nat
  m      : Nat
  vx     : Nat
  vy     : Nat
  seqAt  : Word
  ready  : Bool := false
  next   : Nat := 0
  shown  : Option (List Byte) := none
  out    : Bool := false
  lost   : Bool := false
deriving DecidableEq, Repr

inductive Phase where
  | off
  | sunrise
  | day
  | sunset
deriving DecidableEq, Repr

/-- The light-field period (R25, R264). `resetDue`: a boundary has passed that carries out BLOCK resets (R412);
`loadDue`, one at which an armed load begins, or ends with the code it holds (R80, R81); `toShow`, the FRAME that the
showing region has taken and no panel frame has shown yet (R248); `twilight` and `opening`, that a twilight window is open
and has just opened (R27). -/
structure Period where
  phase    : Phase := .off
  seen     : Bool := false
  twilight : Bool := false
  opening  : Bool := false
  resetDue : Bool := false
  loadDue  : Option Nat := none
  toShow   : Option Word := none
deriving DecidableEq, Repr

/-- The reference of a panel frame (R259). -/
inductive RefSrc where
  | zero
  | slot (region s : Nat)
deriving DecidableEq, Repr

/-- A timing-mode change in progress (R272). -/
structure ModeChange where
  old  : Nat
  new  : Nat
  rate : Bool
  idle : Bool
  since : Nat
deriving DecidableEq, Repr

/-- A pulse of a gate signal (R266): `sig` 0–7 GCK0–GCK7, 8 STV, 9 GOE; high from `rise` to `fall`, in CLK_SCN cycles of
the machine's time. -/
structure GatePulse where
  sig  : Fin 10
  rise : Nat
  fall : Nat
deriving DecidableEq, Repr

/-- The gate signals: the pulses issued that are not over, and the two levels that hold (R266, R267). -/
structure Gate where
  pulses : List GatePulse := []
  gpol  : Bool := false
  glpol : Bool := false
deriving DecidableEq, Repr

/-- The gate settings in force: PNL_STV, PNL_GCK and PNL_OE of the panel frame in progress (R254, R272). -/
structure GateSet where
  stv : Word := 0#32
  gck : Word := 0#32
  oe  : Word := 0#32
deriving DecidableEq, Repr

/-- A line in a line FIFO of scan-out (R256): the region and slot it was read from, its row, its bytes as delivered and the
granules that read as uncorrectable. -/
structure FifoRow where
  src   : Nat × Nat
  line  : Nat
  bytes : List Byte
  bad   : List Nat
deriving DecidableEq, Repr

/-- Scan-out (R251–R275). `active`: a panel frame is in progress; `line` counts its lines started; `p` is its P and `tick`
the time of its slot tick; `nextSlot` is the slot of the next slot tick of the period, 4 after the last; `shownAt` and
`shownWas` are the region and slot of this and of the last panel frame, none where it lights nothing; `sent` holds the
targets of the last row sent; `crc` and `rcrc` the running CRCs; `dark` the cause of a dark panel frame that is due;
`wait` the gate idle of R414, `blocked` the gate idle for want of a panel lane that is UP or of a unit that is enabled (R23,
R43). `fifo` and `rfifo` are the line FIFOs of the slot frame shown and of the reference, oldest read first (R256). -/
structure Scan where
  active   : Bool := false
  line     : Nat := 0
  p        : Nat := 0
  tick     : Nat := 0
  nextSlot : Nat := 4
  nominal  : Bool := true
  blocked  : Bool := false
  shownAt  : Option (Nat × Nat) := none
  shownWas : Option (Nat × Nat) := none
  ref      : RefSrc := .zero
  last     : RefSrc := .zero
  sent     : List Nat := []
  lostRows : List Nat := []
  memTold  : Bool := false
  granules : Bool := false
  crc      : Nat := 0
  rcrc     : List (Nat × Nat) := []
  tfAcc    : Int := 0
  tfSeen   : Bool := false
  dark     : Option (BitVec 2) := none
  wait     : Bool := true
  mode     : Option ModeChange := none
  gate     : Gate := {}
  gset     : GateSet := {}
  fifo     : List FifoRow := []
  rfifo    : List FifoRow := []
  out      : List LanePkt := []
deriving DecidableEq, Repr

inductive TileState where
  | absent
  | init
  | on
deriving DecidableEq, Repr

inductive PathRole where
  | selected
  | standby
  | failed
  | quarantined
  | verify
deriving DecidableEq, Repr

/-- What a STATUS page 0 reports on (R286): the window completed last before it, by number, its scan line (none where the
tile lit none since its last report) and the boost in force, and the pulse list of the last APPLY with its scan line. -/
structure StatusOf where
  win   : Nat
  line  : Option Nat
  force : Nat
  pulse : List Nat
  dline : Nat
deriving DecidableEq, Repr

/-- A chain frame sent and waiting for its responses (R288, R289). `kind`: 1 F1 CODES, 2 F2 SETUP, 3 F3 STATUS, 4 a trim
WRREG in place of F3, 5 SELECT, 6 NOP, 7 identity, 8 another WRREG. -/
structure SentFrame where
  kind  : Nat
  words : List ChainWord
  rep   : Option StatusOf := none
deriving DecidableEq, Repr

/-- A path: its role, consecutive good and bad frames, the frames whose responses are awaited, oldest first, the bits last
sent on its DAT, and `barred`: a verification has failed, so the next waits for a VERIFY command (R297). -/
structure PathAux where
  role : PathRole := .failed
  good : Nat := 0
  bad  : Nat := 0
  pend : List SentFrame := []
  dat  : List Bool := []
  barred : Bool := false
deriving DecidableEq, Repr

/-- A backlight tile (R276–R308). `block` is the block in progress, 16 before a tile's first block; `src` is the region and
slot of the next block, `frames` its frames, `codes` its codes, `refs` its references by colour; `boost`, `pulse`, `dline` are staged, `inForce`, `pulseNow`, `dlineNow` in effect, `wasForce` the
boost of the last completed window, number `win`, on scan line `curLine`; `vf` holds the largest Vf of a window, by its number; `f1` and `f2` say that the block's F1 and F2 were good, `lost`
counts blocks without both; `opens` and `shorts` count results in a row, by 16·channel + scan line; `hw` is in units of
1/(12·1023·8160) ns, by colour; `lifeBlk` its life block; `restoreTo` a path to select at the next block. -/
structure Tile where
  st       : TileState := .absent
  sel      : Path := .a
  pa       : PathAux := {}
  pb       : PathAux := {}
  seq      : Byte := 0
  block    : Nat := 0
  src      : Option (Nat × Nat) := none
  frames   : List SentFrame := []
  codes    : List Byte := []
  refs     : List Nat := []
  f1       : Bool := false
  f2       : Bool := false
  lost     : Nat := 0
  boost    : Nat := 0
  inForce  : Nat := 0
  wasForce : Nat := 0
  pulse    : List Nat := []
  dline    : Nat := 0
  pulseNow : List Nat := []
  dlineNow : Nat := 0
  curLine  : Option Nat := none
  win      : Nat := 0
  vf       : List (Nat × Nat) := []
  opens    : Sparse Nat := []
  shorts   : Sparse Nat := []
  openSet  : List Nat := []
  shortSet : List Nat := []
  serial   : DWord := 0
  lastOn   : Option DWord := none
  idTries  : Nat := 0
  idGood   : Bool := false
  temps    : List Int := []
  hw       : Sparse Nat := []
  lifeTold : List Nat := []
  lifeBlk  : Option Nat := none
  trims    : List (Nat × Nat) := []
  trimTemp : Int := 0
  tref     : Option Int := none
  restoreTo : Option Path := none
deriving DecidableEq, Repr

/-- A request that has an entry in a controller, or waits for one (R319), and since when, in nanoseconds. -/
structure Waiting where
  req : MemReq
  at_ : Int
deriving DecidableEq, Repr

/-- A pseudo-channel or a rank (R317–R326). The debt is 4·now − paid nanoseconds. `q` holds the requests that have an entry,
oldest first, `hold` those of ports with no entry available, `rot` the port last served at urgency 3 and `refresh` the queued
neighbour refreshes: of a channel, under its rank 0. `rows` are the open rows, row + 1 by bank; `busyAt` is the time of the
last request and `refAt` of the last due or pulled-in refresh, in nanoseconds. -/
structure DramAux where
  paid    : Int := 0
  pd      : Bool := false
  sr      : Bool := false
  urgent  : Nat := 0
  repair  : Bool := false
  q       : List Waiting := []
  hold    : List Waiting := []
  rows    : Sparse Nat := []
  busyAt  : Int := 0
  refAt   : Option Int := none
  rot     : Nat := 6
  refresh : List (Nat × Nat) := []
  hot     : Bool := false
  cool    : Nat := 0
  code    : Byte := 0
  srDebt  : Int := 0
deriving DecidableEq, Repr

/-- Rows with corrected errors in the current scrub pass (R330). -/
structure RowErr where
  unit : Nat
  bank : Nat
  row  : Nat
  n    : Nat
deriving DecidableEq, Repr

/-- Scrub, repair and error state of one memory system (R326–R331). -/
structure MemAux where
  scrub   : Nat := 0
  corr    : Nat := 0
  rows    : List RowErr := []
  rpl     : Sparse Word := []
  unver   : Bool := false
  rewrite : List Nat := []
  told    : Option Nat := none
deriving DecidableEq, Repr

/-- States of a time base (R343). -/
inductive TbState where
  | unset
  | acquire
  | locked
  | holdover
  | free
deriving DecidableEq, Repr

/-- A time base (R334–R348). `value` in 2^-48 ns; `inLock` and `outLock` count updates in a row, `shdTrk` is the second
tracker assigned, `shdCnt` counts updates of the shadow in a row below the threshold and `lastShd` is its last offset;
`swapped` says that the shadow source has the primary role. -/
structure Tb where
  value    : Nat := 0
  f        : Int := 0
  i        : Int := 0
  st       : TbState := .unset
  bigofs   : Bool := false
  inLock   : Nat := 0
  outLock  : Nat := 0
  shdTrk   : Option Nat := none
  shdCnt   : Nat := 0
  swapped  : Bool := false
  lastShd  : Int := 0
deriving DecidableEq, Repr

/-- A two-step Sync that waits for its Follow_Up: its sequenceId, receive time and correction. -/
structure SyncWait where
  seq  : BitVec 16
  rx   : Int
  corr : Int
deriving DecidableEq, Repr

/-- A tracker (R340, R346), times in 2^-16 ns: the path-delay filter, t1 and t2 of the last Sync, a Sync without its
Follow_Up, the send time of the Delay_Req that awaits its answer, its sequenceId, and the master chosen automatically. -/
structure Tracker where
  df     : Option Int := none
  sync   : Option (Int × Int) := none
  wait   : Option SyncWait := none
  t3     : Option Int := none
  dseq   : BitVec 16 := 0
  chosen : Option (DWord × BitVec 16) := none
deriving DecidableEq, Repr

/-- An entry of the foreign master table (R341). -/
structure FmEntry where
  msg   : AnnounceMsg
  heard : Nat
deriving DecidableEq, Repr

/-- An entry of the transmit timestamp queue (R349). -/
structure TxTs where
  w0 : Word
  w1 : Word
  w2 : Word
  w3 : Word
deriving DecidableEq, Repr

/-- The UDP checksum of a frame (R339): none on layer 2, 0 over IPv4, computed over the frame as sent over IPv6. -/
inductive UdpSum where
  | none
  | zero
  | computed
deriving DecidableEq, Repr

/-- What carries a PTP message (R338, R339): layer 2, UDP/IPv4 or UDP/IPv6, the 802.1Q tag's word, the MAC source, the IP
source words and the UDP checksum. -/
structure PtpVia where
  via : Fin 3
  tag : Option Word
  mac : BitVec 48
  ip  : List Word
  sum : UdpSum
deriving DecidableEq, Repr

/-- A PTP message that a port has sent: messageType, domainNumber, sequenceId, correctionField and its timestamp in 2^-16 ns,
and what carries it. -/
structure PtpSent where
  typ    : Nat
  domain : BitVec 8
  seq    : BitVec 16
  corr   : Int
  stamp  : Int
  by_    : PtpVia
deriving DecidableEq, Repr

/-- An Ethernet port (R338–R341, R349): the link-delay filter, the send time of the Pdelay_Req that awaits its answer and
its sequenceId, the foreign master table, the transmit timestamps, oldest first, and the messages sent, newest first. -/
structure Eth where
  up    : Bool := false
  speed : Bool := false
  dlf   : Option Int := none
  t1    : Option Int := none
  pseq  : BitVec 16 := 0
  fm    : Sparse (Option FmEntry) := []
  txq   : List TxTs := []
  ovf   : Bool := false
  sent  : List PtpSent := []
deriving DecidableEq, Repr

/-- The tick generator (R350–R353), its outputs (R354) and the PPS inputs (R345). ψ in 2^-48 ns relative to the epoch; the
next boundary is grid boundary `k`; `base` is the ψ that the slot ticks of a re-seeded period count from. A pin is high
until the time held for it; `ppsIn0` and `ppsIn1` say that an input is present. -/
structure Genlock where
  seeded  : Bool := false
  psi     : Int := 0
  k       : Int := 0
  base    : Option Int := none
  slewing : Bool := false
  reseed  : Bool := false
  lfTick  : Nat := 0
  slotTick : Nat := 0
  pps0    : Nat := 0
  pps1    : Nat := 0
  ppsIn0  : Bool := false
  ppsIn1  : Bool := false
deriving DecidableEq, Repr

/-- A camera trigger (R355): the next instance, once its instances are numbered (`run`), a one-shot not yet fired, and the
time until which its pin is high. -/
structure Trig where
  next  : Int := 0
  run   : Bool := false
  armed : Bool := false
  high  : Nat := 0
deriving DecidableEq, Repr

/-- Temperature and calibration (R356–R380), by zone unless stated: the last four samples, newest first, `n` samples since
reset, checks in a row above 8 °C, whether each of the last three checks was within 8 °C, and the trims of P1 in use; by
threshold, samples in a row above and below; `cold` of R364, `thr` T_thr as the last sample took it, the accumulator of R366,
the counts of R373; by domain and unit, T_ref, and of the run under way the temperature at its start and the settings begun
from; `runs` the domains queued or running, `units` what is left of them, `retry` the domains to ask for again (R377);
`sets` the sets loaded, by domain, unit and temperature point, `use` the setting in use of each unit, `txUse` the setting whose
transmit part a host lane uses (R374, R376, R378). -/
structure Thermal where
  samples : Sparse (List Int) := []
  n       : Nat := 0
  dev     : Sparse Nat := []
  checks  : Sparse (List Bool) := []
  up      : Sparse Nat := []
  down    : Sparse Nat := []
  cold    : Nat := 0
  thr     : Int := 0
  acc     : Nat := 0
  refOut  : Nat := 0
  refIn   : Nat := 0
  refBad  : Bool := false
  setBad  : Bool := false
  tref    : Sparse Int := []
  runs    : List Nat := []
  units   : List (Nat × Nat) := []
  started : Sparse (Option (Int × DWord)) := []
  sets    : Sparse (Option DWord) := []
  use     : Sparse (Option DWord) := []
  txUse   : Sparse (Option DWord) := []
  retry   : List Nat := []
  trims   : Sparse (Nat × Int) := []
deriving DecidableEq, Repr

inductive PState where
  | noon
  | evening
  | night
  | midnight
deriving DecidableEq, Repr

/-- A dip episode (R422): the supply that began it. -/
structure Dip where
  first : Nat
deriving DecidableEq, Repr

/-- Resets and power (R408–R422). `chip` and `blocks` hold a CHIP reset's master and the BLOCK resets that a dip holds;
`due` is the state that a boundary has begun to enter; `leaving` is the wake source that ends
Night; `tripped`, the clocks have stopped (R370); `trip`, THERM_TRIP_N is asserted; `shut`, an orderly shutdown is under
way or done. -/
structure Power where
  st      : PState := .noon
  req     : Option PState := none
  dip     : Option Dip := none
  chip    : Option Nat := none
  blocks  : List Nat := []
  leaving : Option (Fin 3) := none
  tripped : Bool := false
  trip    : Bool := false
  shut    : Bool := false
  due     : Option PState := none
deriving DecidableEq, Repr

/-- A partition in force (R387). -/
structure Part where
  start : Nat
  npg   : Nat
  lock  : Bool
deriving DecidableEq, Repr

/-- A record that the 7216 writes to the Ozide store (R333, R397–R401): a ring slot, a life header, a log record, the boot
record, an entry of the repair table, or a rewrite that the boot scan or the boot sequence asks for (R332, R403): a page
record, configuration copy A from B or B from A, a repair entry as hard. -/
inductive OzRec where
  | ring (page slots key : Nat) (value : DWord)
  | life (block : Nat) (words : List DWord)
  | log (typ : Byte) (tb : BitVec 2) (ns : BitVec 30) (sec : BitVec 48) (payload : List DWord)
  | boot (words : List DWord)
  | repair (entry : DWord)
  | page (page magic : Nat) (seq : Word) (words : List DWord)
  | copy (ontoB : Bool)
  | hard (i : Nat)
deriving DecidableEq, Repr

/-- The Ozide store (14_ozide.md). `wip` holds the word writes still to be made, of which the first began at `wipAt` (R382);
`ue` and `ce` hold the words that read as uncorrectable and with a single-bit
error (R383), `low` the held low halves (R384), `rd` and `wr` the grants (R392), `told` when OZD_EV_ECC was last raised, `lost` the
records lost in the dip episode under way (R405). -/
structure Ozide where
  words    : Sparse DWord
  wip      : List (Nat × DWord) := []
  wipAt    : Nat := 0
  ue       : List Nat := []
  ce       : List Nat := []
  low      : List (Nat × Nat × Word) := []
  rd       : List (Nat × Nat) := []
  wr       : List (Nat × Nat) := []
  wrong    : Sparse Nat := []
  keys     : Sparse DWord := []
  parts    : Sparse Part := []
  deftab   : Bool := false
  queue    : List OzRec := []
  logSeq   : Word := 0
  scanned  : Bool := false
  bootOk   : Bool := false
  cfg      : BitVec 2 := 0
  told     : Option Nat := none
  lost     : Nat := 0
deriving DecidableEq, Repr

/-- A request of the maintenance scheduler (R429, R432). -/
structure MntReq where
  act     : Nat
  unit    : Nat
  host    : Bool
  aged    : Bool := false
  running : Bool := false
deriving DecidableEq, Repr

structure Mnt where
  queue   : List MntReq := []
  requeue : List MntReq := []
  lastErr : BitVec 4 := 0
deriving DecidableEq, Repr

/-- The boot straps, the boot flash and what the last boot took from them (R451–R457). `flash` reads 0xFF where it lists
nothing and `size` is its size in bytes; `scanErrs` are the words of the Ozide store in which the next scan finds errors; `slot` and `defaults` are what was booted, `lct` the LCT section of its image
(offset in the flash, length, CRC); `kind` is the P3 counter of the last reset's kind and `lost` the items of R413 that it
returned to default or lost; TRIP and SHUT of SYS_RESET_CAUSE have been recorded; `grade`, the device is BE; `resetAt` when
the last warm reset was triggered and which memories were in self-refresh then (R410). -/
structure Boot where
  straps   : BitVec 2 := 0
  flash    : List Host.Cell := []
  size     : Nat := 0
  slot     : Nat := 0
  defaults : Bool := false
  lct      : Option (Nat × Nat × Word) := none
  hostOpen : Bool := false
  grade    : Bool := false
  scanErrs : List OzErr := []
  kind     : Nat := 0
  lost     : BitVec 12 := 0x7FF
  tripTold : Bool := true
  shutTold : Bool := true
  resetAt  : Option (Nat × Bool × Bool) := none
deriving DecidableEq, Repr

inductive JtagDr where
  | bypass
  | idcode
  | boundary
deriving DecidableEq, Repr

inductive PinMode where
  | functional
  | chain
  | highZ
  | pulse
  | train
deriving DecidableEq, Repr

structure Jtag where
  ir    : Byte := 0xFF
  dr    : JtagDr := .bypass
  pins  : PinMode := .functional
  chain : List Bool := []
deriving DecidableEq, Repr

/-- The whole state. -/
structure State where
  pending  : List Instr
  regs     : Sparse Word
  tabs     : Sparse Word
  holds    : List Hold
  readData : Word
  lastAccess : AccessResult
  captured : List Nat
  resetPending : List Nat
  freeCtr  : Nat
  now      : Nat
  evRecs   : Sparse EvtRec
  msgq     : Sparse MsgQ
  holdOpen : Bool
  heldQ    : List Held
  ctxShadow : Sparse Word
  ctxActive : Sparse Word
  ctxForce : Sparse Word
  handles  : Sparse Handle
  sclQueue : List Nat
  sclCur   : Option Nat
  sclTouched : List (Nat × Nat)
  lct      : Sparse DWord
  lctc     : LctCtl
  link     : Link
  dcx      : Sparse Dcx
  wcapLevel : Nat
  wcapQ    : List CapWrite
  lanes    : Sparse LaneAux
  psb      : Psb
  comp     : Comp
  fs       : List Host.Cell
  fsUE     : List Nat
  scene    : List Host.Cell
  scUE     : List Nat
  zones    : Sparse Word
  fcrc     : Sparse Word
  rects    : Sparse Word
  sigRes   : Sparse Word
  sigStat  : Sparse Word
  mirror   : List MirFrame
  period   : Period
  scan     : Scan
  tiles    : Sparse Tile
  dram     : Sparse DramAux
  memF     : MemAux
  memS     : MemAux
  acts     : Sparse (List (Nat × Nat))
  nrLfsr   : Sparse Word
  tb       : Sparse Tb
  trk      : Sparse Tracker
  eth      : Sparse Eth
  gl       : Genlock
  trig     : Sparse Trig
  thm      : Thermal
  pwr      : Power
  ozd      : Ozide
  mnt      : Mnt
  boot     : Boot
  jtag     : Jtag
deriving DecidableEq, Repr

/-- Page 0 of the Ozide store as shipped: the default partition table (R387, R388), entry p in half p mod 2 of word p div 2. -/
def shippedTable : Sparse DWord :=
  [(0, 0x800203FF8000000F), (1, 0x80C203FF808201FF), (2, 0x81820BFF814201FF), (3, 0x83FE000F830207DF)]

/-- Right after a power-on reset, before the boot sequencer has run. Every register reads its reset value. -/
def State.reset : State where
  pending := []
  regs := []
  tabs := []
  holds := []
  readData := 0
  lastAccess := .done
  captured := []
  resetPending := []
  freeCtr := 0
  now := 0
  evRecs := []
  msgq := []
  holdOpen := false
  heldQ := []
  ctxShadow := []
  ctxActive := []
  ctxForce := []
  handles := []
  sclQueue := []
  sclCur := none
  sclTouched := []
  lct := []
  lctc := {}
  link := {}
  dcx := []
  wcapLevel := 65536
  wcapQ := []
  lanes := []
  psb := {}
  comp := {}
  fs := []
  fsUE := []
  scene := []
  scUE := []
  zones := []
  fcrc := []
  rects := []
  sigRes := []
  sigStat := []
  mirror := []
  period := {}
  scan := {}
  tiles := []
  dram := []
  memF := {}
  memS := {}
  acts := []
  nrLfsr := []
  tb := []
  trk := []
  eth := []
  gl := {}
  trig := []
  thm := {}
  pwr := {}
  ozd := { words := shippedTable }
  mnt := {}
  boot := {}
  jtag := {}

end Sys2Proof.Machine
end

