-- ==== Sys2Proof/Machine/Sparse.lean ====
section
/-!
DEFINITION. Reading and writing a sparse store. `d` says what an unlisted key reads as; a write of that value takes
the entry out, so that equal stores are equal lists.
-/
namespace Sys2Proof.Machine

variable {α : Type}

/-- The value listed for a key. -/
def sFind (k : Nat) : List (Nat × α) → Option α
  | [] => none
  | e :: t => if e.1 = k then some e.2 else sFind k t

/-- The list with `v` at key `k`, keys rising. -/
def sIns (k : Nat) (v : α) : List (Nat × α) → List (Nat × α)
  | [] => [(k, v)]
  | e :: t => if k < e.1 then (k, v) :: e :: t else if k = e.1 then (k, v) :: t else e :: sIns k v t

/-- The list without key `k`. -/
def sDel (k : Nat) : List (Nat × α) → List (Nat × α)
  | [] => []
  | e :: t => if e.1 = k then sDel k t else e :: sDel k t

/-- What key `k` reads as. -/
def sGet (d : Nat → α) (k : Nat) (l : List (Nat × α)) : α := (sFind k l).getD (d k)

/-- The store with `v` written at key `k`. -/
def sPut [DecidableEq α] (d : Nat → α) (k : Nat) (v : α) (l : List (Nat × α)) : List (Nat × α) :=
  if v = d k then sDel k l else sIns k v l

/-- Keys above `n`, rising strictly, and no entry equal to what its key reads as unlisted. -/
def sOkFrom [DecidableEq α] (d : Nat → α) : Nat → List (Nat × α) → Bool
  | _, [] => true
  | n, e :: t => decide (n ≤ e.1) && decide (e.2 ≠ d e.1) && sOkFrom d (e.1 + 1) t

/-- The canonical form. -/
def sOk [DecidableEq α] (d : Nat → α) (l : List (Nat × α)) : Bool := sOkFrom d 0 l

/-- What an unlisted word reads as: 0. -/
abbrev zeroW : Nat → Word := fun _ => 0

end Sys2Proof.Machine
end

