-- ==== Sys2Proof/Machine/Regs.lean ====
section
/-!
DEFINITION. The register map: a name for the address of every register of the 60 pages, and a row for each that says
what a write changes. Offsets, types and masks as the register tables of the chapters give them; INVENTORY.md
'## State' names the rule of each.
-/
namespace Sys2Proof.Machine

/-- How a register answers: `st` holds what was stored, `wo` is a command, `co` is read from the machine's state,
`da` is a data register or a register whose read has an effect. -/
inductive RegKind where
  | st
  | wo
  | co
  | da
deriving DecidableEq, Repr

/-- The reset class of R407: VOLATILE, STICKY or always-on. -/
inductive RegClass where
  | volatile
  | sticky
  | aon
deriving DecidableEq, Repr

/-- One row of a register table: `cnt` registers from `off`, `stride` bytes apart. `rw` marks the bits a write stores,
`w1c` the bits that writing 1 clears, `sh` a register with a shadow image. -/
structure RegRow where
  off    : Nat
  cnt    : Nat
  stride : Nat
  kind   : RegKind
  rw     : Nat
  w1c    : Nat
  cls    : RegClass
  sh     : Bool
deriving DecidableEq, Repr

/-- Rows that `np` pages from `page` share. -/
structure RegGroup where
  page : Nat
  np   : Nat
  rows : List RegRow
deriving DecidableEq, Repr

abbrev Reg.PAGE_ID (p : Nat) : Nat := 0 + 0x1000 * p
abbrev Reg.PAGE_VER (p : Nat) : Nat := 4 + 0x1000 * p
abbrev Reg.PAGE_CTL (p : Nat) : Nat := 8 + 0x1000 * p
abbrev Reg.PAGE_STAT (p : Nat) : Nat := 0xc + 0x1000 * p
abbrev Reg.EVT_RAW (p : Nat) : Nat := 0x10 + 0x1000 * p
abbrev Reg.EVT_EN (p : Nat) : Nat := 0x14 + 0x1000 * p
abbrev Reg.EVT_PEND (p : Nat) : Nat := 0x18 + 0x1000 * p
abbrev Reg.EVT_ROUTE (p : Nat) : Nat := 0x1c + 0x1000 * p
abbrev Reg.OWNER (p : Nat) : Nat := 0x20 + 0x1000 * p
abbrev Reg.SHADOW_STAT (p : Nat) : Nat := 0x24 + 0x1000 * p
abbrev Reg.SYS_RESET_CAUSE : Nat := 0x40
abbrev Reg.SYS_RST : Nat := 0x44
abbrev Reg.SYS_WDG : Nat := 0x48
abbrev Reg.SYS_M0_STAT : Nat := 0x4c
abbrev Reg.MST_FROZEN : Nat := 0x1040
abbrev Reg.MST_THAW : Nat := 0x1044
abbrev Reg.MST_FSEQ : Nat := 0x1048
abbrev Reg.MST_PRIV : Nat := 0x104c
abbrev Reg.MST_VIOL_ADDR_LO (n : Nat) : Nat := 0x1100 + 32 * n
abbrev Reg.MST_VIOL_ADDR_HI (n : Nat) : Nat := 0x1104 + 32 * n
abbrev Reg.MST_VIOL_INFO (n : Nat) : Nat := 0x1108 + 32 * n
abbrev Reg.MST_VIOL_NS (n : Nat) : Nat := 0x110c + 32 * n
abbrev Reg.MST_VIOL_S (n : Nat) : Nat := 0x1110 + 32 * n
abbrev Reg.EVT_SUMMARY (n : Nat) : Nat := 0x2040 + 4 * n
abbrev Reg.EVT_PIN_STAT : Nat := 0x2080
abbrev Reg.EVT_LOST (n : Nat) : Nat := 0x20a0 + 4 * n
abbrev Reg.EVT_QFILL (n : Nat) : Nat := 0x20c0 + 4 * n
abbrev Reg.CMT_REQ : Nat := 0x3040
abbrev Reg.CMT_PART : Nat := 0x3044
abbrev Reg.CMT_READY : Nat := 0x3048
abbrev Reg.CMT_RDY_STAT : Nat := 0x304c
abbrev Reg.CMT_PEND_SEQ : Nat := 0x3050
abbrev Reg.CMT_LAST_SEQ : Nat := 0x3054
abbrev Reg.CMT_STAT : Nat := 0x3058
abbrev Reg.CMT_TIMEOUT : Nat := 0x305c
abbrev Reg.CMT_BUDGET : Nat := 0x3060
abbrev Reg.CMT_CANCEL : Nat := 0x3064
abbrev Reg.CMT_N_APPLIED : Nat := 0x3070
abbrev Reg.CMT_N_REFUSED : Nat := 0x3074
abbrev Reg.LNH_CFG : Nat := 0x4040
abbrev Reg.LNH_N_TAKEOVER : Nat := 0x4044
abbrev Reg.LNH_LCTL (n : Nat) : Nat := 0x4100 + 16 * n
abbrev Reg.LNH_LSTAT (n : Nat) : Nat := 0x4104 + 16 * n
abbrev Reg.LNH_PRBS_ERR (n : Nat) : Nat := 0x4108 + 16 * n
abbrev Reg.LNH_PRBS_RESEED (n : Nat) : Nat := 0x410c + 16 * n
abbrev Reg.LNH_LINK_STAT : Nat := 0x5040
abbrev Reg.LNH_N_RETRY : Nat := 0x5044
abbrev Reg.LNH_N_CRC : Nat := 0x5048
abbrev Reg.LNH_N_RETRAIN : Nat := 0x504c
abbrev Reg.LNH_TAGS (n : Nat) : Nat := 0x5060 + 4 * n
abbrev Reg.LNP_CFG : Nat := 0x6040
abbrev Reg.LNP_PSB_SEL : Nat := 0x6044
abbrev Reg.LNP_PSB_DATA : Nat := 0x6048
abbrev Reg.LNP_DRVREG : Nat := 0x604c
abbrev Reg.LNP_N_TAKEOVER : Nat := 0x6050
abbrev Reg.LNP_N_PSB_ERR : Nat := 0x6054
abbrev Reg.LNP_LCTL (n : Nat) : Nat := 0x6100 + 0x1000 * (n / 18) + 16 * (n % 18)
abbrev Reg.LNP_LSTAT (n : Nat) : Nat := 0x6104 + 0x1000 * (n / 18) + 16 * (n % 18)
abbrev Reg.LNP_PRBS_ERR (n : Nat) : Nat := 0x6108 + 0x1000 * (n / 18) + 16 * (n % 18)
abbrev Reg.ING_CTX_CMD : Nat := 0xc040
abbrev Reg.ING_CTX_HANDLE : Nat := 0xc044
abbrev Reg.ING_CTX_OFS_LO : Nat := 0xc048
abbrev Reg.ING_CTX_OFS_HI : Nat := 0xc04c
abbrev Reg.ING_CTX_RES : Nat := 0xc050
abbrev Reg.ING_CTX_STAT : Nat := 0xc054
abbrev Reg.ING_CTX_IN_LO : Nat := 0xc058
abbrev Reg.ING_CTX_IN_HI : Nat := 0xc05c
abbrev Reg.ING_CTX_OUT_LO : Nat := 0xc060
abbrev Reg.ING_CTX_OUT_HI : Nat := 0xc064
abbrev Reg.ING_CTX_EBIT_LO : Nat := 0xc068
abbrev Reg.ING_CTX_EBIT_HI : Nat := 0xc06c
abbrev Reg.ING_WCAP : Nat := 0xc070
abbrev Reg.ING_N_OPEN : Nat := 0xc074
abbrev Reg.ING_N_TRAIL : Nat := 0xc078
abbrev Reg.ING_N_NAK : Nat := 0xc07c
abbrev Reg.DCX_STAT (p : Nat) : Nat := 0xd040 + 0x1000 * p
abbrev Reg.DCX_N_OUT_LO (p : Nat) : Nat := 0xd044 + 0x1000 * p
abbrev Reg.DCX_N_OUT_HI (p : Nat) : Nat := 0xd048 + 0x1000 * p
abbrev Reg.DCX_N_ERR (p : Nat) : Nat := 0xd04c + 0x1000 * p
abbrev Reg.DCX_N_PARK (p : Nat) : Nat := 0xd050 + 0x1000 * p
abbrev Reg.DCX_N_LOAD (p : Nat) : Nat := 0xd054 + 0x1000 * p
abbrev Reg.LYR_BUF_BASE : Nat := 0x1e040
abbrev Reg.LYR_BUF_SIZE : Nat := 0x1e044
abbrev Reg.LYR_BUF_PITCH : Nat := 0x1e048
abbrev Reg.LYR_BUF_CMD : Nat := 0x1e04c
abbrev Reg.LYR_BUF_RES : Nat := 0x1e050
abbrev Reg.LYR_BUF_STAT : Nat := 0x1e054
abbrev Reg.LYR_ACT_SEL : Nat := 0x1e058
abbrev Reg.LYR_ACT_DATA : Nat := 0x1e05c
abbrev Reg.LYR_CMX_IDX : Nat := 0x1e060
abbrev Reg.LYR_CMX_DATA : Nat := 0x1e064
abbrev Reg.LYR_EOTF_IDX : Nat := 0x1e068
abbrev Reg.LYR_EOTF_DATA : Nat := 0x1e06c
abbrev Reg.LYR_NR_FIRST : Nat := 0x1e070
abbrev Reg.LYR_NR_COUNT : Nat := 0x1e074
abbrev Reg.LYR_SCL_CTL : Nat := 0x1e078
abbrev Reg.LYR_SCL_STAT : Nat := 0x1e07c
abbrev Reg.LYR_N_FREE : Nat := 0x1e080
abbrev Reg.LYR_N_PINNED : Nat := 0x1e084
abbrev Reg.RAY_FOCAL : Nat := 0x1f040
abbrev Reg.RAY_N_SAT : Nat := 0x1f048
abbrev Reg.LCT_CTL : Nat := 0x1f050
abbrev Reg.LCT_LOAD_BUF : Nat := 0x1f054
abbrev Reg.LCT_LOAD_CRC : Nat := 0x1f058
abbrev Reg.LCT_STAT : Nat := 0x1f05c
abbrev Reg.LCT_IDX : Nat := 0x1f060
abbrev Reg.LCT_RDATA_LO : Nat := 0x1f064
abbrev Reg.LCT_RDATA_HI : Nat := 0x1f068
abbrev Reg.LCT_WDATA_LO : Nat := 0x1f06c
abbrev Reg.LCT_WDATA_HI : Nat := 0x1f070
abbrev Reg.LCT_AUDIT : Nat := 0x1f074
abbrev Reg.LCT_AUDIT_CRC : Nat := 0x1f078
abbrev Reg.LCT_AUDIT_PASSES : Nat := 0x1f07c
abbrev Reg.LCT_N_CORR : Nat := 0x1f080
abbrev Reg.LCT_N_UNCORR : Nat := 0x1f084
abbrev Reg.LCT_LAST_ERR : Nat := 0x1f088
abbrev Reg.LCT_N_DEAD : Nat := 0x1f08c
abbrev Reg.LCT_CRC_EXP : Nat := 0x1f090
abbrev Reg.CMP_CTL : Nat := 0x20040
abbrev Reg.CMP_STAT : Nat := 0x20044
abbrev Reg.CMP_WORK : Nat := 0x20048
abbrev Reg.CMP_CAP : Nat := 0x2004c
abbrev Reg.CMP_LISTS : Nat := 0x20050
abbrev Reg.CMP_BOUND : Nat := 0x20054
abbrev Reg.CMP_SEED : Nat := 0x20058
abbrev Reg.CMP_DONE_US : Nat := 0x2005c
abbrev Reg.CMP_N_OVERRUN : Nat := 0x20060
abbrev Reg.CMP_N_AUDIT : Nat := 0x20064
abbrev Reg.CMP_N_MISMATCH : Nat := 0x20068
abbrev Reg.CMP_N_STALE : Nat := 0x2006c
abbrev Reg.CMP_N_TEXERR : Nat := 0x20070
abbrev Reg.CMP_BG_0 (n : Nat) : Nat := 0x20080 + 4 * n
abbrev Reg.CMP_BG_1 (n : Nat) : Nat := 0x20090 + 4 * n
abbrev Reg.CMP_BG_2 (n : Nat) : Nat := 0x200a0 + 4 * n
abbrev Reg.CMP_BG_3 (n : Nat) : Nat := 0x200b0 + 4 * n
abbrev Reg.CMP_ECTL (n : Nat) : Nat := 0x21100 + 0x1000 * (n / 16) + 16 * (n % 16)
abbrev Reg.CMP_ESTAT (n : Nat) : Nat := 0x21104 + 0x1000 * (n / 16) + 16 * (n % 16)
abbrev Reg.CMP_EITEMS (n : Nat) : Nat := 0x21108 + 0x1000 * (n / 16) + 16 * (n % 16)
abbrev Reg.CMP_ERES (n : Nat) : Nat := 0x2110c + 0x1000 * (n / 16) + 16 * (n % 16)
abbrev Reg.FIN_ZCTL : Nat := 0x26040
abbrev Reg.FIN_ZFIX : Nat := 0x26044
abbrev Reg.FIN_ZMIN : Nat := 0x26048
abbrev Reg.FIN_ZGAIN (n : Nat) : Nat := 0x26050 + 4 * n
abbrev Reg.FIN_K (n : Nat) : Nat := 0x26060 + 4 * n
abbrev Reg.FIN_BMIN : Nat := 0x2606c
abbrev Reg.FIN_SPR_IDX : Nat := 0x26070
abbrev Reg.FIN_SPR_DATA : Nat := 0x26074
abbrev Reg.FIN_XFR_IDX : Nat := 0x26078
abbrev Reg.FIN_XFR_DATA : Nat := 0x2607c
abbrev Reg.FIN_MTB_IDX : Nat := 0x26080
abbrev Reg.FIN_MTB_DATA : Nat := 0x26084
abbrev Reg.FIN_MIR : Nat := 0x26088
abbrev Reg.FIN_MIR_STAT : Nat := 0x2608c
abbrev Reg.FIN_FRAME : Nat := 0x26090
abbrev Reg.FIN_N_CLIP : Nat := 0x26094
abbrev Reg.FIN_CLIP_THR : Nat := 0x26098
abbrev Reg.FIN_N_MIR_SENT : Nat := 0x2609c
abbrev Reg.FIN_N_MIR_DROP : Nat := 0x260a0
abbrev Reg.FIN_ZSEL : Nat := 0x260a4
abbrev Reg.FIN_ZDATA : Nat := 0x260a8
abbrev Reg.FIN_FCRC (n : Nat) : Nat := 0x260b0 + 4 * n
abbrev Reg.SIG_SEL : Nat := 0x27040
abbrev Reg.SIG_RESULT : Nat := 0x27044
abbrev Reg.SIG_RSTAT : Nat := 0x27048
abbrev Reg.SIG_MISS_S (n : Nat) : Nat := 0x27050 + 4 * n
abbrev Reg.SIG_N_MISS : Nat := 0x27060
abbrev Reg.SIG_XR (n : Nat) : Nat := 0x27100 + 4 * n
abbrev Reg.SIG_YR (n : Nat) : Nat := 0x27300 + 4 * n
abbrev Reg.SIG_EXP (n : Nat) : Nat := 0x27500 + 4 * n
abbrev Reg.SCN_MODE : Nat := 0x28040
abbrev Reg.SCN_CTL : Nat := 0x28044
abbrev Reg.SCN_ODT : Nat := 0x28048
abbrev Reg.SCN_PTEMP : Nat := 0x2804c
abbrev Reg.SCN_ODB (n : Nat) : Nat := 0x28050 + 4 * n
abbrev Reg.SCN_OD_IDX : Nat := 0x28064
abbrev Reg.SCN_OD_DATA : Nat := 0x28068
abbrev Reg.SCN_STAT : Nat := 0x2806c
abbrev Reg.SCN_PERIOD : Nat := 0x28070
abbrev Reg.SCN_TF : Nat := 0x28074
abbrev Reg.SCN_FIFO_MIN : Nat := 0x28078
abbrev Reg.SCN_N_FCRC : Nat := 0x2807c
abbrev Reg.SCN_N_RECT : Nat := 0x28080
abbrev Reg.SCN_N_UNDERRUN : Nat := 0x28084
abbrev Reg.SCN_N_MEMERR : Nat := 0x28088
abbrev Reg.SCN_N_SHORT : Nat := 0x2808c
abbrev Reg.SCN_RMISS_S (n : Nat) : Nat := 0x28090 + 4 * n
abbrev Reg.SCN_RXR (n : Nat) : Nat := 0x28100 + 4 * n
abbrev Reg.SCN_RYR (n : Nat) : Nat := 0x28200 + 4 * n
abbrev Reg.SCN_REXP (n : Nat) : Nat := 0x28300 + 4 * n
abbrev Reg.SCN_RRES (n : Nat) : Nat := 0x28400 + 4 * n
abbrev Reg.PNL_STV : Nat := 0x29040
abbrev Reg.PNL_GCK : Nat := 0x29044
abbrev Reg.PNL_OE : Nat := 0x29048
abbrev Reg.PNL_NIGHT : Nat := 0x29050
abbrev Reg.PNL_NSB_IDX : Nat := 0x29054
abbrev Reg.PNL_NSB_DATA : Nat := 0x29058
abbrev Reg.PNL_N_DARK : Nat := 0x2905c
abbrev Reg.BKL_SCAN : Nat := 0x2a040
abbrev Reg.BKL_BOOST : Nat := 0x2a044
abbrev Reg.BKL_DIAG : Nat := 0x2a048
abbrev Reg.BKL_TC_IDX : Nat := 0x2a04c
abbrev Reg.BKL_TC_DATA : Nat := 0x2a050
abbrev Reg.BKL_NIGHT : Nat := 0x2a054
abbrev Reg.BKL_LIFE : Nat := 0x2a058
abbrev Reg.BKL_N_OPEN : Nat := 0x2a05c
abbrev Reg.BKL_N_PATHFAIL : Nat := 0x2a060
abbrev Reg.BKL_TCTL (n : Nat) : Nat := 0x2b100 + 0x1000 * (n / 8) + 64 * (n % 8)
abbrev Reg.BKL_TSTAT (n : Nat) : Nat := 0x2b104 + 0x1000 * (n / 8) + 64 * (n % 8)
abbrev Reg.BKL_TREF (n : Nat) : Nat := 0x2b108 + 0x1000 * (n / 8) + 64 * (n % 8)
abbrev Reg.BKL_TREFA (n : Nat) : Nat := 0x2b10c + 0x1000 * (n / 8) + 64 * (n % 8)
abbrev Reg.BKL_TSER_LO (n : Nat) : Nat := 0x2b110 + 0x1000 * (n / 8) + 64 * (n % 8)
abbrev Reg.BKL_TSER_HI (n : Nat) : Nat := 0x2b114 + 0x1000 * (n / 8) + 64 * (n % 8)
abbrev Reg.BKL_TID (n : Nat) : Nat := 0x2b118 + 0x1000 * (n / 8) + 64 * (n % 8)
abbrev Reg.BKL_TBIN (n : Nat) : Nat := 0x2b11c + 0x1000 * (n / 8) + 64 * (n % 8)
abbrev Reg.BKL_TRATED (n : Nat) : Nat := 0x2b120 + 0x1000 * (n / 8) + 64 * (n % 8)
abbrev Reg.BKL_THW_0 (n : Nat) : Nat := 0x2b124 + 0x1000 * (n / 8) + 64 * (n % 8)
abbrev Reg.BKL_THW_1 (n : Nat) : Nat := 0x2b128 + 0x1000 * (n / 8) + 64 * (n % 8)
abbrev Reg.BKL_THW_2 (n : Nat) : Nat := 0x2b12c + 0x1000 * (n / 8) + 64 * (n % 8)
abbrev Reg.BKL_TVB (n : Nat) : Nat := 0x2b130 + 0x1000 * (n / 8) + 64 * (n % 8)
abbrev Reg.BKL_TTEMP (n : Nat) : Nat := 0x2b134 + 0x1000 * (n / 8) + 64 * (n % 8)
abbrev Reg.BKL_TN_ERR (n : Nat) : Nat := 0x2b138 + 0x1000 * (n / 8) + 64 * (n % 8)
abbrev Reg.MFS_CTL : Nat := 0x2e040
abbrev Reg.MFS_STAT : Nat := 0x2e044
abbrev Reg.MFS_ROLES : Nat := 0x2e048
abbrev Reg.MFS_TEMP : Nat := 0x2e04c
abbrev Reg.MFS_N_CORR : Nat := 0x2e050
abbrev Reg.MFS_N_UNCORR : Nat := 0x2e054
abbrev Reg.MFS_N_URGENT : Nat := 0x2e058
abbrev Reg.MFS_N_NRR : Nat := 0x2e05c
abbrev Reg.MFS_N_RMW_UE : Nat := 0x2e060
abbrev Reg.MFS_N_RPL_FULL : Nat := 0x2e064
abbrev Reg.MFS_SCRUB_PASSES : Nat := 0x2e068
abbrev Reg.MFS_ERR_LO : Nat := 0x2e06c
abbrev Reg.MFS_ERR_HI : Nat := 0x2e070
abbrev Reg.MFS_QOS (n : Nat) : Nat := 0x2e080 + 4 * n
abbrev Reg.MFS_PPR_CMD : Nat := 0x2e0a0
abbrev Reg.MFS_RPL_IDX : Nat := 0x2e0a4
abbrev Reg.MFS_RPL_DATA : Nat := 0x2e0a8
abbrev Reg.MSC_CTL : Nat := 0x30040
abbrev Reg.MSC_STAT : Nat := 0x30044
abbrev Reg.MSC_POP : Nat := 0x30048
abbrev Reg.MSC_NRR_SEED : Nat := 0x3004c
abbrev Reg.MSC_N_CORR : Nat := 0x30050
abbrev Reg.MSC_N_UNCORR : Nat := 0x30054
abbrev Reg.MSC_N_URGENT : Nat := 0x30058
abbrev Reg.MSC_N_NRR : Nat := 0x3005c
abbrev Reg.MSC_N_RPL_FULL : Nat := 0x30064
abbrev Reg.MSC_SCRUB_PASSES : Nat := 0x30068
abbrev Reg.MSC_ERR_LO : Nat := 0x3006c
abbrev Reg.MSC_ERR_HI : Nat := 0x30070
abbrev Reg.MSC_QOS (n : Nat) : Nat := 0x30080 + 4 * n
abbrev Reg.MSC_PPR_CMD : Nat := 0x300a0
abbrev Reg.MSC_RPL_IDX : Nat := 0x300a4
abbrev Reg.MSC_RPL_DATA : Nat := 0x300a8
abbrev Reg.MFS_PC_DEBT (n : Nat) : Nat := 0x2f100 + 16 * n
abbrev Reg.MFS_PC_STAT (n : Nat) : Nat := 0x2f104 + 16 * n
abbrev Reg.MFS_PC_N_REF (n : Nat) : Nat := 0x2f108 + 16 * n
abbrev Reg.MSC_RK0_DEBT (n : Nat) : Nat := 0x31100 + 64 * n
abbrev Reg.MSC_RK0_STAT (n : Nat) : Nat := 0x31104 + 64 * n
abbrev Reg.MSC_RK1_DEBT (n : Nat) : Nat := 0x31110 + 64 * n
abbrev Reg.MSC_RK1_STAT (n : Nat) : Nat := 0x31114 + 64 * n
abbrev Reg.MSC_CH_OUT (n : Nat) : Nat := 0x31120 + 64 * n
abbrev Reg.MSC_CH_N_CORR (n : Nat) : Nat := 0x31124 + 64 * n
abbrev Reg.MSC_CH_N_UNCORR (n : Nat) : Nat := 0x31128 + 64 * n
abbrev Reg.TIM_ETH_CFG (p : Nat) : Nat := 0x32040 + 0x1000 * p
abbrev Reg.TIM_ETH_MAC_LO (p : Nat) : Nat := 0x32044 + 0x1000 * p
abbrev Reg.TIM_ETH_MAC_HI (p : Nat) : Nat := 0x32048 + 0x1000 * p
abbrev Reg.TIM_ETH_IP4 (p : Nat) : Nat := 0x3204c + 0x1000 * p
abbrev Reg.TIM_ETH_IP6 (p k : Nat) : Nat := 0x32050 + 0x1000 * p + 4 * k
abbrev Reg.TIM_ETH_VLAN (p : Nat) : Nat := 0x32060 + 0x1000 * p
abbrev Reg.TIM_ETH_TXLAT (p : Nat) : Nat := 0x32064 + 0x1000 * p
abbrev Reg.TIM_ETH_RXLAT (p : Nat) : Nat := 0x32068 + 0x1000 * p
abbrev Reg.TIM_ETH_ASYM (p : Nat) : Nat := 0x3206c + 0x1000 * p
abbrev Reg.TIM_ETH_LDLY (p : Nat) : Nat := 0x32070 + 0x1000 * p
abbrev Reg.TIM_ETH_TXQ_W0 (p : Nat) : Nat := 0x32080 + 0x1000 * p
abbrev Reg.TIM_ETH_TXQ_W1 (p : Nat) : Nat := 0x32084 + 0x1000 * p
abbrev Reg.TIM_ETH_TXQ_W2 (p : Nat) : Nat := 0x32088 + 0x1000 * p
abbrev Reg.TIM_ETH_TXQ_W3 (p : Nat) : Nat := 0x3208c + 0x1000 * p
abbrev Reg.TIM_ETH_STAT (p : Nat) : Nat := 0x32090 + 0x1000 * p
abbrev Reg.TIM_ETH_N_RX (p : Nat) : Nat := 0x32094 + 0x1000 * p
abbrev Reg.TIM_ETH_N_DROP (p : Nat) : Nat := 0x32098 + 0x1000 * p
abbrev Reg.TIM_ETH_FM_IDX (p : Nat) : Nat := 0x320a0 + 0x1000 * p
abbrev Reg.TIM_ETH_FM_DATA (p : Nat) : Nat := 0x320a4 + 0x1000 * p
abbrev Reg.TIM_TB_SET_NS : Nat := 0x34040
abbrev Reg.TIM_TB_SET_SLO : Nat := 0x34044
abbrev Reg.TIM_TB_SET_SHI : Nat := 0x34048
abbrev Reg.TIM_TB_ADJ_LO : Nat := 0x3404c
abbrev Reg.TIM_TB_ADJ_HI : Nat := 0x34050
abbrev Reg.TIM_TB_FREEF_LO : Nat := 0x34054
abbrev Reg.TIM_TB_FREEF_HI : Nat := 0x34058
abbrev Reg.TIM_TB0_XADJ : Nat := 0x3405c
abbrev Reg.TIM_TB_NS (n : Nat) : Nat := 0x34100 + 128 * n
abbrev Reg.TIM_TB_SLO (n : Nat) : Nat := 0x34104 + 128 * n
abbrev Reg.TIM_TB_SHI (n : Nat) : Nat := 0x34108 + 128 * n
abbrev Reg.TIM_TB_FRAC (n : Nat) : Nat := 0x3410c + 128 * n
abbrev Reg.TIM_TB_CTL (n : Nat) : Nat := 0x34110 + 128 * n
abbrev Reg.TIM_TB_PRI (n : Nat) : Nat := 0x34114 + 128 * n
abbrev Reg.TIM_TB_SHD (n : Nat) : Nat := 0x34118 + 128 * n
abbrev Reg.TIM_TB_CMD (n : Nat) : Nat := 0x3411c + 128 * n
abbrev Reg.TIM_TB_STAT (n : Nat) : Nat := 0x34120 + 128 * n
abbrev Reg.TIM_TB_F_LO (n : Nat) : Nat := 0x34124 + 128 * n
abbrev Reg.TIM_TB_F_HI (n : Nat) : Nat := 0x34128 + 128 * n
abbrev Reg.TIM_TB_OFS (n : Nat) : Nat := 0x3412c + 128 * n
abbrev Reg.TIM_TB_KP (n : Nat) : Nat := 0x34130 + 128 * n
abbrev Reg.TIM_TB_KI (n : Nat) : Nat := 0x34134 + 128 * n
abbrev Reg.TIM_TB_LOCK (n : Nat) : Nat := 0x34138 + 128 * n
abbrev Reg.TIM_TB_LOSS (n : Nat) : Nat := 0x3413c + 128 * n
abbrev Reg.TIM_TB_PID_LO (n : Nat) : Nat := 0x34140 + 128 * n
abbrev Reg.TIM_TB_PID_HI (n : Nat) : Nat := 0x34144 + 128 * n
abbrev Reg.TIM_TB_PPORT (n : Nat) : Nat := 0x34148 + 128 * n
abbrev Reg.TIM_TB_SID_LO (n : Nat) : Nat := 0x3414c + 128 * n
abbrev Reg.TIM_TB_SID_HI (n : Nat) : Nat := 0x34150 + 128 * n
abbrev Reg.TIM_TB_SPORT (n : Nat) : Nat := 0x34154 + 128 * n
abbrev Reg.TIM_GL_CTL : Nat := 0x35040
abbrev Reg.TIM_GL_EPOCH_NS : Nat := 0x35044
abbrev Reg.TIM_GL_EPOCH_SLO : Nat := 0x35048
abbrev Reg.TIM_GL_EPOCH_SHI : Nat := 0x3504c
abbrev Reg.TIM_GL_EPOCH_FRAC : Nat := 0x35050
abbrev Reg.TIM_GL_STAT : Nat := 0x35054
abbrev Reg.TIM_GL_ERR : Nat := 0x35058
abbrev Reg.TIM_GL_N_RESEED : Nat := 0x3505c
abbrev Reg.TIM_GL_OUT : Nat := 0x35060
abbrev Reg.TIM_GL_PPSIN_DLY0 : Nat := 0x35064
abbrev Reg.TIM_GL_PPSIN_DLY1 : Nat := 0x35068
abbrev Reg.TIM_TRIG_CTL (n : Nat) : Nat := 0x35100 + 32 * n
abbrev Reg.TIM_TRIG_OFS (n : Nat) : Nat := 0x35104 + 32 * n
abbrev Reg.TIM_TRIG_ABS_NS (n : Nat) : Nat := 0x35108 + 32 * n
abbrev Reg.TIM_TRIG_ABS_SLO (n : Nat) : Nat := 0x3510c + 32 * n
abbrev Reg.TIM_TRIG_ABS_SHI (n : Nat) : Nat := 0x35110 + 32 * n
abbrev Reg.TIM_TRIG_N (n : Nat) : Nat := 0x35114 + 32 * n
abbrev Reg.TIM_TRIG_N_MISS (n : Nat) : Nat := 0x35118 + 32 * n
abbrev Reg.THM_CTL : Nat := 0x36040
abbrev Reg.THM_THR : Nat := 0x36044
abbrev Reg.THM_WARN : Nat := 0x36048
abbrev Reg.THM_SHUT : Nat := 0x3604c
abbrev Reg.THM_STAT : Nat := 0x36050
abbrev Reg.THM_HOT : Nat := 0x36054
abbrev Reg.THM_MAX : Nat := 0x36058
abbrev Reg.THM_N_THROT : Nat := 0x3605c
abbrev Reg.THM_ZCMD : Nat := 0x36060
abbrev Reg.THM_CMD : Nat := 0x36064
abbrev Reg.THM_ZT (n : Nat) : Nat := 0x36080 + 4 * n
abbrev Reg.CAL_CTL : Nat := 0x37040
abbrev Reg.CAL_STAT : Nat := 0x37044
abbrev Reg.CAL_REQ : Nat := 0x37048
abbrev Reg.CAL_N_RUN : Nat := 0x3704c
abbrev Reg.CAL_N_FAIL : Nat := 0x37050
abbrev Reg.CAL_TREF (n : Nat) : Nat := 0x37060 + 4 * n
abbrev Reg.CAL_LEDSET_IDX : Nat := 0x37070
abbrev Reg.CAL_LEDSET_DATA : Nat := 0x37074
abbrev Reg.PWR_REQ : Nat := 0x38040
abbrev Reg.PWR_STAT : Nat := 0x38044
abbrev Reg.PWR_SUP_STAT : Nat := 0x38048
abbrev Reg.PWR_BROWN_MIN : Nat := 0x3804c
abbrev Reg.PWR_BROWN_DUR : Nat := 0x38050
abbrev Reg.PWR_N_BROWN : Nat := 0x38054
abbrev Reg.OZD_STAT : Nat := 0x39040
abbrev Reg.OZD_UNL_SEL : Nat := 0x39044
abbrev Reg.OZD_UNL_KEY : Nat := 0x39048
abbrev Reg.OZD_UNL_STAT : Nat := 0x3904c
abbrev Reg.OZD_LOCKOUT : Nat := 0x39050
abbrev Reg.OZD_RELOCK : Nat := 0x39054
abbrev Reg.OZD_CTR_SEL : Nat := 0x39058
abbrev Reg.OZD_CTR_LO : Nat := 0x3905c
abbrev Reg.OZD_CTR_HI : Nat := 0x39060
abbrev Reg.OZD_CTR_CMD : Nat := 0x39064
abbrev Reg.OZD_LOG_HEAD : Nat := 0x39068
abbrev Reg.OZD_LOG_SEQ : Nat := 0x3906c
abbrev Reg.OZD_N_CORR : Nat := 0x39070
abbrev Reg.OZD_N_UNCORR : Nat := 0x39074
abbrev Reg.OZD_N_DENY : Nat := 0x39078
abbrev Reg.OZD_N_LOST : Nat := 0x3907c
abbrev Reg.OZD_N_CFG_SKIP : Nat := 0x39080
abbrev Reg.OZD_ERR_ADDR : Nat := 0x39084
abbrev Reg.MNT_CTL : Nat := 0x3a040
abbrev Reg.MNT_STAT : Nat := 0x3a044
abbrev Reg.MNT_Q_IDX : Nat := 0x3a048
abbrev Reg.MNT_Q_DATA : Nat := 0x3a04c
abbrev Reg.MNT_RUN : Nat := 0x3a050
abbrev Reg.MNT_DECMD : Nat := 0x3a054
abbrev Reg.MNT_N_DONE : Nat := 0x3a058
abbrev Reg.MNT_N_ABORT : Nat := 0x3a05c
abbrev Reg.MNT_N_REFUSED : Nat := 0x3a060
abbrev Reg.AON_STAT : Nat := 0x3b040
abbrev Reg.AON_WAKE_CTL : Nat := 0x3b044
abbrev Reg.AON_WAKE_AT_LO : Nat := 0x3b048
abbrev Reg.AON_WAKE_AT_HI : Nat := 0x3b04c

def rows00x60 : List RegRow :=
  [
  ⟨0, 1, 4, .co, 0, 0, .volatile, false⟩,
  ⟨4, 1, 4, .co, 0, 0, .volatile, false⟩,
  ⟨8, 1, 4, .st, 5, 0, .volatile, false⟩,
  ⟨0xc, 1, 4, .co, 0, 0, .volatile, false⟩,
  ⟨0x10, 1, 4, .st, 0, 0xffffffff, .volatile, false⟩,
  ⟨0x14, 1, 4, .st, 0xffffffff, 0, .volatile, false⟩,
  ⟨0x18, 1, 4, .co, 0, 0, .volatile, false⟩,
  ⟨0x1c, 1, 4, .st, 0x707f8, 0, .volatile, false⟩,
  ⟨0x20, 1, 4, .st, 0xf, 0, .volatile, false⟩,
  ⟨0x24, 1, 4, .st, 0, 0, .volatile, false⟩]

def rows00 : List RegRow :=
  [
  ⟨0x40, 1, 4, .st, 0, 0, .aon, false⟩,
  ⟨0x44, 1, 4, .wo, 0, 0, .volatile, false⟩,
  ⟨0x48, 1, 4, .st, 0xffff, 0, .volatile, false⟩,
  ⟨0x4c, 1, 4, .st, 0, 0, .volatile, false⟩]

def rows01 : List RegRow :=
  [
  ⟨0x40, 1, 4, .st, 0, 0, .volatile, false⟩,
  ⟨0x44, 1, 4, .wo, 0, 0, .volatile, false⟩,
  ⟨0x48, 1, 4, .st, 0, 0, .volatile, false⟩,
  ⟨0x4c, 1, 4, .st, 0, 0, .volatile, false⟩,
  ⟨0x100, 11, 32, .st, 0, 0, .volatile, false⟩,
  ⟨0x104, 11, 32, .st, 0, 0, .volatile, false⟩,
  ⟨0x108, 11, 32, .st, 0, 0, .volatile, false⟩,
  ⟨0x10c, 11, 32, .st, 0, 0, .volatile, false⟩,
  ⟨0x110, 11, 32, .st, 0, 0, .volatile, false⟩]

def rows02 : List RegRow :=
  [
  ⟨0x40, 16, 4, .co, 0, 0, .volatile, false⟩,
  ⟨0x80, 1, 4, .co, 0, 0, .volatile, false⟩,
  ⟨0xa0, 8, 4, .st, 0xffff, 0, .volatile, false⟩,
  ⟨0xc0, 8, 4, .co, 0, 0, .volatile, false⟩]

def rows03 : List RegRow :=
  [
  ⟨0x40, 1, 4, .wo, 0, 0, .volatile, false⟩,
  ⟨0x44, 1, 4, .st, 0x7ff, 0, .volatile, false⟩,
  ⟨0x48, 1, 4, .wo, 0, 0, .volatile, false⟩,
  ⟨0x4c, 1, 4, .st, 0, 0, .volatile, false⟩,
  ⟨0x50, 1, 4, .st, 0, 0, .volatile, false⟩,
  ⟨0x54, 1, 4, .st, 0, 0, .volatile, false⟩,
  ⟨0x58, 1, 4, .st, 0, 0, .volatile, false⟩,
  ⟨0x5c, 1, 4, .st, 0xff, 0, .volatile, false⟩,
  ⟨0x60, 1, 4, .st, 0x7f, 0, .volatile, false⟩,
  ⟨0x64, 1, 4, .wo, 0, 0, .volatile, false⟩,
  ⟨0x70, 1, 4, .st, 0, 0, .volatile, false⟩,
  ⟨0x74, 1, 4, .st, 0, 0, .volatile, false⟩]

def rows04 : List RegRow :=
  [
  ⟨0x40, 1, 4, .st, 0xff07, 0, .volatile, false⟩,
  ⟨0x44, 1, 4, .st, 0, 0, .volatile, false⟩,
  ⟨0x100, 18, 16, .st, 0xe0, 0, .volatile, false⟩,
  ⟨0x104, 18, 16, .st, 0, 0, .volatile, false⟩,
  ⟨0x108, 18, 16, .st, 0, 0, .volatile, false⟩,
  ⟨0x10c, 18, 16, .st, 0, 0, .volatile, false⟩]

def rows05 : List RegRow :=
  [
  ⟨0x40, 1, 4, .st, 0, 0, .volatile, false⟩,
  ⟨0x44, 1, 4, .st, 0, 0, .volatile, false⟩,
  ⟨0x48, 1, 4, .st, 0, 0, .volatile, false⟩,
  ⟨0x4c, 1, 4, .st, 0, 0, .volatile, false⟩,
  ⟨0x60, 8, 4, .co, 0, 0, .volatile, false⟩]

def rows06 : List RegRow :=
  [
  ⟨0x40, 1, 4, .st, 3, 0, .volatile, true⟩,
  ⟨0x44, 1, 4, .wo, 0, 0, .volatile, false⟩,
  ⟨0x48, 1, 4, .st, 0, 0, .volatile, false⟩,
  ⟨0x4c, 1, 4, .wo, 0, 0, .volatile, false⟩,
  ⟨0x50, 1, 4, .st, 0, 0, .volatile, false⟩,
  ⟨0x54, 1, 4, .st, 0, 0, .volatile, false⟩]

def rows06x6 : List RegRow :=
  [
  ⟨0x100, 18, 16, .st, 0xe0, 0, .volatile, false⟩,
  ⟨0x104, 18, 16, .st, 0, 0, .volatile, false⟩,
  ⟨0x108, 18, 16, .st, 0, 0, .volatile, false⟩]

def rows0C : List RegRow :=
  [
  ⟨0x40, 1, 4, .wo, 0, 0, .volatile, false⟩,
  ⟨0x44, 1, 4, .st, 0x1fff, 0, .volatile, false⟩,
  ⟨0x48, 1, 4, .st, 0xffffffff, 0, .volatile, false⟩,
  ⟨0x4c, 1, 4, .st, 0xf, 0, .volatile, false⟩,
  ⟨0x50, 1, 4, .st, 0, 0, .volatile, false⟩,
  ⟨0x54, 1, 4, .st, 0, 0, .volatile, false⟩,
  ⟨0x58, 1, 4, .st, 0, 0, .volatile, false⟩,
  ⟨0x5c, 1, 4, .st, 0, 0, .volatile, false⟩,
  ⟨0x60, 1, 4, .st, 0, 0, .volatile, false⟩,
  ⟨0x64, 1, 4, .st, 0, 0, .volatile, false⟩,
  ⟨0x68, 1, 4, .st, 0, 0, .volatile, false⟩,
  ⟨0x6c, 1, 4, .st, 0, 0, .volatile, false⟩,
  ⟨0x70, 1, 4, .st, 0xff, 0, .volatile, false⟩,
  ⟨0x74, 1, 4, .co, 0, 0, .volatile, false⟩,
  ⟨0x78, 1, 4, .st, 0, 0, .volatile, false⟩,
  ⟨0x7c, 1, 4, .st, 0, 0, .volatile, false⟩]

def rows0Dx17 : List RegRow :=
  [
  ⟨0x40, 1, 4, .st, 0, 0, .sticky, false⟩,
  ⟨0x44, 1, 4, .st, 0, 0, .volatile, false⟩,
  ⟨0x48, 1, 4, .st, 0, 0, .volatile, false⟩,
  ⟨0x4c, 1, 4, .st, 0, 0, .volatile, false⟩,
  ⟨0x50, 1, 4, .st, 0, 0, .volatile, false⟩,
  ⟨0x54, 1, 4, .st, 0, 0, .volatile, false⟩]

def rows1E : List RegRow :=
  [
  ⟨0x40, 1, 4, .st, 0xfffffff, 0, .volatile, false⟩,
  ⟨0x44, 1, 4, .st, 0xfffffff, 0, .volatile, false⟩,
  ⟨0x48, 1, 4, .st, 0x3ff, 0, .volatile, false⟩,
  ⟨0x4c, 1, 4, .wo, 0, 0, .volatile, false⟩,
  ⟨0x50, 1, 4, .st, 0, 0, .volatile, false⟩,
  ⟨0x54, 1, 4, .st, 0, 0, .volatile, false⟩,
  ⟨0x58, 1, 4, .st, 0x1f0fff, 0, .volatile, false⟩,
  ⟨0x5c, 1, 4, .co, 0, 0, .volatile, false⟩,
  ⟨0x60, 1, 4, .st, 0x3ff, 0, .volatile, false⟩,
  ⟨0x64, 1, 4, .da, 0xffffffff, 0, .volatile, false⟩,
  ⟨0x68, 1, 4, .st, 0x1fff, 0, .volatile, false⟩,
  ⟨0x6c, 1, 4, .da, 0xffffffff, 0, .volatile, false⟩,
  ⟨0x70, 1, 4, .st, 0, 0, .volatile, false⟩,
  ⟨0x74, 1, 4, .st, 0, 0, .volatile, false⟩,
  ⟨0x78, 1, 4, .st, 1, 0, .volatile, false⟩,
  ⟨0x7c, 1, 4, .co, 0, 0, .volatile, false⟩] ++
  [
  ⟨0x80, 1, 4, .co, 0, 0, .volatile, false⟩,
  ⟨0x84, 1, 4, .co, 0, 0, .volatile, false⟩]

def rows1F : List RegRow :=
  [
  ⟨0x40, 1, 4, .st, 0xffff, 0, .volatile, true⟩,
  ⟨0x48, 1, 4, .st, 0, 0, .volatile, false⟩,
  ⟨0x50, 1, 4, .st, 6, 0, .volatile, false⟩,
  ⟨0x54, 1, 4, .st, 0x1fff, 0, .volatile, false⟩,
  ⟨0x58, 1, 4, .st, 0xffffffff, 0, .volatile, false⟩,
  ⟨0x5c, 1, 4, .co, 0, 0, .sticky, false⟩,
  ⟨0x60, 1, 4, .st, 0x1fffff, 0, .volatile, false⟩,
  ⟨0x64, 1, 4, .da, 0, 0, .volatile, false⟩,
  ⟨0x68, 1, 4, .da, 0, 0, .volatile, false⟩,
  ⟨0x6c, 1, 4, .st, 0xffffffff, 0, .volatile, false⟩,
  ⟨0x70, 1, 4, .wo, 0, 0, .volatile, false⟩,
  ⟨0x74, 1, 4, .st, 0x1f, 0, .volatile, false⟩,
  ⟨0x78, 1, 4, .st, 0, 0, .volatile, false⟩,
  ⟨0x7c, 1, 4, .st, 0, 0, .volatile, false⟩,
  ⟨0x80, 1, 4, .st, 0, 0, .volatile, false⟩,
  ⟨0x84, 1, 4, .st, 0, 0, .volatile, false⟩] ++
  [
  ⟨0x88, 1, 4, .st, 0, 0, .volatile, false⟩,
  ⟨0x8c, 1, 4, .st, 0, 0, .volatile, false⟩,
  ⟨0x90, 1, 4, .st, 0xffffffff, 0, .sticky, false⟩]

def rows20 : List RegRow :=
  [
  ⟨0x40, 1, 4, .st, 1, 0, .volatile, false⟩,
  ⟨0x44, 1, 4, .co, 0, 0, .volatile, false⟩,
  ⟨0x48, 1, 4, .st, 0, 0, .volatile, false⟩,
  ⟨0x4c, 1, 4, .st, 0, 0, .volatile, false⟩,
  ⟨0x50, 1, 4, .st, 0, 0, .volatile, false⟩,
  ⟨0x54, 1, 4, .st, 0, 0, .volatile, false⟩,
  ⟨0x58, 1, 4, .st, 0xffffffff, 0, .volatile, false⟩,
  ⟨0x5c, 1, 4, .st, 0, 0, .volatile, false⟩,
  ⟨0x60, 1, 4, .st, 0, 0, .volatile, false⟩,
  ⟨0x64, 1, 4, .st, 0, 0, .volatile, false⟩,
  ⟨0x68, 1, 4, .st, 0, 0, .volatile, false⟩,
  ⟨0x6c, 1, 4, .st, 0, 0, .volatile, false⟩,
  ⟨0x70, 1, 4, .st, 0, 0, .volatile, false⟩,
  ⟨0x80, 3, 4, .st, 0x3ffff, 0, .volatile, true⟩,
  ⟨0x90, 3, 4, .st, 0x3ffff, 0, .volatile, true⟩,
  ⟨0xa0, 3, 4, .st, 0x3ffff, 0, .volatile, true⟩] ++
  [
  ⟨0xb0, 3, 4, .st, 0x3ffff, 0, .volatile, true⟩]

def rows21x4 : List RegRow :=
  [
  ⟨0x100, 16, 16, .wo, 0, 0, .volatile, false⟩,
  ⟨0x104, 16, 16, .st, 0, 0, .sticky, false⟩,
  ⟨0x108, 16, 16, .st, 0, 0, .volatile, false⟩,
  ⟨0x10c, 16, 16, .st, 0, 0, .volatile, false⟩]

def rows25 : List RegRow :=
  [
  ⟨0x100, 4, 16, .wo, 0, 0, .volatile, false⟩,
  ⟨0x104, 4, 16, .st, 0, 0, .sticky, false⟩,
  ⟨0x108, 4, 16, .st, 0, 0, .volatile, false⟩,
  ⟨0x10c, 4, 16, .st, 0, 0, .volatile, false⟩]

def rows26 : List RegRow :=
  [
  ⟨0x40, 1, 4, .st, 0x71, 0, .volatile, true⟩,
  ⟨0x44, 1, 4, .st, 0xffffff, 0, .volatile, true⟩,
  ⟨0x48, 1, 4, .st, 0xffffff, 0, .volatile, true⟩,
  ⟨0x50, 3, 4, .st, 0xffffff, 0, .volatile, true⟩,
  ⟨0x60, 3, 4, .st, 0xffffff, 0, .volatile, true⟩,
  ⟨0x6c, 1, 4, .st, 0x7fffffff, 0, .volatile, true⟩,
  ⟨0x70, 1, 4, .st, 0x3fff, 0, .volatile, false⟩,
  ⟨0x74, 1, 4, .da, 0xffffffff, 0, .volatile, false⟩,
  ⟨0x78, 1, 4, .st, 0x3fff, 0, .volatile, false⟩,
  ⟨0x7c, 1, 4, .da, 0xffffffff, 0, .volatile, false⟩,
  ⟨0x80, 1, 4, .st, 0xfff, 0, .volatile, false⟩,
  ⟨0x84, 1, 4, .da, 0xffffffff, 0, .volatile, false⟩,
  ⟨0x88, 1, 4, .st, 0x8f0000ff, 0, .volatile, true⟩,
  ⟨0x8c, 1, 4, .co, 0, 0, .volatile, false⟩,
  ⟨0x90, 1, 4, .st, 0, 0, .volatile, false⟩,
  ⟨0x94, 1, 4, .st, 0, 0, .volatile, false⟩] ++
  [
  ⟨0x98, 1, 4, .st, 0xffffffff, 0, .volatile, false⟩,
  ⟨0x9c, 1, 4, .st, 0, 0, .volatile, false⟩,
  ⟨0xa0, 1, 4, .st, 0, 0, .volatile, false⟩,
  ⟨0xa4, 1, 4, .st, 0xc0033fff, 0, .volatile, false⟩,
  ⟨0xa8, 1, 4, .da, 0, 0, .volatile, false⟩,
  ⟨0xb0, 4, 4, .st, 0, 0, .volatile, false⟩]

def rows27 : List RegRow :=
  [
  ⟨0x40, 1, 4, .st, 0x7f, 0, .volatile, false⟩,
  ⟨0x44, 1, 4, .co, 0, 0, .volatile, false⟩,
  ⟨0x48, 1, 4, .co, 0, 0, .volatile, false⟩,
  ⟨0x50, 4, 4, .st, 0, 0, .volatile, false⟩,
  ⟨0x60, 1, 4, .st, 0, 0, .volatile, false⟩,
  ⟨0x100, 128, 4, .st, 0x3fff3fff, 0, .volatile, true⟩,
  ⟨0x300, 128, 4, .st, 0xbfff3fff, 0, .volatile, true⟩,
  ⟨0x500, 128, 4, .st, 0xffffffff, 0, .volatile, true⟩]

def rows28 : List RegRow :=
  [
  ⟨0x40, 1, 4, .st, 7, 0, .volatile, true⟩,
  ⟨0x44, 1, 4, .st, 0x33, 0, .volatile, true⟩,
  ⟨0x48, 1, 4, .st, 0x1f, 0, .volatile, false⟩,
  ⟨0x4c, 1, 4, .st, 0xffff, 0, .volatile, false⟩,
  ⟨0x50, 5, 4, .st, 0xffff, 0, .volatile, true⟩,
  ⟨0x64, 1, 4, .st, 0x7fff, 0, .volatile, false⟩,
  ⟨0x68, 1, 4, .da, 0xffffffff, 0, .volatile, false⟩,
  ⟨0x6c, 1, 4, .st, 0, 0, .volatile, false⟩,
  ⟨0x70, 1, 4, .st, 0, 0, .volatile, false⟩,
  ⟨0x74, 1, 4, .st, 0, 0, .volatile, false⟩,
  ⟨0x78, 1, 4, .da, 0, 0, .volatile, false⟩,
  ⟨0x7c, 1, 4, .st, 0, 0, .volatile, false⟩,
  ⟨0x80, 1, 4, .st, 0, 0, .volatile, false⟩,
  ⟨0x84, 1, 4, .st, 0, 0, .volatile, false⟩,
  ⟨0x88, 1, 4, .st, 0, 0, .volatile, false⟩,
  ⟨0x8c, 1, 4, .st, 0, 0, .volatile, false⟩] ++
  [
  ⟨0x90, 4, 4, .st, 0, 0, .volatile, false⟩,
  ⟨0x100, 64, 4, .st, 0x3fff3fff, 0, .volatile, true⟩,
  ⟨0x200, 64, 4, .st, 0xbfff3fff, 0, .volatile, true⟩,
  ⟨0x300, 64, 4, .st, 0xffffffff, 0, .volatile, true⟩,
  ⟨0x400, 64, 4, .st, 0, 0, .volatile, false⟩]

def rows29 : List RegRow :=
  [
  ⟨0x40, 1, 4, .st, 0xfff01ff, 0, .volatile, true⟩,
  ⟨0x44, 1, 4, .st, 0xfff01ff, 0, .volatile, true⟩,
  ⟨0x48, 1, 4, .st, 0x1ff01ff, 0, .volatile, true⟩,
  ⟨0x50, 1, 4, .st, 0x3ff03ff, 0, .aon, false⟩,
  ⟨0x54, 1, 4, .st, 0x3ffff, 0, .volatile, false⟩,
  ⟨0x58, 1, 4, .da, 0xffffffff, 0, .volatile, false⟩,
  ⟨0x5c, 1, 4, .st, 0, 0, .volatile, false⟩]

def rows2A : List RegRow :=
  [
  ⟨0x40, 1, 4, .st, 0xffff0fff, 0, .volatile, true⟩,
  ⟨0x44, 1, 4, .st, 0xffffffff, 0, .volatile, true⟩,
  ⟨0x48, 1, 4, .st, 0x800000ff, 0, .volatile, false⟩,
  ⟨0x4c, 1, 4, .st, 0x1f, 0, .volatile, false⟩,
  ⟨0x50, 1, 4, .da, 0xffffffff, 0, .volatile, false⟩,
  ⟨0x54, 1, 4, .st, 0x3ff00ff, 0, .aon, false⟩,
  ⟨0x58, 1, 4, .st, 0xffff, 0, .volatile, false⟩,
  ⟨0x5c, 1, 4, .co, 0, 0, .volatile, false⟩,
  ⟨0x60, 1, 4, .st, 0, 0, .volatile, false⟩]

def rows2Bx3 : List RegRow :=
  [
  ⟨0x100, 8, 64, .wo, 0, 0, .volatile, false⟩,
  ⟨0x104, 8, 64, .co, 0, 0, .volatile, false⟩,
  ⟨0x108, 8, 64, .st, 0x3fffffff, 0, .volatile, true⟩,
  ⟨0x10c, 8, 64, .st, 0, 0, .volatile, false⟩,
  ⟨0x110, 8, 64, .st, 0, 0, .volatile, false⟩,
  ⟨0x114, 8, 64, .st, 0, 0, .volatile, false⟩,
  ⟨0x118, 8, 64, .st, 0, 0, .volatile, false⟩,
  ⟨0x11c, 8, 64, .st, 0, 0, .volatile, false⟩,
  ⟨0x120, 8, 64, .st, 0, 0, .volatile, false⟩,
  ⟨0x124, 8, 64, .co, 0, 0, .volatile, false⟩,
  ⟨0x128, 8, 64, .co, 0, 0, .volatile, false⟩,
  ⟨0x12c, 8, 64, .co, 0, 0, .volatile, false⟩,
  ⟨0x130, 8, 64, .st, 0, 0, .volatile, false⟩,
  ⟨0x134, 8, 64, .st, 0, 0, .volatile, false⟩,
  ⟨0x138, 8, 64, .st, 0, 0, .volatile, false⟩]

def rows2E : List RegRow :=
  [
  ⟨0x40, 1, 4, .st, 0xffff0007, 0, .volatile, false⟩,
  ⟨0x44, 1, 4, .co, 0, 0x10, .volatile, false⟩,
  ⟨0x48, 1, 4, .st, 0, 0, .sticky, false⟩,
  ⟨0x4c, 1, 4, .st, 0, 0, .volatile, false⟩,
  ⟨0x50, 1, 4, .st, 0, 0, .volatile, false⟩,
  ⟨0x54, 1, 4, .st, 0, 0, .volatile, false⟩,
  ⟨0x58, 1, 4, .st, 0, 0, .volatile, false⟩,
  ⟨0x5c, 1, 4, .st, 0, 0, .volatile, false⟩,
  ⟨0x60, 1, 4, .st, 0, 0, .volatile, false⟩,
  ⟨0x64, 1, 4, .st, 0, 0, .volatile, false⟩,
  ⟨0x68, 1, 4, .st, 0, 0, .volatile, false⟩,
  ⟨0x6c, 1, 4, .st, 0, 0, .volatile, false⟩,
  ⟨0x70, 1, 4, .st, 0, 0, .volatile, false⟩,
  ⟨0x80, 6, 4, .st, 0xffff, 0, .volatile, false⟩,
  ⟨0xa0, 1, 4, .wo, 0, 0, .volatile, false⟩,
  ⟨0xa4, 1, 4, .st, 0xf, 0, .volatile, false⟩] ++
  [
  ⟨0xa8, 1, 4, .co, 0, 0, .volatile, false⟩]

def rows30 : List RegRow :=
  [
  ⟨0x40, 1, 4, .st, 0xffff000f, 0, .volatile, false⟩,
  ⟨0x44, 1, 4, .co, 0, 0x10, .volatile, false⟩,
  ⟨0x48, 1, 4, .co, 0, 0, .volatile, false⟩,
  ⟨0x4c, 1, 4, .st, 0xffffffff, 0, .volatile, false⟩,
  ⟨0x50, 1, 4, .st, 0, 0, .volatile, false⟩,
  ⟨0x54, 1, 4, .st, 0, 0, .volatile, false⟩,
  ⟨0x58, 1, 4, .st, 0, 0, .volatile, false⟩,
  ⟨0x5c, 1, 4, .st, 0, 0, .volatile, false⟩,
  ⟨0x64, 1, 4, .st, 0, 0, .volatile, false⟩,
  ⟨0x68, 1, 4, .st, 0, 0, .volatile, false⟩,
  ⟨0x6c, 1, 4, .st, 0, 0, .volatile, false⟩,
  ⟨0x70, 1, 4, .st, 0, 0, .volatile, false⟩,
  ⟨0x80, 7, 4, .st, 0xffff, 0, .volatile, false⟩,
  ⟨0xa0, 1, 4, .wo, 0, 0, .volatile, false⟩,
  ⟨0xa4, 1, 4, .st, 0xf, 0, .volatile, false⟩,
  ⟨0xa8, 1, 4, .co, 0, 0, .volatile, false⟩]

def rows2F : List RegRow :=
  [
  ⟨0x100, 32, 16, .co, 0, 0, .volatile, false⟩,
  ⟨0x104, 32, 16, .co, 0, 0, .volatile, false⟩,
  ⟨0x108, 32, 16, .st, 0, 0, .volatile, false⟩]

def rows31 : List RegRow :=
  [
  ⟨0x100, 4, 64, .co, 0, 0, .volatile, false⟩,
  ⟨0x104, 4, 64, .co, 0, 0, .volatile, false⟩,
  ⟨0x110, 4, 64, .co, 0, 0, .volatile, false⟩,
  ⟨0x114, 4, 64, .co, 0, 0, .volatile, false⟩,
  ⟨0x120, 4, 64, .co, 0, 0, .volatile, false⟩,
  ⟨0x124, 4, 64, .st, 0, 0, .volatile, false⟩,
  ⟨0x128, 4, 64, .st, 0, 0, .volatile, false⟩]

def rows32x2 : List RegRow :=
  [
  ⟨0x40, 1, 4, .st, 0xff80ffff, 0, .volatile, false⟩,
  ⟨0x44, 1, 4, .st, 0xffffffff, 0, .volatile, false⟩,
  ⟨0x48, 1, 4, .st, 0xffff, 0, .volatile, false⟩,
  ⟨0x4c, 1, 4, .st, 0xffffffff, 0, .volatile, false⟩,
  ⟨0x50, 4, 4, .st, 0xffffffff, 0, .volatile, false⟩,
  ⟨0x60, 1, 4, .st, 0x7fff, 0, .volatile, false⟩,
  ⟨0x64, 1, 4, .st, 0xfffff, 0, .volatile, false⟩,
  ⟨0x68, 1, 4, .st, 0xfffff, 0, .volatile, false⟩,
  ⟨0x6c, 1, 4, .st, 0xfffff, 0, .volatile, false⟩,
  ⟨0x70, 1, 4, .st, 0, 0, .volatile, false⟩,
  ⟨0x80, 1, 4, .da, 0, 0, .volatile, false⟩,
  ⟨0x84, 1, 4, .co, 0, 0, .volatile, false⟩,
  ⟨0x88, 1, 4, .co, 0, 0, .volatile, false⟩,
  ⟨0x8c, 1, 4, .co, 0, 0, .volatile, false⟩,
  ⟨0x90, 1, 4, .co, 0, 2, .volatile, false⟩,
  ⟨0x94, 1, 4, .st, 0, 0, .volatile, false⟩] ++
  [
  ⟨0x98, 1, 4, .st, 0, 0, .volatile, false⟩,
  ⟨0xa0, 1, 4, .st, 0x77, 0, .volatile, false⟩,
  ⟨0xa4, 1, 4, .co, 0, 0, .volatile, false⟩]

def rows34 : List RegRow :=
  [
  ⟨0x40, 1, 4, .st, 0xffffffff, 0, .volatile, false⟩,
  ⟨0x44, 1, 4, .st, 0xffffffff, 0, .volatile, false⟩,
  ⟨0x48, 1, 4, .st, 0xffffffff, 0, .volatile, false⟩,
  ⟨0x4c, 1, 4, .st, 0xffffffff, 0, .volatile, false⟩,
  ⟨0x50, 1, 4, .st, 0xffffffff, 0, .volatile, false⟩,
  ⟨0x54, 1, 4, .st, 0xffffffff, 0, .volatile, false⟩,
  ⟨0x58, 1, 4, .st, 0xffff, 0, .volatile, false⟩,
  ⟨0x5c, 1, 4, .st, 0xffffffff, 0, .aon, false⟩,
  ⟨0x100, 4, 128, .da, 0, 0, .volatile, false⟩,
  ⟨0x104, 4, 128, .co, 0, 0, .volatile, false⟩,
  ⟨0x108, 4, 128, .co, 0, 0, .volatile, false⟩,
  ⟨0x10c, 4, 128, .co, 0, 0, .volatile, false⟩,
  ⟨0x110, 4, 128, .st, 0xf000ffff, 0, .volatile, false⟩,
  ⟨0x114, 4, 128, .st, 0xff0007, 0, .volatile, false⟩,
  ⟨0x118, 4, 128, .st, 0xff0007, 0, .volatile, false⟩,
  ⟨0x11c, 4, 128, .wo, 0, 0, .volatile, false⟩] ++
  [
  ⟨0x120, 4, 128, .co, 0, 0, .volatile, false⟩,
  ⟨0x124, 4, 128, .co, 0, 0, .volatile, false⟩,
  ⟨0x128, 4, 128, .co, 0, 0, .volatile, false⟩,
  ⟨0x12c, 4, 128, .st, 0, 0, .volatile, false⟩,
  ⟨0x130, 4, 128, .st, 0xffffffff, 0, .volatile, false⟩,
  ⟨0x134, 4, 128, .st, 0xffffffff, 0, .volatile, false⟩,
  ⟨0x138, 4, 128, .st, 0xffffff, 0, .volatile, false⟩,
  ⟨0x13c, 4, 128, .st, 0xffff, 0, .volatile, false⟩,
  ⟨0x140, 4, 128, .st, 0xffffffff, 0, .volatile, false⟩,
  ⟨0x144, 4, 128, .st, 0xffffffff, 0, .volatile, false⟩,
  ⟨0x148, 4, 128, .st, 0xffff, 0, .volatile, false⟩,
  ⟨0x14c, 4, 128, .st, 0xffffffff, 0, .volatile, false⟩,
  ⟨0x150, 4, 128, .st, 0xffffffff, 0, .volatile, false⟩,
  ⟨0x154, 4, 128, .st, 0xffff, 0, .volatile, false⟩]

def rows35 : List RegRow :=
  [
  ⟨0x40, 1, 4, .st, 0x3ff0003, 0, .volatile, true⟩,
  ⟨0x44, 1, 4, .st, 0xffffffff, 0, .volatile, true⟩,
  ⟨0x48, 1, 4, .st, 0xffffffff, 0, .volatile, true⟩,
  ⟨0x4c, 1, 4, .st, 0xffffffff, 0, .volatile, true⟩,
  ⟨0x50, 1, 4, .st, 0xffffffff, 0, .volatile, true⟩,
  ⟨0x54, 1, 4, .co, 0, 0, .volatile, false⟩,
  ⟨0x58, 1, 4, .co, 0, 0, .volatile, false⟩,
  ⟨0x5c, 1, 4, .st, 0, 0, .volatile, false⟩,
  ⟨0x60, 1, 4, .st, 0xffff0f0f, 0, .volatile, false⟩,
  ⟨0x64, 1, 4, .st, 0xffffff, 0, .volatile, false⟩,
  ⟨0x68, 1, 4, .st, 0xffffff, 0, .volatile, false⟩,
  ⟨0x100, 4, 32, .st, 0xffbfffff, 0, .volatile, true⟩,
  ⟨0x104, 4, 32, .st, 0xffffffff, 0, .volatile, true⟩,
  ⟨0x108, 4, 32, .st, 0xffffffff, 0, .volatile, true⟩,
  ⟨0x10c, 4, 32, .st, 0xffffffff, 0, .volatile, true⟩,
  ⟨0x110, 4, 32, .st, 0xffffffff, 0, .volatile, true⟩] ++
  [
  ⟨0x114, 4, 32, .st, 0, 0, .volatile, false⟩,
  ⟨0x118, 4, 32, .st, 0, 0, .volatile, false⟩]

def rows36 : List RegRow :=
  [
  ⟨0x40, 1, 4, .st, 0x1ff, 0, .volatile, false⟩,
  ⟨0x44, 1, 4, .st, 0xffff, 0, .volatile, false⟩,
  ⟨0x48, 1, 4, .st, 0xffff, 0, .volatile, false⟩,
  ⟨0x4c, 1, 4, .st, 0xffff, 0, .volatile, false⟩,
  ⟨0x50, 1, 4, .st, 0, 0, .volatile, false⟩,
  ⟨0x54, 1, 4, .st, 0, 0, .volatile, false⟩,
  ⟨0x58, 1, 4, .da, 0, 0, .volatile, false⟩,
  ⟨0x5c, 1, 4, .st, 0, 0, .volatile, false⟩,
  ⟨0x60, 1, 4, .wo, 0, 0, .volatile, false⟩,
  ⟨0x64, 1, 4, .wo, 0, 0, .volatile, false⟩,
  ⟨0x80, 12, 4, .st, 0, 0, .volatile, false⟩]

def rows37 : List RegRow :=
  [
  ⟨0x40, 1, 4, .st, 0x1f0fff, 0, .volatile, false⟩,
  ⟨0x44, 1, 4, .co, 0, 0, .volatile, false⟩,
  ⟨0x48, 1, 4, .wo, 0, 0, .volatile, false⟩,
  ⟨0x4c, 1, 4, .st, 0, 0, .volatile, false⟩,
  ⟨0x50, 1, 4, .st, 0, 0, .volatile, false⟩,
  ⟨0x60, 4, 4, .st, 0, 0, .sticky, false⟩,
  ⟨0x70, 1, 4, .st, 0xf, 0, .volatile, false⟩,
  ⟨0x74, 1, 4, .da, 0xffffffff, 0, .volatile, false⟩]

def rows38 : List RegRow :=
  [
  ⟨0x40, 1, 4, .st, 3, 0, .volatile, false⟩,
  ⟨0x44, 1, 4, .co, 0, 0, .volatile, false⟩,
  ⟨0x48, 1, 4, .st, 0, 0, .volatile, false⟩,
  ⟨0x4c, 1, 4, .st, 0, 0, .volatile, false⟩,
  ⟨0x50, 1, 4, .st, 0, 0, .volatile, false⟩,
  ⟨0x54, 1, 4, .st, 0, 0, .volatile, false⟩]

def rows39 : List RegRow :=
  [
  ⟨0x40, 1, 4, .co, 0, 0, .volatile, false⟩,
  ⟨0x44, 1, 4, .st, 0x10f, 0, .volatile, false⟩,
  ⟨0x48, 1, 4, .wo, 0, 0, .volatile, false⟩,
  ⟨0x4c, 1, 4, .co, 0, 0, .volatile, false⟩,
  ⟨0x50, 1, 4, .st, 0, 0, .sticky, false⟩,
  ⟨0x54, 1, 4, .wo, 0, 0, .volatile, false⟩,
  ⟨0x58, 1, 4, .st, 0x3f, 0, .volatile, false⟩,
  ⟨0x5c, 1, 4, .co, 0, 0, .volatile, false⟩,
  ⟨0x60, 1, 4, .co, 0, 0, .volatile, false⟩,
  ⟨0x64, 1, 4, .wo, 0, 0, .volatile, false⟩,
  ⟨0x68, 1, 4, .co, 0, 0, .volatile, false⟩,
  ⟨0x6c, 1, 4, .co, 0, 0, .volatile, false⟩,
  ⟨0x70, 1, 4, .st, 0, 0, .volatile, false⟩,
  ⟨0x74, 1, 4, .st, 0, 0, .volatile, false⟩,
  ⟨0x78, 1, 4, .st, 0, 0, .volatile, false⟩,
  ⟨0x7c, 1, 4, .st, 0, 0, .volatile, false⟩] ++
  [
  ⟨0x80, 1, 4, .st, 0, 0, .volatile, false⟩,
  ⟨0x84, 1, 4, .st, 0, 0, .volatile, false⟩]

def rows3A : List RegRow :=
  [
  ⟨0x40, 1, 4, .st, 0xffe, 0, .volatile, false⟩,
  ⟨0x44, 1, 4, .co, 0, 0, .volatile, false⟩,
  ⟨0x48, 1, 4, .st, 0xf, 0, .volatile, false⟩,
  ⟨0x4c, 1, 4, .co, 0, 0, .volatile, false⟩,
  ⟨0x50, 1, 4, .co, 0, 0, .volatile, false⟩,
  ⟨0x54, 1, 4, .wo, 0, 0, .volatile, false⟩,
  ⟨0x58, 1, 4, .st, 0, 0, .volatile, false⟩,
  ⟨0x5c, 1, 4, .st, 0, 0, .volatile, false⟩,
  ⟨0x60, 1, 4, .st, 0, 0, .volatile, false⟩]

def rows3B : List RegRow :=
  [
  ⟨0x40, 1, 4, .st, 0, 0, .aon, false⟩,
  ⟨0x44, 1, 4, .st, 7, 0, .aon, false⟩,
  ⟨0x48, 1, 4, .st, 0xffffffff, 0, .aon, false⟩,
  ⟨0x4c, 1, 4, .st, 0xffffffff, 0, .aon, false⟩]

/-- Every register of the 60 pages (R40–R43 and the register tables of the chapters). -/
def regGroups : List RegGroup :=
  [⟨0, 60, rows00x60⟩,
   ⟨0, 1, rows00⟩,
   ⟨1, 1, rows01⟩,
   ⟨2, 1, rows02⟩,
   ⟨3, 1, rows03⟩,
   ⟨4, 1, rows04⟩,
   ⟨5, 1, rows05⟩,
   ⟨6, 1, rows06⟩,
   ⟨6, 6, rows06x6⟩,
   ⟨0xc, 1, rows0C⟩,
   ⟨0xd, 17, rows0Dx17⟩,
   ⟨0x1e, 1, rows1E⟩,
   ⟨0x1f, 1, rows1F⟩,
   ⟨0x20, 1, rows20⟩,
   ⟨0x21, 4, rows21x4⟩,
   ⟨0x25, 1, rows25⟩,
   ⟨0x26, 1, rows26⟩,
   ⟨0x27, 1, rows27⟩,
   ⟨0x28, 1, rows28⟩,
   ⟨0x29, 1, rows29⟩,
   ⟨0x2a, 1, rows2A⟩,
   ⟨0x2b, 3, rows2Bx3⟩,
   ⟨0x2e, 1, rows2E⟩,
   ⟨0x30, 1, rows30⟩,
   ⟨0x2f, 1, rows2F⟩,
   ⟨0x31, 1, rows31⟩,
   ⟨0x32, 2, rows32x2⟩,
   ⟨0x34, 1, rows34⟩,
   ⟨0x35, 1, rows35⟩,
   ⟨0x36, 1, rows36⟩,
   ⟨0x37, 1, rows37⟩,
   ⟨0x38, 1, rows38⟩,
   ⟨0x39, 1, rows39⟩,
   ⟨0x3a, 1, rows3A⟩,
   ⟨0x3b, 1, rows3B⟩]

/-- The row whose registers include offset `o`. -/
def findRow (o : Nat) : List RegRow → Option RegRow
  | [] => none
  | r :: t => if r.off ≤ o ∧ o < r.off + r.stride * r.cnt ∧ (o - r.off) % r.stride = 0 then some r else findRow o t

def findInGroups (p o : Nat) : List RegGroup → Option RegRow
  | [] => none
  | g :: t =>
    if g.page ≤ p ∧ p < g.page + g.np then
      match findRow o g.rows with
      | some r => some r
      | none => findInGroups p o t
    else findInGroups p o t

/-- The register at an address of the active half of a page. -/
def activeRow (a : Nat) : Option RegRow := findInGroups (a / 4096) (a % 4096) regGroups

/-- A register, or the shadow image at its offset + 0x800 (R43). -/
inductive RegAt where
  | none
  | active (r : RegRow)
  | shadow (r : RegRow)
deriving DecidableEq, Repr

/-- What stands at an offset of a page. -/
def regAt (a : Nat) : RegAt :=
  match activeRow a with
  | some r => .active r
  | none =>
    if 0x800 ≤ a % 4096 then
      match activeRow (a - 0x800) with
      | some r => if r.sh then .shadow r else .none
      | none => .none
    else .none

/-- The reset class of the value stored at an address. The registers on page 0x3B are AON (R407), but for EVT_EN, EVT_ROUTE
and OWNER, which R413 lists by name (log entry 38, DEDUCED). -/
def regClass (a : Nat) : RegClass :=
  match regAt a with
  | .active r =>
    if a / 4096 = 0x3B && a % 4096 ≠ 0x14 && a % 4096 ≠ 0x1C && a % 4096 ≠ 0x20 then .aon else r.cls
  | .shadow r => r.cls
  | .none => .volatile

/-- A register's value at reset. The registers that do not reset to 0 are the ones listed. -/
def regReset (a : Nat) : Word :=
  let p := a / 4096
  let o := a % 4096
  if 4 ≤ p ∧ p ≤ 11 ∧ p ≠ 5 ∧ 0x104 ≤ o ∧ o < 0x224 ∧ o % 16 = 4 then 0xFF000000
  else if a = Reg.LCT_CTL then 4
  else if a = Reg.LCT_AUDIT then 0x16
  else if a = Reg.ING_WCAP then 64
  else if a = Reg.THM_STAT then 256
  else if a = Reg.SYS_RESET_CAUSE then 1
  else if a = Reg.AON_STAT then 0xF0
  else if a = Reg.MST_PRIV then 3
  else if a = Reg.MFS_ROLES then 0x210
  else if a = Reg.SCN_FIFO_MIN then 48
  else if p = 0x25 ∧ 0x104 ≤ o ∧ o < 0x144 ∧ o % 16 = 4 then 1
  else if a = Reg.DCX_STAT 16 then 1
  else 0

end Sys2Proof.Machine
end

