-- ==== Sys2Proof/Machine/Ops.lean ====
section
/-!
DEFINITION. The named operations that every meaning is written over: registers and tables, status counters, events
and their records, the maintenance queue, and the two memories.
-/
namespace Sys2Proof.Machine

/-! ### Registers and tables -/

/-- The value stored for the register at address `a`. -/
def getReg (s : State) (a : Nat) : Word := sGet regReset a s.regs

def setReg (a : Nat) (v : Word) (s : State) : State := { s with regs := sPut regReset a v s.regs }

def regN (s : State) (a : Nat) : Nat := (getReg s a).toNat

def regFld (s : State) (a lsb w : Nat) : Nat := fld (getReg s a) lsb w

def regBit (s : State) (a n : Nat) : Bool := bit (getReg s a) n

def setRegN (a n : Nat) (s : State) : State := setReg a (w32 n) s

def setRegFld (a lsb w x : Nat) (s : State) : State := setReg a (setFld (getReg s a) lsb w x) s

def setRegBit (a n : Nat) (b : Bool) (s : State) : State := setReg a (setBit (getReg s a) n b) s

/-- The shadow image of the register at `a` (R43). -/
def getShd (s : State) (a : Nat) : Word := getReg s (a + 0x800)

/-- Tables reached through index and data registers. -/
abbrev tabCMX : Nat := 0
abbrev tabEOTF : Nat := 1
abbrev tabSPR : Nat := 2
abbrev tabXFR : Nat := 3
abbrev tabMTB : Nat := 4
abbrev tabOD : Nat := 5
abbrev tabTC : Nat := 6
abbrev tabLEDSET : Nat := 7
abbrev tabNSB : Nat := 8

/-- Key of a table word: table number, copy (shadow or active), index. -/
def tabKey (t : Nat) (active : Bool) (i : Nat) : Nat := t * 2 ^ 19 + (if active then 2 ^ 18 else 0) + i

def getTab (s : State) (t : Nat) (active : Bool) (i : Nat) : Word := sGet zeroW (tabKey t active i) s.tabs

def setTab (t : Nat) (active : Bool) (i : Nat) (v : Word) (s : State) : State :=
  { s with tabs := sPut zeroW (tabKey t active i) v s.tabs }

/-! ### Arrays of like units -/

def getTb (s : State) (k : Nat) : Tb := sGet (fun _ => {}) k s.tb
def putTb (k : Nat) (v : Tb) (s : State) : State := { s with tb := sPut (fun _ => {}) k v s.tb }
def getMsgq (s : State) (k : Nat) : MsgQ := sGet (fun _ => {}) k s.msgq
def putMsgq (k : Nat) (v : MsgQ) (s : State) : State := { s with msgq := sPut (fun _ => {}) k v s.msgq }
def getHandle (s : State) (h : Nat) : Handle := sGet (fun _ => {}) h s.handles
def putHandle (h : Nat) (v : Handle) (s : State) : State := { s with handles := sPut (fun _ => {}) h v s.handles }
def getDcx (s : State) (n : Nat) : Dcx := sGet (fun _ => {}) n s.dcx
def putDcx (n : Nat) (v : Dcx) (s : State) : State := { s with dcx := sPut (fun _ => {}) n v s.dcx }
def getLane (s : State) (n : Nat) : LaneAux := sGet (fun _ => {}) n s.lanes
def putLane (n : Nat) (v : LaneAux) (s : State) : State := { s with lanes := sPut (fun _ => {}) n v s.lanes }
def getTile (s : State) (t : Nat) : Tile := sGet (fun _ => {}) t s.tiles
def putTile (t : Nat) (v : Tile) (s : State) : State := { s with tiles := sPut (fun _ => {}) t v s.tiles }
def getDram (s : State) (n : Nat) : DramAux := sGet (fun _ => {}) n s.dram
def putDram (n : Nat) (v : DramAux) (s : State) : State := { s with dram := sPut (fun _ => {}) n v s.dram }
def getTrk (s : State) (k : Nat) : Tracker := sGet (fun _ => {}) k s.trk
def putTrk (k : Nat) (v : Tracker) (s : State) : State := { s with trk := sPut (fun _ => {}) k v s.trk }
def getEth (s : State) (p : Nat) : Eth := sGet (fun _ => {}) p s.eth
def putEth (p : Nat) (v : Eth) (s : State) : State := { s with eth := sPut (fun _ => {}) p v s.eth }
def getTrig (s : State) (k : Nat) : Trig := sGet (fun _ => {}) k s.trig
def putTrig (k : Nat) (v : Trig) (s : State) : State := { s with trig := sPut (fun _ => {}) k v s.trig }

/-! ### Free values -/

/-- A value the manual leaves open: the next of the run (log entry 4, DESIGN CHOICE). -/
def freeVal (s : State) : Nat := Config.freeNat s.freeCtr

def tickFree (s : State) : State := { s with freeCtr := s.freeCtr + 1 }

/-- Activity codes of R429. -/
abbrev actHCAL : Nat := 1
abbrev actPCAL : Nat := 2
abbrev actMCAL : Nat := 3
abbrev actFCAL : Nat := 4
abbrev actPVER : Nat := 5
abbrev actHVER : Nat := 6
abbrev actEVER : Nat := 7
abbrev actBVER : Nat := 8
abbrev actDVER : Nat := 9
abbrev actFPPR : Nat := 10
abbrev actMPPR : Nat := 11

/-! ### Events (R41, R61–R64) -/

/-- Event numbers from `first`, bits of EVT_RAW of `page` from `bit0`. -/
structure EvRange where
  first : Nat
  count : Nat
  page  : Nat
  bit0  : Nat
deriving DecidableEq, Repr

/-- Every event source. Pages of one block follow one another (R41). -/
def evRanges : List EvRange :=
  [⟨1, 1, 0x00, 1⟩, ⟨8, 1, 0x00, 8⟩, ⟨12, 3, 0x3A, 0⟩, ⟨16, 3, 0x01, 0⟩, ⟨48, 4, 0x03, 0⟩, ⟨64, 7, 0x04, 0⟩,
   ⟨96, 3, 0x05, 0⟩, ⟨112, 8, 0x06, 0⟩, ⟨128, 8, 0x07, 0⟩, ⟨144, 8, 0x08, 0⟩, ⟨160, 8, 0x09, 0⟩,
   ⟨176, 8, 0x0A, 0⟩, ⟨192, 8, 0x0B, 0⟩, ⟨240, 3, 0x0C, 0⟩] ++
  (List.range 17).map (fun k => ⟨256 + 2 * k, 2, 0x0D + k, 0⟩) ++
  [⟨290, 7, 0x1E, 0⟩, ⟨306, 4, 0x1F, 0⟩, ⟨310, 7, 0x20, 0⟩, ⟨318, 2, 0x21, 0⟩, ⟨320, 2, 0x22, 0⟩,
   ⟨322, 2, 0x23, 0⟩, ⟨324, 2, 0x24, 0⟩, ⟨326, 2, 0x25, 0⟩, ⟨382, 3, 0x26, 0⟩, ⟨392, 1, 0x27, 0⟩,
   ⟨408, 7, 0x28, 0⟩, ⟨416, 1, 0x29, 0⟩, ⟨424, 8, 0x2A, 0⟩, ⟨456, 8, 0x2E, 0⟩, ⟨468, 7, 0x30, 0⟩,
   ⟨480, 2, 0x32, 0⟩, ⟨482, 2, 0x33, 0⟩, ⟨484, 4, 0x34, 0⟩, ⟨488, 4, 0x35, 0⟩, ⟨492, 6, 0x36, 0⟩,
   ⟨500, 3, 0x37, 0⟩, ⟨504, 3, 0x38, 0⟩, ⟨508, 4, 0x39, 0⟩]

/-- Page and bit of an event number. -/
def evLoc (e : Nat) : Option (Nat × Nat) :=
  (evRanges.find? (fun r => r.first ≤ e && e < r.first + r.count)).map (fun r => (r.page, r.bit0 + (e - r.first)))

/-- The EVT_RAW bits of a page that have a source (R43). -/
def evMask (p : Nat) : Nat :=
  evRanges.foldl (fun m r => if r.page = p then m ||| ((2 ^ r.count - 1) <<< r.bit0) else m) 0

/-- The event number of a bit of a page's EVT_RAW. -/
def evNum (p b : Nat) : Option Nat :=
  (evRanges.find? (fun r => r.page = p && r.bit0 ≤ b && b < r.bit0 + r.count)).map (fun r => r.first + (b - r.bit0))

/-- EVT_PEND of a page. -/
def evtPend (s : State) (p : Nat) : Word := getReg s (Reg.EVT_RAW p) &&& getReg s (Reg.EVT_EN p)

/-- The genlock time base: TIM_GL_CTL.TB in force (R350). -/
def glTb (s : State) : Nat := regFld s Reg.TIM_GL_CTL 0 2

def tbNs (v : Nat) : Nat := v / 2 ^ 48 % 1000000000
def tbSec (v : Nat) : Nat := v / (2 ^ 48 * 1000000000)
def tbFrac (v : Nat) : Nat := v % 2 ^ 48 / 2 ^ 32

/-- The record of an event that fires now (log entry 43, DEDUCED). -/
def evtRec (s : State) (ev : Nat) (detail : Nat) : EvtRec :=
  let v := (getTb s (glTb s)).value
  { tb := BitVec.ofNat 2 (glTb s), num := BitVec.ofNat 9 ev, ns := BitVec.ofNat 30 (tbNs v),
    sec := BitVec.ofNat 48 (tbSec v), frac := BitVec.ofNat 16 (tbFrac v), detail := w64 detail }

/-- EVT_LOST_Mk saturates (R63). -/
def bumpLost (k : Nat) (s : State) : State :=
  let a := Reg.EVT_LOST k
  setRegN a (if regN s a < 0xFFFF then regN s a + 1 else 0xFFFF) s

/-- Queue a record for host master M(3 + k), or count it lost (R63). -/
def queueRec (k : Nat) (r : EvtRec) (s : State) : State :=
  let q := getMsgq s k
  if q.recs.length < 64 then
    putMsgq k { q with recs := q.recs ++ [{ r with lost := q.lost, mseq := q.mseq }], mseq := q.mseq + 1,
                       lost := false } s
  else putMsgq k { q with lost := true } (bumpLost k s)

/-- The host masters in EVT_ROUTE.SUB of a page, as k of M(3 + k). -/
def subscribers (s : State) (p : Nat) : List Nat := (List.range 8).filter (fun k => regBit s (Reg.EVT_ROUTE p) (3 + k))

/-- Of them, those whose queue is full. -/
def fullSubs (s : State) (p : Nat) : List Nat := (subscribers s p).filter (fun k => 64 ≤ (getMsgq s k).recs.length)

/-- Queue a page's record for each subscriber (R62). -/
def queueAll (p : Nat) (r : EvtRec) (s : State) : State := (subscribers s p).foldl (fun s k => queueRec k r s) s

/-- A fault event of the page is pending (R43). -/
def pageFault (s : State) (p : Nat) : Bool :=
  (List.range 32).any (fun b => bit (evtPend s p) b && ((evNum p b).map Config.faultEvent).getD false)

/-- PAGE_CTL.EN of a page: the unit operates (R43). -/
def enabled (s : State) (p : Nat) : Bool := regBit s (Reg.PAGE_CTL p) 0

/-- A lane is between DARK and UP: it detects, trains or aligns. -/
def laneTraining (s : State) (a : Nat) : Bool := regFld s a 0 3 ≠ 0 && regFld s a 0 3 ≠ 6

/-- The lanes of page `p` from LSTAT `a`. -/
def anyTraining (s : State) (a : Nat → Nat) (first : Nat) : Bool :=
  (List.range 18).any (fun k => laneTraining s (a (first + k)))

/-- A memory system has a rewrite or a repair in progress. -/
def memBusy (s : State) (m : MemAux) (act : Nat) : Bool :=
  !m.rewrite.isEmpty || s.mnt.queue.any (fun q => q.act = act && q.running)

/-- The unit of page `p` has work in progress (R43): what of its work the state holds (log entry 44, DEDUCED). -/
def unitBusy (s : State) (p : Nat) : Bool :=
  match p with
  | 0x03 => s.holdOpen
  | 0x04 => anyTraining s Reg.LNH_LSTAT 0 || s.link.check
  | 0x05 => !s.link.replay.isEmpty || !s.link.reqs.isEmpty || !s.link.out.isEmpty
  | 0x0C => !s.wcapQ.isEmpty
  | 0x1E => s.sclCur.isSome
  | 0x1F => s.lctc.loading || s.lctc.pass.isSome
  | 0x20 => s.comp.st = .composing
  | 0x26 => !s.mirror.isEmpty || !s.comp.finQ.isEmpty
  | 0x28 => s.scan.active
  | 0x29 => s.scan.active
  | 0x2A => s.tiles.any (fun e => e.2.st = .init)
  | 0x2E => memBusy s s.memF actFPPR
  | 0x30 => memBusy s s.memS actMPPR
  | 0x36 => s.pwr.shut
  | 0x37 => !s.thm.runs.isEmpty
  | 0x38 => s.pwr.due.isSome || s.pwr.leaving.isSome
  | 0x39 => !s.ozd.queue.isEmpty
  | 0x3A => s.mnt.queue.any MntReq.running
  | _ =>
    if 6 ≤ p ∧ p ≤ 0x0B then anyTraining s Reg.LNP_LSTAT (18 * (p - 6))
    else if 0x0D ≤ p ∧ p ≤ 0x1D then s.dcx.any (fun e => e.2.resident = some (p - 0x0D) && !e.2.input.isEmpty)
    else if 0x21 ≤ p ∧ p ≤ 0x25 then s.comp.running.any (fun r => r.e / 16 = p - 0x21)
    else if 0x2B ≤ p ∧ p ≤ 0x2D then
      s.tiles.any (fun e => e.1 / 8 = p - 0x2B && !(e.2.pa.pend.isEmpty && e.2.pb.pend.isEmpty))
    else false

/-- PAGE_STAT as it stands: BUSY, FAULT and SRST_BUSY. -/
def pageStatNow (s : State) (p : Nat) : Word :=
  setBit (setBit (setBit 0 0 (unitBusy s p)) 1 (pageFault s p)) 2 (s.resetPending.contains p)

/-- At a page's first fault event under FRZ_ON_FAULT its status is held (R43). -/
def captureOnFault (p ev : Nat) (s : State) : State :=
  if Config.faultEvent ev && regBit s (Reg.PAGE_CTL p) 2 && !s.captured.contains p then
    let v := setBit (pageStatNow s p) 3 true
    setReg (Reg.PAGE_STAT p) v { s with captured := p :: s.captured }
  else s

/-- An event fires at bit `b` of page `p` (R61, R62). A bit that is set already queues nothing. -/
def fireAt (p b ev detail : Nat) (s : State) : State :=
  if regBit s (Reg.EVT_RAW p) b then s
  else
    let r := evtRec s ev detail
    let s1 := setRegBit (Reg.EVT_RAW p) b true { s with evRecs := sPut (fun _ => {}) ev r s.evRecs }
    captureOnFault p ev (if regBit s1 (Reg.EVT_EN p) b then queueAll p r s1 else s1)

/-- The masters that would lose the record of event `ev` if it fired now. -/
def losers (s : State) (p b : Nat) : List Nat :=
  if regBit s (Reg.EVT_RAW p) b || !regBit s (Reg.EVT_EN p) b then [] else fullSubs s p

/-- SYS_EV_MSG_LOST for each master that lost a record (R63, R460). Its own records may be lost in turn. -/
def msgLost (ks : List Nat) (s : State) : State :=
  ks.foldl (fun s k => fireAt 0 8 8 (3 + k + 2 ^ 16 * regN s (Reg.EVT_LOST k)) s) s

/-- Raise event `ev` with its detail word. -/
def raise (ev detail : Nat) (s : State) : State :=
  match evLoc ev with
  | none => s
  | some (p, b) => msgLost (losers s p b) (fireAt p b ev detail s)

/-- EVT_PEND bits that turn to 1 because EVT_EN of page `p` was written queue the records of their events (R62) (log entry 43, DEDUCED). -/
def queuePending (p : Nat) (before : Word) (s : State) : State :=
  (List.range 32).foldl (fun s b =>
    if bit (evtPend s p) b && !bit before b then
      match evNum p b with
      | none => s
      | some ev => msgLost (fullSubs s p) (queueAll p (sGet (fun _ => {}) ev s.evRecs) s)
    else s) s

/-! ### Status counters -/

/-- A counter of `w` bits that saturates. Held while its page's status is held (R43). -/
def bumpSatW (w a : Nat) (s : State) : State :=
  if s.captured.contains (a / 4096) then s
  else setRegN a (if regN s a < 2 ^ w - 1 then regN s a + 1 else 2 ^ w - 1) s

def bumpSat (a : Nat) (s : State) : State := bumpSatW 32 a s

/-- A 32-bit counter that wraps. -/
def bumpWrap (a : Nat) (s : State) : State :=
  if s.captured.contains (a / 4096) then s else setReg a (getReg s a + 1) s

def bumpByWrap (a n : Nat) (s : State) : State :=
  if s.captured.contains (a / 4096) then s else setReg a (getReg s a + w32 n) s

def bumpBySat (a n : Nat) (s : State) : State :=
  if s.captured.contains (a / 4096) then s else setRegN a (min (regN s a + n) 0xFFFFFFFF) s

/-! ### The maintenance queue (R432) -/

/-- A request to the scheduler: merged with an equal one, refused when the queue is full. -/
def mntPush (act unit : Nat) (host : Bool) (s : State) : State :=
  if s.mnt.queue.any (fun q => q.act = act && q.unit = unit) then s
  else if s.mnt.queue.length < 16 then
    { s with mnt := { s.mnt with queue := s.mnt.queue ++ [{ act := act, unit := unit, host := host }] } }
  else
    raise 13 (act + 2 ^ 8 * 1 + 2 ^ 16 * unit)
      (bumpSat Reg.MNT_N_REFUSED { s with mnt := { s.mnt with lastErr := 1 } })

/-- Activities of a code may start: enabled in MNT_CTL, and no dip episode (R435). -/
def mntMayStart (s : State) (act : Nat) : Bool := regBit s Reg.MNT_CTL act && s.pwr.dip.isNone

/-- The running activity of a code and unit. -/
def mntRunning (s : State) (act unit : Nat) : Bool :=
  s.mnt.queue.any (fun q => q.act = act && q.unit = unit && q.running)

/-- Number of a unit of a calibration domain. -/
def unitKey (d u : Nat) : Nat := 128 * d + u

abbrev noRun : Nat → Option (Int × DWord) := fun _ => none

/-- The calibration run of a unit is over without a result: the unit has its former settings (R188, R379, R433). -/
def dropRun (act unit : Nat) (s : State) : State :=
  if 1 ≤ act ∧ act ≤ 4 then
    { s with thm := { s.thm with started := sPut noRun (unitKey (act - 1) unit) none s.thm.started } }
  else s

/-- An activity is aborted and requeued at the tail, or waits to be while the queue is full (R433), its unit's last good
settings restored. Cause 1 takeover, 2 dip or power state. -/
def mntAbort (act unit cause : Nat) (s : State) : State :=
  match s.mnt.queue.find? (fun q => q.act = act && q.unit = unit && q.running) with
  | none => s
  | some q =>
    let rest := s.mnt.queue.filter (fun x => !(x.act = act && x.unit = unit))
    let q1 := { q with running := false, aged := false }
    let mnt := if rest.length < 16 then { s.mnt with queue := rest ++ [q1] }
      else { s.mnt with queue := rest, requeue := s.mnt.requeue ++ [q1] }
    raise 14 (act + 2 ^ 8 * cause + 2 ^ 16 * unit) (bumpSat Reg.MNT_N_ABORT (dropRun act unit { s with mnt := mnt }))

/-- An activity completes and leaves the queue (R429, R431). -/
def mntFinish (act unit : Nat) (pass : Bool) (s : State) : State :=
  if mntRunning s act unit then
    raise 12 (act + 2 ^ 4 * (!pass).toNat + 2 ^ 16 * unit) (bumpWrap Reg.MNT_N_DONE { s with mnt := { s.mnt with
      queue := s.mnt.queue.filter (fun x => !(x.act = act && x.unit = unit)) } })
  else s

/-- A request leaves the queue with MNT_E_NOSPARE (R434). -/
def mntNoSpare (act unit : Nat) (s : State) : State :=
  raise 13 (act + 2 ^ 8 * 2 + 2 ^ 16 * unit)
    (bumpSat Reg.MNT_N_REFUSED { s with mnt := { s.mnt with
      queue := s.mnt.queue.filter (fun x => !(x.act = act && x.unit = unit)), lastErr := 2 } })

/-! ### Memories (11_memory.md) -/

/-- What a byte of the frame store or of scene memory that nothing has written reads as (log entry 2, DESIGN CHOICE). -/
abbrev zeroB : Nat → Byte := fun _ => 0

def readCells (l : List Host.Cell) : Nat → Nat → List Byte
  | _, 0 => []
  | a, n + 1 => sGet zeroB a l :: readCells l (a + 1) n

def writeCells : Nat → List Byte → List Host.Cell → List Host.Cell
  | _, [], l => l
  | a, b :: t, l => writeCells (a + 1) t (sPut zeroB a b l)

/-- Bytes of a codeword: a granule of 60, or an access of 128 (R327). -/
def cwSize : MemSys → Nat
  | .frame => 60
  | .scene => 128

/-- The codewords that `n` bytes at `off` touch. -/
def cwOf (sys : MemSys) (off n : Nat) : List Nat :=
  if n = 0 then [] else
    (List.range ((off + n - 1) / cwSize sys - off / cwSize sys + 1)).map (fun i => off / cwSize sys + i)

/-- Codeword `c` lies wholly inside [off, off + n). -/
def cwWhole (sys : MemSys) (off n c : Nat) : Bool := off ≤ c * cwSize sys && (c + 1) * cwSize sys ≤ off + n

def ueOf (s : State) : MemSys → List Nat
  | .frame => s.fsUE
  | .scene => s.scUE

def setUE (sys : MemSys) (l : List Nat) (s : State) : State :=
  match sys with
  | .frame => { s with fsUE := l }
  | .scene => { s with scUE := l }

def getMem (s : State) : MemSys → MemAux
  | .frame => s.memF
  | .scene => s.memS

def setMem (sys : MemSys) (m : MemAux) (s : State) : State :=
  match sys with
  | .frame => { s with memF := m }
  | .scene => { s with memS := m }

/-- Frame-store pseudo-channel of an offset (R313). -/
def fsPc (off : Nat) : Nat := off / 960 % 32

/-- Scene-memory channel of an offset (R311). -/
def scChan (off : Nat) : Nat := nfld off 8 2 ^^^ nfld off 16 2

/-- UNIT of MFS_RPL_DATA and MSC_RPL_DATA for an offset (log entry 26, DEDUCED). -/
def rplUnit (sys : MemSys) (off : Nat) : Nat :=
  match sys with
  | .frame => fsPc off
  | .scene => 2 * scChan off + 8 * (Config.codewordRank off).toNat

def rowOf (sys : MemSys) (off : Nat) : Nat :=
  match sys with
  | .frame => (Config.codewordRow 0 off).toNat + 2 ^ 17 * ((Config.codewordBank 0 off).toNat % 16)
  | .scene => (Config.codewordRow 1 off).toNat + 2 ^ 17 * (Config.codewordBank 1 off).toNat

/-- The low 27 bits of a repair list entry: UNIT, BANK, ROW. -/
def rplRow (sys : MemSys) (off : Nat) : Nat := rowOf sys off + 2 ^ 22 * rplUnit sys off

def rplGet (s : State) (sys : MemSys) (i : Nat) : Word := sGet zeroW i (getMem s sys).rpl

def rplSet (sys : MemSys) (i : Nat) (v : Word) (s : State) : State :=
  let m := getMem s sys
  setMem sys { m with rpl := sPut zeroW i v m.rpl } s

/-- The page of a system's registers, and the event number that its bit 0 has. -/
def memBase : MemSys → Nat
  | .frame => 0x2E000
  | .scene => 0x30000

def memEv : MemSys → Nat
  | .frame => 456
  | .scene => 468

def pprAct : MemSys → Nat
  | .frame => actFPPR
  | .scene => actMPPR

/-- A row enters the repair list as a candidate, once; a full list counts it (R330, R331). -/
def listRow (sys : MemSys) (off cause : Nat) (s : State) : State :=
  let row := rplRow sys off
  if (List.range 16).any (fun i => fld (rplGet s sys i) 30 2 ≠ 0 && fld (rplGet s sys i) 0 27 = row) then s
  else
    match (List.range 16).find? (fun i => fld (rplGet s sys i) 30 2 = 0) with
    | none => bumpSat (memBase sys + 0x64) s
    | some i =>
      let s1 := raise (memEv sys + 1) i (rplSet sys i (w32 (row + 2 ^ 29 * cause + 2 ^ 30)) s)
      if regBit s1 (memBase sys + 0x40) 2 then mntPush (pprAct sys) i false s1 else s1

/-- Raise the uncorrectable event of a system, at most once per millisecond (R328). `now` counts 4 ns. -/
def raiseUncorr (sys : MemSys) (off reader : Nat) (s : State) : State :=
  let m := getMem s sys
  let may := match m.told with
    | none => true
    | some t => decide (t + 250000 ≤ s.now)
  if may then raise (memEv sys) (off + 2 ^ 36 * reader) (setMem sys { m with told := some s.now } s) else s

/-- An uncorrectable read of the codeword at `off` by a reader of R328. -/
def uncorr (sys : MemSys) (off reader : Nat) (s : State) : State :=
  let b := memBase sys
  let s1 := bumpSat (b + 0x54) s
  let s2 := match sys with
    | .frame => s1
    | .scene => bumpSat (Reg.MSC_CH_N_UNCORR (scChan off)) s1
  let s3 := setRegN (b + 0x70) (off / 2 ^ 32) (setRegN (b + 0x6C) (off % 2 ^ 32) s2)
  listRow sys off 1 (raiseUncorr sys off reader s3)

def cells (s : State) : MemSys → List Host.Cell
  | .frame => s.fs
  | .scene => s.scene

def setCells (sys : MemSys) (l : List Host.Cell) (s : State) : State :=
  match sys with
  | .frame => { s with fs := l }
  | .scene => { s with scene := l }

/-- Codewords of a range that read as uncorrectable. -/
def ueIn (s : State) (sys : MemSys) (off n : Nat) : List Nat := (cwOf sys off n).filter (ueOf s sys).contains

/-- What a partial write over an uncorrectable codeword leaves (R315, R462). -/
def partialUE (sys : MemSys) (c : Nat) (s : State) : State :=
  match sys with
  | .frame =>
    raise 463 (c * 60) (bumpSat Reg.MFS_N_RMW_UE (uncorr .frame (c * 60) 2 { s with fsUE := s.fsUE.filter (· ≠ c) }))
  | .scene => uncorr .scene (c * 128) 2 s

/-- A write of bytes at an offset (R315, R462): whole codewords become good; a partial write of a bad one follows
its own rule. -/
def memWrite (sys : MemSys) (off : Nat) (data : List Byte) (s : State) : State :=
  let bad := ueIn s sys off data.length
  let s1 := setUE sys ((ueOf s sys).filter (fun c => !(bad.contains c && cwWhole sys off data.length c))) s
  let s2 := (bad.filter (fun c => !cwWhole sys off data.length c)).foldl (fun s c => partialUE sys c s) s1
  setCells sys (writeCells off data (cells s2 sys)) s2

/-- The bytes as stored. -/
def memBytes (s : State) (sys : MemSys) (off n : Nat) : List Byte := readCells (cells s sys) off n

/-- A demand read: the state with its uncorrectable codewords recorded, and whether there were any (R328). -/
def memRead (sys : MemSys) (off n reader : Nat) (s : State) : State × Bool :=
  let bad := ueIn s sys off n
  (bad.foldl (fun s c => uncorr sys (c * cwSize sys) reader s) s, !bad.isEmpty)

end Sys2Proof.Machine
end

