-- ==== Sys2Proof/Machine/Store.lean ====
section
/-!
DEFINITION. The Ozide store as a record store: words, partitions, rings, twin-page records, the event log, and the
7216's own record writes, deferred during a dip (14_ozide.md).
-/
namespace Sys2Proof.Machine

/-- CRC-16 of R175 over bytes. -/
def crc16 (bytes : List Byte) : Nat := crcLsb 0x8408 0xFFFF bytes

/-- CRC-32C of R131 over bytes. -/
def crc32c (bytes : List Byte) : Nat := crcLsb 0x82F63B78 0xFFFFFFFF bytes ^^^ 0xFFFFFFFF

/-- a is newer than b in 32-bit serial arithmetic (14_ozide.md, Records). -/
def newer (a b : Word) : Bool := let d := (a - b).toNat; 1 ≤ d && d < 2 ^ 31

abbrev zeroD : Nat → DWord := fun _ => 0

/-- A word as a read finds it: the last write handed to the store, else what is stored. -/
def ozWord (s : State) (w : Nat) : DWord :=
  s.ozd.wip.foldl (fun v e => if e.1 = w then e.2 else v) (sGet zeroD w s.ozd.words)

/-- A word write is handed to the store, which makes one after another (R382). -/
def ozPut (w : Nat) (v : DWord) (s : State) : State :=
  { s with ozd := { s.ozd with
      wipAt := if s.ozd.wip.isEmpty then s.now else s.ozd.wipAt, wip := s.ozd.wip ++ [(w, v)] } }

/-- A word write is complete. It leaves the word good. -/
def ozCommit (o : Ozide) (e : Nat × DWord) : Ozide :=
  { o with words := sPut zeroD e.1 e.2 o.words, ue := o.ue.filter (· ≠ e.1), ce := o.ce.filter (· ≠ e.1) }

/-- The writes whose 40 ns have passed are complete (R382). -/
def ozSettle (s : State) : State :=
  let k := (s.now - s.ozd.wipAt) / 10
  { s with ozd := { (s.ozd.wip.take k).foldl ozCommit s.ozd with
      wip := s.ozd.wip.drop k, wipAt := s.ozd.wipAt + 10 * k } }

/-- Every write handed over completes (R406, R410). -/
def ozFinish (s : State) : State := { s with ozd := { s.ozd.wip.foldl ozCommit s.ozd with wip := [] } }

/-- The word in progress completes, and no more (R406). -/
def ozCut (s : State) : State := { s with ozd := { (s.ozd.wip.take 1).foldl ozCommit s.ozd with wip := [] } }

/-- A word reads as uncorrectable. -/
def ozBad (s : State) (w : Nat) : Bool := s.ozd.ue.contains w && s.ozd.wip.all (fun e => e.1 ≠ w)

/-- What reading a word does besides delivering it (R383). `now` counts 4 ns. -/
def ozTouch (w : Nat) (s : State) : State :=
  if ozBad s w then
    let s1 := setRegN Reg.OZD_ERR_ADDR (8 * w) (bumpSat Reg.OZD_N_UNCORR s)
    let may := match s1.ozd.told with
      | none => true
      | some t => decide (t + 250000 ≤ s1.now)
    if may then raise 510 (8 * w) { s1 with ozd := { s1.ozd with told := some s1.now } } else s1
  else if s.ozd.ce.contains w then
    bumpSat Reg.OZD_N_CORR { s with ozd := { s.ozd with ce := s.ozd.ce.filter (· ≠ w) } }
  else s

/-- The 7216 reads the words that `p` names (R383). -/
def ozReads (p : Nat → Bool) (s : State) : State := ((s.ozd.ue ++ s.ozd.ce).filter p).foldl (fun s w => ozTouch w s) s

/-- The 7216 reads `n` words from `lo`. -/
def ozReadAt (lo n : Nat) (s : State) : State := ozReads (fun w => lo ≤ w && w < lo + n) s

/-- Words from `w` on, one after another. -/
def ozPutWords : Nat → List DWord → State → State
  | _, [], s => s
  | w, v :: t, s => ozPutWords (w + 1) t (ozPut w v s)

def ozWords (s : State) (w n : Nat) : List DWord := (List.range n).map (fun i => ozWord s (w + i))

def ozAnyUE (s : State) (w n : Nat) : Bool := (List.range n).any (fun i => ozBad s (w + i))

def dBytes (d : DWord) : List Byte := leBytes 8 d.toNat

def dsBytes (l : List DWord) : List Byte := l.flatMap dBytes

def dfld (d : DWord) (lsb w : Nat) : Nat := nfld d.toNat lsb w

/-! ### Partitions (R387, R388) -/

/-- Entry p of page 0 as stored. -/
def partEntry (s : State) (p : Nat) : Nat := dfld (ozWord s (p / 2)) (32 * (p % 2)) 32

def entryValid (e : Nat) : Bool := e.testBit 31

def entryPart (e : Nat) : Part := ⟨nfld e 13 13, nfld e 0 13 + 1, e.testBit 30⟩

def overlap (a b : Part) : Bool := a.start < b.start + b.npg && b.start < a.start + a.npg

/-- The partitions that page 0 describes. -/
def tableParts (s : State) : List (Nat × Part) :=
  ((List.range 16).filter (fun p => entryValid (partEntry s p))).map (fun p => (p, entryPart (partEntry s p)))

def pairwiseApart : List (Nat × Part) → Bool
  | [] => true
  | a :: t => t.all (fun b => !overlap a.2 b.2) && pairwiseApart t

/-- The table of page 0 is valid (R388). -/
def tableValid (s : State) : Bool :=
  (List.range 8).all (fun p => entryValid (partEntry s p)) && (entryPart (partEntry s 0)).start = 0 &&
  (tableParts s).all (fun q => q.2.start + q.2.npg ≤ 8192) && pairwiseApart (tableParts s) && !ozAnyUE s 0 8

/-- The default layout (R388). -/
def defaultParts : List (Nat × Part) :=
  [(0, ⟨0, 16, false⟩), (1, ⟨16, 1024, false⟩), (2, ⟨1040, 512, false⟩), (3, ⟨1552, 1024, false⟩),
   (4, ⟨2576, 512, false⟩), (5, ⟨3088, 3072, false⟩), (6, ⟨6160, 2016, false⟩), (7, ⟨8176, 16, false⟩)]

/-- Partition `p` in force; before the first boot scan, the default layout. -/
def partOf (s : State) (p : Nat) : Option Part :=
  sFind p (if s.ozd.parts.isEmpty then defaultParts else s.ozd.parts)

/-- First page of a partition in force. -/
def partStart (s : State) (p : Nat) : Nat := ((partOf s p).map Part.start).getD 0

/-- The partition that holds a page. -/
def pagePart (s : State) (page : Nat) : Option Nat :=
  ((if s.ozd.parts.isEmpty then defaultParts else s.ozd.parts).find?
    (fun q => q.2.start ≤ page && page < q.2.start + q.2.npg)).map Prod.fst

/-! ### Rings (R397, R404) -/

structure Slot where
  idx   : Nat
  seq   : Word
  value : DWord
deriving DecidableEq, Repr

/-- The second word of a ring slot. -/
def slotSeal (key : Nat) (seq : Word) (value : DWord) : DWord :=
  let crc := crc16 (dBytes value ++ leBytes 4 seq.toNat ++ leBytes 2 key)
  w64 (seq.toNat + 2 ^ 32 * crc + 2 ^ 48 * key)

/-- Slot `i` of the ring that starts at page `page`, if it is valid. -/
def ringSlot (s : State) (page key i : Nat) : Option Slot :=
  let v := ozWord s (8 * page + 2 * i)
  let w := ozWord s (8 * page + 2 * i + 1)
  if w = slotSeal key (lo32 w) v && !ozAnyUE s (8 * page + 2 * i) 2 then some ⟨i, lo32 w, v⟩ else none

/-- The better of two slots: the newer, and of one SEQ the larger value. -/
def slotBest (a : Option Slot) (b : Slot) : Option Slot :=
  match a with
  | none => some b
  | some a => if newer b.seq a.seq || (b.seq = a.seq && a.value < b.value) then some b else some a

/-- The slot in force of a ring. -/
def ringNewest (s : State) (page slots key : Nat) : Option Slot :=
  ((List.range slots).filterMap (ringSlot s page key)).foldl slotBest none

/-- The slot after the newest takes a new value; word 0 first, then word 1 (R397). -/
def ringWrite (page slots key : Nat) (value : DWord) (s : State) : State :=
  let (i, seq) := match ringNewest s page slots key with
    | none => (0, (1 : Word))
    | some b => ((b.idx + 1) % slots, b.seq + 1)
  ozPut (8 * page + 2 * i + 1) (slotSeal key seq value) (ozPut (8 * page + 2 * i) value s)

/-! ### Twin-page records (R395, R403) -/

/-- The seal word of a page record. -/
def sealWord (magic : Nat) (seq : Word) (content : List DWord) : DWord :=
  w64 (seq.toNat + 2 ^ 32 * crc16 (dsBytes content ++ leBytes 4 seq.toNat) + 2 ^ 48 * magic)

/-- The content and SEQ of a page record that is valid. -/
def pageRec (s : State) (page magic : Nat) : Option (Word × List DWord) :=
  let c := ozWords s (8 * page) 7
  let w := ozWord s (8 * page + 7)
  if w = sealWord magic (lo32 w) c && !ozAnyUE s (8 * page) 8 then some (lo32 w, c) else none

/-- Write one page record: seal 0, words 0–6, the seal. -/
def pageWrite (page magic : Nat) (seq : Word) (content : List DWord) (s : State) : State :=
  ozPut (8 * page + 7) (sealWord magic seq content) (ozPutWords (8 * page) content (ozPut (8 * page + 7) 0 s))

/-- The record that two copies give (R403). -/
def twinUsed (s : State) (page magic : Nat) : Option (Word × List DWord) :=
  match pageRec s page magic, pageRec s (page + 1) magic with
  | none, b => b
  | a, none => a
  | some a, some b => if newer b.1 a.1 then some b else some a

/-- A new value of a twin-page record: copy A, then copy B, with the newer copy's SEQ + 1 (R395). -/
def twinWrite (page magic : Nat) (content : List DWord) (s : State) : State :=
  let seq := ((twinUsed s page magic).map Prod.fst).getD 0 + 1
  pageWrite (page + 1) magic seq content (pageWrite page magic seq content s)

/-! ### The 7216's own records (R397–R401, R405) -/

abbrev magicBoot : Nat := 0x4252
abbrev magicLife : Nat := 0x4C48
abbrev magicLog : Nat := 0x4C47
abbrev magicCfg : Nat := 0x4346

/-- First page of life block `m` (R399). -/
def lifePage (s : State) (m : Nat) : Nat := partStart s 4 + 8 * m

/-- Words of the repair table: pages 3–10 of P0. -/
def repairWord (s : State) (i : Nat) : Nat := 8 * (partStart s 0 + 3) + i

/-- The table holds an entry for the row of `entry`: system, unit, bank and row. -/
def repairHeld (s : State) (entry : DWord) : Bool :=
  (List.range 64).any (fun i =>
    let w := ozWord s (repairWord s i)
    w.getLsbD 63 && w.getLsbD 62 = entry.getLsbD 62 && dfld w 0 27 = dfld entry 0 27)

/-- The lowest-numbered word with VALID = 0. -/
def repairFree (s : State) : Option Nat := (List.range 64).find? (fun i => !(ozWord s (repairWord s i)).getLsbD 63)

/-- A repaired row enters the table, unless it is there or the table is full (R333). -/
def repairEnter (entry : DWord) (s : State) : State :=
  if repairHeld s entry then s
  else
    match repairFree s with
    | none => s
    | some i => ozPut (repairWord s i) entry s

/-! ### Configuration copies (R396, R403) -/

/-- Word of a configuration copy's start: copy A is the first 256 pages of P2, copy B the next. -/
def cfgWord (s : State) (b : Bool) : Nat := 8 * (partStart s 2 + 256 * b.toNat)

def cfgNrec (s : State) (w : Nat) : Nat := dfld (ozWord s w) 32 11

/-- Words that a copy uses. -/
def cfgUsed (s : State) (w : Nat) : List DWord := ozWords s w (cfgNrec s w + 2)

/-- One copy from the other: word 0 cleared, the entries, word 1, word 0. -/
def cfgCopy (ontoB : Bool) (s : State) : State :=
  let u := cfgUsed s (cfgWord s (!ontoB))
  let dst := cfgWord s ontoB
  ozPut dst (u.getD 0 0) (ozPut (dst + 1) (u.getD 1 0) (ozPutWords (dst + 2) (u.drop 2) (ozPut dst 0 s)))

/-- Write a record now. A log record takes the next sequence number (R400). -/
def ozWrite (r : OzRec) (s : State) : State :=
  match r with
  | .ring page slots key value => ringWrite page slots key value s
  | .life block words => twinWrite (lifePage s block) magicLife words s
  | .boot words => twinWrite 1 magicBoot words s
  | .repair entry => repairEnter entry s
  | .page page magic seq words => pageWrite page magic seq words s
  | .copy ontoB => cfgCopy ontoB s
  | .hard i => ozPut (repairWord s i) (ozWord s (repairWord s i) ||| w64 (2 ^ 61)) s
  | .log typ tb ns sec payload =>
    let seq := s.ozd.logSeq + 1
    let w0 := w64 (ns.toNat + 2 ^ 30 * tb.toNat + 2 ^ 32 * typ.toNat)
    pageWrite (partStart s 5 + seq.toNat % 3072) magicLog seq (w0 :: w64 sec.toNat :: payload)
      { s with ozd := { s.ozd with logSeq := seq } }

/-- Two records of one ring or one header. -/
def sameRing : OzRec → OzRec → Bool
  | .ring _ _ k _, .ring _ _ k' _ => k = k'
  | .life b _, .life b' _ => b = b'
  | .boot _, .boot _ => true
  | .page p _ _ _, .page p' _ _ _ => p = p'
  | .copy _, .copy _ => true
  | .hard i, .hard i' => i = i'
  | _, _ => false

/-- A record joins the queue of R405, or replaces the queued value of its ring; with 16 queued, a log record is lost
and counted. -/
def ozQueue (r : OzRec) (s : State) : State :=
  if s.ozd.queue.any (sameRing r) then
    { s with ozd := { s.ozd with queue := s.ozd.queue.map (fun q => if sameRing r q then r else q) } }
  else if s.ozd.queue.length < 16 then { s with ozd := { s.ozd with queue := s.ozd.queue ++ [r] } }
  else
    match r with
    | .log .. => bumpSat Reg.OZD_N_LOST { s with ozd := { s.ozd with lost := s.ozd.lost + 1 } }
    | _ => s

/-- The store's writes wait: a dip episode is in progress (R405, R422) (log entry 41, DEDUCED). -/
def deferring (s : State) : Bool := s.pwr.dip.isSome

/-- The 7216 writes a record of its own, now or after the dip. -/
def ozRecord (r : OzRec) (s : State) : State := if deferring s then ozQueue r s else ozWrite r s

/-- The queue is written in order. -/
def ozFlush (s : State) : State := s.ozd.queue.foldl (fun s r => ozWrite r s) { s with ozd := { s.ozd with queue := [] } }

/-- A log record stamped with the genlock time base. Words 2–6 are the payload, padded with 0 (R400). -/
def logRec (s : State) (typ : Nat) (payload : List DWord) : OzRec :=
  let v := (getTb s (glTb s)).value
  .log (BitVec.ofNat 8 typ) (BitVec.ofNat 2 (glTb s)) (BitVec.ofNat 30 (tbNs v)) (BitVec.ofNat 48 (tbSec v))
    (payload ++ List.replicate (5 - payload.length) 0)

def ozLog (typ : Nat) (payload : List DWord) (s : State) : State := ozRecord (logRec s typ payload) s

/-- OZD_EV_STORE with a finding, and its log record (R400, TYPE 8). -/
def reportStore (found : Bool) (detail : Nat) (s : State) : State :=
  if found then raise 511 detail (ozLog 8 [w64 detail] s) else s

/-- First page of counter `k` (R397). -/
def ctrPage (s : State) (k : Nat) : Nat := partStart s 3 + 16 * k

/-- Value of counter `k`: one queued, else the one in force in its ring. -/
def counterVal (s : State) (k : Nat) : DWord :=
  match s.ozd.queue.findSome? (fun r => match r with
      | .ring _ _ key v => if key = k then some v else none
      | _ => none) with
  | some v => v
  | none => ((ringNewest s (ctrPage s k) 64 k).map Slot.value).getD 0

/-- A counter of P3 rises by `n`, saturating at 2^64 − 1 (R397, R398). -/
def counterAdd (k n : Nat) (s : State) : State :=
  let v := (counterVal s k).toNat + n
  ozRecord (.ring (ctrPage s k) 64 k (w64 (min v (2 ^ 64 - 1)))) (ozReadAt (8 * ctrPage s k) 128 s)

end Sys2Proof.Machine
end

