-- ==== Sys2Proof/Machine/LinkOps.lean ====
section
/-!
DEFINITION. The link layer's shared operations: credits, transactions waiting to be sent, NAK and CRD
(05_ingest_decompression.md, R136–R149).
-/
namespace Sys2Proof.Machine

abbrev zeroN : Nat → Nat := fun _ => 0

def setLink (l : Link) (s : State) : State := { s with link := l }

/-- Flits of a host master's receive pool (R136). -/
def poolSize (vc : Nat) : Nat := if vc = 0 then 16 else 64

/-- The master's INIT grant has been received (R137). -/
def linkInit (s : State) (m : Nat) : Bool := sGet (fun _ => false) m s.link.init

/-- Credits that the host holds for a pool of the device. -/
def hostCredit (s : State) (m vc : Nat) : Nat :=
  if linkInit s m then poolSize vc - sGet zeroN (2 * m + vc) s.link.used else 0

/-- Credits that the device holds for a master and VC. -/
def devCredit (s : State) (m vc : Nat) : Nat := sGet zeroN (4 * m + vc) s.link.credit

def setDevCredit (m vc n : Nat) (s : State) : State :=
  setLink { s.link with credit := sPut zeroN (4 * m + vc) n s.link.credit } s

/-- The transaction joins those waiting to be sent. -/
def pushOut (t : OutTxn) (s : State) : State := setLink { s.link with out := s.link.out ++ [t] } s

/-- A CRD with four counts (R143). -/
def crdTxn (m c0 c1 c2 c3 : Nat) (init : Bool) : OutTxn :=
  { m := m, vc := 0, typ := 6, rsp := false, tag := 0, rseq := 0, len := c0 + 2 ^ 16 * c1,
    addr := BitVec.ofNat 48 (c2 + 2 ^ 16 * c3 + 2 ^ 32 * init.toNat), arg := 0, data := [] }

/-- Grant a master's receive pools in full (R136). -/
def grantPools (m : Nat) (s : State) : State :=
  pushOut (crdTxn m 16 64 0 0 true)
    (setLink { s.link with used := sPut zeroN (2 * m) 0 (sPut zeroN (2 * m + 1) 0 s.link.used),
                           freed := sPut zeroN (2 * m) 0 (sPut zeroN (2 * m + 1) 0 s.link.freed) } s)

/-- Return the freed credits of a pool in a CRD (R136). -/
def returnCredits (m vc : Nat) (s : State) : State :=
  let f := sGet zeroN (2 * m + vc) s.link.freed
  if f = 0 then s
  else
    pushOut (crdTxn m (if vc = 0 then f else 0) (if vc = 0 then 0 else f) 0 0 false)
      (setLink { s.link with used := sPut zeroN (2 * m + vc) (sGet zeroN (2 * m + vc) s.link.used - f) s.link.used,
                             freed := sPut zeroN (2 * m + vc) 0 s.link.freed } s)

/-- `n` flits leave a receive pool; 8 freed credits are returned at once (R136). -/
def freeFlits (m vc n : Nat) (s : State) : State :=
  let f := sGet zeroN (2 * m + vc) s.link.freed + n
  let s1 := setLink { s.link with freed := sPut zeroN (2 * m + vc) f s.link.freed } s
  if 8 ≤ f then returnCredits m vc s1 else s1

/-- TYPE of R143. -/
abbrev tyRD : Nat := 0
abbrev tyWR : Nat := 1
abbrev tyBPUT : Nat := 2
abbrev tyBGET : Nat := 3

/-- Refuse a request (R149). -/
def nak (typ reason : Nat) (r : Req) (s : State) : State :=
  let s1 := pushOut
    { m := r.m.val, vc := 0, typ := 7, rsp := true, tag := r.tag, rseq := r.rseq, len := 0, addr := r.addr,
      arg := BitVec.ofNat 16 (reason + 2 ^ 4 * typ), data := [] } s
  if reason = 1 then s1
  else
    raise 242 (3 + r.m.val + 2 ^ 8 * reason + 2 ^ 16 * typ + 2 ^ 32 * r.rseq.toNat) (bumpSat Reg.ING_N_NAK s1)

/-- A completion of a request (R144). -/
def complete (typ : Nat) (r : Req) (data : List Byte) (s : State) : State :=
  pushOut { m := r.m.val, vc := BitVec.ofNat 2 r.vc.val, typ := BitVec.ofNat 3 typ, rsp := true, tag := r.tag,
            rseq := r.rseq, len := data.length, addr := r.addr, arg := 0, data := data } s

def holdTag (m : Nat) (tag : Byte) (s : State) : State :=
  setLink { s.link with tags := (m, tag.toNat) :: s.link.tags } s

def dropTag (m : Nat) (tag : Byte) (s : State) : State :=
  setLink { s.link with tags := s.link.tags.filter (· ≠ (m, tag.toNat)) } s

/-- The requests of a master received and not executed are discarded, each with NAK FROZEN, and their flits and what
has arrived of unfinished transactions leave the pools (R51). -/
def discardReqs (m : Nat) (s : State) : State :=
  let gone := s.link.reqs.filter (fun q => q.req.m.val = m)
  let part := s.link.asm.filter (fun a => a.m.val = m)
  let caps := s.wcapQ.filterMap (fun c => match c.src with
    | .wr r => if r.m.val = m then some r else none
    | .ctx _ => none)
  let s1 := setLink { s.link with reqs := s.link.reqs.filter (fun q => q.req.m.val ≠ m),
                                  asm := s.link.asm.filter (fun a => a.m.val ≠ m) }
    { s with wcapQ := s.wcapQ.filter (fun c => match c.src with
      | .wr r => r.m.val ≠ m
      | .ctx _ => true) }
  let s2 := gone.foldl (fun s q => freeFlits m q.req.vc.val q.flits (nak q.typ.toNat 1 q.req s)) s1
  let s3 := part.foldl (fun s a => freeFlits m a.vc.val a.flits s) s2
  caps.foldl (fun s r => nak tyWR 1 r s) s3

end Sys2Proof.Machine
end

