-- ==== Sys2Proof/Machine/Operands.lean ====
section
/-!
DEFINITION. Who may do what to which address: the address map, ownership, violations and freezing, held accesses,
and the two shapes of register access that the commands share (02_control_plane.md; R15–R19).
-/
namespace Sys2Proof.Machine

/-! ### Address map (R40, R150) -/

inductive Loc where
  | page (a : Nat)
  | context (n w : Nat)
  | ozide (word : Nat) (high : Bool)
  | unmapped
deriving DecidableEq, Repr

/-- Decode of the register region. -/
def locOf (a : Nat) : Loc :=
  if a < 0x3C000 then .page a
  else if 0x100000 ≤ a ∧ a < 0x160000 then .context ((a - 0x100000) / 128) ((a - 0x100000) % 128 / 4)
  else if 0x800000 ≤ a ∧ a < 0x880000 then .ozide ((a - 0x800000) / 8) (4 ≤ (a - 0x800000) % 8)
  else .unmapped

inductive Target where
  | regs (a : Nat)
  | scene (off : Nat)
  | frame (off : Nat)
  | unmapped
deriving DecidableEq, Repr

/-- Decode of the link address space (R150). -/
def targetOf (a : Nat) : Target :=
  if a < 0x1000000 then .regs a
  else if 0x1000000000 ≤ a ∧ a < 0x2000000000 then .scene (a - 0x1000000000)
  else if 0x2000000000 ≤ a ∧ a < 0x2400000000 then .frame (a - 0x2000000000)
  else .unmapped

/-- First byte of the park area (R151, R310): installed scene memory ends here. -/
abbrev installedEnd : Nat := 0xFF3400000

/-- What a read of the frame-store aperture returns: unused offsets read 0 (R314). -/
def frameByte (s : State) (off : Nat) : Byte := if off < 0x1DB992000 then sGet zeroB off s.fs else 0

/-! ### Masters (R44, R45) -/

def privileged (s : State) (m : Nat) : Bool := regBit s Reg.MST_PRIV m

def frozen (s : State) (m : Nat) : Bool := regBit s Reg.MST_FROZEN m

/-- OWNER.MASTER of a page. -/
def ownerOf (s : State) (p : Nat) : Nat := regFld s (Reg.OWNER p) 0 4

/-- The general rule of R45. -/
def ownsPage (s : State) (m p : Nat) : Bool := privileged s m || ownerOf s p = m

/-- A register that a write can act on; a write of any other does nothing and needs no right (R45). -/
def writable (r : RegRow) : Bool := r.rw ≠ 0 || r.w1c ≠ 0 || r.kind = .wo

/-- The write of a page address acts on something. -/
def writeActs (a : Nat) : Bool :=
  match regAt a with
  | .none => false
  | .active r => writable r && !r.sh
  | .shadow _ => true

/-- Master `m` may write page address `a` (R45). -/
def mayWrite (s : State) (m a : Nat) : Bool :=
  if a % 4096 = 0x020 then privileged s m
  else if a = Reg.MST_THAW then privileged s m
  else if a = Reg.CMT_READY then ownsPage s m 3 || regBit s Reg.CMT_PART m
  else ownsPage s m (a / 4096)

/-! ### Violations (R49–R53) -/

/-- A decompression context leaves its engine; its state goes to the park area (R157). -/
def dcxPark (n : Nat) (s : State) : State :=
  let c := getDcx s n
  match c.resident with
  | none => s
  | some e =>
    setRegFld (Reg.DCX_STAT e) 4 3 (regFld s (Reg.DCX_STAT e) 4 3 - 1)
      (bumpWrap (Reg.DCX_N_PARK e) (putDcx n { c with resident := none, waitAt := s.now } s))

/-- The resident contexts of a master (R159). -/
def residentOf (s : State) (m : Nat) : List Nat :=
  (s.dcx.filter (fun e => e.2.owner.toNat = m && e.2.st ≠ .closed && e.2.resident ≠ none)).map Prod.fst

/-- Record an access in the MST_VIOL registers of master `m` (R50, R53). -/
def recordViol (m typ addr reason fseq : Nat) (s : State) : State :=
  let v := (getTb s (glTb s)).value
  setRegN (Reg.MST_VIOL_S m) (tbSec v % 2 ^ 32) (setRegN (Reg.MST_VIOL_NS m) (tbNs v)
    (setRegN (Reg.MST_VIOL_INFO m) (typ + 2 ^ 8 * reason + 2 ^ 16 * fseq)
      (setRegN (Reg.MST_VIOL_ADDR_HI m) (addr / 2 ^ 32) (setRegN (Reg.MST_VIOL_ADDR_LO m) (addr % 2 ^ 32) s))))

/-- The freeze sequence number after `v`: it skips 0 (R50). -/
def nextFseq (v : Nat) : Nat := if v = 0xFFFF then 1 else v + 1

def violDetail (m typ reason fseq : Nat) : Nat := m + 2 ^ 8 * reason + 2 ^ 16 * typ + 2 ^ 32 * fseq

/-- Freeze master `m` for a violation (R50), ending its grants (R393), discarding its requests (R51) and
parking its contexts (R159). -/
def freeze (m typ addr reason : Nat) (s : State) : State :=
  let f := nextFseq (regN s Reg.MST_FSEQ)
  let s1 := recordViol m typ addr reason f (setRegBit Reg.MST_FROZEN m true (setRegN Reg.MST_FSEQ f s))
  let s2 := raise 16 (violDetail m typ reason f) (setRegBit Reg.CMT_RDY_STAT m false s1)
  let s3 := { s2 with ozd := { s2.ozd with rd := s2.ozd.rd.filter (·.1 ≠ m), wr := s2.ozd.wr.filter (·.1 ≠ m) } }
  let s4 := if 3 ≤ m then discardReqs (m - 3) s3 else s3
  counterAdd 8 1 ((residentOf s4 m).foldl (fun s n => dcxPark n s) s4)

/-- A violation (R49): a master is frozen, M0 is only recorded (R53), and nothing is recorded of a frozen one (R51). -/
def violate (m typ addr reason : Nat) (s : State) : State :=
  if m = 0 then raise 17 (violDetail 0 typ reason 0) (recordViol 0 typ addr reason 0 s)
  else if frozen s m then s
  else freeze m typ addr reason s

/-! ### Register accesses -/

/-- How an access ended, and for a read its data. -/
def answer (r : AccessResult) (v : Word) (s : State) : State := { s with lastAccess := r, readData := v }

/-- A master with a held access: its later requests wait behind it (R60). -/
def heldMaster : HeldOp → Nat
  | .write m _ _ => m.val
  | .read m _ => m.val
  | .txn r _ _ _ => 3 + r.m.val

def hasHeld (s : State) (m : Nat) : Option HoldWhy := (s.heldQ.find? (fun h => heldMaster h.op = m)).map Held.why

/-- The data registers through which the shadow copies of the committed tables are read and written. -/
def shadowTables : List Nat :=
  [Reg.LYR_CMX_DATA, Reg.LYR_EOTF_DATA, Reg.FIN_SPR_DATA, Reg.FIN_XFR_DATA, Reg.FIN_MTB_DATA, Reg.SCN_OD_DATA, Reg.BKL_TC_DATA]

/-- The address is a shadow image, of a register, of a table or of a context (R60). -/
def isShadow (a : Nat) : Bool :=
  match locOf a with
  | .page a =>
    match regAt a with
    | .shadow _ => true
    | _ => shadowTables.contains a
  | .context n w => decide (n < 3072) && decide (w < 32)
  | _ => false

/-- The clocks run (R370). -/
def live (s : State) : Bool := !s.pwr.tripped && s.pwr.st ≠ .midnight

/-- The unit of page `p` operates: its clocks run, and PAGE_CTL.EN does not hold it idle (R43) (log entry 44, DEDUCED). -/
def unitOn (s : State) (p : Nat) : Bool := live s && enabled s p

/-- The composer's, decompression's and scaler's clocks run: not in Night (R416). -/
def fabricOn (s : State) : Bool := live s && s.pwr.st ≠ .night

/-- Access before host access, in Midnight or after a trip (R449, R457, R461); `none`: it may go on. -/
def gate (s : State) (m a : Nat) (write : Bool) : Option AccessResult :=
  if s.pwr.tripped then some .closed
  else if s.pwr.st = .midnight then
    if m = 0 ∧ a / 4096 = 0x3B then none else some (if m = 0 then .refused else .closed)
  else if m = 0 then if write && !s.boot.hostOpen then some .busy else none
  else if 3 ≤ m then if s.boot.hostOpen then none else some .closed
  else none

/-- Why an access must wait: behind a held one of its master, or at a shadow image during the decision (R60). -/
def mustHold (s : State) (m a : Nat) : Option HoldWhy :=
  match hasHeld s m with
  | some w => some w
  | none => if s.holdOpen && isShadow a then some .commit else none

/-- An access joins the held ones. -/
def holdAccess (w : HoldWhy) (op : HeldOp) (s : State) : State :=
  answer .held 0 { s with heldQ := s.heldQ ++ [⟨w, op⟩] }

/-- Hold an access, or for M0 answer busy where the wait may pass 200 µs (R461). -/
def holdOrBusy (m : Master) (w : HoldWhy) (op : HeldOp) (s : State) : State :=
  if m.val = 0 ∧ w ≠ .commit then answer .busy 0 s else holdAccess w op s

/-- SYS_M0_STAT.WSTAT of an answer; none while the access waits, or where M0 gets no answer. -/
def wstatOf : AccessResult → Option Nat
  | .done => some 0
  | .violation _ => some 1
  | .refused => some 1
  | .busy => some 3
  | .pecFailed => some 2
  | _ => none

/-- A write by M0 leaves its outcome in SYS_M0_STAT (R448) (log entry 15, DESIGN CHOICE). -/
def noteM0 (m : Master) (s : State) : State :=
  if m.val = 0 then
    match wstatOf s.lastAccess with
    | some x => setRegN Reg.SYS_M0_STAT x s
    | none => s
  else s

/-- A write of page register `a` by master `m`, which has the right to it when `right` holds: the checks that hold for
every register, then its effect. -/
def writeRight (m : Master) (a : Nat) (v : Word) (right : Bool) (eff : State → State) (s : State) : State :=
  noteM0 m <| match gate s m.val a true with
  | some r => answer r 0 s
  | none =>
    if frozen s m.val then answer .frozen 0 s
    else
      match mustHold s m.val a with
      | some w => holdOrBusy m w (.write m a v) s
      | none =>
        if !writeActs a then answer .done 0 s
        else if right then eff (answer .done 0 s)
        else answer (.violation 1) 0 (violate m.val 1 a 1 s)

/-- A write with the right of R45. -/
def writeWith (m : Master) (a : Nat) (v : Word) (eff : State → State) (s : State) : State :=
  writeRight m a v (mayWrite s m.val a) eff s

/-- A write whose effect only a privileged master has: another owner's is executed and does nothing (R45) (log entry 44, DEDUCED). -/
def writePriv (m : Master) (a : Nat) (v : Word) (eff : State → State) (s : State) : State :=
  writeWith m a v (fun s => if privileged s m.val then eff s else s) s

/-- A read of page register `a` by master `m`: `eff` gives the data and what the read does. -/
def readWith (m : Master) (a : Nat) (eff : State → Word × State) (s : State) : State :=
  match gate s m.val a false with
  | some r => answer r 0 s
  | none =>
    if frozen s m.val then answer .frozen 0 s
    else
      match mustHold s m.val a with
      | some w => holdOrBusy m w (.read m a) s
      | none => answer .done (eff s).1 (eff s).2

/-- An access by a master to an indexed table's data register. -/
def dataAccess (m : Master) (a : Nat) (x : Acc) (rd : State → Word × State) (wr : Word → State → State) (s : State) :
    State :=
  match x with
  | .read => readWith m a rd s
  | .write v => writeWith m a v (wr v) s

/-! ### Holding registers for the high halves (R16, R337) -/

/-- Hold `v` for master `m`'s next read of `a`. -/
def holdHigh (m a : Nat) (v : Word) (s : State) : State :=
  { s with holds := ⟨m, a, v⟩ :: s.holds.filter (fun h => !(h.m = m && h.a = a)) }

/-- The held copy, if there is one, and the state without it. -/
def takeHigh (m a : Nat) (live : Word) (s : State) : Word × State :=
  match s.holds.find? (fun h => h.m = m && h.a = a) with
  | none => (live, s)
  | some h => (h.v, { s with holds := s.holds.filter (fun h => !(h.m = m && h.a = a)) })

end Sys2Proof.Machine
end

