-- ==== Sys2Proof/Machine/Image.lean ====
section
/-!
DEFINITION. The boot image in flash: headers, sections, REGDEF, and which registers take a value from it
(17_pins_electrical.md, R452–R455; R21).
-/
namespace Sys2Proof.Machine

/-- A byte of the flash; erased cells read 0xFF. -/
def flashByte (s : State) (o : Nat) : Byte := sGet (fun _ => (0xFF : Byte)) o s.boot.flash

def flashBytes (s : State) (o n : Nat) : List Byte := (List.range n).map (fun i => flashByte s (o + i))

/-- A little-endian number of `n` bytes. -/
def flashNum (s : State) (o n : Nat) : Nat := ofLe (flashBytes s o n)

/-- Bytes of a slot, and where slot `i` begins. -/
def slotSize (s : State) : Nat := s.boot.size / 2
def slotBase (s : State) (i : Nat) : Nat := i * slotSize s

/-- A section table entry (R453); `off` counts from the slot base. -/
structure Section where
  typ : Nat
  off : Nat
  len : Nat
  crc : Nat
deriving DecidableEq, Repr

/-- NSEC, SEQ and FLAGS of the slot at `b`. -/
def imgNsec (s : State) (b : Nat) : Nat := flashNum s (b + 6) 2
def imgSeq (s : State) (b : Nat) : Word := w32 (flashNum s (b + 8) 4)
def imgFlag (s : State) (b k : Nat) : Bool := (flashNum s (b + 0xF) 1).testBit k

def sectionAt (s : State) (b i : Nat) : Section :=
  let o := b + 0x40 + 16 * i
  ⟨flashNum s o 2, flashNum s (o + 4) 4, flashNum s (o + 8) 4, flashNum s (o + 12) 4⟩

def sections (s : State) (b : Nat) : List Section := (List.range (imgNsec s b)).map (sectionAt s b)

def sectionBytes (s : State) (b : Nat) (x : Section) : List Byte := flashBytes s (b + x.off) x.len

/-- The REGDEF pairs of the slot at `b`, in order. -/
def regdefOf (s : State) (b : Nat) : List (Nat × Word) :=
  match (sections s b).find? (fun x => x.typ = 1) with
  | none => []
  | some x => (List.range (x.len / 8)).map (fun i =>
      (flashNum s (b + x.off + 8 * i) 4, w32 (flashNum s (b + x.off + 8 * i + 4) 4)))

/-- The header checks of R455. -/
def headerOk (s : State) (b : Nat) : Bool :=
  flashNum s b 4 = 0x49425846 && flashNum s (b + 4) 2 = 1 && flashNum s (b + 0xC) 2 = 0x7216 &&
  decide (flashNum s (b + 0xE) 1 ≤ 0xA1) && decide (1 ≤ imgNsec s b) && decide (imgNsec s b ≤ 15) &&
  (crc32c (flashBytes s b 0x3C ++ flashBytes s (b + 0x40) (16 * imgNsec s b)) = flashNum s (b + 0x3C) 4)

/-- A section lies within the slot and, but for type 2, passes its CRC. -/
def sectionOk (s : State) (b : Nat) (x : Section) : Bool :=
  decide (x.off + x.len ≤ slotSize s) && (x.typ = 2 || crc32c (sectionBytes s b x) = x.crc)

/-- A mapped register address, a multiple of 4. -/
def regdefAddrOk (a : Nat) : Bool := a % 4 = 0 && locOf a ≠ .unmapped

/-- Slot `i` is valid (R455). -/
def slotValid (s : State) (i : Nat) : Bool :=
  let b := slotBase s i
  decide (0x40 ≤ slotSize s) && headerOk s b && (sections s b).all (sectionOk s b) &&
  (sections s b).countP (fun x => x.typ = 1) = 1 && (regdefOf s b).all (fun q => regdefAddrOk q.1)

/-- The pairs in force: those of the slot booted, none under the built-in defaults (R452). -/
def regdef (s : State) : List (Nat × Word) := if s.boot.defaults then [] else regdefOf s (slotBase s s.boot.slot)

/-! ### Boot fields (R21) -/

/-- Writable registers whose reset value is not taken from the boot image, as (page, first offset, last offset). -/
def notBoot : List (Nat × Nat × Nat) :=
  [(0x02, 0xA0, 0xBC), (0x0C, 0x44, 0x70), (0x1E, 0x40, 0x70), (0x1F, 0x50, 0x90), (0x26, 0x70, 0x84),
   (0x26, 0xA4, 0xA4), (0x27, 0x40, 0x6FC), (0x28, 0x4C, 0x4C), (0x28, 0x64, 0x68), (0x28, 0x100, 0x3FC),
   (0x29, 0x54, 0x58), (0x2A, 0x4C, 0x50), (0x2E, 0xA4, 0xA4), (0x30, 0xA4, 0xA4), (0x32, 0xA0, 0xA0),
   (0x33, 0xA0, 0xA0), (0x34, 0x40, 0x50), (0x37, 0x70, 0x74), (0x38, 0x40, 0x40), (0x39, 0x44, 0x58),
   (0x3A, 0x48, 0x48), (0x3B, 0x44, 0x4C), (0x35, 0x108, 0x110), (0x35, 0x128, 0x130), (0x35, 0x148, 0x150),
   (0x35, 0x168, 0x170)]

/-- PRBS_SEL of the lanes. -/
def isLctl (a : Nat) : Bool := 4 ≤ a / 4096 && a / 4096 ≤ 11 && a / 4096 ≠ 5 && 0x100 ≤ a % 4096

/-- The register at active address `a` takes its reset value from the boot image. -/
def isBoot (a : Nat) : Bool :=
  match regAt a with
  | .active r =>
    r.rw ≠ 0 && r.kind = .st && !isLctl a &&
      !notBoot.any (fun q => q.1 = a / 4096 && q.2.1 ≤ a % 4096 && a % 4096 ≤ q.2.2)
  | _ => false

/-- The active address and row of a register or shadow image. -/
def activeOf (a : Nat) : Option (Nat × RegRow) :=
  match regAt a with
  | .active r => some (a, r)
  | .shadow r => some (a - 0x800, r)
  | .none => none

/-- A boot value takes effect in the register, and in its shadow image where it has one. -/
def bootStore (q : Nat × Word) (s : State) : State :=
  match activeOf q.1 with
  | none => s
  | some (a, r) =>
    if isBoot a then
      let v := q.2 &&& w32 r.rw
      if r.sh then setReg a v (setReg (a + 0x800) v s) else setReg a v s
    else s

end Sys2Proof.Machine
end

