-- ==== Sys2Proof/Machine/Flags.lean ====
section
/-!
DEFINITION. Flags computed from the state: pending events, interrupt pins, and the event registers that show them
(R43, R50, R61, R63).
-/
namespace Sys2Proof.Machine

/-- An event's EVT_PEND bit. -/
def evPending (s : State) (e : Nat) : Bool :=
  match evLoc e with
  | none => false
  | some (p, b) => bit (evtPend s p) b

/-- INT_N[p] is driven low: a page routed to it has a pending event, or MST_EV_FROZEN drives it (R50, R61). -/
def intDriven (s : State) (p : Nat) : Bool :=
  (List.range 60).any (fun q => regBit s (Reg.EVT_ROUTE q) 18 && regFld s (Reg.EVT_ROUTE q) 16 2 = p &&
    evtPend s q ≠ 0) ||
  (regBit s (Reg.EVT_RAW 1) 0 && regFld s (Reg.EVT_ROUTE 1) 16 2 = p)

/-- A word from its bits. -/
def wordOf (n : Nat) (f : Nat → Bool) : Word := w32 ((List.range n).foldl (fun v b => v + (f b).toNat * 2 ^ b) 0)

/-- EVT_SUMMARYi: bit j says that event 32i + j is pending. -/
def evtSummary (s : State) (i : Nat) : Word := wordOf 32 (fun j => evPending s (32 * i + j))

/-- EVT_PIN_STAT. -/
def evtPinStat (s : State) : Word := wordOf 4 (intDriven s)

/-- EVT_QFILL_M(3 + k). -/
def evtQfill (s : State) (k : Nat) : Word := w32 (getMsgq s k).recs.length

/-- First event page block of R41: PAGE_ID.BLOCK of a page. -/
def pageBlock (p : Nat) : Nat :=
  if p < 4 then p
  else if p ≤ 5 then 4
  else if p ≤ 0xB then 6
  else if p = 0xC then 0xC
  else if p ≤ 0x1D then 0xD
  else if p ≤ 0x1F then p
  else if p ≤ 0x25 then 0x20
  else if p ≤ 0x27 then p
  else if p ≤ 0x29 then 0x28
  else if p ≤ 0x2D then 0x2A
  else if p ≤ 0x2F then 0x2E
  else if p ≤ 0x31 then 0x30
  else if p ≤ 0x35 then 0x32
  else p

/-- PAGE_ID (R41). -/
def pageId (p : Nat) : Word := w32 (pageBlock p * 2 ^ 16 + (p - pageBlock p))

/-- PAGE_STAT: held under FRZ_ON_FAULT, else as it stands (R43). -/
def pageStat (s : State) (p : Nat) : Word :=
  if s.captured.contains p then getReg s (Reg.PAGE_STAT p) else pageStatNow s p

end Sys2Proof.Machine
end

