-- ==== Sys2Proof/Machine/Control.lean ====
section
/-!
DEFINITION. Control plane commands with an effect of their own: MST_THAW, OWNER and the commit request registers
(R45, R48, R52, R54).
-/
namespace Sys2Proof.Machine

/-- Answer of a command in this model: every command with a meaning ends in a next state. -/
abbrev done (s : State) : Host.Outcome State Fault Refusal := .next s

/-- The freeze number recorded for master `k`. -/
def violFseq (s : State) (k : Nat) : Nat := regFld s (Reg.MST_VIOL_INFO k) 16 16

/-- RSEQ and credits of a thawed host master start again (R52). -/
def thawLink (m : Nat) (s : State) : State :=
  let s1 := discardReqs m s
  let rs := (List.range 4).foldl (fun l vc => sPut (fun _ => none) (4 * m + vc) none l) s1.link.rseq
  grantPools m (setLink { s1.link with rseq := rs } s1)

/-- Effect of a write of MST_THAW (R52). -/
def effThaw (v : Word) (s : State) : State :=
  let k := fld v 0 4
  let f := fld v 16 16
  if 1 ≤ k ∧ k ≤ 10 ∧ frozen s k ∧ violFseq s k = f then
    let s1 := setRegBit Reg.MST_FROZEN k false s
    raise 18 (k + 2 ^ 32 * f) (if 3 ≤ k then thawLink (k - 3) s1 else s1)
  else s

/-- Effect of a write of OWNER: 11–14 store 15 (R43). -/
def effOwner (p : Nat) (v : Word) (s : State) : State :=
  let o := fld v 0 4
  setRegN (Reg.OWNER p) (if 11 ≤ o ∧ o ≤ 14 then 15 else o) s

/-- CMT_STAT.STATE. -/
abbrev cmtIDLE : Nat := 0
abbrev cmtPENDING : Nat := 1
abbrev cmtAPPLIED : Nat := 2
abbrev cmtREFUSED : Nat := 3
abbrev cmtCANCELLED : Nat := 4

def cmtState (s : State) : Nat := regFld s Reg.CMT_STAT 0 3

/-- A commit request is pending. -/
def cmtPending (s : State) : Bool := cmtState s = cmtPENDING

/-- Effect of a write of CMT_REQ (R54). -/
def effCmtReq (v : Word) (s : State) : State :=
  let s1 := if cmtPending s then s else setRegFld Reg.CMT_STAT 16 8 0 s
  setRegFld Reg.CMT_STAT 0 3 cmtPENDING (setRegBit Reg.CMT_STAT 3 false (setReg Reg.CMT_PEND_SEQ v s1))

/-- Effect of a write of CMT_READY by master `m`. -/
def effCmtReady (m : Nat) (v : Word) (s : State) : State := setRegBit Reg.CMT_RDY_STAT m (bit v 0) s

/-- End a pending request without effect (R54, R367). -/
def cancelCommit (s : State) : State :=
  if cmtPending s then setRegFld Reg.CMT_STAT 0 3 cmtCANCELLED s else s

/-- Effect of a write of CMT_CANCEL (R54). -/
def effCmtCancel (v : Word) (s : State) : State := if bit v 0 then cancelCommit s else s

def execMstThaw (m : Master) (v : Word) (s : State) : Host.Outcome State Fault Refusal :=
  done (writeWith m Reg.MST_THAW v (effThaw v) s)

def execOwner (m : Master) (page : Fin 60) (v : Word) (s : State) : Host.Outcome State Fault Refusal :=
  done (writeWith m (Reg.OWNER page.val) v (effOwner page.val v) s)

def execCmtReq (m : Master) (v : Word) (s : State) : Host.Outcome State Fault Refusal :=
  done (writeWith m Reg.CMT_REQ v (effCmtReq v) s)

def execCmtReady (m : Master) (v : Word) (s : State) : Host.Outcome State Fault Refusal :=
  done (writeWith m Reg.CMT_READY v (effCmtReady m.val v) s)

def execCmtCancel (m : Master) (v : Word) (s : State) : Host.Outcome State Fault Refusal :=
  done (writeWith m Reg.CMT_CANCEL v (effCmtCancel v) s)

end Sys2Proof.Machine
end

