-- ==== Sys2Proof/Machine/Layers.lean ====
section
/-!
DEFINITION. Layer contexts, buffer handles, the readiness check and the layer scaler (04_layers.md).
-/
namespace Sys2Proof.Machine

/-! ### The context table (R99–R101) -/

def shadowWord (s : State) (n w : Nat) : Word := sGet zeroW (32 * n + w) s.ctxShadow
def forceWord (s : State) (n w : Nat) : Word := sGet zeroW (32 * n + w) s.ctxForce

def setShadowWord (n w : Nat) (v : Word) (s : State) : State :=
  { s with ctxShadow := sPut zeroW (32 * n + w) v s.ctxShadow }

/-- SHADOW_STAT.DIRTY of a page. -/
def setDirty (p : Nat) (s : State) : State := setRegBit (Reg.SHADOW_STAT p) 31 true s

/-- Writable bits of word `w` of an entry, ARM apart (R100). -/
def ctxMask (w : Nat) : Word :=
  if w = 0 then 0x7FFFFC00
  else if w = 1 then 0xFC0000F3
  else if w = 2 ∨ w = 3 then 0x1FFF1FFF
  else if w = 4 ∨ w = 5 then 0x3FFFF
  else if w = 6 ∨ w = 7 then 0x1FFFFFF
  else if w = 8 then 0xFFFFF
  else if w = 9 then 0x3FFF
  else 0

/-- OWNER of an entry: the values 11–14 store 15. -/
def ctxOwnerVal (v : Word) : Nat := if 11 ≤ fld v 24 4 ∧ fld v 24 4 ≤ 14 then 15 else fld v 24 4

/-! ### Formats and sizes (R104–R108, R127) -/

/-- An image format and size: FAMILY, DEPTH, ABITS, W, H. -/
structure Fmt where
  fam : Nat
  dep : Nat
  ab  : Nat
  w   : Nat
  h   : Nat
deriving DecidableEq, Repr

/-- The format that words 1 and 2 of an entry give. -/
def fmtOf (w1 w2 : Word) : Fmt := ⟨fld w1 4 2, fld w1 0 2, fld w1 6 2, fld w2 0 13 + 1, fld w2 16 13 + 1⟩

/-- Bytes of a planar sample. -/
def ysz (f : Fmt) : Nat := if f.dep = 0 then 1 else 2

/-- Bytes of a packed texel, or of a planar sample. -/
def texelBytes (f : Fmt) : Nat :=
  if f.fam = 3 then (if f.dep = 0 then 2 else if f.dep = 1 then 3 else 4) else ysz f

/-- A plane of one level: offset in the level, pitch, size, bytes per sample, components as (shift, bits). -/
structure Plane where
  off   : Nat
  pitch : Nat
  w     : Nat
  h     : Nat
  bytes : Nat
  comps : List (Nat × Nat)
deriving DecidableEq, Repr

def depthBits (dep : Nat) : Nat := if dep = 0 then 8 else if dep = 1 then 10 else 12

def packedComps (dep : Nat) : List (Nat × Nat) :=
  if dep = 0 then [(11, 5), (5, 6), (0, 5)]
  else if dep = 1 then [(0, 8), (8, 8), (16, 8)]
  else if dep = 2 then [(0, 8), (8, 8), (16, 8), (24, 8)]
  else [(0, 10), (10, 10), (20, 10), (30, 2)]

/-- Chroma width of a level. -/
def chromaW (f : Fmt) (w : Nat) : Nat := if f.fam = 2 then w else (w + 1) / 2

def chromaH (f : Fmt) (h : Nat) : Nat := if f.fam = 0 then (h + 1) / 2 else h

def chromaPitch (f : Fmt) (p : Nat) : Nat := if f.fam = 2 then p else p / 2

def alphaPitch (f : Fmt) (p : Nat) : Nat := if f.ab = 0 then 0 else p * f.ab / ysz f

/-- Bytes of one level of `h` rows at pitch `p` (R106). -/
def levelSize (f : Fmt) (h p : Nat) : Nat :=
  if f.fam = 3 then p * h
  else p * h + 2 * chromaPitch f p * chromaH f h + alphaPitch f p * h

def roundUp (n m : Nat) : Nat := (n + m - 1) / m * m

/-- Size of level `k` in texels and bytes of pitch (R106). -/
def levelW (n k : Nat) : Nat := (n + 2 ^ k - 1) / 2 ^ k

/-- Offset of level `k` in the buffer (R106). -/
def levelOff (f : Fmt) (p k : Nat) : Nat :=
  if k = 0 then 0
  else
    let o1 := roundUp (levelSize f f.h p) 256
    if k = 1 then o1 else o1 + roundUp (levelSize f (levelW f.h 1) (p / 2)) 256

/-- Bytes that an image needs, with its reductions where it has them (R106). -/
def required (f : Fmt) (reduce : Bool) (p : Nat) : Nat :=
  if reduce then levelOff f p 2 + levelSize f (levelW f.h 2) (p / 4) else levelSize f f.h p

/-- The planes of level `k` of an image at pitch `p`. -/
def planes (f : Fmt) (p k : Nat) : List Plane :=
  let w := levelW f.w k
  let h := levelW f.h k
  let q := p / 2 ^ k
  let base := levelOff f p k
  if f.fam = 3 then [⟨base, q, w, h, texelBytes f, packedComps f.dep⟩]
  else
    let pc := chromaPitch f q
    let wc := chromaW f w
    let hc := chromaH f h
    let one := [(0, depthBits f.dep)]
    [⟨base, q, w, h, ysz f, one⟩, ⟨base + q * h, pc, wc, hc, ysz f, one⟩,
     ⟨base + q * h + pc * hc, pc, wc, hc, ysz f, one⟩] ++
    (if f.ab = 0 then [] else
      [⟨base + q * h + 2 * pc * hc, alphaPitch f q, w, h, f.ab, [(0, if f.ab = 1 then 8 else 10)]⟩])

/-- Scaler row length (R127). -/
def rowLength (f : Fmt) : Nat :=
  if f.fam = 3 then f.w * texelBytes f else f.w * ysz f + 2 * chromaW f f.w * ysz f + f.w * f.ab

def pitchBytes (h : Handle) : Nat := h.pitch.toNat * 128
def sizeBytes (h : Handle) : Nat := h.size.toNat * 256
def baseBytes (h : Handle) : Nat := h.base.toNat * 256

/-- The size rule of R106. -/
def sizeRule (h : Handle) (f : Fmt) (reduce : Bool) : Bool :=
  f.w * texelBytes f ≤ pitchBytes h && (!reduce || pitchBytes h % 256 = 0) &&
  required f reduce (pitchBytes h) ≤ sizeBytes h

/-- The relief rule of R108. -/
def reliefRule (h : Handle) (f : Fmt) : Bool := f.w ≤ pitchBytes h && pitchBytes h * f.h ≤ sizeBytes h

/-! ### Arming (R102, R103) -/

/-- LYR_E_FORMAT. -/
def badFormat (w0 w1 : Word) : Bool :=
  let f := fmtOf w1 0
  let mode := fld w0 10 2
  let noAlpha := (f.fam ≠ 3 && f.ab = 0) || (f.fam = 3 && f.dep ≤ 1)
  (f.dep = 3 && f.fam ≠ 3) || f.ab = 3 || (f.ab ≠ 0 && f.fam = 3) || mode = 3 ||
  ((mode = 1 || mode = 2) && noAlpha)

/-- The reduction description of an entry. -/
def entryDesc (f : Fmt) (stripe : Bool) : RedDesc :=
  ⟨BitVec.ofNat 2 f.fam, BitVec.ofNat 2 f.dep, BitVec.ofNat 2 f.ab, f.w, f.h, stripe⟩

/-- The first failing check of R102; 0 when all pass. -/
def armCode (s : State) (n : Nat) : Nat :=
  let w0 := shadowWord s n 0
  let w1 := shadowWord s n 1
  let w3 := shadowWord s n 3
  let f := fmtOf w1 (shadowWord s n 2)
  let buf := getHandle s (fld w3 0 13)
  let rbuf := getHandle s (fld w3 16 13)
  let relief := bit w0 13
  let reduce := bit w0 14
  let stripe := bit w0 15
  if badFormat w0 w1 then 1
  else if buf.st = .free || (relief && (rbuf.st = .free || fld w3 16 13 = fld w3 0 13)) then 2
  else if !sizeRule buf f reduce || (relief && !reliefRule rbuf f) then 3
  else if reduce && !stripe && 40960 < rowLength f then 4
  else if reduce && buf.rdesc.isSome && buf.rdesc ≠ some (entryDesc f stripe) then 5
  else 0

/-- A buffer enters the scaler queue, once (R125). -/
def sclEnqueue (h : Nat) (s : State) : State :=
  if s.sclQueue.contains h || s.sclCur = some h then s else { s with sclQueue := s.sclQueue ++ [h] }

/-- A successful arm with REDUCE = 1 attaches a reduction description (R103). -/
def attachDesc (n : Nat) (s : State) : State :=
  let w0 := shadowWord s n 0
  let h := fld (shadowWord s n 3) 0 13
  let r := getHandle s h
  if bit w0 14 && r.rdesc.isNone then
    let s1 := putHandle h { r with rdesc := some (entryDesc (fmtOf (shadowWord s n 1) (shadowWord s n 2)) (bit w0 15)) } s
    if r.st = .ready && !r.redDone then sclEnqueue h s1 else s1
  else s

/-- Arm entry `n` (R102). -/
def armEntry (n : Nat) (s : State) : State :=
  let code := armCode s n
  let s1 := setShadowWord n 15 (setFld (shadowWord s n 15) 0 4 code) s
  if code = 0 then attachDesc n (setShadowWord n 0 (setBit (shadowWord s1 n 0) 31 true) s1)
  else raise 294 (n + 2 ^ 16 * code) s1

/-! ### Writes into the window (R46, R101) -/

/-- Master `m` may write every field of the entry but OWNER, and OWNER. -/
def entryRight (s : State) (m n : Nat) : Bool := privileged s m || fld (shadowWord s n 0) 24 4 = m
def ownerRight (s : State) (m : Nat) : Bool := privileged s m || ownerOf s 0x1E = m

/-- Word 0 as a write leaves it: the fields that the master may write, ARMED cleared. -/
def word0After (s : State) (m n : Nat) (v : Word) : Word :=
  let old := setBit (shadowWord s n 0) 31 false
  let body := if entryRight s m n then setFld (v &&& ctxMask 0) 24 4 (fld old 24 4) else old
  if ownerRight s m then setFld body 24 4 (ctxOwnerVal v) else body

/-- Effect of an executed write into word `w` (0–9) of entry `n`. -/
def ctxStore (m n w : Nat) (v : Word) (s : State) : State :=
  if w = 0 then
    let s1 := setDirty 0x1E (setShadowWord n 0 (word0After s m n v) s)
    if entryRight s m n && bit v 31 then armEntry n s1 else s1
  else
    setDirty 0x1E (setShadowWord n w (v &&& ctxMask w)
      (setShadowWord n 0 (setBit (shadowWord s n 0) 31 false) s))

def ctxAddr (n w : Nat) : Nat := 0x100000 + 128 * n + 4 * w

/-- A write of word `w` of entry `n` by master `m` (R46, R101). -/
def ctxWrite (m : Master) (n w : Nat) (v : Word) (s : State) : State :=
  noteM0 m <| match gate s m.val (ctxAddr n w) true with
  | some r => answer r 0 s
  | none =>
    if frozen s m.val then answer .frozen 0 s
    else
      match mustHold s m.val (ctxAddr n w) with
      | some why => holdOrBusy m why (.write m (ctxAddr n w) v) s
      | none =>
        if 10 ≤ w then answer .done 0 s
        else if entryRight s m.val n || (w = 0 && ownerRight s m.val) then ctxStore m.val n w v (answer .done 0 s)
        else answer (.violation 1) 0 (violate m.val 1 (ctxAddr n w) 1 s)

/-- A read through the window: HELD and CLEARED are those of the in-force copy. -/
def ctxRead (s : State) (n w : Nat) : Word :=
  if w = 15 then shadowWord s n 15 ||| (forceWord s n 15 &&& 0x300) else shadowWord s n w

/-! ### Buffer handles (R113–R116) -/

/-- A decompression context targets the handle (R152). -/
def targeted (s : State) (h : Nat) : Bool := s.dcx.any (fun e => e.2.st = .opened && e.2.handle.toNat = h)

def pinnedState : BufState → Bool
  | .bound => true
  | .inUse => true
  | .releasePending => true
  | _ => false

/-- Byte ranges [a, a + m) and [b, b + n) overlap; an empty range overlaps nothing. -/
def rangesMeet (a m b n : Nat) : Bool := 0 < m && 0 < n && a < b + n && b < a + m

/-- Extents overlap. -/
def extentMeets (h : Handle) (base size : Nat) : Bool := rangesMeet (baseBytes h) (sizeBytes h) base size

/-- A byte range touches a pinned buffer (R117). -/
def hitsPinned (s : State) (off len : Nat) : Bool :=
  s.handles.any (fun e => pinnedState e.2.st && extentMeets e.2 off len)

/-- Result of a handle command in LYR_BUF_RES; a failure raises LYR_EV_CMD_FAIL (R114). -/
def bufResult (h code : Nat) (s : State) : State :=
  let s1 := setRegN Reg.LYR_BUF_RES (code + 2 ^ 16 * h) s
  if code = 0 then s1 else raise 296 (h + 2 ^ 16 * code) s1

/-- The scaler gives a buffer up (R125, R130). -/
def sclDrop (h : Nat) (s : State) : State :=
  { s with sclQueue := s.sclQueue.filter (· ≠ h),
           sclCur := if s.sclCur = some h then none else s.sclCur }

/-- A buffer turns READY (R115, R125). -/
def turnReady (h : Nat) (s : State) : State :=
  let r := getHandle s h
  let s1 := putHandle h { r with st := .ready } s
  if r.rdesc.isSome && !r.redDone then sclEnqueue h s1 else s1

/-- A buffer turns FREE: its reduction description goes (R103); BAD and RED_DONE clear, and base, size and pitch stay
for QUERY to show (log entry 12, DESIGN CHOICE). -/
def turnFree (h : Nat) (s : State) : State :=
  putHandle h { getHandle s h with st := .free, rdesc := none, bad := false, redDone := false } (sclDrop h s)

abbrev eBufState : Nat := 8
abbrev eBufBusy : Nat := 9
abbrev eBufRange : Nat := 10
abbrev eBufOverlap : Nat := 11

/-- DEFINE's failure code (R114). -/
def defineCode (s : State) (h : Nat) : Nat :=
  let base := regFld s Reg.LYR_BUF_BASE 0 28 * 256
  let size := regFld s Reg.LYR_BUF_SIZE 0 28 * 256
  if (getHandle s h).st ≠ .free then eBufState
  else if size = 0 || regFld s Reg.LYR_BUF_PITCH 0 10 = 0 || installedEnd < base + size then eBufRange
  else if s.handles.any (fun e => e.2.st ≠ .free && extentMeets e.2 base size) then eBufOverlap
  else 0

def effDefine (h : Nat) (s : State) : State :=
  let code := defineCode s h
  if code = 0 then
    bufResult h 0 (putHandle h
      { st := .filling, base := BitVec.ofNat 28 (regN s Reg.LYR_BUF_BASE),
        size := BitVec.ofNat 28 (regN s Reg.LYR_BUF_SIZE), pitch := BitVec.ofNat 10 (regN s Reg.LYR_BUF_PITCH) } s)
  else bufResult h code s

def effSeal (h : Nat) (s : State) : State :=
  let r := getHandle s h
  if r.st ≠ .filling || r.bad then bufResult h eBufState s
  else if targeted s h then bufResult h eBufBusy s
  else bufResult h 0 (raise 292 h (turnReady h s))

def effRefill (h : Nat) (s : State) : State :=
  let r := getHandle s h
  if r.st ≠ .ready && r.st ≠ .filling then bufResult h eBufState s
  else if targeted s h then bufResult h eBufBusy s
  else bufResult h 0 (putHandle h { r with st := .filling, bad := false, redDone := false } (sclDrop h s))

def effRelease (h : Nat) (s : State) : State :=
  let r := getHandle s h
  if r.st = .free || r.st = .releasePending then bufResult h eBufState s
  else if r.st = .bound || r.st = .inUse then
    bufResult h 0 (putHandle h { r with st := .releasePending } (sclDrop h s))
  else if targeted s h then bufResult h eBufBusy s
  else bufResult h 0 (turnFree h s)

def bufStateCode : BufState → Nat
  | .free => 0
  | .filling => 1
  | .ready => 2
  | .bound => 3
  | .inUse => 4
  | .releasePending => 5

/-- LYR_BUF_STAT of a handle. -/
def bufStat (s : State) (h : Nat) : Nat :=
  let r := getHandle s h
  bufStateCode r.st + 2 ^ 4 * r.bad.toNat + 2 ^ 5 * r.redDone.toNat +
  2 ^ 8 * ((r.rdesc.map RedDesc.stripe).getD false).toNat + 2 ^ 9 * r.rdesc.isSome.toNat +
  2 ^ 10 * (targeted s h).toNat

def effQuery (h : Nat) (s : State) : State :=
  let r := getHandle s h
  bufResult h 0 (setRegN Reg.LYR_BUF_STAT (bufStat s h) (setRegN Reg.LYR_BUF_PITCH r.pitch.toNat
    (setRegN Reg.LYR_BUF_SIZE r.size.toNat (setRegN Reg.LYR_BUF_BASE r.base.toNat s))))

/-- Effect of a write of LYR_BUF_CMD. -/
def effBufCmd (v : Word) (s : State) : State :=
  let h := fld v 0 13
  match fld v 28 4 with
  | 1 => effDefine h s
  | 2 => effSeal h s
  | 3 => effRefill h s
  | 4 => effRelease h s
  | 5 => effQuery h s
  | _ => bufResult h eBufState s

/-- LYR_SCL_STAT. -/
def sclStat (s : State) : Word :=
  w32 (s.sclQueue.length + 2 ^ 15 * s.sclCur.isSome.toNat + 2 ^ 16 * s.sclCur.getD 0)

/-- LYR_N_FREE and LYR_N_PINNED. -/
def nFree (s : State) : Word := w32 (8192 - (s.handles.filter (fun e => e.2.st ≠ .free)).length)
def nPinned (s : State) : Word := w32 (s.handles.filter (fun e => pinnedState e.2.st)).length

/-- LYR_ACT_DATA (R99). -/
def actData (s : State) : Word :=
  if regFld s Reg.LYR_ACT_SEL 0 12 < 3072 then
    forceWord s (regFld s Reg.LYR_ACT_SEL 0 12) (regFld s Reg.LYR_ACT_SEL 16 5)
  else 0

/-! ### Contexts in force (R115, R122) -/

/-- An in-force layer that is shown: ENABLE = 1 and CLEARED = 0. -/
def inForce (s : State) (n : Nat) : Bool := bit (forceWord s n 0) 30 && !bit (forceWord s n 15) 9

/-- The contexts whose words a copy lists, with ENABLE = 1, in ascending order. -/
def enabledIn (l : Sparse Word) : List Nat :=
  (l.filter (fun e => e.1 % 32 = 0 && bit e.2 30)).map (fun e => e.1 / 32)

/-- The layers in force, in ascending order. -/
def forceLayers (s : State) : List Nat := (enabledIn s.ctxForce).filter (inForce s)

/-- Buffers that words 0 and 3 of an entry name. -/
def namedBufs (w0 w3 : Word) : List Nat := fld w3 0 13 :: (if bit w0 13 then [fld w3 16 13] else [])

/-- Buffers that the in-force entries name. -/
def forceBufs (s : State) : List Nat :=
  (forceLayers s).flatMap (fun n => namedBufs (forceWord s n 0) (forceWord s n 3))

/-- The in-force copy of context `n` holds handle `h` already (R118). -/
def holdsAlready (s : State) (n h : Nat) : Bool :=
  inForce s n && (namedBufs (forceWord s n 0) (forceWord s n 3)).contains h

/-- The state of a handle lets a frame read it (R118). -/
def readableState : BufState → Bool
  | .ready => true
  | .bound => true
  | .inUse => true
  | _ => false

/-- BUF of shadow entry `n` is usable for it (R118): outright where its in-force copy holds it already (log entry 12, DEDUCED). -/
def bufUsable (s : State) (n : Nat) : Bool :=
  let h := fld (shadowWord s n 3) 0 13
  let r := getHandle s h
  let reduce := bit (shadowWord s n 0) 14
  holdsAlready s n h || (readableState r.st && !r.bad &&
    sizeRule r (fmtOf (shadowWord s n 1) (shadowWord s n 2)) reduce && (!reduce || r.redDone))

/-- RBUF of shadow entry `n` is usable for it. -/
def rbufUsable (s : State) (n : Nat) : Bool :=
  let h := fld (shadowWord s n 3) 16 13
  let r := getHandle s h
  holdsAlready s n h ||
  (readableState r.st && !r.bad && reliefRule r (fmtOf (shadowWord s n 1) (shadowWord s n 2)))

/-- The layer is ready (R119). -/
def layerReady (s : State) (n : Nat) : Bool := bufUsable s n && (!bit (shadowWord s n 0) 13 || rbufUsable s n)

inductive Outcome where
  | hold
  | clear
  | holdGroup
deriving DecidableEq, Repr

/-- Shadow entries with ENABLE = 1 that are not ready. -/
def notReady (s : State) : List Nat := (enabledIn s.ctxShadow).filter (fun n => !layerReady s n)

def nrPolicy (s : State) (n : Nat) : Nat := fld (shadowWord s n 0) 28 2

def cgroup (s : State) (n : Nat) : Nat := fld (shadowWord s n 0) 16 8

/-- Not-ready contexts whose policy is STALL (R120). -/
def stalled (s : State) : List Nat := (notReady s).filter (fun n => nrPolicy s n = 2)

/-- The outcome of an enabled shadow entry, `none` where it takes the active contents (R120). -/
def outcomeOf (s : State) (nr : List Nat) (n : Nat) : Option Outcome :=
  if cgroup s n ≠ 0 && nr.any (fun k => cgroup s k = cgroup s n) then some .holdGroup
  else if nr.contains n then some (if nrPolicy s n = 1 then .clear else .hold)
  else none

/-- Report a boundary at which a layer is not ready (R124). -/
def reportNotReady (nr st : List Nat) (s : State) : State :=
  match nr with
  | [] => s
  | k :: _ =>
    let first := st.headD k
    let out := if st.isEmpty then
        (match outcomeOf s nr first with
         | some .clear => 1
         | some .holdGroup => 3
         | _ => 0)
      else 2
    raise 290 (first + 2 ^ 16 * nr.length + 2 ^ 32 * out)
      (setRegN Reg.LYR_NR_COUNT nr.length (setRegN Reg.LYR_NR_FIRST first s))

/-- HELD and CLEARED of word 15. -/
def heldFlags (v : Word) (held cleared : Bool) : Word := setBit (setBit v 8 held) 9 cleared

/-- The in-force table after a swap, `shadow` being the table as swapped (R122). -/
def forceAfter (s : State) (nr : List Nat) : Sparse Word :=
  let en := enabledIn s.ctxShadow
  let isHeld := fun n => en.contains n &&
    (outcomeOf s nr n = some .hold || outcomeOf s nr n = some .holdGroup)
  let kept := s.ctxForce.filter (fun e => isHeld (e.1 / 32))
  let taken := s.ctxShadow.filter (fun e => !isHeld (e.1 / 32))
  let merged := kept.foldl (fun l e => sPut zeroW e.1 e.2 l) taken
  en.foldl (fun l n =>
    let v := sGet zeroW (32 * n + 15) l
    match outcomeOf s nr n with
    | some .clear => sPut zeroW (32 * n + 15) (heldFlags v false true) l
    | some _ => sPut zeroW (32 * n + 15) (setBit v 8 true) l
    | none => l) merged

/-- The swap of the layer context table (R58, R122). -/
def swapContexts (nr : List Nat) (s : State) : State :=
  { s with ctxActive := s.ctxShadow, ctxForce := forceAfter s nr }

def bindOne (h : Nat) (s : State) : State :=
  let r := getHandle s h
  if r.st = .ready then putHandle h { r with st := .bound } s else s

/-- Bind the buffers of the in-force references (step 3 of R29). -/
def bindBufs (s : State) : State := (forceBufs s).foldl (fun s h => bindOne h s) s

def useOne (h : Nat) (s : State) : State :=
  let r := getHandle s h
  if r.st = .bound then putHandle h { r with st := .inUse } s else s

/-- At the start of Day, the buffers that the frame reads are in use (R115). -/
def useBufs (s : State) : State := (forceBufs s).foldl (fun s h => useOne h s) s

/-- A pinned buffer that nothing needs leaves (R115). -/
def unpinOne (h : Nat) (s : State) : State :=
  let r := getHandle s h
  match r.st with
  | .bound => turnReady h s
  | .inUse => turnReady h s
  | .releasePending => raise 291 h (turnFree h s)
  | _ => s

/-- The buffer keeps its pin: an in-force entry or a load names it. -/
def needed (s : State) (h : Nat) : Bool := (forceBufs s).contains h || s.lctc.loadH = some h

/-- A frame's composition is in progress. -/
def composing (s : State) : Bool := s.comp.st = .composing

/-- Sunset's effect on one buffer (R34, R115). -/
def sunsetOne (h : Nat) (s : State) : State :=
  if needed s h then
    let r := getHandle s h
    if r.st = .inUse && !composing s && s.lctc.loadH ≠ some h then putHandle h { r with st := .bound } s else s
  else unpinOne h s

/-- Release of pins at Sunset (R34). -/
def releasePins (s : State) : State :=
  ((s.handles.filter (fun e => pinnedState e.2.st)).map Prod.fst).foldl (fun s h => sunsetOne h s) s

/-! ### The layer scaler (R125–R130) -/

/-- The 2:1 filter's coefficients (R126). -/
def sclCoef : List Int := [-2, -6, 20, 52, 52, 20, -6, -2]

/-- A stored texel as a little-endian number. -/
def texelWord (mem : List Host.Cell) (base : Nat) (p : Plane) (row col : Nat) : Nat :=
  ofLe (readCells mem (base + p.off + row * p.pitch + col * p.bytes) p.bytes)

/-- Index `2 j − 3 + k` held within a plane. -/
def tapIdx (j k n : Nat) : Nat := min (2 * j + k - 3) (n - 1)

/-- One output code of the filter (R126). -/
def sclCode (mem : List Host.Cell) (base : Nat) (p : Plane) (c : Nat × Nat) (j i : Nat) : Nat :=
  let src := fun row col => nfld (texelWord mem base p row col) c.1 c.2
  let hrow := fun k => ((sclCoef.zipIdx).map (fun q => q.1 * (src (tapIdx j k p.h) (tapIdx i q.2 p.w) : Int))).sum
  let v := ((sclCoef.zipIdx).map (fun q => q.1 * hrow q.2)).sum
  (clampI 0 (2 ^ c.2 - 1 : Nat) ((v + 8192) / 16384)).toNat

/-- Source texels that output texel (i, j) draws on, or the output texel itself, were written while the buffer was
scaled: what the texel then holds is open (R125). -/
def texelTouched (touched : List (Nat × Nat)) (base : Nat) (p q : Plane) (j i : Nat) : Bool :=
  touched.any (fun t =>
    (List.range 8).any (fun k =>
      rangesMeet t.1 t.2 (base + p.off + tapIdx j k p.h * p.pitch + tapIdx i 0 p.w * p.bytes)
        ((tapIdx i 7 p.w + 1 - tapIdx i 0 p.w) * p.bytes)) ||
    rangesMeet t.1 t.2 (base + q.off + j * q.pitch + i * q.bytes) q.bytes)

/-- One row of a reduced plane `q` from the plane `p` above it. -/
def sclRow (s : State) (base : Nat) (p q : Plane) (j : Nat) : List Byte :=
  (List.range q.w).flatMap (fun i =>
    let word := if texelTouched s.sclTouched base p q j i then
        Config.freeNat (s.freeCtr + i) % 2 ^ (8 * q.bytes)
      else (q.comps.map (fun c => sclCode s.scene base p c j i * 2 ^ c.1)).sum
    leBytes q.bytes word)

/-- One reduced plane, row by row. -/
def sclPlane (base : Nat) (p q : Plane) (s : State) : State :=
  (List.range q.h).foldl (fun s j =>
    let row := sclRow s base p q j
    let s1 := memWrite .scene (base + q.off + j * q.pitch) row s
    if s.sclTouched.isEmpty then s1 else { s1 with freeCtr := s1.freeCtr + q.w }) s

/-- The format of a reduction description. -/
def descFmt (d : RedDesc) : Fmt := ⟨d.family.toNat, d.depth.toNat, d.abits.toNat, d.w, d.h⟩

/-- Level `k + 1` from level `k`. -/
def sclLevel (base : Nat) (f : Fmt) (p k : Nat) (s : State) : State :=
  ((planes f p k).zip (planes f p (k + 1))).foldl (fun s q => sclPlane base q.1 q.2 s) s

/-- A scaler's source bytes pass the error code like any reader's (R328). -/
def sclReads (base : Nat) (f : Fmt) (p : Nat) (s : State) : State :=
  (memRead .scene base (levelSize f f.h p) 4 s).1

/-- Both reductions of buffer `h` (R125). -/
def scaleBuf (h : Nat) (s : State) : State :=
  let r := getHandle s h
  match r.rdesc with
  | none => s
  | some d =>
    let f := descFmt d
    let p := pitchBytes r
    let b := baseBytes r
    let s1 := sclLevel b f p 1 (sclLevel b f p 0 (sclReads b f p s))
    raise 295 h (putHandle h { getHandle s1 h with redDone := true } s1)

/-! ### Matrix and transfer tables (R112, R459) -/

/-- The index after an access to entry `i` of a table of `size` entries (R459). -/
def nextIdx (size i : Nat) : Nat := if i + 1 < size then i + 1 else 0

/-- A read through an indexed data register: 0 beyond the table (R459). -/
def tabRead (idxReg t size : Nat) (s : State) : Word × State :=
  let i := regN s idxReg
  (if i < size then getTab s t false i else 0, setRegN idxReg (nextIdx size i) s)

/-- A write through an indexed data register: `mask` keeps the bits of the entry's format. -/
def tabWrite (page idxReg t size : Nat) (mask : Nat → Word) (v : Word) (s : State) : State :=
  let i := regN s idxReg
  let s1 := setRegN idxReg (nextIdx size i) s
  if i < size then setDirty page (setTab t false i (v &&& mask i) s1) else s1

/-- Bits that a matrix table word holds (R112). -/
def cmxMask (i : Nat) : Word :=
  let w := i % 16
  if w = 0 then 0x13 else if w ≤ 3 then 0x3FFFF else if w ≤ 12 then 0x1FFFF else 0

/-! ### Commands -/

def execContextWrite (m : Master) (n : Fin 3072) (w : Fin 32) (v : Word) (s : State) :
    Host.Outcome State Fault Refusal :=
  done (ctxWrite m n.val w.val v s)

/-- ARM: a write of word 0 with ARM = 1. -/
def execArm (m : Master) (n : Fin 3072) (v : Word) (s : State) : Host.Outcome State Fault Refusal :=
  done (ctxWrite m n.val 0 (setBit v 31 true) s)

/-- The word of LYR_BUF_CMD for a command on a handle. -/
def bufCmdWord (cmd h : Nat) : Word := w32 (h + 2 ^ 28 * cmd)

def execDefine (m : Master) (h : Fin 8192) (s : State) : Host.Outcome State Fault Refusal :=
  done (writeWith m Reg.LYR_BUF_CMD (bufCmdWord 1 h.val) (effDefine h.val) s)

def execSeal (m : Master) (h : Fin 8192) (s : State) : Host.Outcome State Fault Refusal :=
  done (writeWith m Reg.LYR_BUF_CMD (bufCmdWord 2 h.val) (effSeal h.val) s)

def execRefill (m : Master) (h : Fin 8192) (s : State) : Host.Outcome State Fault Refusal :=
  done (writeWith m Reg.LYR_BUF_CMD (bufCmdWord 3 h.val) (effRefill h.val) s)

def execRelease (m : Master) (h : Fin 8192) (s : State) : Host.Outcome State Fault Refusal :=
  done (writeWith m Reg.LYR_BUF_CMD (bufCmdWord 4 h.val) (effRelease h.val) s)

def execQuery (m : Master) (h : Fin 8192) (s : State) : Host.Outcome State Fault Refusal :=
  done (writeWith m Reg.LYR_BUF_CMD (bufCmdWord 5 h.val) (effQuery h.val) s)

def cmxRead (s : State) : Word × State := tabRead Reg.LYR_CMX_IDX tabCMX 1024 s
def cmxWrite (v : Word) (s : State) : State := tabWrite 0x1E Reg.LYR_CMX_IDX tabCMX 1024 cmxMask v s
def eotfRead (s : State) : Word × State := tabRead Reg.LYR_EOTF_IDX tabEOTF 4100 s
def eotfWrite (v : Word) (s : State) : State := tabWrite 0x1E Reg.LYR_EOTF_IDX tabEOTF 4100 (fun _ => 0x3FFFF) v s

def execLyrCmxData (m : Master) (x : Acc) (s : State) : Host.Outcome State Fault Refusal :=
  done (dataAccess m Reg.LYR_CMX_DATA x cmxRead cmxWrite s)

def execLyrEotfData (m : Master) (x : Acc) (s : State) : Host.Outcome State Fault Refusal :=
  done (dataAccess m Reg.LYR_EOTF_DATA x eotfRead eotfWrite s)

/-- The scaler starts the buffer at the head of its queue (R125). -/
def execScalerStart (s : State) : Host.Outcome State Fault Refusal :=
  match s.sclQueue, s.sclCur with
  | h :: t, none =>
    if fabricOn s && regBit s Reg.LYR_SCL_CTL 0 && enabled s 0x1E then
      done { s with sclQueue := t, sclCur := some h, sclTouched := [] }
    else done s
  | _, _ => done s

/-- Both levels of the buffer being scaled are complete (R125): all its rows land here, so a REFILL or RELEASE before it
leaves none of them in memory (log entry 12, DESIGN CHOICE). -/
def execScalerDone (s : State) : Host.Outcome State Fault Refusal :=
  match s.sclCur with
  | none => done s
  | some h => if fabricOn s then done { scaleBuf h s with sclCur := none, sclTouched := [] } else done s

end Sys2Proof.Machine
end

