-- ==== Sys2Proof/Machine/Lct.lean ====
section
/-!
DEFINITION. The lenslet calibration table: its check bits, the bulk load, the indirect write queue and the background
audit (03_ray_geometry.md, R72–R90, R204).
-/
namespace Sys2Proof.Machine

abbrev lctSize : Nat := 2073600

/-! ### Check bits (R74, R75) -/

/-- Positions 1–62 that are not powers of two, ascending: bit i of the data has the i-th. -/
def eccPos : List Nat := (List.range 63).filter (fun p => p ≠ 0 && p &&& (p - 1) ≠ 0)

def xorAll (l : List Bool) : Bool := l.foldl Bool.xor false

def parityN (w n : Nat) : Bool := xorAll (lsbBits w n)

/-- ECC[k], k = 0–5, of 56 data bits. -/
def eccLow (d : Nat) (k : Nat) : Bool :=
  xorAll ((eccPos.zipIdx).map (fun q => q.1.testBit k && d.testBit q.2))

/-- ECC[5:0] of 56 data bits. -/
def ecc6 (d : Nat) : Nat := ((List.range 6).map (fun k => (eccLow d k).toNat * 2 ^ k)).sum

/-- The 8 check bits of data `d` (56 bits) at index `i` (R74). -/
def eccOf (i d : Nat) : Nat :=
  ecc6 d + 2 ^ 6 * (Bool.xor (parityN 56 d) (parityN 6 (ecc6 d))).toNat + 2 ^ 7 * (parityN 21 i).toNat

inductive EccRead where
  | good
  | corrected
  | bad
deriving DecidableEq, Repr

/-- A stored entry as read: its data bits after correction, and the outcome of R75. -/
def lctDecode (i : Nat) (e : DWord) : Nat × EccRead :=
  let d := dfld e 0 56
  let c := dfld e 56 8
  let sy := ecc6 d ^^^ (c % 64)
  let p := Bool.xor (parityN 56 d) (parityN 7 (c % 128))
  if c.testBit 7 ≠ parityN 21 i then (d, .bad)
  else if sy = 0 then (d, if p then .corrected else .good)
  else if !p then (d, .bad)
  else
    match eccPos.findIdx? (· = sy) with
    | some k => (d ^^^ 2 ^ k, .corrected)
    | none => if sy = 63 then (d, .bad) else (d, .corrected)

/-! ### Entries -/

/-- Entry `i` as stored. -/
def lctEntry (s : State) (i : Nat) : DWord := sGet zeroD i s.lct

/-- Write the data bits of an entry, with its check bits (R74). -/
def lctPut (i : Nat) (v : DWord) (s : State) : State :=
  let d := dfld v 0 56
  { s with lct := sPut zeroD i (w64 (d + 2 ^ 56 * eccOf i d)) s.lct }

/-- The nominal entry of R76. -/
abbrev lctNominal : Nat := 0x200 * 2 ^ 40

def lctDead (d : Nat) : Bool := d.testBit 50
def lctG (d : Nat) : Nat := nfld d 40 10
def lctTheta (d : Nat) : Int := sx 12 (nfld d 28 12)
def lctDY (d : Nat) : Int := sx 14 (nfld d 14 14)
def lctDX (d : Nat) : Int := sx 14 (nfld d 0 14)

/-- The larger of |DX| and |DY|, in 2^−10 pixel. -/
def lctD (d : Nat) : Nat := max (lctDX d).natAbs (lctDY d).natAbs

/-- Count an uncorrectable read and record its index (R76). -/
def lctCountUE (i : Nat) (s : State) : State := setRegN Reg.LCT_LAST_ERR i (bumpSat Reg.LCT_N_UNCORR s)

/-- LCT_EV_UNCORR for index `i`: reader 0 composer, 1 audit, 2 indirect. -/
def lctRaiseUE (i reader : Nat) (s : State) : State :=
  raise 309 (i + 2 ^ 32 * reader) { s with lctc := { s.lctc with told := i :: s.lctc.told } }

/-- What reading entry `i` by a composer engine (reader 0) or the audit (1) does beside delivering it (log entry 16, DEDUCED). -/
def lctTouch (i reader : Nat) (s : State) : State :=
  match (lctDecode i (lctEntry s i)).2 with
  | .good => s
  | .corrected => bumpSat Reg.LCT_N_CORR s
  | .bad => lctRaiseUE i reader (lctCountUE i s)

/-- The data a composer engine uses for entry `i` (R75, R76). -/
def lctUsed (s : State) (i : Nat) : Nat :=
  let r := lctDecode i (lctEntry s i)
  if r.2 = .bad then lctNominal else r.1

/-! ### Extremes (R204) -/

def queueEntries (l : LctCtl) : List Nat :=
  l.queue.filterMap (fun q => match q with
    | .entry _ v => some (dfld v 0 56)
    | .crc _ => none)

/-- Extremes of a list of entries over running ones. -/
def extremes (d g : Nat) (l : List Nat) : Nat × Nat := l.foldl (fun a e => (max a.1 (lctD e), max a.2 (lctG e))) (d, g)

/-- DMAX and GMAX over the table's extremes and the queue's entries. -/
def setExtremes (d g : Nat) (s : State) : State :=
  let x := extremes d g (queueEntries s.lctc)
  { s with lctc := { s.lctc with dmax := x.1, gmax := x.2 } }

/-! ### Background audit (R88–R90) -/

/-- A pass may run (R88). -/
def auditMay (s : State) : Bool := regBit s Reg.LCT_AUDIT 4 && s.lctc.loaded && !s.lctc.loading

/-- CRC of R78 over the data bits of one more entry; the register before its final XOR. -/
def crc56 (c d : Nat) : Nat := crcLsb 0x82F63B78 c (leBytes 7 d)

/-- Discard a pass in progress and start one from index 0 where R88 lets one run (R90). -/
def auditRestart (s : State) : State :=
  { s with lctc := { s.lctc with pass := if auditMay s then some 0 else none, crc := 0xFFFFFFFF, dead := 0,
                                 passD := 0, passG := 0 } }

/-- After a change of a condition of R88: a pass stops where it may not run, and starts where it may. -/
def auditCheck (before : Bool) (s : State) : State := if before = auditMay s then s else auditRestart s

/-- The end of a pass (R88). -/
def auditEnd (s : State) : State :=
  let crc := s.lctc.crc.toNat ^^^ 0xFFFFFFFF
  let ok := w32 crc = getReg s Reg.LCT_CRC_EXP
  let s1 := bumpWrap Reg.LCT_AUDIT_PASSES (setRegN Reg.LCT_AUDIT_CRC crc (setRegN Reg.LCT_N_DEAD s.lctc.dead s))
  let s2 := setExtremes s.lctc.passD s.lctc.passG { s1 with lctc := { s1.lctc with auditOk := ok } }
  auditRestart (if ok then s2 else raise 308 crc s2)

/-- The audit reads entry `i` (R88, R89). -/
def auditStep (i : Nat) (s : State) : State :=
  let r := lctDecode i (lctEntry s i)
  let s1 := lctTouch i 1 s
  let s2 := if r.2 = .corrected then lctPut i (w64 r.1) s1 else s1
  let l := s2.lctc
  let s3 := { s2 with lctc := { l with
    pass := some (i + 1), crc := w32 (crc56 l.crc.toNat r.1), dead := l.dead + (lctDead r.1).toNat,
    passD := max l.passD (lctD r.1), passG := max l.passG (lctG r.1) } }
  if i + 1 = lctSize then auditEnd s3 else s3

/-! ### Bulk load (R79–R83) -/

/-- The load's source passes the check of R81: LOAD_ERR, 0 where it passes (log entry 16, DEDUCED). -/
def loadCheck (s : State) : Nat :=
  if s.lctc.src then
    (match s.boot.lct with
     | some (_, size, _) => if size = 8 * lctSize then 0 else 4
     | none => 4)
  else
    let h := getHandle s (regFld s Reg.LCT_LOAD_BUF 0 13)
    if h.st = .ready && 8 * lctSize ≤ sizeBytes h then 0 else 2

/-- A load ends without success (R82): `crc` is the CRC computed over what was read. -/
def loadFail (code crc : Nat) (written : Bool) (s : State) : State :=
  let l := s.lctc
  let s1 := { s with lctc := { l with
    loading := false, begun := false, loadErr := BitVec.ofNat 4 code,
    loaded := l.loaded && !written, auditOk := l.auditOk && !written, loadH := none } }
  let s2 := match l.loadH with
    | some h => if needed s1 h then s1 else unpinOne h s1
    | none => s1
  auditRestart (raise 307 (crc + 2 ^ 32 * code) s2)

/-- The boundary of R80 pins the buffer that passed the check: it is read from this instant on (R81, R115). -/
def loadPin (code : Option Nat) (s : State) : State :=
  if code = some 0 && !s.lctc.src then
    let h := regFld s Reg.LCT_LOAD_BUF 0 13
    putHandle h { getHandle s h with st := .inUse } { s with lctc := { s.lctc with loadH := some h } }
  else s

/-- Begin the armed load, or end it at once where its source failed the check (R80, R81). -/
def loadBegin (code : Nat) (s : State) : State :=
  if code = 0 then
    { s with lctc := { s.lctc with begun := true, pass := none, put := 0, crc := 0xFFFFFFFF, dead := 0, passD := 0, passG := 0 } }
  else loadFail code 0 false s

/-- A load is armed and has not begun. -/
def loadCanBegin (s : State) : Bool := s.lctc.loading && !s.lctc.begun

/-- The bytes of the source from `off` on. -/
def loadBytes (s : State) (off n : Nat) : List Byte :=
  match s.lctc.loadH with
  | some h => readCells s.scene (baseBytes (getHandle s h) + off) n
  | none =>
    match s.boot.lct with
    | some (o, _, _) => (List.range n).map (fun i => sGet (fun _ => (0xFF : Byte)) (o + off + i) s.boot.flash)
    | none => []

/-- Entries `i` to `i + n − 1` of the source written into the table, with the running CRC, DEAD count and extremes. -/
def loadEntries : Nat → Nat → State → State
  | _, 0, s => s
  | i, n + 1, s =>
    let d := ofLe (loadBytes s (8 * i) 7)
    let s1 := lctPut i (w64 d) s
    let l := s1.lctc
    loadEntries (i + 1) n { s1 with lctc := { l with
      crc := w32 (crc56 l.crc.toNat d), dead := l.dead + (lctDead d).toNat,
      passD := max l.passD (lctD d), passG := max l.passG (lctG d) } }

/-- A load from a buffer reads entries `i` to `i + n − 1` as a demand reader (R328). -/
def loadReads (i n : Nat) (s : State) : State :=
  match s.lctc.loadH with
  | some h => (memRead .scene (baseBytes (getHandle s h) + 8 * i) (8 * n) 4 s).1
  | none => s

/-- The load has written the entries below `n`. -/
def loadTo (n : Nat) (s : State) : State :=
  let i := s.lctc.put
  if n ≤ i then s
  else
    let s1 := loadEntries i (n - i) (loadReads i (n - i) s)
    { s1 with lctc := { s1.lctc with put := n } }

/-- An indirect read meets a load somewhere on its way: how far it has come is a free value (R84) (log entry 16, DESIGN CHOICE). -/
def loadMove (s : State) : State :=
  if s.lctc.begun then tickFree (loadTo (s.lctc.put + freeVal s % (lctSize + 1 - s.lctc.put)) s) else s

/-- The check after the last entry (R82). -/
def loadVerdict (s1 : State) : State :=
  let crc := s1.lctc.crc.toNat ^^^ 0xFFFFFFFF
  if w32 crc = getReg s1 Reg.LCT_LOAD_CRC then
    let h := s1.lctc.loadH
    let s2 := setReg Reg.LCT_N_DEAD (w32 s1.lctc.dead) (setReg Reg.LCT_CRC_EXP (getReg s1 Reg.LCT_LOAD_CRC)
      (setExtremes s1.lctc.passD s1.lctc.passG { s1 with lctc := { s1.lctc with
        loaded := true, auditOk := true, loading := false, begun := false, loadH := none } }))
    let s3 := match h with
      | some h => if needed s2 h then s2 else unpinOne h s2
      | none => s2
    auditRestart (raise 306 (crc + 2 ^ 32 * s1.lctc.src.toNat) s3)
  else loadFail 1 crc true s1

/-- The last entry is written (R82). -/
def loadComplete (s : State) : State := loadVerdict (loadTo lctSize s)

/-- Effect of a write of LCT_CTL (R79). -/
def effLctCtl (v : Word) (s : State) : State :=
  let s1 := setReg Reg.LCT_CTL (v &&& 6) s
  if bit v 0 && !s.lctc.loading then
    { s1 with lctc := { s1.lctc with
        loading := true, begun := false, src := bit v 1, loadErr := 0,
        qdiscard := !s1.lctc.queue.isEmpty, queue := [], pass := none } }
  else s1

/-! ### Indirect access (R84–R87) -/

/-- LCT_IDX after an access with AUTOINC. -/
def lctAdvance (s : State) : State :=
  if regBit s Reg.LCT_CTL 2 then setRegN Reg.LCT_IDX (nextIdx lctSize (regN s Reg.LCT_IDX)) s else s

/-- A read of LCT_RDATA_LO: ECC as stored, data as corrected; the high half is held (R84). -/
def lctReadLo (m : Nat) (s : State) : Word × State :=
  let i := regN s Reg.LCT_IDX
  let e := lctEntry s i
  let r := lctDecode i e
  let v := w64 (r.1 + 2 ^ 56 * dfld e 56 8)
  let s1 := holdHigh m Reg.LCT_RDATA_HI (hi32 v) s
  (lo32 v,
   match r.2 with
   | .good => s1
   | .corrected => bumpSat Reg.LCT_N_CORR s1
   | .bad =>
     let s2 := lctCountUE i s1
     if s2.lctc.told.contains i then s2 else lctRaiseUE i 2 s2)

/-- A read of LCT_RDATA_HI: the held bits, or the live ones (R16), then the index advances (R84). -/
def lctReadHi (m : Nat) (s : State) : Word × State :=
  let i := regN s Reg.LCT_IDX
  let e := lctEntry s i
  let live := hi32 (w64 ((lctDecode i e).1 + 2 ^ 56 * dfld e 56 8))
  let r := takeHigh m Reg.LCT_RDATA_HI live s
  (r.1, lctAdvance r.2)

/-- An item joins the indirect write queue; DMAX and GMAX rise at once (R85, R204). -/
def lctEnqueue (q : LctItem) (s : State) : State :=
  let l := s.lctc
  let x := match q with
    | .entry _ v => extremes l.dmax l.gmax [dfld v 0 56]
    | .crc _ => (l.dmax, l.gmax)
  { s with lctc := { l with queue := l.queue ++ [q], dmax := x.1, gmax := x.2 } }

/-- Effect of a write of LCT_WDATA_HI with room in the queue. -/
def effWdataHi (v : Word) (s : State) : State :=
  lctAdvance (lctEnqueue (.entry (regN s Reg.LCT_IDX) (mk64 v (getReg s Reg.LCT_WDATA_LO))) s)

def effCrcExp (v : Word) (s : State) : State := lctEnqueue (.crc v) s

/-- A write that finds 64 items queued is held, or for M0 answered busy (R85, R461). -/
def lctQueued (m : Master) (a : Nat) (v : Word) (eff : State → State) (s : State) : State :=
  if s.lctc.queue.length < 64 then eff s else holdOrBusy m .lctQueue (.write m a v) s

/-- LCT_IDX lies beyond the table: a read of a data register or a write of LCT_WDATA_HI is a violation with reason 2
(R87). A write of the read-only data registers never is one (R45, R49) (log entry 16, DEDUCED). -/
def lctIdxBad (s : State) : Bool := lctSize ≤ regN s Reg.LCT_IDX

/-- A read of an LCT data register, checked as R87 lays down. -/
def lctRead (m : Master) (a : Nat) (rd : Nat → State → Word × State) (s : State) : State :=
  match gate s m.val a false with
  | some r => answer r 0 s
  | none =>
    if frozen s m.val then answer .frozen 0 s
    else
      match mustHold s m.val a with
      | some w => holdOrBusy m w (.read m a) s
      | none =>
        if lctIdxBad s then answer (.violation 2) 0 (violate m.val 0 a 2 s)
        else answer .done (rd m.val (loadMove s)).1 (rd m.val (loadMove s)).2

/-- A write of LCT_WDATA_HI: R87, then R85. -/
def lctWriteHi (m : Master) (v : Word) (s : State) : State :=
  if lctIdxBad s then answer (.violation 2) 0 (violate m.val 1 Reg.LCT_WDATA_HI 2 s)
  else lctQueued m Reg.LCT_WDATA_HI v (effWdataHi v) s

/-- One queued item takes effect (R86). -/
def applyItem (q : LctItem) (s : State) : State :=
  match q with
  | .entry i v => lctPut i v s
  | .crc v => setReg Reg.LCT_CRC_EXP v s

/-- The application point (R86, R90). -/
def lctApply (s : State) : State :=
  if s.lctc.queue.isEmpty then s
  else auditRestart (s.lctc.queue.foldl (fun s q => applyItem q s) { s with lctc := { s.lctc with queue := [] } })

/-- Effect of a write of LCT_AUDIT: a pass in progress is discarded (R88, R90). -/
def effLctAudit (v : Word) (s : State) : State := auditRestart (setReg Reg.LCT_AUDIT (v &&& 0x1F) s)

/-- LCT_STAT. -/
def lctStat (s : State) : Word :=
  let l := s.lctc
  w32 (l.loaded.toNat + 2 * l.loading.toNat + 4 * l.auditOk.toNat + 8 * l.pass.isSome.toNat +
    2 ^ 4 * l.qdiscard.toNat + 2 ^ 8 * l.queue.length + 2 ^ 16 * l.loadErr.toNat)

/-! ### Commands -/

def execLctLoadArm (m : Master) (v : Word) (s : State) : Host.Outcome State Fault Refusal :=
  done (writeWith m Reg.LCT_CTL v (effLctCtl v) s)

def execLctLoadBegin (s : State) : Host.Outcome State Fault Refusal :=
  match s.period.loadDue with
  | none => done s
  | some code =>
    let s1 := { s with period := { s.period with loadDue := none } }
    if loadCanBegin s && unitOn s 0x1F then done (loadBegin code s1) else done s1

def execLctLoadComplete (s : State) : Host.Outcome State Fault Refusal :=
  if s.lctc.begun && unitOn s 0x1F then done (loadComplete s) else done s

/-- A QSPI read error after `written` entries ends the load with LOAD_ERR 3 (R81, R82). -/
def execLctLoadReadError (written : Nat) (s : State) : Host.Outcome State Fault Refusal :=
  if s.lctc.begun && s.lctc.src && unitOn s 0x1F then
    let s1 := loadTo (min written lctSize) s
    done (loadFail 3 (s1.lctc.crc.toNat ^^^ 0xFFFFFFFF) (s1.lctc.put ≠ 0) s1)
  else done s

def execLctRdataLo (m : Master) (s : State) : Host.Outcome State Fault Refusal :=
  done (lctRead m Reg.LCT_RDATA_LO lctReadLo s)

def execLctRdataHi (m : Master) (s : State) : Host.Outcome State Fault Refusal :=
  done (lctRead m Reg.LCT_RDATA_HI lctReadHi s)

def execLctWdataHi (m : Master) (v : Word) (s : State) : Host.Outcome State Fault Refusal :=
  done (writeWith m Reg.LCT_WDATA_HI v (lctWriteHi m v) s)

def execLctCrcExp (m : Master) (v : Word) (s : State) : Host.Outcome State Fault Refusal :=
  done (writeWith m Reg.LCT_CRC_EXP v (lctQueued m Reg.LCT_CRC_EXP v (effCrcExp v)) s)

def execLctAudit (m : Master) (v : Word) (s : State) : Host.Outcome State Fault Refusal :=
  done (writeWith m Reg.LCT_AUDIT v (effLctAudit v) s)

/-- The background audit reads its next entry (R88). -/
def execAuditRead (s : State) : Host.Outcome State Fault Refusal :=
  match s.lctc.pass with
  | none => done s
  | some i => if auditMay s && unitOn s 0x1F && i < lctSize then done (auditStep i s) else done s

end Sys2Proof.Machine
end

