-- ==== Sys2Proof/Machine/Fdc.lean ====
section
/-!
DEFINITION. Floxel dictionary coding: one step of the decoder over a context's unread bits (05_ingest_decompression.md,
R160–R170).
-/
namespace Sys2Proof.Machine

/-- What ends a decoding step early: more input is needed, or an error with its code and stream bit offset (R170). -/
inductive FdcStop where
  | need
  | err (code bit : Nat)
deriving DecidableEq, Repr

/-- Unread bits, and how many have been read in this step. -/
structure BitRd where
  bits : List Bool
  used : Nat
deriving DecidableEq, Repr

/-- A fixed field of `n` bits; the first bit read is bit 0 (R160). -/
def getBits : Nat → BitRd → Except FdcStop (Nat × BitRd)
  | 0, r => .ok (0, r)
  | n + 1, r =>
    match r.bits with
    | [] => .error .need
    | b :: t =>
      match getBits n ⟨t, r.used + 1⟩ with
      | .ok (v, r') => .ok (b.toNat + 2 * v, r')
      | .error e => .error e

abbrev eIllegal : Nat := 1
abbrev eDistance : Nat := 2
abbrev eOverrun : Nat := 3
abbrev eTable : Nat := 4
abbrev eHeader : Nat := 5
abbrev eTruncated : Nat := 6
abbrev eState : Nat := 7

/-- Read code lengths until there are 274 (R166). `rev` holds them newest first, `at0` is the table's first bit. -/
def readLens : Nat → Nat → List Nat → BitRd → Except FdcStop (List Nat × BitRd)
  | 0, at0, _, _ => .error (.err eTable at0)
  | fuel + 1, at0, rev, r =>
    if rev.length = 274 then .ok (rev.reverse, r)
    else do
      let (v, r1) ← getBits 4 r
      if v < 15 then readLens fuel at0 (v :: rev) r1
      else
        let (k, r2) ← getBits 1 r1
        let (x, r3) ← getBits (if k = 0 then 6 else 4) r2
        match k, rev with
        | 0, _ =>
          if 274 < rev.length + (x + 3) then .error (.err eTable at0)
          else readLens fuel at0 (List.replicate (x + 3) 0 ++ rev) r3
        | _, [] => .error (.err eTable at0)
        | _, l :: _ =>
          if 274 < rev.length + (x + 3) then .error (.err eTable at0)
          else readLens fuel at0 (List.replicate (x + 3) l ++ rev) r3

/-- The lengths give a complete code with an END_BLOCK (R166). -/
def lensOk (lens : List Nat) : Bool :=
  lens.getD 257 0 ≠ 0 && ((lens.filter (· ≠ 0)).map (fun l => 2 ^ (14 - l))).sum = 2 ^ 14

/-- Symbols of one length, ascending. -/
def symsOf (lens : List Nat) (l : Nat) : List Nat := ((lens.zipIdx).filter (fun q => q.1 = l)).map Prod.snd

/-- A prefix code, its first bit the most significant: `len` bits have given `code`; `first` is the first code of that
length (R167). -/
def getPrefix : Nat → List Nat → Nat → Nat → Nat → BitRd → Except FdcStop (Nat × BitRd)
  | 0, _, _, _, _, _ => .error .need
  | fuel + 1, lens, len, code, first, r => do
    let (b, r1) ← getBits 1 r
    let code' := 2 * code + b
    let first' := 2 * (first + (if len = 0 then 0 else (symsOf lens len).length))
    let syms := symsOf lens (len + 1)
    match if first' ≤ code' then syms[code' - first']? else none with
    | some y => .ok (y, r1)
    | none => getPrefix fuel lens (len + 1) code' first' r1

/-- Number of bits of `n`. -/
def bitLen (n : Nat) : Nat := if n = 0 then 0 else n.log2 + 1

/-- The next free dictionary entry of a context (R162). -/
def nextEntry (c : Dcx) : Nat := 259 + c.dict.length

/-- The next code of a block, and whether it came from a dynamic table's class (R164, R165). `start` is the token's
first bit. -/
def getCode (c : Dcx) (b : FdcBlock) (start : Nat) (r : BitRd) : Except FdcStop (Nat × BitRd) :=
  let n := nextEntry c
  match b.table with
  | none => getBits (if n = 16384 then 14 else max 9 (bitLen n)) r
  | some lens => do
    let (y, r1) ← getPrefix 14 lens 0 0 0 r
    if y < 259 then .ok (y, r1)
    else
      let j := y - 259
      let (x, r2) ← getBits (j - 1) r1
      let d := if j < 2 then j else 2 ^ (j - 1) + x
      if n < d + 259 then .error (.err eIllegal start) else .ok (n - d, r2)

/-- Copy `len` bytes at a distance, one at a time, onto the history; the new bytes newest first (R168). -/
def copyBytes : Nat → Nat → List Byte → List Byte → List Byte
  | 0, _, _, acc => acc
  | n + 1, dist, hist, acc =>
    let b := hist.getD (dist - 1) 0
    copyBytes n dist (b :: hist) (b :: acc)

/-- The context after reading `r`, with its unread bits. -/
def advance (c : Dcx) (r : BitRd) : Dcx :=
  { c with input := c.input.drop ((c.bit + r.used) / 8), bit := (c.bit + r.used) % 8, pos := c.pos + r.used }

/-- A token's bytes pass the block's OUTLEN or the handle's extent (R169). -/
def noRoom (limit : Nat) (c : Dcx) (b : FdcBlock) (len : Nat) : Bool :=
  b.outlen < b.made + len || limit < c.offset + c.decoded + len

/-- The context after it wrote `out` (oldest first), with the block's count. -/
def emit (c : Dcx) (b : FdcBlock) (out : List Byte) : Dcx :=
  { c with decoded := c.decoded + out.length, hist := (out.reverse ++ c.hist).take 131072,
           blk := some { b with made := b.made + out.length } }

/-- A block header, with its dynamic table (R161, R166). -/
def fdcHeader (c : Dcx) (r : BitRd) : Except FdcStop (Dcx × List Byte) := do
  let (hdr, r1) ← getBits 24 r
  if nfld hdr 2 2 ≠ 0 then .error (.err eHeader c.pos)
  else
    let blk : FdcBlock := { last := hdr.testBit 0, table := none, outlen := nfld hdr 4 20 + 1, made := 0 }
    if hdr.testBit 1 then
      let at0 := c.pos + r1.used
      let (lens, r2) ← readLens 275 at0 [] r1
      if lensOk lens then .ok (advance { c with blk := some { blk with table := some lens }, prev := none } r2, [])
      else .error (.err eTable at0)
    else .ok (advance { c with blk := some blk, prev := none } r1, [])

/-- END_BLOCK, and the padding up to the next byte boundary (R161). -/
def fdcEndBlock (c : Dcx) (b : FdcBlock) (start : Nat) (r : BitRd) : Except FdcStop (Dcx × List Byte) :=
  if b.made ≠ b.outlen then .error (.err eTruncated start)
  else do
    let at0 := c.pos + r.used
    let (pad, r1) ← getBits ((8 - at0 % 8) % 8) r
    if pad ≠ 0 then .error (.err eHeader at0)
    else .ok (advance { c with blk := none, prev := none, ended := b.last } r1, [])

/-- ROWCOPY (R168). -/
def fdcRowCopy (limit : Nat) (c : Dcx) (b : FdcBlock) (start : Nat) (r : BitRd) : Except FdcStop (Dcx × List Byte) := do
  let (d, r1) ← getBits 17 r
  let (k, r2) ← getBits 4 r1
  let (x, r3) ← getBits k r2
  let len := 2 + 2 ^ k + x
  if c.decoded < d + 1 then .error (.err eDistance start)
  else if noRoom limit c b len then .error (.err eOverrun start)
  else
    let out := (copyBytes len (d + 1) c.hist []).reverse
    .ok (advance { emit c b out with prev := none } r3, out)

/-- A literal or a phrase (R163). -/
def fdcPhrase (limit : Nat) (c : Dcx) (b : FdcBlock) (start code : Nat) (r : BitRd) :
    Except FdcStop (Dcx × List Byte) :=
  let n := nextEntry c
  let ph := if code < 256 then some [BitVec.ofNat 8 code]
    else if code < n then c.dict[code - 259]?
    else if code = n ∧ n < 16384 then c.prev.map (fun p => p ++ p.take 1)
    else none
  match ph with
  | none => .error (.err eIllegal start)
  | some ph =>
    if noRoom limit c b ph.length then .error (.err eOverrun start)
    else
      let c1 := emit c b ph
      let dict := match c.prev with
        | some p => if n < 16384 then c.dict ++ [p ++ ph.take 1] else c.dict
        | none => c.dict
      .ok (advance { c1 with dict := dict, prev := some ph } r, ph)

/-- The next header or token of a context, its output bytes, oldest first (R169). `limit` is the handle's size. -/
def fdcStep (limit : Nat) (c : Dcx) : Except FdcStop (Dcx × List Byte) :=
  let r : BitRd := ⟨((c.input.take 256).flatMap (fun b => lsbBits 8 b.toNat)).drop c.bit, 0⟩
  match c.blk with
  | none => fdcHeader c r
  | some b => do
    let (code, r1) ← getCode c b c.pos r
    if code = 257 then fdcEndBlock c b c.pos r1
    else if code = 256 then .ok (advance { c with dict := [], prev := none } r1, [])
    else if code = 258 then fdcRowCopy limit c b c.pos r1
    else fdcPhrase limit c b c.pos code r1

end Sys2Proof.Machine
end

