-- ==== Sys2Proof/Machine/Ingest.lean ====
section
/-!
DEFINITION. Decompression contexts: commands, residency, decoding and its output through the ingest write cap
(05_ingest_decompression.md, R151–R171).
-/
namespace Sys2Proof.Machine

/-! ### Ending a context (R152, R170) -/

/-- Output writes of context `n` that wait at the write cap. -/
def outWaiting (s : State) (n : Nat) : Bool :=
  s.wcapQ.any (fun c => match c.src with
    | .ctx k => k = n
    | .wr _ => false)

/-- A context gives its resident slot up. -/
def leaveSlot (n : Nat) (s : State) : State :=
  let c := getDcx s n
  match c.resident with
  | none => s
  | some e =>
    setRegFld (Reg.DCX_STAT e) 4 3 (regFld s (Reg.DCX_STAT e) 4 3 - 1) (putDcx n { c with resident := none } s)

/-- The buffer of a context in error is BAD (R115, R170). -/
def markBad (h : Nat) (s : State) : State := raise 293 h (putHandle h { getHandle s h with bad := true } s)

/-- The context enters ERROR: its buffer is BAD, and DCX_EV_ERROR is raised on the engine that ran it (R170). One that no
engine ever ran, ended by CLOSE, has no engine's page to raise it on or count it (log entry 12, DEDUCED). -/
def enterError (n code : Nat) (s : State) : State :=
  let c := getDcx s n
  let s1 := markBad c.handle.toNat (leaveSlot n s)
  let s2 := putDcx n { getDcx s1 n with st := .error, err := BitVec.ofNat 3 code, ending := none, input := [],
                                        dict := [], prev := none, hist := [], blk := none } s1
  match c.ran with
  | none => s2
  | some e =>
    raise (256 + 2 * e) (n + 2 ^ 12 * code + 2 ^ 16 * (c.ebit % 2 ^ 48)) (bumpSat (Reg.DCX_N_ERR e) s2)

/-- The context is CLOSED (R152, R153). Completions that are due stay owed. -/
def closeContext (n : Nat) (s : State) : State :=
  let c := getDcx s n
  putDcx n { acks := c.acks.filter (fun a => a.1 ≤ c.pos || c.ended || c.st = .error) } (leaveSlot n s)

/-- A context whose error or ABORT waits for its output ends once the last byte is written (R152). Where an engine fault
meets an ABORT under way, ERROR wins (log entry 12, DESIGN CHOICE). -/
def settle (n : Nat) (s : State) : State :=
  let c := getDcx s n
  if c.st ≠ .opened || outWaiting s n then s
  else
    match c.ending with
    | some code => enterError n code.toNat s
    | none => if c.aborting then closeContext n s else s

/-- The context stops with an error whose first bit is at `bit` (R170). An ABORT already under way stands. -/
def failContext (n code bit : Nat) (s : State) : State :=
  let c := getDcx s n
  settle n (putDcx n { c with ending := some (BitVec.ofNat 3 code), ebit := bit } s)

/-! ### Commands through ING_CTX_CMD (R153) -/

abbrev eCtxState : Nat := 1
abbrev eHandle : Nat := 2
abbrev eTargeted : Nat := 3
abbrev eOffset : Nat := 4
abbrev eOwner : Nat := 5

/-- Result in ING_CTX_RES; a failure raises ING_EV_CMD_FAIL. -/
def ctxResult (n code : Nat) (s : State) : State :=
  let s1 := setRegN Reg.ING_CTX_RES (code + 2 ^ 16 * n) s
  if code = 0 then s1 else raise 240 (n + 2 ^ 16 * code) s1

/-- ING_CTX_OFS. -/
def ctxOffset (s : State) : Nat := regN s Reg.ING_CTX_OFS_LO + 2 ^ 32 * regFld s Reg.ING_CTX_OFS_HI 0 4

/-- OPEN's failure code. -/
def openCode (s : State) (owner n : Nat) : Nat :=
  let h := getHandle s (regFld s Reg.ING_CTX_HANDLE 0 13)
  if owner < 3 ∨ 10 < owner then eOwner
  else if (getDcx s n).st ≠ .closed then eCtxState
  else if h.st ≠ .filling || h.bad then eHandle
  else if targeted s (regFld s Reg.ING_CTX_HANDLE 0 13) then eTargeted
  else if sizeBytes h ≤ ctxOffset s then eOffset
  else 0

def effOpen (owner n : Nat) (s : State) : State :=
  let code := openCode s owner n
  if code = 0 then
    ctxResult n 0 (putDcx n {
      st := .opened, owner := BitVec.ofNat 4 owner, handle := BitVec.ofNat 13 (regN s Reg.ING_CTX_HANDLE),
      offset := ctxOffset s, acks := (getDcx s n).acks.map (fun a => (0, a.2)), idleAt := s.now } s)
  else ctxResult n code s

/-- CLOSE: from DONE or ERROR the context closes; before the stream's end it is DCX_E_TRUNCATED (R152). In a context whose
stream has ended, or that is ending, it is accepted and changes nothing (log entry 12, DESIGN CHOICE). -/
def effClose (n : Nat) (s : State) : State :=
  let c := getDcx s n
  match c.st with
  | .closed => ctxResult n eCtxState s
  | .opened =>
    if c.ended || c.ending.isSome || c.aborting then ctxResult n 0 s
    else ctxResult n 0 (failContext n eTruncated (8 * c.inCnt) s)
  | _ => ctxResult n 0 (closeContext n s)

/-- ABORT: the context closes once its decoded bytes are written (R152). Where an error is pending it is accepted and changes
nothing (log entry 12, DESIGN CHOICE). -/
def effAbort (n : Nat) (s : State) : State :=
  let c := getDcx s n
  if c.st = .opened then
    if c.ending.isSome then ctxResult n 0 s
    else ctxResult n 0 (settle n (putDcx n { c with aborting := true } s))
  else ctxResult n eCtxState s

def dcxStateCode : CtxState → Nat
  | .closed => 0
  | .opened => 1
  | .done => 2
  | .error => 3

/-- ING_CTX_STAT of a context. -/
def ctxStat (c : Dcx) : Nat :=
  c.handle.toNat + 2 ^ 17 * (c.resident.getD 0 % 2 ^ 5) + 2 ^ 22 * c.resident.isSome.toNat + 2 ^ 23 * c.err.toNat +
  2 ^ 26 * c.owner.toNat + 2 ^ 30 * dcxStateCode c.st

/-- QUERY loads the context's record into the registers. -/
def effCtxQuery (n : Nat) (s : State) : State :=
  let c := getDcx s n
  let s1 := setRegN Reg.ING_CTX_IN_HI (c.inCnt / 2 ^ 32 % 2 ^ 16) (setRegN Reg.ING_CTX_IN_LO c.inCnt
    (setRegN Reg.ING_CTX_STAT (ctxStat c) s))
  let s2 := setRegN Reg.ING_CTX_OUT_HI (c.outCnt / 2 ^ 32 % 2 ^ 4) (setRegN Reg.ING_CTX_OUT_LO c.outCnt s1)
  ctxResult n 0 (setRegN Reg.ING_CTX_EBIT_HI (c.ebit / 2 ^ 32 % 2 ^ 19) (setRegN Reg.ING_CTX_EBIT_LO c.ebit s2))

/-- Effect of a write of ING_CTX_CMD. -/
def effCtxCmd (v : Word) (s : State) : State :=
  let n := fld v 0 12
  if 3072 ≤ n then ctxResult n eCtxState s
  else
    match fld v 28 4 with
    | 1 => effOpen (fld v 24 4) n s
    | 2 => effClose n s
    | 3 => effAbort n s
    | 4 => effCtxQuery n s
    | _ => ctxResult n eCtxState s

/-- The word of ING_CTX_CMD for a command. -/
def ctxCmdWord (cmd owner n : Nat) : Word := w32 (n + 2 ^ 24 * owner + 2 ^ 28 * cmd)

def execOpenCtx (m : Master) (owner : BitVec 4) (ctx : BitVec 12) (s : State) : Host.Outcome State Fault Refusal :=
  let v := ctxCmdWord 1 owner.toNat ctx.toNat
  done (writeWith m Reg.ING_CTX_CMD v (effCtxCmd v) s)

def execCloseCtx (m : Master) (ctx : BitVec 12) (s : State) : Host.Outcome State Fault Refusal :=
  let v := ctxCmdWord 2 0 ctx.toNat
  done (writeWith m Reg.ING_CTX_CMD v (effCtxCmd v) s)

def execAbortCtx (m : Master) (ctx : BitVec 12) (s : State) : Host.Outcome State Fault Refusal :=
  let v := ctxCmdWord 3 0 ctx.toNat
  done (writeWith m Reg.ING_CTX_CMD v (effCtxCmd v) s)

def execCtxQuery (m : Master) (ctx : BitVec 12) (s : State) : Host.Outcome State Fault Refusal :=
  let v := ctxCmdWord 4 0 ctx.toNat
  done (writeWith m Reg.ING_CTX_CMD v (effCtxCmd v) s)

/-- ING_N_OPEN. -/
def nOpen (s : State) : Word := w32 (s.dcx.filter (fun e => e.2.st ≠ .closed)).length

/-! ### Residency (R157, R159, R428) -/

/-- DCX_STAT.ROLE of an engine. -/
def deRole (s : State) (e : Nat) : Nat := regFld s (Reg.DCX_STAT e) 0 2

def setDeRole (e r : Nat) (s : State) : State := setRegFld (Reg.DCX_STAT e) 0 2 r s

def deResident (s : State) (e : Nat) : Nat := regFld s (Reg.DCX_STAT e) 4 3

def deInService (s : State) : List Nat := (List.range 17).filter (fun e => deRole s e = 0)

/-- The spare that takes the place of an engine that has left service (R428). -/
def deTakesOver (s : State) : Option Nat :=
  if (deInService s).length < 16 then (List.range 17).find? (fun e => deRole s e = 1) else none

/-- The engine may take the next load: the spare where one is due, else any in service with a free slot. -/
def deEligible (s : State) (e : Nat) : Bool :=
  match deTakesOver s with
  | some k => e = k
  | none => deRole s e = 0 && deResident s e < 4 && enabled s (0x0D + e)

/-- A context that waits for a slot with input to decode (R157). -/
def wantsSlot (c : Dcx) : Bool :=
  c.st = .opened && c.resident.isNone && !c.input.isEmpty && !c.ended && c.ending.isNone && !c.aborting

/-- A slot is free in an engine in service. -/
def slotFree (s : State) : Bool := (deInService s).any (fun e => deResident s e < 4)

/-- The context has waited longest for a slot, and of those that have waited as long has the lowest number (R157). -/
def waitsLongest (s : State) (n : Nat) : Bool :=
  let c := getDcx s n
  (s.dcx.filter (fun e => wantsSlot e.2)).all (fun e =>
    decide (c.waitAt < e.2.waitAt) || (decide (c.waitAt = e.2.waitAt) && decide (n ≤ e.1)))

/-- A demand reader finds an uncorrectable codeword in a parked state (R159, R328). -/
def parkError (n : Nat) (s : State) : State := uncorr .scene (installedEnd + 69632 * n) 4 s

def execContextLoad (ctx : Fin 3072) (engine : Fin 17) (stateOk : Bool) (s : State) :
    Host.Outcome State Fault Refusal :=
  let c := getDcx s ctx.val
  if wantsSlot c && waitsLongest s ctx.val && fabricOn s && deEligible s engine.val then
    let s1 := setRegFld (Reg.DCX_STAT engine.val) 4 3 (deResident s engine.val + 1)
      (bumpWrap (Reg.DCX_N_LOAD engine.val) (setDeRole engine.val 0
        (putDcx ctx.val { c with resident := some engine.val, ran := some engine.val, loadAt := s.now } s)))
    if c.ran.isSome && !stateOk then done (failContext ctx.val eState c.pos (parkError ctx.val s1)) else done s1
  else done s

/-- The resident contexts with no input waiting. -/
def idleResidents (s : State) : List (Nat × Dcx) := s.dcx.filter (fun e => e.2.resident.isSome && e.2.input.isEmpty)

/-- The resident contexts. -/
def allResidents (s : State) : List (Nat × Dcx) := s.dcx.filter (fun e => e.2.resident.isSome)

/-- Parking makes room for a waiting context: first the resident that has gone longest without waiting input; where each
has input, one that has had its slot for 64 µs, the one loaded first (R157) (log entry 13, DEDUCED). -/
def parkMay (s : State) (n : Nat) : Bool :=
  let c := getDcx s n
  c.resident.isSome && !slotFree s && s.dcx.any (fun e => wantsSlot e.2) &&
  (if (idleResidents s).isEmpty then
      decide (c.loadAt + 16000 ≤ s.now) && (allResidents s).all (fun e => decide (c.loadAt ≤ e.2.loadAt))
    else c.input.isEmpty && (idleResidents s).all (fun e => decide (c.idleAt ≤ e.2.idleAt)))

def execContextPark (ctx : Fin 3072) (s : State) : Host.Outcome State Fault Refusal :=
  if fabricOn s && parkMay s ctx.val then done (dcxPark ctx.val s) else done s

/-! ### The write cap (R117, R171) -/

/-- ING_WCAP.RATE held within 8–102. -/
def wcapRate (s : State) : Nat := clampN 8 102 (regFld s Reg.ING_WCAP 0 8)

/-- Bytes land in scene memory; a write into the buffer being scaled is remembered (R125). -/
def landScene (off : Nat) (data : List Byte) (s : State) : State :=
  let hit := match s.sclCur with
    | some h => extentMeets (getHandle s h) off data.length
    | none => false
  memWrite .scene off data (if hit then { s with sclTouched := (off, data.length) :: s.sclTouched } else s)

/-- A direct write executes: the pinned check and the write together (R117). -/
def directWrite (r : Req) (off : Nat) (data : List Byte) (s : State) : State :=
  if hitsPinned s off data.length then nak tyWR 1 r (violate (3 + r.m.val) 1 r.addr.toNat 3 s)
  else
    let s1 := landScene off data s
    if r.ackreq then complete tyWR r [] s1 else s1

/-- A write that has drawn its tokens executes. -/
def capPerform (w : CapWrite) (s : State) : State :=
  match w.src with
  | .ctx n =>
    let c := getDcx s n
    memWrite .scene w.offset w.data (putDcx n { c with outCnt := c.outCnt + w.data.length } s)
  | .wr r => directWrite r w.offset w.data s

/-- A write draws its tokens and executes, or waits behind those before it (R171). -/
def capWrite (w : CapWrite) (s : State) : State :=
  if s.wcapQ.isEmpty && w.data.length ≤ s.wcapLevel then
    capPerform w { s with wcapLevel := s.wcapLevel - w.data.length }
  else { s with wcapQ := s.wcapQ ++ [w] }

/-- The oldest waiting write is served once the bucket holds its size (R171). PAGE_CTL.EN of the page holds it idle (R43). -/
def execWriteCapGrant (s : State) : Host.Outcome State Fault Refusal :=
  match s.wcapQ with
  | [] => done s
  | w :: t =>
    if w.data.length ≤ s.wcapLevel && fabricOn s && enabled s 0x0C then
      let s1 := capPerform w { s with wcapQ := t, wcapLevel := s.wcapLevel - w.data.length }
      match w.src with
      | .ctx n => done (settle n s1)
      | .wr _ => done s1
    else done s

/-- One cycle of 4 ns refills the bucket (R171). -/
def refillCap (s : State) : State := { s with wcapLevel := min 65536 (s.wcapLevel + 4 * wcapRate s) }

/-! ### Decoding (R152, R155, R156, R169) -/

/-- A token's output goes to the write cap in pieces of at most 4,096 bytes (log entry 13, DESIGN CHOICE). -/
def outPieces (n : Nat) : Nat → Nat → List Byte → List CapWrite
  | 0, _, _ => []
  | fuel + 1, off, data =>
    if data.isEmpty then [] else ⟨.ctx n, off, data.take 4096⟩ :: outPieces n fuel (off + 4096) (data.drop 4096)

def writeOut (n off : Nat) (data : List Byte) (s : State) : State :=
  (outPieces n (data.length + 1) off data).foldl (fun s w => capWrite w s) s

/-- Output bytes counted for an engine, 64 bits (DCX_N_OUT). -/
def countOut (e n : Nat) (s : State) : State :=
  if s.captured.contains (0x0D + e) then s
  else
    let v := regN s (Reg.DCX_N_OUT_LO e) + 2 ^ 32 * regN s (Reg.DCX_N_OUT_HI e) + n
    setRegN (Reg.DCX_N_OUT_HI e) (v / 2 ^ 32) (setRegN (Reg.DCX_N_OUT_LO e) v s)

/-- After the last END_BLOCK the bytes left are trailing (R155). -/
def dropTrailing (n : Nat) (s : State) : State :=
  let c := getDcx s n
  if c.ended then
    bumpBySat Reg.ING_N_TRAIL c.input.length (putDcx n { c with input := [], dict := [], prev := none, hist := [] } s)
  else s

/-- An engine decodes the next header or token of a resident context. -/
def decodeOne (n e : Nat) (s : State) : State :=
  let c := getDcx s n
  let h := getHandle s c.handle.toNat
  match fdcStep (sizeBytes h) c with
  | .error .need => s
  | .error (.err code bit) => failContext n code bit s
  | .ok (c1, out) =>
    let c2 := if c1.input.isEmpty then { c1 with idleAt := s.now } else c1
    dropTrailing n (countOut e out.length
      (writeOut n (baseBytes h + c.offset + c.decoded) out (putDcx n c2 s)))

/-- What a resident context waits on to decode (R23): its buffer in FILLING, and room under the write cap, with nothing of
its own waiting there. -/
def dcxMayWork (s : State) (n : Nat) : Bool :=
  (getHandle s (getDcx s n).handle.toNat).st = .filling && !outWaiting s n

def execTokenDecode (ctx : Fin 3072) (s : State) : Host.Outcome State Fault Refusal :=
  let c := getDcx s ctx.val
  match c.resident with
  | none => done s
  | some e =>
    if c.st = .opened && !c.ended && c.ending.isNone && !c.aborting && deRole s e = 0 && enabled s (0x0D + e) &&
      fabricOn s && dcxMayWork s ctx.val then done (decodeOne ctx.val e s)
    else done s

/-- The buffer of a finished stream turns READY, if it is still FILLING (R115): a BLOCK reset of its page has made it FREE. -/
def streamReady (h : Nat) (s : State) : State :=
  if (getHandle s h).st = .filling then raise 292 h (turnReady h s) else s

/-- Every output byte of an ended stream is written: the context is DONE and its buffer READY (R152). -/
def execStreamDone (ctx : Fin 3072) (s : State) : Host.Outcome State Fault Refusal :=
  let n := ctx.val
  let c := getDcx s n
  if c.st = .opened && c.ended && c.ending.isNone && !c.aborting && !outWaiting s n && fabricOn s && enabled s 0x0C then
    let h := c.handle.toNat
    let s1 := leaveSlot n s
    let s2 := putDcx n { getDcx s1 n with st := .done } s1
    done (raise 241 (n + 2 ^ 16 * h) (streamReady h s2))
  else done s

/-! ### BPUT (R154, R155) -/

/-- The stream data of a BPUT joins its context's input; after the stream's end it is trailing (R155). -/
def bputAccept (r : Req) (n : Nat) (s : State) : State :=
  let c := getDcx s n
  let cnt := c.inCnt + r.data.length
  let acks := if r.ackreq then c.acks ++ [(8 * cnt, r)] else c.acks
  if c.ended then
    bumpBySat Reg.ING_N_TRAIL r.data.length (putDcx n { c with inCnt := cnt, acks := acks } s)
  else
    putDcx n { c with
      inCnt := cnt, acks := acks, input := if c.ending.isSome then [] else c.input ++ r.data
      waitAt := if c.input.isEmpty then s.now else c.waitAt } s

/-- No token that is still to be decoded ends in the first `bits` bits of the stream: cut there, the input is too short. -/
def tokensDone (s : State) (c : Dcx) (bits : Nat) : Bool :=
  match fdcStep (sizeBytes (getHandle s c.handle.toNat)) { c with input := c.input.take ((bits - (c.pos - c.bit)) / 8) } with
  | .error .need => true
  | _ => false

/-- The BPUT's completion is due: every output byte of every token that ends in its data is written (R144). -/
def ackDue (s : State) (n : Nat) (c : Dcx) (bits : Nat) : Bool :=
  (bits ≤ c.pos || c.ended || c.ending.isSome || c.st ≠ .opened || tokensDone s c bits) && !outWaiting s n

/-- The first BPUT of a master whose completion is due. -/
def dueAck (s : State) (m : Nat) : Option (Nat × Nat × Req) :=
  s.dcx.findSome? (fun e =>
    match e.2.acks with
    | (bits, r) :: _ => if r.m.val = m && ackDue s e.1 e.2 bits then some (e.1, bits, r) else none
    | [] => none)

def execBputCompletion (m : HostMaster) (s : State) : Host.Outcome State Fault Refusal :=
  match dueAck s m.val with
  | none => done s
  | some (n, _, r) =>
    let c := getDcx s n
    done (complete tyBPUT r [] (putDcx n { c with acks := c.acks.tail } s))

end Sys2Proof.Machine
end

