-- ==== Sys2Proof/Machine/LaneCode.lean ====
section
/-!
DEFINITION. The bit coding of a lane: scrambler, alignment marker and run-length stuffing, and the PRBS patterns
(06_lanes.md, R172–R177); the cut of flits into lanes (05_ingest_decompression.md, R132) and of packets into blocks (R192).
FLIT_RECEIVE carries what the receivers' lanes have descrambled, MARKER a lane's line bits (log entry 46, DESIGN CHOICE).
-/
namespace Sys2Proof.Machine

/-- The bit `n` places back in a history that is newest first. -/
def ago (h : List Bool) (n : Nat) : Bool := h.getD (n - 1) false

/-- t_n from d_n: `h` holds the line bits sent before, newest first (R173). -/
def scrambleBit (h : List Bool) (d : Bool) : Bool := Bool.xor (Bool.xor d (ago h 39)) (ago h 58)

/-- The transmitter's scrambler over payload bits. -/
def scramble : List Bool → List Bool → List Bool
  | _, [] => []
  | h, d :: t => scrambleBit h d :: scramble (scrambleBit h d :: h) t

/-- The receiver's descrambler: `h` holds the line bits received before. -/
def descramble : List Bool → List Bool → List Bool
  | _, [] => []
  | h, b :: t => scrambleBit h b :: descramble (b :: h) t

/-- Identical line bits in a row after bit `b`, where the last was `prev` and `run` of them stood. -/
def runAfter (prev : Bool) (run : Nat) (b : Bool) : Nat := if b = prev then run + 1 else 1

/-- The transmitter's stuffing: after the 40th identical bit, one of the opposite value (R174). -/
def stuff : Bool → Nat → List Bool → List Bool
  | _, _, [] => []
  | prev, run, b :: t =>
    if runAfter prev run b = 40 then b :: (!b) :: stuff (!b) 1 t else b :: stuff b (runAfter prev run b) t

/-- The receiver's unstuffing. `drop` holds after 40 identical bits; a bit that is then not the opposite value is a
violation. Answers the bits and how many violations there were. -/
def unstuff : Bool → Nat → Bool → List Bool → List Bool × Nat
  | _, _, _, [] => ([], 0)
  | prev, _, true, b :: t =>
    let r := unstuff b 1 false t
    (r.1, r.2 + (b = prev : Bool).toNat)
  | prev, run, false, b :: t =>
    let r := unstuff b (runAfter prev run b) (runAfter prev run b = 40) t
    (b :: r.1, r.2)

/-- The alignment marker of a lane (R175): lane number, RQ, GROUP. -/
def markerWord (lane : Nat) (rq : Bool) (group : Nat) : DWord :=
  let body := 0xF0A66A0F + 2 ^ 32 * (lane % 128) + 2 ^ 39 * rq.toNat + 2 ^ 40 * (group % 256)
  w64 (body + 2 ^ 48 * crcLsb 0x8408 0xFFFF (leBytes 6 body))

/-- A marker after every 16,384 line bits of payload (R172); `left` bits are to go before the next. -/
def insertMarkers (marker : List Bool) : Nat → List Bool → List Bool
  | _, [] => []
  | 0, b :: t => marker ++ b :: insertMarkers marker 16383 t
  | left + 1, b :: t => b :: insertMarkers marker left t

/-- The line bits of a payload, from a lane at rest: scrambled, with markers, stuffed. -/
def lineBits (marker : DWord) (payload : List Bool) : List Bool :=
  stuff false 0 (insertMarkers (lsbBits 64 marker.toNat) 16384 (scramble [] payload))

/-- Length and second tap of the pattern of a PRBS_SEL (R177). -/
def prbsTaps (sel : Nat) : Option (Nat × Nat) :=
  match sel with
  | 1 => some (7, 6)
  | 2 => some (15, 14)
  | 3 => some (23, 18)
  | 4 => some (31, 28)
  | _ => none

/-- The next bit of a pattern after a history that is newest first. -/
def prbsBit (taps : Nat × Nat) (h : List Bool) : Bool := Bool.xor (ago h taps.1) (ago h taps.2)

/-- What a checker makes of its bits: itself, errors counted, re-seeds, and whether it is in lock (R177). -/
structure Checked where
  ck      : Checker
  errors  : Nat
  reseeds : Nat
  lock    : Bool
deriving DecidableEq, Repr

/-- One received bit (R177): the first bits seed the checker, and then it runs on its own prediction. 16 errors within 64
bits make it seed again, out of lock; it is in lock once it is seeded (log entry 46, DEDUCED). -/
def checkBit (taps : Nat × Nat) (c : Checked) (b : Bool) : Checked :=
  if c.ck.pat.length < taps.1 then
    { c with ck := { pat := b :: c.ck.pat, errs := [] }, lock := decide (c.ck.pat.length + 1 = taps.1) }
  else
    let p := prbsBit taps c.ck.pat
    let errs := ((b != p) :: c.ck.errs).take 64
    let n := c.errors + (b != p).toNat
    if 16 ≤ (errs.filter id).length then ⟨{}, n, c.reseeds + 1, false⟩
    else { c with ck := { pat := (p :: c.ck.pat).take taps.1, errs := errs }, errors := n }

/-- Received bits run through a checker. -/
def checkBits (taps : Nat × Nat) (ck : Checker) (lock : Bool) (bits : List Bool) : Checked :=
  bits.foldl (checkBit taps) ⟨ck, 0, 0, lock⟩

/-! ### A transmitter at work -/

/-- One line bit is sent, and a stuffed one after the 40th alike (R174). -/
def lineBit (tx : LaneTx) (b : Bool) : LaneTx :=
  if runAfter tx.prev tx.run b = 40 then { tx with prev := !b, run := 1, line := (!b) :: b :: tx.line }
  else { tx with prev := b, run := runAfter tx.prev tx.run b, line := b :: tx.line }

/-- A marker is sent, unscrambled (R175). -/
def sendMark (marker : DWord) (tx : LaneTx) : LaneTx :=
  (lsbBits 64 marker.toNat).foldl lineBit { tx with left := 16384, marks := tx.marks + 1, mark := marker }

/-- One payload bit is scrambled and sent; after 16,384 of them a marker (R172, R173). -/
def payloadBit (marker : DWord) (tx : LaneTx) (d : Bool) : LaneTx :=
  let t := scrambleBit tx.hist d
  let tx1 := { lineBit tx t with hist := (t :: tx.hist).take 58 }
  if tx.left ≤ 1 then sendMark marker tx1 else { tx1 with left := tx.left - 1 }

def sendBits (marker : DWord) (bits : List Bool) (tx : LaneTx) : LaneTx := bits.foldl (payloadBit marker) tx

/-- Bytes in ascending order, each from bit 0 (R172). -/
def byteBits (b : List Byte) : List Bool := b.flatMap (fun x => lsbBits 8 x.toNat)

/-! ### Flits over lanes (R132) -/

/-- What each of `w` logical lanes carries of a flit: the groups g with g mod w = k, in ascending g. -/
def cutLanes (w : Nat) (flit : List Byte) : List (List Byte) :=
  (List.range w).map (fun k => (List.range (16 / w)).flatMap (fun j => (flit.drop (8 * (w * j + k))).take 8))

/-- The flit whose lanes carried `b`, lane 0's bytes first. -/
def joinLanes (w : Nat) (b : List Byte) : List Byte :=
  (List.range 16).flatMap (fun g => (b.drop (128 / w * (g % w) + 8 * (g / w))).take 8)

/-! ### Panel packets in blocks (R192) -/

/-- The pointer word of a block in which `rest` words of a packet in progress come before the first header. -/
def ptrWord (rest : Nat) : Word :=
  let p := min rest 511
  w32 (p + 2 ^ 16 * (0xFFFF - p))

def sendWord (marker : DWord) (w : Word) (tx : LaneTx) : LaneTx := sendBits marker (lsbBits 32 w.toNat) tx

/-- Word 0 of a block is the pointer word. -/
def blockStart (marker : DWord) (rest : Nat) (tx : LaneTx) : LaneTx :=
  if tx.left = 16384 then sendWord marker (ptrWord rest) tx else tx

/-- The words of a packet after its header. -/
def sendBody (marker : DWord) : List Word → LaneTx → LaneTx
  | [], tx => tx
  | w :: t, tx => sendBody marker t (sendWord marker w (blockStart marker (t.length + 1) tx))

/-- A packet is sent behind the one before it. -/
def sendPacket (marker : DWord) (tx : LaneTx) : List Word → LaneTx
  | [] => tx
  | h :: body => sendBody marker body (sendWord marker h (blockStart marker 0 tx))

/-! ### A receiver at work (R173, R174) -/

/-- One line bit is received: the one after 40 alike is removed, and is a violation if it is like them. -/
def receiveBit (rx : LaneRx) (b : Bool) : LaneRx :=
  if rx.drop then { rx with prev := b, run := 1, drop := false, viol := rx.viol || (b == rx.prev) }
  else
    let r := runAfter rx.prev rx.run b
    { rx with prev := b, run := r, drop := decide (r = 40), hist := (b :: rx.hist).take 58,
              data := scrambleBit rx.hist b :: rx.data }

/-- The line bits of a marker period: `data` is then their payload, newest first. -/
def receiveLine (line : List Bool) (rx : LaneRx) : LaneRx := line.foldl receiveBit { rx with viol := false, data := [] }

end Sys2Proof.Machine
end

