-- ==== Sys2Proof/Machine/LaneTx.lean ====
section
/-!
DEFINITION. The lanes' registers, and what their transmitters send (06_lanes.md, R172–R193).
-/
namespace Sys2Proof.Machine

/-! ### Lane registers -/

/-- Key of a lane in State.lanes. -/
def laneKey : Lane → Nat
  | .host n => n.val
  | .panel n => 32 + n.val

def lstatA : Lane → Nat
  | .host n => Reg.LNH_LSTAT n.val
  | .panel n => Reg.LNP_LSTAT n.val

def lctlA : Lane → Nat
  | .host n => Reg.LNH_LCTL n.val
  | .panel n => Reg.LNP_LCTL n.val

def prbsErrA : Lane → Nat
  | .host n => Reg.LNH_PRBS_ERR n.val
  | .panel n => Reg.LNP_PRBS_ERR n.val

def getAux (s : State) (l : Lane) : LaneAux := getLane s (laneKey l)
def putAux (l : Lane) (x : LaneAux) (s : State) : State := putLane (laneKey l) x s

abbrev lsDARK : Nat := 0
abbrev lsDETECT : Nat := 1
abbrev lsTRAIN : Nat := 2
abbrev lsMARK : Nat := 3
abbrev lsORIENT : Nat := 4
abbrev lsDESKEW : Nat := 5
abbrev lsUP : Nat := 6

abbrev lrACTIVE : Nat := 0
abbrev lrSPARE : Nat := 1
abbrev lrCOVER : Nat := 2
abbrev lrFAILED : Nat := 3
abbrev lrQUARANTINED : Nat := 4
abbrev lrVERIFY : Nat := 5

def laneState (s : State) (l : Lane) : Nat := regFld s (lstatA l) 0 3
def laneRole (s : State) (l : Lane) : Nat := regFld s (lstatA l) 8 4
def laneCopy (s : State) (l : Lane) : Nat := regFld s (lstatA l) 24 8

def setLaneState (l : Lane) (x : Nat) (s : State) : State := setRegFld (lstatA l) 0 3 x s
def setLaneRole (l : Lane) (x : Nat) (s : State) : State := setRegFld (lstatA l) 8 4 x s
def setLaneCopy (l : Lane) (x : Nat) (s : State) : State := setRegFld (lstatA l) 24 8 x s
def setLaneCause (l : Lane) (x : Nat) (s : State) : State := setRegFld (lstatA l) 16 4 x s

def hostLanes : List Lane := (List.finRange 18).map Lane.host
def panelLanes : List Lane := (List.finRange 108).map Lane.panel

/-- Driver of a panel lane (R191). -/
def driverOf : Lane → Nat
  | .host _ => 0
  | .panel n => n.val / 3

/-- The lanes that can take over for a lane: all host lanes, or its driver's panel lanes. -/
def groupOf : Lane → List Lane
  | .host _ => hostLanes
  | .panel n => panelLanes.filter (fun l => driverOf l = n.val / 3)

/-- The lane number that a lane receives in its own right (R175, R176, R191). -/
def ownNumber (s : State) : Lane → Nat
  | .host n => ((getLane s n.val).logical).getD n.val
  | .panel n => n.val

/-- The lane number that a lane carries. -/
def carried (s : State) (l : Lane) : Nat := if laneRole s l = lrCOVER then laneCopy s l else ownNumber s l

/-! ### Command words (R193) -/

/-- A command word with its CHK (R193). -/
def cmdWord (opc arg : Nat) : Word :=
  let chk := (List.range 6).foldl (fun a i => a ^^^ nfld arg (4 * i) 4) opc
  w32 (arg % 2 ^ 24 + 2 ^ 24 * chk + 2 ^ 28 * opc)

/-! ### What a transmitter sends (R175, R177, R178, R189) -/

/-- The number that a lane's markers carry (R175, R189): of what it copies, or its own. An idle panel spare carries 3k + 2. -/
def markLane (s : State) : Lane → Nat
  | .host n => (((getLane s n.val).txCopy).orElse (fun _ => (getLane s n.val).txNum)).getD n.val
  | .panel n =>
    let l := Lane.panel n
    if laneCopy s l ≠ 0xFF then laneCopy s l else if laneRole s l = lrSPARE then 3 * (n.val / 3) + 2 else n.val

/-- RQ in the markers of number `num` (R183). -/
def rqFor (s : State) (num : Nat) : Bool := hostLanes.any (fun y => ownNumber s y = num && (getAux s y).rqOut)

/-- The marker that a lane sends (R175). -/
def txMarker (s : State) (l : Lane) : DWord :=
  match l with
  | .host _ => markerWord (markLane s l) (rqFor s (markLane s l)) (regFld s Reg.LNH_CFG 8 8)
  | .panel n => markerWord (markLane s l) false (n.val / 3)

inductive TxKind where
  | idle
  | detect
  | prbs (sel : Nat)
  | marked
  | payload
deriving DecidableEq, Repr

/-- The link, or the panel lane's driver group, is UP. -/
def groupUp (s : State) : Lane → Bool
  | .host _ => regBit s Reg.LNH_LINK_STAT 0
  | .panel n => (groupOf (.panel n)).any (fun x => laneState s x = lsUP && (laneRole s x = lrACTIVE || laneRole s x = lrCOVER))

/-- PRBS_SEL as it acts (R177). -/
def prbsSel (s : State) (l : Lane) : Nat :=
  if laneRole s l = lrSPARE || laneRole s l = lrQUARANTINED || !groupUp s l then regFld s (lctlA l) 5 3 else 0

/-- What a lane's transmitter sends (R177, R178, R189). -/
def txSends (s : State) (l : Lane) : TxKind :=
  if laneRole s l = lrFAILED then .idle
  else if laneRole s l = lrQUARANTINED || laneRole s l = lrVERIFY then .prbs 4
  else
    match laneState s l with
    | 0 => .idle
    | 1 => .detect
    | 2 => .prbs 4
    | 6 => if prbsSel s l = 0 then .payload else .prbs (prbsSel s l)
    | _ => .marked

/-! ### Sending on a lane (R172, R182) -/

/-- A transmitter that copies number `num`, or begins to at this marker, repeats the line of the lane that carries it. -/
def copyLine (num : Nat) (tx : LaneTx) (marked : Bool) (s : State) (y : Lane) : State :=
  let x := getAux s y
  if x.txCopy = some num then putAux y { x with tx := tx } s
  else if marked && x.copyNext = some num then
    putAux y { x with txCopy := some num, copyNext := none, tx := { tx with line := [] } } s
  else s

/-- Lane `l` has sent: `tx` is its transmitter now. Copies of its number follow it. -/
def sentOn (l : Lane) (tx : LaneTx) (s : State) : State :=
  let old := (getAux s l).tx
  (groupOf l).foldl (fun s y => if y = l then s else copyLine (markLane s l) tx (decide (old.marks < tx.marks)) s y)
    (putAux l { getAux s l with tx := tx } s)

/-- The host lane whose transmitter was given number `k`. -/
def txLane (s : State) (k : Nat) : Option Lane :=
  hostLanes.find? (fun l => (getAux s l).txNum = some k && txSends s l = .payload)

/-- Bytes go out on logical lane `k`. -/
def sendLane (k : Nat) (b : List Byte) (s : State) : State :=
  match txLane s k with
  | none => s
  | some l => sentOn l (sendBits (txMarker s l) (byteBits b) { (getAux s l).tx with line := [] }) s

/-- A flit goes out on the logical lanes, lane 0's bytes first (R132). -/
def sendGroups (gs : List (List Byte)) (s : State) : State :=
  (gs.zipIdx).foldl (fun s q => sendLane q.2 q.1 s) (setLink { s.link with wire := gs } s)

end Sys2Proof.Machine
end

