-- ==== Sys2Proof/Machine/LinkCmd.lean ====
section
/-!
DEFINITION. The host link: flits, retry, transactions, credits and event transactions (05_ingest_decompression.md,
R131–R149; 02_control_plane.md, R63, R64).
-/
namespace Sys2Proof.Machine

def linkUpNow (s : State) : Bool := regBit s Reg.LNH_LINK_STAT 0

/-! ### Violations by a host master (R49, R149) -/

/-- A request that is a violation: the master is frozen and the request answered with NAK FROZEN (R50). -/
def violateReq (typ reason : Nat) (r : Req) (s : State) : State :=
  nak typ 1 r (violate (3 + r.m.val) typ r.addr.toNat reason s)

/-! ### Acknowledgement and replay (R139, R140) -/

/-- The flits of a replay buffer after an ACK of `a`. -/
def afterAck (a : Byte) (l : List Flit) : List Flit :=
  if l.any (fun f => f.seq = a) then (l.dropWhile (fun f => f.seq ≠ a)).drop 1 else l

/-- An ACK frees every flit up to and including the one it names (R140). -/
def ackFlits (a : Byte) (s : State) : State :=
  let rest := afterAck a s.link.replay
  if rest.length < s.link.replay.length then setLink { s.link with replay := rest, replays := 0, check := false } s else s

/-- The 128 bytes of a flit sent with ACK `ack` (R131, R132). Payload bytes beyond LEN are 0 (R133). -/
def flitBytes (ack : Byte) (f : Flit) : List Byte :=
  let hdr := f.payload.length + 2 ^ 8 * f.last.toNat + 2 ^ 9 * f.kind.toNat + 2 ^ 11 * f.mst.toNat + 2 ^ 14 * f.vc.toNat +
    2 ^ 16 * ack.toNat + 2 ^ 24 * f.seq.toNat
  let b := leBytes 4 hdr ++ (f.payload ++ List.replicate 120 0).take 120
  b ++ leBytes 4 (crc32c b)

/-- Active lanes of the link (R179). -/
def linkLanes (s : State) : Nat := regFld s Reg.LNH_LINK_STAT 8 5

/-- Record a flit sent, with the current ACK; it is cut into groups over the logical lanes (R132) (log entry 46, DEDUCED). -/
def sendFlit (f : Flit) (s : State) : State :=
  sendGroups (cutLanes (linkLanes s) (flitBytes s.link.rxSeq f))
    (setLink { s.link with sent := (s.link.rxSeq, f) :: s.link.sent } s)

/-- A flit without a number: NULL (0) or RETRY (3). -/
def bareFlit (kind : BitVec 2) : Flit := { seq := 0, vc := 0, mst := 0, kind := kind, last := false, payload := [] }

/-- Resend every unacknowledged flit in order (R140). -/
def replayAll (s : State) : State :=
  if s.link.replay.isEmpty then s
  else
    let s1 := bumpSat Reg.LNH_N_RETRY (setLink { s.link with replays := s.link.replays + 1 } s)
    s.link.replay.foldl (fun s f => sendFlit f s) s1

/-- A RETRY flit: its ACK, then a replay. -/
def retryFlit (ack : Byte) (s : State) : State := replayAll (ackFlits ack s)

/-- A numbered flit is discarded; the first after an accepted one sends a RETRY flit (R139). -/
def discardFlit (s : State) : State :=
  if s.link.retried then s
  else
    sendFlit (bareFlit 3)
      (setLink { s.link with retried := true } s)

/-! ### Credit transactions (R136, R137) -/

/-- INIT_ALL follows the INIT grants received. -/
def updateInitAll (s : State) : State :=
  setRegBit Reg.LNH_LINK_STAT 1 ((List.range 8).all (linkInit s)) s

/-- A CRD sets or adds a master's credits; its first INIT after link UP is answered with the pools (R136, R137). -/
def creditUpdate (m : Nat) (counts : List Nat) (init : Bool) (s : State) : State :=
  let s1 := ((counts.take 4).zipIdx).foldl (fun s q =>
    setDevCredit m q.2 (if init then q.1 else devCredit s m q.2 + q.1) s) s
  if init && !linkInit s m then
    updateInitAll (grantPools m (setLink { s1.link with init := sPut (fun _ => false) m true s1.link.init } s1))
  else s1

/-! ### Transactions from flits (R134, R135, R143) -/

def byteAt (l : List Byte) (i : Nat) : Nat := (l.getD i 0).toNat

def leAt (l : List Byte) (i n : Nat) : Nat := ofLe ((l.drop i).take n)

/-- The request that a transaction's bytes give. RSP of a host request is ignored: R145 does not list it as malformed
(log entry 36, DEDUCED). -/
def reqOf (m : HostMaster) (vc : Fin 4) (b : List Byte) : Req :=
  { m := m, vc := vc, rseq := BitVec.ofNat 16 (leAt b 2 2), tag := BitVec.ofNat 8 (byteAt b 1), len := leAt b 4 4,
    addr := BitVec.ofNat 48 (leAt b 8 6), arg := BitVec.ofNat 16 (leAt b 14 2), ackreq := (byteAt b 0).testBit 4,
    data := b.drop 16 }

/-- RD and BGET hold a read tag (R148). -/
def takesTag (typ : Nat) : Bool := typ = tyRD || typ = tyBGET

/-- The request's tag is outstanding for its master (R145). -/
def tagHeld (s : State) (typ : Nat) (r : Req) : Bool := takesTag typ && s.link.tags.contains (r.m.val, r.tag.toNat)

/-- A request waits to execute, holding its read tag from now on (R148) (log entry 36, DEDUCED). -/
def queueReq (q : RxTxn) (s : State) : State :=
  let s1 := setLink { s.link with reqs := s.link.reqs ++ [q] } s
  if takesTag q.typ.toNat && !q.dup then holdTag q.req.m.val q.req.tag s1 else s1

/-- A whole transaction: CRD acts at once, RD, WR, BPUT and BGET wait to execute, others and a CRD
with data are malformed (R144, R145). -/
def takeTxn (a : Asm) (s : State) : State :=
  let typ := byteAt a.bytes 0 % 8
  let r := reqOf a.m a.vc a.bytes
  if typ = 6 then
    if a.vc.val = 0 ∧ a.bytes.length = 16 then
      creditUpdate a.m.val ((List.range 4).map (fun k => leAt a.bytes (4 + 2 * k) 2)) ((byteAt a.bytes 12).testBit 0) s
    else violateReq 6 4 r s
  else if typ ≤ 3 then queueReq { typ := BitVec.ofNat 3 typ, req := r, flits := a.flits, dup := tagHeld s typ r } s
  else freeFlits a.m.val a.vc.val a.flits (violateReq typ 4 r s)

/-- An unfinished transaction grows by a flit, and is taken when the flit is its last. -/
def growTxn (a : Asm) (last : Bool) (s : State) : State :=
  let s1 := setLink { s.link with asm := s.link.asm.filter (fun x => !(x.m = a.m && x.vc = a.vc)) } s
  if last then takeTxn a s1 else setLink { s1.link with asm := a :: s1.link.asm } s1

/-- A numbered flit in sequence (R134–R136). `kind` 1 is FIRST. A FIRST flit that does not hold its transaction's 16-byte
header is malformed (log entry 36, DEDUCED). -/
def acceptFlit (m : HostMaster) (vc : Fin 4) (kind : Nat) (last : Bool) (data : List Byte) (s : State) : State :=
  let part := s.link.asm.find? (fun x => x.m = m && x.vc = vc)
  let head := if kind = 1 then data else (part.map Asm.bytes).getD []
  let typ := byteAt head 0 % 8
  let r := reqOf m vc head
  let free := typ = 6 || typ = 7
  let order := if kind = 1 then part.isNone && 16 ≤ data.length else part.isSome
  if !order || 2 ≤ vc.val then violateReq typ 4 r s
  else if !free && hostCredit s m.val vc.val = 0 then violateReq typ 5 r s
  else
    let k := 2 * m.val + vc.val
    let s1 := if free then s else setLink { s.link with used := sPut zeroN k (sGet zeroN k s.link.used + 1) s.link.used } s
    let n := if free then 0 else 1
    match part with
    | none => growTxn ⟨m, vc, data, n⟩ last s1
    | some a => growTxn { a with bytes := a.bytes ++ data, flits := a.flits + n } last s1

/-- The header fields of R132. -/
def flitSeq (h : Nat) : Byte := BitVec.ofNat 8 (h / 2 ^ 24)
def flitAck (h : Nat) : Byte := BitVec.ofNat 8 (h / 2 ^ 16)
def flitVc (h : Nat) : Fin 4 := Fin.ofNat 4 (nfld h 14 2)
def flitMst (h : Nat) : HostMaster := Fin.ofNat 8 (nfld h 11 3)
def flitKind (h : Nat) : Nat := nfld h 9 2
def flitLen (h : Nat) : Nat := nfld h 0 7

/-- A flit with a good CRC. A LEN above the 120 payload bytes acts as 120 (log entry 36, DESIGN CHOICE). -/
def goodFlit (h : Nat) (payload : List Byte) (s : State) : State :=
  if flitKind h = 3 then retryFlit (flitAck h) s
  else
    let s1 := ackFlits (flitAck h) s
    if flitKind h = 0 then s1
    else if flitSeq h ≠ s1.link.rxSeq + 1 then discardFlit s1
    else
      acceptFlit (flitMst h) (flitVc h) (flitKind h) (h.testBit 8) (payload.take (min (flitLen h) 120))
        (setLink { s1.link with rxSeq := flitSeq h, retried := false } s1)

/-- A received flit: `bytes` are those that the logical lanes carry, lane 0's first, each lane's in order of arrival (R132). -/
def execFlitReceive (bytes : Vector Byte 128) (s : State) : Host.Outcome State Fault Refusal :=
  let l := joinLanes (linkLanes s) bytes.toList
  if linkUpNow s && unitOn s 0x05 then
    if crc32c (l.take 124) = leAt l 124 4 then done (goodFlit (leAt l 0 4) ((l.drop 4).take 120) s)
    else done (discardFlit (bumpSat Reg.LNH_N_CRC s))
  else done s

def execRetry (ack : Byte) (s : State) : Host.Outcome State Fault Refusal :=
  if linkUpNow s && unitOn s 0x05 then done (retryFlit ack s) else done s

/-- No ACK has advanced for 1 µs while flits are unacknowledged (R140). -/
def execReplayTimeout (s : State) : Host.Outcome State Fault Refusal :=
  if linkUpNow s && unitOn s 0x05 then done (replayAll s) else done s

/-- A CRD from a host master (R136, R137). -/
def execCrd (m : HostMaster) (vc : Fin 4) (counts : Vector (BitVec 16) 4) (init : Bool) (s : State) :
    Host.Outcome State Fault Refusal :=
  if linkUpNow s && unitOn s 0x05 then
    if vc.val = 0 then done (creditUpdate m.val (counts.toList.map BitVec.toNat) init s)
    else done (violate (3 + m.val) 6 0 4 s)
  else done s

/-- 1 µs after the oldest unreturned credit was freed (R136). -/
def execCreditReturnTimer (m : HostMaster) (vc : Fin 2) (s : State) : Host.Outcome State Fault Refusal :=
  if linkUpNow s && unitOn s 0x05 then done (returnCredits m.val vc.val s) else done s

/-! ### Sending (R137, R138, R143) -/

/-- The 16 header bytes of a transaction (R143). -/
def hdrBytes (t : OutTxn) : List Byte :=
  [BitVec.ofNat 8 (t.typ.toNat + 8 * t.rsp.toNat), t.tag] ++ leBytes 2 t.rseq.toNat ++ leBytes 4 t.len ++
  leBytes 6 t.addr.toNat ++ leBytes 2 t.arg.toNat

/-- A transaction's bytes cut into flit payloads of at most 120. -/
def payloads : Nat → List Byte → List (List Byte)
  | 0, _ => []
  | fuel + 1, b => if b.isEmpty then [] else b.take 120 :: payloads fuel (b.drop 120)

/-- The payloads of a transaction's flits. -/
def txnPayloads (t : OutTxn) : List (List Byte) := payloads (t.data.length + 17) (hdrBytes t ++ t.data)

/-- CRD and NAK consume no host credit (R137). -/
def creditFree (t : OutTxn) : Bool := t.typ = 6 || t.typ = 7

/-- Number, store and send one flit (R133, R140). -/
def emitFlit (m : Nat) (vc : Nat) (first last : Bool) (p : List Byte) (s : State) : State :=
  let f : Flit := { seq := s.link.txSeq, vc := BitVec.ofNat 2 vc, mst := BitVec.ofNat 3 m,
                    kind := if first then 1 else 2, last := last, payload := p }
  sendFlit f (setLink { s.link with txSeq := s.link.txSeq + 1, replay := s.link.replay ++ [f] } s)

/-- The first transaction waiting for a master on a VC. A CRD or NAK keeps its place behind an earlier completion of its
master on VC0 (log entry 36, DEDUCED). -/
def nextOut (s : State) (m vc : Nat) : Option OutTxn := s.link.out.find? (fun t => t.m = m && t.vc.toNat = vc)

/-- It can send a flit now: INIT received, credit held, room to replay (R137, R140). -/
def outReady (s : State) (t : OutTxn) : Bool :=
  linkInit s t.m && (creditFree t || 0 < devCredit s t.m t.vc.toNat) && s.link.replay.length < 64

/-- Which of VC1 and VC2 has sent last (R138). -/
def noteTurn (vc : Nat) (s : State) : State :=
  if vc = 1 then setLink { s.link with last2 := false } s
  else if vc = 2 then setLink { s.link with last2 := true } s else s

/-- Send the next flit of a transaction; the last takes it out and lets its read tag go (R148). -/
def sendNext (t : OutTxn) (s : State) : State :=
  let ps := txnPayloads t
  let last := t.gone + 1 = ps.length
  let s1 := noteTurn t.vc.toNat (emitFlit t.m t.vc.toNat (t.gone = 0) last (ps.getD t.gone []) s)
  let s2 := if creditFree t then s1 else setDevCredit t.m t.vc.toNat (devCredit s1 t.m t.vc.toNat - 1) s1
  let isT := fun x : OutTxn => x == t
  if last then
    let s3 := setLink { s2.link with out := s2.link.out.eraseP isT } s2
    if t.rsp && (t.typ = 0 || t.typ = 3 || (t.typ = 7 && (nfld t.arg.toNat 4 3 = 0 || nfld t.arg.toNat 4 3 = 3))) then
      dropTag t.m t.tag s3
    else s3
  else
    setLink { s2.link with out := s2.link.out.map (fun x => if isT x then { x with gone := t.gone + 1 } else x) } s2

/-! ### Event transactions (R63, R64) -/

/-- Records not yet in a transaction. -/
def unformed (q : MsgQ) : Nat := q.recs.length - q.formed.sum

/-- Five waiting records make a transaction at once (R63). -/
def formFives (q : MsgQ) : MsgQ :=
  { q with formed := q.formed ++ List.replicate (unformed q / 5) 5 }

/-- 2 µs after the oldest unsent record, the records waiting make a transaction (R63). -/
def formAll (q : MsgQ) : MsgQ :=
  let q1 := formFives q
  if unformed q1 = 0 then q1 else { q1 with formed := q1.formed ++ [unformed q1] }

def execEvtTimer (m : HostMaster) (s : State) : Host.Outcome State Fault Refusal :=
  if unitOn s 0x02 then done (putMsgq m.val (formAll (getMsgq s m.val)) s) else done s

/-- The 24 bytes of a record (R64). -/
def recBytes (r : EvtRec) : List Byte :=
  leBytes 2 (r.num.toNat + 2 ^ 9 * r.tb.toNat + 2 ^ 14 * r.lost.toNat + 2 ^ 15) ++ leBytes 2 r.mseq.toNat ++
  leBytes 4 r.ns.toNat ++ leBytes 6 r.sec.toNat ++ leBytes 2 r.frac.toNat ++ leBytes 8 r.detail.toNat

/-- The EVT transaction of the first `n` records of a master (R64). -/
def evtTxn (m n : Nat) (q : MsgQ) : OutTxn :=
  { m := m, vc := 3, typ := 4, rsp := false, tag := 0, rseq := q.evtRseq, len := 24 * n, addr := 0, arg := 0,
    data := (q.recs.take n).flatMap recBytes }

/-- Send all flits of a transaction that is not held in `out`. -/
def sendWhole (t : OutTxn) (s : State) : State :=
  let ps := txnPayloads t
  let s1 := (ps.zipIdx).foldl (fun s q => emitFlit t.m t.vc.toNat (q.2 = 0) (q.2 + 1 = ps.length) q.1 s) s
  setDevCredit t.m t.vc.toNat (devCredit s t.m t.vc.toNat - ps.length) s1

/-- A transaction can go out whole now. -/
def wholeReady (s : State) (t : OutTxn) : Bool :=
  let n := (txnPayloads t).length
  linkInit s t.m && n ≤ devCredit s t.m t.vc.toNat && s.link.replay.length + n ≤ 64

/-! ### Arbitration (R133, R138) -/

/-- Something on VC0 can be sent (R138). -/
def vc0Ready (s : State) : Bool := (List.range 8).any (fun m => ((nextOut s m 0).map (outReady s)).getD false)

/-- An EVT transaction that can be sent whole waits on VC3. One that waits for credit holds nothing up. -/
def vc3Ready (s : State) : Bool :=
  (List.range 8).any (fun m =>
    match (getMsgq s m).formed with
    | [] => false
    | n :: _ => wholeReady s (evtTxn m n (getMsgq s m)))

/-- A transaction of VC1 or VC2 can send a flit now. -/
def vcReady (s : State) (vc : Nat) : Bool := (List.range 8).any (fun m => ((nextOut s m vc).map (outReady s)).getD false)

/-- It is the turn of VC `vc` (R138): VC0 first, then VC3, then VC1 and VC2 in alternation. -/
def vcTurn (s : State) (vc : Nat) : Bool :=
  vc = 0 || (!vc0Ready s && !vc3Ready s && (vc ≠ 1 || s.link.last2 || !vcReady s 2))

/-- Nothing waits that could be sent. -/
def nothingToSend (s : State) : Bool := !vc0Ready s && !vc3Ready s && !vcReady s 1 && !vcReady s 2

/-- The transmitter sends the next flit of a master's completion (R138); with nothing that it could send on any VC, it
sends a NULL flit, which carries the ACK (R133, R139). -/
def execCompletionSend (m : HostMaster) (vc : Fin 2) (s : State) : Host.Outcome State Fault Refusal :=
  if linkUpNow s && unitOn s 0x05 then
    match nextOut s m.val vc.val with
    | none => done (if nothingToSend s then sendFlit (bareFlit 0) s else s)
    | some t =>
      if outReady s t && vcTurn s vc.val then done (sendNext t s)
      else done (if nothingToSend s then sendFlit (bareFlit 0) s else s)
  else done s

/-- The oldest formed EVT transaction of a master is sent; its records leave the queue (R63). -/
def execEvt (m : HostMaster) (s : State) : Host.Outcome State Fault Refusal :=
  let q := formFives (getMsgq s m.val)
  match q.formed with
  | [] => done s
  | n :: rest =>
    let t := evtTxn m.val n q
    if linkUpNow s && unitOn s 0x05 && wholeReady s t && !vc0Ready s then
      done (putMsgq m.val { q with recs := q.recs.drop n, formed := rest, evtRseq := q.evtRseq + 1 } (sendWhole t s))
    else done s


end Sys2Proof.Machine
end

