-- ==== Sys2Proof/Machine/Lanes.lean ====
section
/-!
DEFINITION. Relxo lanes: bring-up, failure, takeover, return and restore of host and panel lanes, PRBS counters, and
the panel status bus (06_lanes.md).
-/
namespace Sys2Proof.Machine

/-! ### Events -/

/-- Page on which a lane's registers and events stand. -/
def lanePage : Lane → Nat
  | .host _ => 4
  | .panel n => 6 + n.val / 18

/-- Raise event bit `b` of a lane: the detail carries its number, CAUSE and the driver. -/
def laneEvent (l : Lane) (b : Nat) (s : State) : State :=
  let cause := regFld s (lstatA l) 16 4
  match l with
  | .host n => raise (64 + b) (n.val + 2 ^ 8 * cause) s
  | .panel n => raise (112 + 16 * (n.val / 18) + b) (n.val + 2 ^ 8 * cause + 2 ^ 16 * (n.val / 3)) s

def takeoverCounter : Lane → Nat
  | .host _ => Reg.LNH_N_TAKEOVER
  | .panel _ => Reg.LNP_N_TAKEOVER

/-! ### Failure and takeover (R181–R188) -/

/-- RATE of a lane's link or group as it acts (R178, R197). -/
def cfgRate (s : State) : Lane → Nat
  | .host _ => if regFld s Reg.LNH_CFG 0 3 ≤ 4 then regFld s Reg.LNH_CFG 0 3 else 0
  | .panel _ => min (regFld s Reg.LNP_CFG 0 2) 2

/-- A lane trains, its transmitter at rest, at the rate that its registers give now (R178, R179). -/
def startTrain (l : Lane) (s : State) : State :=
  setLaneState l lsTRAIN (putAux l { getAux s l with rate := cfgRate s l, tx := {}, rx := {} } s)

/-- The panel lanes that are enabled train again, and drivers left dark are brought up again (R180, R272). -/
def retrainPanel (s : State) : State :=
  panelLanes.foldl (fun s l => if laneState s l = lsDARK then s else startTrain l s)
    { s with psb := { s.psb with dark := [] } }

/-- A lane no longer carries anything of its own. Markers that show its return are counted from now (R189). -/
def failLane (l : Lane) (cause : Nat) (s : State) : State :=
  let x := getAux s l
  laneEvent l 0 (setLaneCopy l 0xFF (setLaneRole l lrFAILED (setLaneCause l cause
    (putAux l { x with goods := 0, stuffs := 0, phase := .none } s))))

/-- An idle spare of the lane's group: role SPARE, UP, copying nothing (log entry 20, DEDUCED). -/
def idleSpare (s : State) (l : Lane) : Option Lane :=
  (groupOf l).find? (fun x => laneRole s x = lrSPARE && laneState s x = lsUP && laneCopy s x = 0xFF)

/-- A spare that copies a lane under calibration. -/
def lentSpare (s : State) (l : Lane) : Option Lane :=
  (groupOf l).find? (fun x => laneRole s x = lrSPARE && laneCopy s x ≠ 0xFF && (getAux s x).calib)

/-- The lane under calibration whose copy a spare holds, or has been asked to hold. -/
def calibratedBy (s : State) (x : Lane) : Option Lane :=
  (groupOf x).find? (fun y => laneRole s y ≠ lrFAILED && y ≠ x && carried s y = laneCopy s x)

def calAct : Lane → Nat
  | .host _ => actHCAL
  | .panel _ => actPCAL

def laneUnit : Lane → Nat
  | .host n => n.val
  | .panel n => n.val

/-- A panel spare's transmitter begins the copy at the next marker of the lane number (R182, R186). A host lane's copy is
the partner's. -/
def beginCopy (x : Lane) (num : Nat) (s : State) : State :=
  match x with
  | .panel _ => putAux x { getAux s x with copyNext := some num, txCopy := none } s
  | .host _ => s

/-- A spare covers lane number `num` for failure. -/
def coverWith (x : Lane) (num : Nat) (s : State) : State :=
  counterAdd 10 1 (laneEvent x 1 (bumpSat (takeoverCounter x)
    (beginCopy x num (putAux x { getAux s x with calib := false } (setLaneCopy x num (setLaneRole x lrCOVER s))))))

/-- A takeover ends the calibration that holds the spare: its lane is its own primary again, with the settings that it had
before, and asks for no copy (R188, R433). -/
def abortLent (x : Lane) (s : State) : State :=
  match calibratedBy s x with
  | none => s
  | some y =>
    laneEvent y 6 (mntAbort (calAct y) (laneUnit y) 1 (putAux y { getAux s y with phase := .none, rqOut := false } s))

/-- A panel lane's spare is still in bring-up: it takes the failed lane's number once it is UP (R180) (log entry 20, DEDUCED). -/
def spareComing (s : State) (l : Lane) : Bool :=
  (groupOf l).any (fun x => !(laneState s x = lsDARK || laneState s x = lsUP) &&
    (laneRole s x = lrSPARE || (laneRole s x = lrACTIVE && ownNumber s x % 3 = 2)))

/-- A driver whose second lane fails before it is UP stays dark (R180). -/
def darkDriver (l : Lane) (s : State) : State :=
  if laneState s l = lsUP then s else { s with psb := { s.psb with dark := driverOf l :: s.psb.dark } }

/-- Cover lane number `num` of the group of `l`: on the idle spare, or on one that a calibration holds; with none,
SPARE_EXH (R180, R186, R188). -/
def takeover (l : Lane) (num : Nat) (s : State) : State :=
  match idleSpare s l with
  | some x => coverWith x num s
  | none =>
    match lentSpare s l with
    | some x => coverWith x num (abortLent x s)
    | none => if spareComing s l then s else darkDriver l (laneEvent l 5 s)

/-- RQ = 1 on our own transmit lane asks the partner for a copy (R183). -/
def askCopy (l : Lane) (s : State) : State := putAux l { getAux s l with rqOut := true } s

/-- The lane that receives a number in its own right. -/
def laneOf (s : State) (num : Nat) (l : Lane) : Lane := (hostLanes.find? (fun y => ownNumber s y = num)).getD l

/-- A host lane's number is asked for with RQ whatever spares there are here (R183); a calibration gives its spare up; with
no spare to receive the copy SPARE_EXH is raised. -/
def askCover (l : Lane) (num : Nat) (s : State) : State :=
  match idleSpare s l with
  | some _ => askCopy (laneOf s num l) s
  | none =>
    match lentSpare s l with
    | some x =>
      let s1 := abortLent x s
      askCopy (laneOf s num l) (putAux x { getAux s1 x with calib := false } (setLaneCopy x 0xFF s1))
    | none => laneEvent l 5 (askCopy (laneOf s num l) s)

/-- A receiver declares a lane failed (R181). A spare is marked FAILED without a takeover; a host lane's number is
covered when its copy appears (R183), a panel lane's at once (R186). -/
def declareFailed (l : Lane) (cause : Nat) (s : State) : State :=
  let role := laneRole s l
  let num := carried s l
  if role = lrFAILED ∨ role = lrQUARANTINED ∨ role = lrVERIFY then s
  else if role = lrSPARE then failLane l cause s
  else
    let s1 := failLane l cause s
    match l with
    | .panel _ => takeover l num s1
    | .host _ => askCover l num s1

/-- What a receiver holds against a lane (R181): two markers missed, loss of CDR lock, which the command reports, stuffing
violations in two marker periods. A panel lane's receiver is its driver, which reports CAUSE 7 (R186). -/
def failEvidence (s : State) (l : Lane) (cause : Nat) : Bool :=
  match cause with
  | 1 => decide (2 ≤ (getAux s l).misses)
  | 2 => true
  | 3 => decide (2 ≤ (getAux s l).stuffs)
  | 7 => (match l with
    | .panel _ => true
    | .host _ => false)
  | _ => false

/-- A declaration by a receiver of a lane that is UP. -/
def execLaneFail (l : Lane) (cause : Fin 8) (s : State) : Host.Outcome State Fault Refusal :=
  if live s && laneState s l = lsUP && failEvidence s l cause.val then done (declareFailed l cause.val s) else done s

/-- The lane check of a retry storm: the receivers' evidence of R181 is acted on (log entry 20, DEDUCED). -/
def laneCheck (s : State) : State :=
  hostLanes.foldl (fun s l =>
    if laneState s l ≠ lsUP then s
    else if failEvidence s l 1 then declareFailed l 1 s
    else if failEvidence s l 3 then declareFailed l 3 s else s) s

/-- Four consecutive replays without an ACK advance (R141): the event, the lane check and the remap onto spares. -/
def execRetryStorm (s : State) : Host.Outcome State Fault Refusal :=
  if linkUpNow s && unitOn s 0x05 && 4 ≤ s.link.replays then
    done (laneCheck (raise 96 0 (setLink { s.link with check := true } s)))
  else done s

/-! ### Markers (R175, R176, R178, R182–R184, R189) -/

/-- A marker whose SYNC matches and whose CRC checks. -/
def markerGood (b : DWord) : Bool :=
  dfld b 0 32 = 0xF0A66A0F && crc16 (leBytes 6 (dfld b 0 48)) = dfld b 48 16

/-- The marker as corrected for polarity, and whether it came complemented. -/
def markerRead (b : DWord) : Option (DWord × Bool) :=
  if markerGood b then some (b, false) else if markerGood (~~~ b) then some (~~~ b, true) else none

/-- The host lanes that are being brought up. -/
def risingLanes (s : State) : List Lane :=
  hostLanes.filter (fun l => laneState s l ≠ lsDARK && laneState s l ≠ lsUP && laneRole s l ≠ lrFAILED &&
    laneRole s l ≠ lrQUARANTINED && laneRole s l ≠ lrVERIFY)

/-- Every host lane that is being brought up is aligned, within a skew of 1,024 bits (R178). -/
def deskewed (s : State) : Bool :=
  let r := risingLanes s
  r.all (fun l => laneState s l = lsDESKEW && r.all (fun k => decide ((getAux s l).pos ≤ (getAux s k).pos + 1024)))

/-- All aligned lanes turn UP together. -/
def allUp (s : State) : State :=
  hostLanes.foldl (fun s l => if laneState s l = lsDESKEW then setLaneState l lsUP s else s) s

/-- The copy of a failed lane's number has appeared on lane `l`: the receiver switches to it at once (R183). -/
def takeCopy (l : Lane) (num : Nat) (s : State) : State :=
  match hostLanes.find? (fun y => y ≠ l && ownNumber s y = num && laneRole s y = lrFAILED && (getAux s y).rqOut) with
  | some _ =>
    if laneRole s l = lrSPARE && !hostLanes.any (fun z => laneRole s z = lrCOVER && laneCopy s z = num) then
      coverWith l num s
    else s
  | none => s

/-- The transmitter's copy of lane number `num` ends, or does not begin (R183, R184). -/
def endCopy (num : Nat) (s : State) : State :=
  hostLanes.foldl (fun s x =>
    if (getAux s x).txCopy = some num || (getAux s x).copyNext = some num then
      putAux x { getAux s x with txCopy := none, copyNext := none } s
    else s) s

/-- RQ of a valid marker, counted; two markers with RQ = 0 end the copy. On a lane that covers another the RQ is that of
the number it carries (R184). -/
def markRq (l : Lane) (rq : Bool) (s : State) : State :=
  let x := getAux s l
  if rq then putAux l { x with rqIn := x.rqIn + 1, rqGone := 0 } s
  else
    let s1 := putAux l { x with rqIn := 0, rqGone := x.rqGone + 1 } s
    if x.rqGone + 1 = 2 then endCopy (carried s l) s1 else s1

/-! ### Planned changes to a copy and back (R183, R185, R190) -/

/-- The lane whose number a spare's markers carry, when a copy of it was asked for and it has not failed. -/
def plannedFor (s : State) (x : Lane) (num : Nat) : Option Lane :=
  hostLanes.find? (fun y => y ≠ x && ownNumber s y = num && laneRole s y ≠ lrFAILED && (getAux s y).phase ≠ .none)

/-- A marker of the copy of lane `y`: after two marker periods of it the receiver switches to it (R183, R185). -/
def countCopy (y : Lane) (s : State) : State :=
  match (getAux s y).phase with
  | .asked => putAux y { getAux s y with phase := .copying 0 } s
  | .copying n => putAux y { getAux s y with phase := if 2 ≤ n + 1 then .away else .copying (n + 1) } s
  | _ => s

/-- RESTORE of lane `l` is complete: it is ACTIVE again and its cover the idle spare (R190). -/
def restored (l : Lane) (s : State) : State :=
  let s1 := putAux l { getAux s l with rqOut := false, phase := .none, verified := false } s
  let s2 := setLaneRole l lrACTIVE (setLaneCopy l 0xFF s1)
  match (groupOf l).find? (fun y => laneRole s2 y = lrCOVER && laneCopy s2 y = ownNumber s2 l) with
  | none => s2
  | some y =>
    setLaneRole y lrSPARE (setLaneCopy y 0xFF (putAux y { getAux s2 y with txCopy := none, copyNext := none } s2))

/-- The calibrated lane is its own primary again: its spare is idle and RQ is 0 (R185, R187). -/
def homeAgain (l : Lane) (s : State) : State :=
  let s1 := putAux l { getAux s l with phase := .none, rqOut := false } s
  match (groupOf l).find? (fun x => (getAux s1 x).calib && laneRole s1 x = lrSPARE && laneCopy s1 x = carried s1 l) with
  | none => s1
  | some x => putAux x { getAux s1 x with calib := false, txCopy := none, copyNext := none } (setLaneCopy x 0xFF s1)

/-- A marker of a lane that is being checked against its copy: after two marker periods the change is made at it. -/
def countOwn (l : Lane) (s : State) : State :=
  match (getAux s l).phase with
  | .returning n => if 2 ≤ n + 1 then homeAgain l s else putAux l { getAux s l with phase := .returning (n + 1) } s
  | .restoring n => if 2 ≤ n + 1 then restored l s else putAux l { getAux s l with phase := .restoring (n + 1) } s
  | _ => s

/-- A marker on an input that is UP is of the lane number it carries, whatever the input (R176): its own, a new one of its
own, or that of a lane that it copies. A lane back from a verification keeps the number it failed with, for a RESTORE
(R190), while it shows a spare's. -/
def numbered (l : Lane) (num : Nat) (s : State) : State :=
  if num = ownNumber s l then
    if (getAux s l).phase ≠ .none then countOwn l s
    else if laneRole s l = lrSPARE && laneCopy s l ≠ 0xFF && !(getAux s l).calib then setLaneCopy l 0xFF s
    else s
  else if laneRole s l = lrACTIVE then
    let s1 := putAux l { getAux s l with logical := some num } s
    if 16 ≤ num then setLaneRole l lrSPARE s1 else s1
  else if laneRole s l = lrSPARE then
    if 16 ≤ num then (if (getAux s l).verified then s else putAux l { getAux s l with logical := some num } s)
    else if hostLanes.any (fun y => y ≠ l && ownNumber s y = num) then
      match plannedFor s l num with
      | some y => countCopy y (setLaneCopy l num s)
      | none => takeCopy l num s
    else setLaneRole l lrACTIVE (putAux l { getAux s l with logical := some num } s)
  else s

/-- A failed lane that shows two valid markers in a row becomes QUARANTINED (R189). -/
def laneReturns (l : Lane) (s : State) : State := laneEvent l 2 (setLaneRole l lrQUARANTINED s)

/-- Bring-up and switching on a valid marker. One that comes complemented inverts the lane (R176). A lane that has been
failed counts the valid markers since (R189) (log entry 20, DEDUCED). -/
def markerValid (n : Fin 18) (b : DWord) (inv : Bool) (s0 : State) : State :=
  let l := Lane.host n
  let x := getAux s0 l
  let s := putAux l { x with misses := 0, goods := x.goods + 1 } s0
  let role := laneRole s l
  let num := dfld b 32 7
  if role = lrFAILED then if x.goods + 1 = 2 then laneReturns l s else s
  else if role = lrQUARANTINED ∨ role = lrVERIFY then s
  else
    let st := laneState s l
    if st = lsMARK then
      if 2 ≤ x.goods + 1 then setLaneState l lsORIENT (setRegBit (lstatA l) 3 inv s) else s
    else if st = lsORIENT then
      if dfld b 40 8 = regFld s Reg.LNH_CFG 8 8 then
        setLaneState l lsDESKEW (putAux l { getAux s l with logical := some num } (setRegBit (lstatA l) 3 inv s))
      else laneEvent l 3 (failLane l 4 s)
    else if st = lsDESKEW then
      let s1 := setRegBit (lstatA l) 3 inv s
      if deskewed s1 then allUp s1 else s1
    else if st = lsUP then numbered l num (markRq l (b.getLsbD 39) (setRegBit (lstatA l) 3 inv s))
    else s

/-- A marker position without a valid marker. -/
def markerBad (n : Fin 18) (s : State) : State :=
  let x := getAux s (.host n)
  putAux (.host n) { x with misses := x.misses + 1, goods := 0 } s

/-- The line bits of the marker period that ends: unstuffed and descrambled, and a period with a stuffing violation counted
(R173, R174, R181). In TRAIN there is no stuffing. -/
def lineReceived (n : Fin 18) (line : List Bool) (pos : Nat) (s : State) : State :=
  let l := Lane.host n
  let x := getAux s l
  if laneState s l = lsTRAIN then s
  else
    let rx := receiveLine line x.rx
    putAux l { x with rx := rx, stuffs := if rx.viol then x.stuffs + 1 else 0, pos := pos } s

/-- A marker position on input `l` (log entry 46, DESIGN CHOICE). -/
def execMarker (l : Fin 18) (got : MarkerSeen) (s : State) : Host.Outcome State Fault Refusal :=
  if live s then
    let s1 := lineReceived l got.line got.pos s
    match markerRead got.bits with
    | some (b, inv) => done (markerValid l b inv s1)
    | none => done (markerBad l s1)
  else done s

/-- A transmitter is on its way to copying number `num`, or copies it. -/
def copies (num : Nat) (x : LaneAux) : Bool := x.txCopy = some num || x.copyNext = some num

/-- The partner asked for a copy of our transmit lane number of `l`: the lowest-numbered idle spare carries it from that
number's next marker position (R182, R183). Our receiver may use the spare of that number all the same. -/
def startCopy (l : Lane) (s : State) : State :=
  let num := carried s l
  if hostLanes.any (fun x => copies num (getAux s x)) then s
  else
    match hostLanes.find? (fun x => (laneRole s x = lrSPARE || laneRole s x = lrCOVER) &&
        (getAux s x).txCopy.isNone && (getAux s x).copyNext.isNone && laneState s x = lsUP) with
    | none => s
    | some x => putAux x { getAux s x with copyNext := some num } s

def execCopyStart (l : Fin 18) (s : State) : Host.Outcome State Fault Refusal :=
  if live s && 2 ≤ (getAux s (.host l)).rqIn then done (startCopy (.host l) s) else done s

/-- Failed for 4 marker periods and no copy has appeared: our side copies its own transmit lane (R184). -/
def execCopyMissingTimer (l : Fin 18) (s : State) : Host.Outcome State Fault Refusal :=
  let x := Lane.host l
  if live s && laneRole s x = lrFAILED && (getAux s x).rqOut &&
    !hostLanes.any (fun z => laneRole s z = lrCOVER && laneCopy s z = ownNumber s x) then done (startCopy x s)
  else done s

/-! ### Bring-up (R178–R180) -/

def isHost : Lane → Bool
  | .host _ => true
  | .panel _ => false

/-- A driver's third lane is its spare from the start (R191), unless it has taken a number. -/
def firstRole (l : Lane) (s : State) : State :=
  match l with
  | .host _ => s
  | .panel n => if n.val % 3 = 2 && laneRole s l = lrACTIVE then setLaneRole l lrSPARE s else s

/-- A lane that has failed or is quarantined takes no part in a bring-up (R189). -/
def mayRise (s : State) (l : Lane) : Bool :=
  laneRole s l ≠ lrFAILED && laneRole s l ≠ lrQUARANTINED && laneRole s l ≠ lrVERIFY

/-- The lane leaves DARK when its link or group is enabled; host lanes rest in Night (R416). -/
def execLaneEnable (l : Lane) (s : State) : Host.Outcome State Fault Refusal :=
  if live s && !(isHost l && s.pwr.st = .night) && laneState s l = lsDARK && enabled s (lanePage l) && laneRole s l ≠ lrFAILED &&
    laneRole s l ≠ lrQUARANTINED then done (setLaneState l lsDETECT (firstRole l s))
  else done s

def execDetectRetry (l : Lane) (seen : Bool) (ms : Nat) (s : State) : Host.Outcome State Fault Refusal :=
  if live s && laneState s l = lsDETECT && mayRise s l then
    if seen then done (startTrain l s)
    else if 100 ≤ ms then done (laneEvent l 4 s)
    else done s
  else done s

/-- TRAIN completes: the lane sends markers (R178, R179). -/
def execTrainDone (l : Lane) (s : State) : Host.Outcome State Fault Refusal :=
  if live s && laneState s l = lsTRAIN && mayRise s l then
    done (setLaneState l lsMARK (putAux l { getAux s l with timeouts := 0, goods := 0, misses := 0 } s))
  else done s

/-- The timeouts of R178; the third TRAIN timeout in a row fails the lane with CAUSE 5. -/
def execLaneStateTimeout (l : Lane) (s : State) : Host.Outcome State Fault Refusal :=
  if !live s then done s
  else
    let st := laneState s l
    if st = lsTRAIN then
      match l with
      | .panel _ => done s
      | .host _ =>
        let x := getAux s l
        let s1 := setLaneState l lsDETECT (putAux l { x with timeouts := x.timeouts + 1 } s)
        if x.timeouts + 1 = 3 then done (failLane l 5 s1) else done s1
    else if st = lsMARK ∨ st = lsORIENT ∨ st = lsDESKEW then done (startTrain l s)
    else done s

/-- Lanes fit to carry traffic. -/
def healthy (s : State) : List Lane :=
  hostLanes.filter (fun l => laneState s l = lsUP && laneRole s l ≠ lrFAILED && laneRole s l ≠ lrQUARANTINED &&
    laneRole s l ≠ lrVERIFY)

/-- Width of the link from its number of healthy lanes (R179). -/
def linkWidth (n : Nat) : Nat := if 16 ≤ n then 16 else if 8 ≤ n then 8 else if 4 ≤ n then 4 else 0

/-- The healthy lanes in ascending order, those that came back through a verification and were not restored last: none of
them takes a number that another can (R179, R189) (log entry 20, DEDUCED). -/
def inOrder (s : State) : List Lane :=
  (healthy s).filter (fun l => !(getAux s l).verified) ++ (healthy s).filter (fun l => (getAux s l).verified)

/-- Logical numbers: the first `w` healthy lanes are active, the next two are spares 16 and 17, others DARK (R179). The
transmitter takes the number; the receiver keeps the one that its markers gave where it is one of the link (R176). -/
def assignLanes (w : Nat) (s : State) : State :=
  ((inOrder s).zipIdx).foldl (fun s q =>
    let x := getAux s q.1
    let k := if q.2 < w then q.2 else q.2 - w + 16
    let ok := fun n => decide (n < w) || n = 16 || n = 17
    let num := if x.logical.any ok then x.logical else some k
    if q.2 < w + 2 then
      setLaneCopy q.1 0xFF (setLaneRole q.1 (if q.2 < w then lrACTIVE else lrSPARE)
        (putAux q.1 { x with logical := num, txNum := some k } s))
    else setLaneState q.1 lsDARK s) s

/-- The link layer starts (R139, R179). -/
def execLinkUp (s : State) : Host.Outcome State Fault Refusal :=
  let n := (healthy s).length
  let w := linkWidth n
  if linkUpNow s || !unitOn s 0x05 then done s
  else if w = 0 then done (raise 68 n s)
  else
    let s1 := setLink {} (assignLanes w s)
    done (raise 98 0 (setRegN Reg.LNH_LINK_STAT (1 + 2 ^ 8 * w) s1))

/-! ### Verification, return and restore (R189, R190) -/

/-- Ask for the verification of a quarantined lane: a panel lane through the scheduler, a host lane at the next
retrain (R189, R429). -/
def askVerify (l : Lane) (host : Bool) (s : State) : State :=
  if laneRole s l = lrQUARANTINED then
    match l with
    | .panel n => mntPush actPVER n.val host s
    | .host _ => putAux l { getAux s l with verifyAt := true } s
  else s

/-- The spare number that a host lane takes up when it becomes a spare: that of 16 and 17 which no other idle spare sends. -/
def spareNumber (s : State) : Nat :=
  if hostLanes.any (fun y => laneRole s y = lrSPARE && (getAux s y).txNum = some 16) then 17 else 16

/-- A verification passes: the lane is a spare with the spare's number; or fails: it stays QUARANTINED (R189). -/
def verifyDone (l : Lane) (pass : Bool) (s : State) : State :=
  let x := getAux s l
  let num := if isHost l && pass then some (spareNumber s) else x.txNum
  let s1 := putAux l { x with verifyAt := false, verified := x.verified || pass, txNum := num } s
  if laneRole s l = lrVERIFY ∨ laneRole s l = lrQUARANTINED then
    if pass then
      setLaneState l lsUP (setLaneCopy l 0xFF (setLaneCause l 0 (setLaneRole l lrSPARE s1)))
    else setLaneRole l lrQUARANTINED s1
  else s1

/-- One second in quarantine (R189; log entry 20, DEDUCED). -/
def execLaneVerifyTimer (l : Lane) (s : State) : Host.Outcome State Fault Refusal :=
  if live s then done (askVerify l false s) else done s

/-- RESTORE: the lane is given a copy of its number from the lane that covers it, and takes it back after two checked
marker periods (R190). A panel lane's copy begins at the number's next marker. -/
def restoreLane (l : Lane) (s : State) : State :=
  let num := ownNumber s l
  if laneRole s l = lrSPARE && (groupOf l).any (fun y => laneRole s y = lrCOVER && laneCopy s y = num) then
    beginCopy l num (putAux l { getAux s l with phase := .restoring 0 } (setLaneCopy l num s))
  else s

/-- Effect of a write of LCTL. -/
def effLctl (l : Lane) (v : Word) (s : State) : State :=
  let s1 := setReg (lctlA l) (v &&& 0xE0) s
  let s2 := if bit v 4 then setReg (prbsErrA l) 0 s1 else s1
  match fld v 0 4 with
  | 1 => restoreLane l s2
  | 2 => declareFailed l 6 s2
  | 3 => askVerify l true s2
  | _ => s2

/-- LCTL with its stored PRBS_SEL and a command. -/
def lctlWord (s : State) (l : Lane) (low : Nat) : Word := (getReg s (lctlA l) &&& 0xE0) ||| w32 low

def execRestore (m : Master) (l : Lane) (s : State) : Host.Outcome State Fault Refusal :=
  done (writeWith m (lctlA l) (lctlWord s l 1) (effLctl l (lctlWord s l 1)) s)

def execForceFail (m : Master) (l : Lane) (s : State) : Host.Outcome State Fault Refusal :=
  done (writeWith m (lctlA l) (lctlWord s l 2) (effLctl l (lctlWord s l 2)) s)

def execVerify (m : Master) (l : Lane) (s : State) : Host.Outcome State Fault Refusal :=
  done (writeWith m (lctlA l) (lctlWord s l 3) (effLctl l (lctlWord s l 3)) s)

def execPrbsClr (m : Master) (l : Lane) (s : State) : Host.Outcome State Fault Refusal :=
  done (writeWith m (lctlA l) (lctlWord s l 16) (effLctl l (lctlWord s l 16)) s)

/-- The pattern that a host lane's checker expects (R177, R178, R189). -/
def checkerSel (s : State) (l : Lane) : Nat :=
  if prbsSel s l ≠ 0 then prbsSel s l
  else if laneState s l = lsTRAIN || laneRole s l = lrQUARANTINED || laneRole s l = lrVERIFY then 4 else 0

/-- A counter of `w` bits that saturates rises by `n`. -/
def bumpBySatW (w a n : Nat) (s : State) : State :=
  if s.captured.contains (a / 4096) then s else setRegN a (min (regN s a + n) (2 ^ w - 1)) s

/-- Bits run through a lane's checker: errors are counted, LOCK follows, and 16 errors within 64 bits re-seed it (R177). -/
def checkLane (l : Fin 18) (taps : Nat × Nat) (bits : List Bool) (s : State) : State :=
  let a := Lane.host l
  let r := checkBits taps (getAux s a).ck (regBit s (lstatA a) 4) bits
  bumpBySatW 16 (Reg.LNH_PRBS_RESEED l.val) r.reseeds (bumpBySat (prbsErrA a) r.errors
    (setRegBit (lstatA a) 4 r.lock (putAux a { getAux s a with ck := r.ck } s)))

/-- The bits that an input receives while its checker is on (log entry 46, DESIGN CHOICE). -/
def execPrbsCheckerReseed (rx : CheckerBits) (s : State) : Host.Outcome State Fault Refusal :=
  match prbsTaps (checkerSel s (.host rx.l)) with
  | some taps => if live s then done (checkLane rx.l taps rx.bits s) else done s
  | none => done s

/-! ### Panel lanes at a marker position (R182, R186, R187, R190) -/

/-- SWITCH or BACK for lane number `num` (R193), to be sent in the stream of lane `l`. -/
def queueCmd (l : Lane) (opc num : Nat) (s : State) : State :=
  putAux l { getAux s l with cmds := (getAux s l).cmds ++ [cmdWord opc num] } s

/-- The lane that carries number `num` has sent a marker: a planned change of panel lane `y` to or from a copy goes on. SWITCH
follows two marker periods of the copy; the spare is idle two periods after BACK; a restored lane takes its number back
after two checked periods, told by BACK (log entry 20, DEDUCED). -/
def panelMark (l : Lane) (s : State) (y : Lane) : State :=
  match (getAux s y).phase with
  | .asked => if y = l then putAux y { getAux s y with phase := .copying 0 } s else s
  | .copying n =>
    if y ≠ l then s
    else if 2 ≤ n + 1 then queueCmd y 4 (markLane s y) (putAux y { getAux s y with phase := .away } s)
    else putAux y { getAux s y with phase := .copying (n + 1) } s
  | .returning n =>
    if y ≠ l then s
    else if 2 ≤ n + 1 then homeAgain y s else putAux y { getAux s y with phase := .returning (n + 1) } s
  | .restoring n =>
    if y = l || markLane s l ≠ ownNumber s y then s
    else if 2 ≤ n + 1 then queueCmd y 5 (ownNumber s y) (restored y s)
    else putAux y { getAux s y with phase := .restoring (n + 1) } s
  | _ => s

/-- Packets go out on panel lane `l`; a marker among their line bits moves planned changes on. -/
def sendPanel (l : Lane) (packets : List (List Word)) (s : State) : State :=
  let x := getAux s l
  let tx := packets.foldl (sendPacket (txMarker s l)) { x.tx with line := [] }
  let s1 := sentOn l tx s
  if x.tx.marks < tx.marks then (groupOf l).foldl (panelMark l) s1 else s1

/-! ### Panel status bus (R186, R198, R199) -/

/-- The lowest driver with an uncovered failure in an attention field; a set bit is one pulled low. -/
def attnDriver (a : BitVec 72) : Option Nat := (List.range 36).find? (fun k => a.getLsbD (2 * k) || a.getLsbD (2 * k + 1))

/-- Driver and index that a frame addresses: an out-of-turn poll, an uncovered failure, or the rotation (R199). -/
def psbAddress (s : State) (a : BitVec 72) : Nat × Nat :=
  match s.psb.sel, attnDriver a with
  | some x, _ => x
  | none, some k => (k, 0)
  | none, none => (s.psb.frame % 36, s.psb.frame / 36 % 4)

/-- CRC-8 of a reply: x^8 + x^2 + x + 1, initial value 0, data bit 0 first (R198). -/
def crc8 (d : Word) : Nat := crcBits 8 0x07 0 (lsbBits 32 d.toNat)

def panelLane (n : Nat) : Lane := .panel (Fin.ofNat 108 n)

/-- The panel lane that carries number `num`, failed lanes apart. -/
def carrierOf (s : State) (num : Nat) : Option Lane :=
  (groupOf (panelLane num)).find? (fun l => (laneRole s l = lrACTIVE || laneRole s l = lrCOVER) && carried s l = num)

/-- An attention bit: the driver's position has failed and is not covered (R186). A position that no lane carries is
covered once a spare is idle. -/
def attend (num : Nat) (s : State) : State :=
  match carrierOf s num with
  | some l => declareFailed l 7 s
  | none =>
    match idleSpare s (panelLane num) with
    | some x => coverWith x num s
    | none => s

/-- Every attention bit that is set. -/
def attendAll (a : BitVec 72) (s : State) : State :=
  (List.range 72).foldl (fun s i => if a.getLsbD i then attend (3 * (i / 2) + i % 2) s else s) s

/-- UP and the checker's lock of input `i` of a driver, from its STATUS word (R178, R199). The driver's receiver passes ORIENT
and DESKEW, and reports their end (log entry 20, DEDUCED). -/
def statusUp (k i : Nat) (d : Word) (s : State) : State :=
  let l := panelLane (3 * k + i)
  let s1 := setRegBit (lstatA l) 4 (bit d (13 + i)) s
  let st := laneState s1 l
  if bit d (4 + i) && lsMARK ≤ st && st ≤ lsDESKEW && laneRole s1 l ≠ lrFAILED then setLaneState l lsUP s1 else s1

/-- A driver reports an input failed. Before the lane is UP that is a GROUP which is not the driver's: the lane is
miswired, CAUSE 4 (R178); else CAUSE 7 (log entry 20, DEDUCED). -/
def reportFailed (l : Lane) (s : State) : State :=
  let st := laneState s l
  if st = lsUP then declareFailed l 7 s
  else if lsMARK ≤ st && laneRole s l ≠ lrFAILED then laneEvent l 3 (declareFailed l 4 s) else s

/-- Failed and returned of input `i` of a driver (R180, R181, R189, R199). -/
def statusInput (k i : Nat) (d : Word) (s : State) : State :=
  let l := panelLane (3 * k + i)
  let s1 := if bit d (7 + i) then reportFailed l s else s
  if bit d (10 + i) && laneRole s1 l = lrFAILED then laneReturns l s1 else s1

/-- A good reply. -/
def psbGood (k idx : Nat) (d : Word) (sel : Bool) (s : State) : State :=
  let s1 := { s with psb := { s.psb with bad := sPut zeroN k 0 s.psb.bad } }
  let s2 := if sel then setReg Reg.LNP_PSB_DATA d s1 else s1
  if idx = 0 then
    (List.range 3).foldl (fun s i => statusInput k i d s) ((List.range 3).foldl (fun s i => statusUp k i d s) s2)
  else setReg (Reg.LNP_PRBS_ERR (3 * k + (idx - 1))) d s2

/-- A reply that is bad or missing (R199). -/
def psbBad (k : Nat) (s : State) : State :=
  let n := sGet zeroN k s.psb.bad + 1
  let s1 := bumpSat Reg.LNP_N_PSB_ERR { s with psb := { s.psb with bad := sPut zeroN k n s.psb.bad } }
  if n = 3 then laneEvent (panelLane (3 * k)) 7 s1 else s1

def execPsbFrame (attention : BitVec 72) (reply : Option (Word × Byte)) (s : State) :
    Host.Outcome State Fault Refusal :=
  if live s then
    let adr := psbAddress s attention
    let sel := s.psb.sel.isSome
    let s1 := attendAll attention { s with psb := { s.psb with frame := s.psb.frame + 1, sel := none } }
    match reply with
    | some (d, c) => if crc8 d = c.toNat then done (psbGood adr.1 adr.2 d sel s1) else done (psbBad adr.1 s1)
    | none => done (psbBad adr.1 s1)
  else done s

/-- Effect of a write of LNP_PSB_SEL (R199). An INDEX above 3 acts modulo 4, as in the rotation (log entry 20, DESIGN CHOICE). -/
def effPsbSel (v : Word) (s : State) : State :=
  if fld v 0 6 < 36 then { s with psb := { s.psb with sel := some (fld v 0 6, fld v 6 4 % 4) } } else s

/-- Effect of a write of LNP_DRVREG: the queue holds 16; a write to a full queue is held. -/
def effDrvreg (m : Master) (v : Word) (s : State) : State :=
  if 36 ≤ fld v 24 6 ∧ fld v 24 6 ≠ 63 then s
  else if s.psb.drvq.length < 16 then { s with psb := { s.psb with drvq := s.psb.drvq ++ [v] } }
  else holdOrBusy m .drvQueue (.write m Reg.LNP_DRVREG v) s

def execLnpPsbSel (m : Master) (v : Word) (s : State) : Host.Outcome State Fault Refusal :=
  done (writeWith m Reg.LNP_PSB_SEL v (effPsbSel v) s)

def execLnpDrvreg (m : Master) (v : Word) (s : State) : Host.Outcome State Fault Refusal :=
  done (writeWith m Reg.LNP_DRVREG v (effDrvreg m v) s)

end Sys2Proof.Machine
end

