-- ==== Sys2Proof/Machine/Plan.lean ====
section
/-!
DEFINITION. The tile work plan: layers as the composer sees them, the slope bound, footprints and active layer lists,
levels of detail, the budget, and the audit's register (07_composer.md, R200–R210, R226).
-/
namespace Sys2Proof.Machine

/-! ### Timing modes (R28) -/

/-- T_LF of a timing mode in seconds, as a fraction. Modes: 0 LF60, 1 LF59.94, 2 LF50, 3 LF48, 4 LF30. -/
def modeT (mode : Nat) : Nat × Nat :=
  match mode with
  | 0 => (1, 60)
  | 1 => (1001, 60000)
  | 2 => (1, 50)
  | 3 => (1, 48)
  | _ => (1, 30)

/-- The timing mode in use. -/
def modeAct (s : State) : Nat := regFld s Reg.SCN_STAT 0 3

/-- The mode that SCN_MODE selects; a boot image that gives none of the five selects LF60 (log entry 40, DEDUCED). -/
def modeSet (s : State) : Nat := if regFld s Reg.SCN_MODE 0 3 ≤ 4 then regFld s Reg.SCN_MODE 0 3 else 0

/-! ### Layers in force -/

/-- An entry of a context table, field by field (R100). -/
structure Lay where
  n      : Nat
  alpha  : Nat
  border : Bool
  relief : Bool
  reduce : Bool
  cmx    : Nat
  fmt    : Fmt
  buf    : Nat
  rbuf   : Nat
  ax     : Nat
  ay     : Nat
  bx     : Int
  byy    : Int
  z      : Int
  rscale : Int
deriving DecidableEq, Repr

/-- Entry `n` of a copy of the context table. -/
def layOf (l : Sparse Word) (n : Nat) : Lay :=
  let w := fun i => sGet zeroW (32 * n + i) l
  { n := n, alpha := fld (w 0) 10 2, border := bit (w 0) 12, relief := bit (w 0) 13, reduce := bit (w 0) 14,
    cmx := fld (w 1) 26 6, fmt := fmtOf (w 1) (w 2), buf := fld (w 3) 0 13, rbuf := fld (w 3) 16 13,
    ax := fld (w 4) 0 18, ay := fld (w 5) 0 18, bx := sx 25 (w 6).toNat, byy := sx 25 (w 7).toNat,
    z := sx 20 (w 8).toNat, rscale := sx 14 (w 9).toNat }

/-- The entry of a copy takes part in a frame (R203). -/
def takesPart (l : Sparse Word) (n : Nat) : Bool :=
  bit (sGet zeroW (32 * n) l) 30 && !bit (sGet zeroW (32 * n + 15) l) 9

/-- Insert a layer into a front-to-back list, behind those of equal depth. -/
def rankInsert (a : Lay) : List Lay → List Lay
  | [] => [a]
  | b :: t => if b.z < a.z then a :: b :: t else b :: rankInsert a t

/-- The taking-part contexts in rank order: Z descending, then number ascending (R203). -/
def ranked (l : Sparse Word) : List Lay :=
  (((enabledIn l).filter (takesPart l)).map (layOf l)).foldl (fun acc a => rankInsert a acc) []

/-! ### Footprints and lists (R204–R206) -/

/-- RAY_FOCAL.F as it acts (R94). -/
def effFocal (w : Word) : Nat := max (fld w 0 16) 0x1000

/-- UB (R204): `d`, `g` are DMAX in 2^−10 pixel and GMAX in 2^−9. -/
def slopeBound (f d g : Nat) : Nat := min 0x1FFFF (divCeil (128 * g * (44544 + 10 * d)) (10 * f))

def satS14_6 (x : Int) : Int := clampI (-524288) 524287 x

/-- Zext of R205. -/
def zext (a : Lay) : Nat :=
  let m := (satS14_6 a.z).natAbs
  let r := if a.relief then
      max (satS14_6 (a.z - 128 * a.rscale)).natAbs (satS14_6 (a.z + 127 * a.rscale)).natAbs
    else 0
  min (max m r) 524287

/-- The widened, rounded footprint of one axis, [lo, hi) in pixels; `none` is the whole panel (R205). -/
def footprint (whole : Bool) (a : Nat) (b : Int) (size ze ub : Nat) : Option (Int × Int) :=
  if whole || a = 0 then none
  else
    let k : Int := (2 : Int) ^ 22
    let e : Int := (ze * ub * a : Nat)
    let lo := divFloor (-8 * b * k - e) (a * 2 ^ 22) - 6
    let hi := -divFloor (-(8 * ((size * 1024 : Nat) - b) * k + e)) (a * 2 ^ 22) + 6
    some (lo, hi)

/-- A footprint meets the pixel interval [p, q). -/
def meets (f : Option (Int × Int)) (p q : Nat) : Bool :=
  match f with
  | none => true
  | some (lo, hi) => lo < (q : Int) && (p : Int) < hi

/-- A composer tile's columns and rows. -/
def tileX (t : Nat) : Nat := t % 30
def tileY (t : Nat) : Nat := t / 30

/-- Pixel rows end of a composer tile (R200). -/
def tileY1 (t : Nat) : Nat := min (512 * tileY t + 512) 8640

/-- Lenslets of a composer tile (R200). -/
def tileLenslets (t : Nat) : Nat := if tileY t = 16 then 3584 else 4096

/-- The layer is listed for composer tile `t` (R205). -/
def listedFor (ub t : Nat) (a : Lay) : Bool :=
  meets (footprint a.border a.ax a.bx a.fmt.w (zext a) ub) (512 * tileX t) (512 * tileX t + 512) &&
  meets (footprint a.border a.ay a.byy a.fmt.h (zext a) ub) (512 * tileY t) (tileY1 t)

/-- The list of composer tile `t`, from the ranked layers. -/
def tileList (ub : Nat) (ls : List Lay) (t : Nat) : List Lay := ls.filter (listedFor ub t)

/-- Level of detail (R206). -/
def lod (a : Lay) : Nat :=
  if !a.reduce || max a.ax a.ay < 0x4000 then 0 else if max a.ax a.ay < 0x8000 then 1 else 2

/-! ### The budget (R207, R209) -/

/-- k_t. -/
def rateOf (len : Nat) : Nat := if len ≤ 16 then 1 else 2

/-- L_t of every composer tile. -/
def listLens (ub : Nat) (ls : List Lay) : List Nat := (List.range 510).map (fun t => (tileList ub ls t).length)

/-- W, in ray-slots. -/
def workOf (lens : List Nat) : Nat := ((lens.zipIdx).map (fun q => rateOf q.1 * tileLenslets q.2 * 780)).sum

/-- C, in ray-slots: Day is T_LF less 700 µs. -/
def capacityOf (nAct mode : Nat) : Nat :=
  divRound (nAct * 220000 * (10000 * (modeT mode).1 - 7 * (modeT mode).2)) (modeT mode).2

/-! ### Roles (R225) -/

abbrev roACTIVE : Nat := 0
abbrev roSPARE : Nat := 1
abbrev roRETIRED : Nat := 2
abbrev roQUARANTINED : Nat := 3
abbrev roVERIFY : Nat := 4

def ceRole (s : State) (e : Nat) : Nat := regFld s (Reg.CMP_ESTAT e) 0 3

def withRole (s : State) (r : Nat) : List Nat := (List.range 68).filter (fun e => ceRole s e = r)

/-- Spares at step 5 of the next Sunrise, before places are filled: those of now and those that a request makes so (R225, R228). -/
def sparesNext (s : State) : List Nat :=
  (List.range 68).filter (fun e => ceRole s e = roSPARE || s.comp.roleReq.contains (e, BitVec.ofNat 3 roSPARE))

/-- Engines that will hold ACTIVE for the frame that a commit would define (R209). -/
def nActNext (s : State) : Nat := (withRole s roACTIVE).length + min s.comp.vacant (sparesNext s).length

/-- UB as the state gives it, for an image of RAY_FOCAL. -/
def ubOf (s : State) (focal : Word) : Nat := slopeBound (effFocal focal) s.lctc.dmax s.lctc.gmax

/-- CMP_BOUND shows the UB of step 5 of each Sunrise (R204). -/
def storeBound (s : State) : State := setRegN Reg.CMP_BOUND (ubOf s (getReg s Reg.RAY_FOCAL)) s

/-- CMT_BUDGET.MARGIN as it acts. -/
def marginOf (s : State) : Nat := clampN 50 100 (regFld s Reg.CMT_BUDGET 0 7)

/-- CMP_LISTS of a plan. -/
def listsWord (lens : List Nat) : Word :=
  let top := lens.foldl max 0
  w32 ((lens.filter (16 < ·)).length + 2 ^ 16 * min top 63 + 2 ^ 23 * (lens.findIdx? (· = top)).getD 0)

/-! ### The audit's register (R226) -/

/-- One step of the Galois register with x^32 + x^22 + x^2 + x + 1 (log entry 44, DESIGN CHOICE). -/
def lfsrStep (v : Word) : Word :=
  if Config.lfsrUp then (v <<< 1) ^^^ (if bit v 31 then 0x00400007 else 0)
  else (v >>> 1) ^^^ (if bit v 0 then 0x80200003 else 0)

/-- The candidate of a value. -/
def candidate (v : Word) : Nat := v.toNat * 2040 / 2 ^ 32

/-- Draw distinct items until `k` are held, with a bound on the draws that no value of the register reaches. -/
def draw (k : Nat) : Nat → Word → List Nat → Word × List Nat
  | 0, v, l => (v, l)
  | n + 1, v, l =>
    if l.length < k then
      let v1 := lfsrStep v
      draw k n v1 (if l.contains (candidate v1) then l else l ++ [candidate v1])
    else (v, l)

end Sys2Proof.Machine
end

