-- ==== Sys2Proof/Machine/Rays.lean ====
section
/-!
DEFINITION. A ray's value: geometry, crossing, sampling, colour, relief and blending (03_ray_geometry.md, R91–R97;
04_layers.md, R109–R112; 07_composer.md, R211–R217).
-/
namespace Sys2Proof.Machine

/-- `x` shifted right by `k`, truncating (R12). -/
def sar (x : Int) (k : Nat) : Int := divFloor x (2 ^ k)

/-- Round half up to `k` fewer bits (R10). -/
def rhu (x : Int) (k : Nat) : Int := sar (x + 2 ^ (k - 1)) k

/-! ### Geometry (R91–R97) -/

/-- Centre and slopes of a ray; `sat` where a slope was saturated. -/
structure Ray where
  cx  : Int
  cy  : Int
  u   : Int
  v   : Int
  sat : Bool
deriving DecidableEq, Repr

def colourOffset (c : Nat) : Int := if c = 0 then -341 else if c = 1 then 0 else 341

/-- A slope in S2.16 from its numerator, and whether it was saturated (R94). -/
def slope (num : Int) (f : Nat) : Int × Bool :=
  let q := divFloor (256 * num + f) (2 * f)
  (clampI (-131072) 131071 q, q < -131072 || 131071 < q)

/-- The ray (x, y, c, s) under an entry with data bits `e`, RAY_FOCAL.F acting as `f` (R95). -/
def rayGeometry (f e x y c s : Nat) : Ray :=
  let ex := 1024 * (x : Int) + 512 + colourOffset c + (512 * ((s % 2 : Nat) : Int) - 256)
  let ey := 1024 * (y : Int) + 512 + (512 * ((s / 2 : Nat) : Int) - 256)
  let cx := 8192 * ((x / 8 : Nat) : Int) + 4096 + lctDX e
  let cy := 8192 * ((y / 8 : Nat) : Int) + 4096 + lctDY e
  let ox := ex - cx
  let oy := ey - cy
  let u := slope (-(ox + rhu (lctTheta e * oy) 16) * lctG e) f
  let v := slope (-(oy - rhu (lctTheta e * ox) 16) * lctG e) f
  ⟨cx, cy, u.1, v.1, u.2 || v.2⟩

/-- The LCT index of a pixel's lenslet (R68). -/
def lensletIdx (x y : Nat) : Nat := y / 8 * 1920 + x / 8

/-- The crossing at depth `z`; `none` where it is FAR (R96, R97). -/
def crossing (r : Ray) (z : Int) : Option (Int × Int) :=
  let px := r.cx + rhu (z * r.u) 12
  let py := r.cy + rhu (z * r.v) 12
  if px < -16777216 || 16777215 < px || py < -16777216 || 16777215 < py then none else some (px, py)

/-- The texel position on a layer, `none` outside (R211). -/
def tpos (a : Lay) (r : Ray) (z : Int) : Option (Int × Int) :=
  match crossing r z with
  | none => none
  | some (px, py) =>
    let qx := rhu (a.ax * px) 13 + a.bx
    let qy := rhu (a.ay * py) 13 + a.byy
    let wq : Int := (a.fmt.w * 1024 : Nat)
    let hq : Int := (a.fmt.h * 1024 : Nat)
    if a.border then some (clampI 0 (wq - 1) qx, clampI 0 (hq - 1) qy)
    else if 0 ≤ qx && qx < wq && 0 ≤ qy && qy < hq then some (qx, qy) else none

/-! ### Sampling (R109, R212) -/

/-- The two neighbours on an axis of `n` samples and the weight of the second. -/
def axisTaps (n k sb : Nat) (q : Int) : Nat × Nat × Nat :=
  let e := 10 + k + sb
  let ss := q - 2 ^ (e - 1)
  let i := sar ss e
  let f := (sar ss (e - 8) % 256).toNat
  ((clampI 0 (n - 1 : Nat) i).toNat, (clampI 0 (n - 1 : Nat) (i + 1)).toNat, f)

/-- The four neighbours of a sample: byte address and weight. -/
def taps (base : Nat) (p : Plane) (k sbx sby : Nat) (q : Int × Int) : List (Nat × Nat) :=
  let x := axisTaps p.w k sbx q.1
  let y := axisTaps p.h k sby q.2
  let at_ := fun i j => base + p.off + j * p.pitch + i * p.bytes
  [(at_ x.1 y.1, (256 - x.2.2) * (256 - y.2.2)), (at_ x.2.1 y.1, x.2.2 * (256 - y.2.2)),
   (at_ x.1 y.2.1, (256 - x.2.2) * y.2.2), (at_ x.2.1 y.2.1, x.2.2 * y.2.2)]

/-- The first codeword among the neighbours that reads as uncorrectable. -/
def tapError (s : State) (bytes : Nat) (ts : List (Nat × Nat)) : Option Nat :=
  ts.findSome? (fun t => (ueIn s .scene t.1 bytes).head?.map (· * 128))

def texel (s : State) (bytes a : Nat) : Nat := ofLe (memBytes s .scene a bytes)

/-- A colour component of `n` bits in U1.16 (R109). -/
def expandColour (n k : Nat) : Nat := divRound (k * 65536) (2 ^ n - 1)

/-- An alpha component of `n` bits in U1.16 (R109). -/
def expandAlpha (n a : Nat) : Nat :=
  if a = 2 ^ n - 1 then 65536 else if n = 8 then a * 257 else if n = 10 then a * 64 ||| a / 16 else a * 21845

/-- The weighted, rounded value of one component over the neighbours. -/
def component (s : State) (bytes : Nat) (ts : List (Nat × Nat)) (c : Nat × Nat) (ex : Nat → Nat → Nat) : Nat :=
  ((ts.map (fun t => t.2 * ex c.2 (nfld (texel s bytes t.1) c.1 c.2))).sum + 32768) / 65536

/-! ### Colour (R110–R112) -/

def matWord (s : State) (m i : Nat) : Word := getTab s tabCMX true (16 * m + i)

def eotfEntry (s : State) (t i : Nat) : Nat := fld (getTab s tabEOTF true (1025 * t + i)) 0 18

/-- The transfer of R110. -/
def eotf (s : State) (t v : Nat) : Int :=
  let i := v / 64
  if i = 1024 then eotfEntry s t 1024
  else eotfEntry s t i + sar (((eotfEntry s t (i + 1) : Int) - eotfEntry s t i) * (v % 64 : Nat) + 32) 6

/-- Component `c` of working colour from the expanded components (R110). -/
def workingColour (s : State) (m c : Nat) (e : List Nat) : Nat :=
  let w0 := matWord s m 0
  let t := fld w0 0 2
  let d := (e.zipIdx).map (fun q => (q.1 : Int) - sx 17 (matWord s m (1 + q.2)).toNat)
  let k := fun j => sx 17 (matWord s m (4 + 3 * c + j)).toNat
  let dot := fun (l : List Int) => ((l.zipIdx).map (fun q => k q.2 * q.1)).sum
  if bit w0 4 then
    (clampI 0 262143 (rhu (dot (d.map (fun x => eotf s t (clampI 0 65536 x).toNat))) 14)).toNat
  else (eotf s t (clampI 0 65536 (rhu (dot d) 14)).toNat).toNat

/-! ### One layer's contribution (R213–R215) -/

inductive Fetch where
  | got (cp a : Nat)
  | bad (addr : Nat)
deriving DecidableEq, Repr

/-- The planes to sample, each with its subsampling; the alpha plane only where it is read. -/
def readPlanes (a : Lay) (pitch k : Nat) : List (Plane × Nat × Nat) :=
  let ps := planes a.fmt pitch k
  ((ps.zipIdx).filter (fun q => q.2 < 3 || a.alpha = 1 || a.alpha = 2)).map (fun q =>
    (q.1, if (q.2 = 1 || q.2 = 2) && a.fmt.fam ≤ 1 then 1 else 0,
          if (q.2 = 1 || q.2 = 2) && a.fmt.fam = 0 then 1 else 0))

/-- α of the expanded components, as the ALPHA_MODE has it. -/
def alphaOf (a : Lay) (as : Option Nat) : Nat := if a.alpha = 1 || a.alpha = 2 then as.getD 65536 else 65536

/-- Colour and alpha of a sample (R213). -/
def fetchColour (s : State) (a : Lay) (c : Nat) (q : Int × Int) : Fetch :=
  let h := getHandle s a.buf
  let k := lod a
  let rp := readPlanes a (pitchBytes h) k
  let ts := rp.map (fun p => (p.1, taps (baseBytes h) p.1 k p.2.1 p.2.2 q))
  match ts.findSome? (fun p => tapError s p.1.bytes p.2) with
  | some addr => .bad addr
  | none =>
    let comps := ts.flatMap (fun p => p.1.comps.map (fun x => (p, x)))
    let e := (comps.take 3).map (fun x => component s x.1.1.bytes x.1.2 x.2 expandColour)
    let al := (comps[3]?).map (fun x => component s x.1.1.bytes x.1.2 x.2 expandAlpha)
    let alpha := alphaOf a al
    let col := workingColour s a.cmx c e
    .got (if a.alpha = 1 then (col * alpha + 32768) / 65536 else col) alpha

/-- The weighted relief sum in S8.16 (R214). -/
def reliefSum (s : State) (a : Lay) (q : Int × Int) : Except Nat Int :=
  let h := getHandle s a.rbuf
  let ts := taps (baseBytes h) ⟨0, pitchBytes h, a.fmt.w, a.fmt.h, 1, [(0, 8)]⟩ 0 0 0 q
  match tapError s 1 ts with
  | some addr => .error addr
  | none => .ok ((ts.map (fun t => (t.2 : Int) * sx 8 (texel s 1 t.1))).sum)

/-- The depth at which a layer is sampled (R214). -/
def reliefDepth (s : State) (a : Lay) (r : Ray) : Except Nat Int :=
  if a.relief then
    match tpos a r a.z with
    | none => .ok (satS14_6 a.z)
    | some q =>
      match reliefSum s a q with
      | .error addr => .error addr
      | .ok rb => .ok (satS14_6 (a.z + rhu (rb * a.rscale) 16))
  else .ok a.z

/-- What a layer gives a ray: nothing, a colour, or nothing because of an error at an address (R211, R213–R215). -/
def layerFetch (s : State) (a : Lay) (r : Ray) (c : Nat) : Option Fetch :=
  match reliefDepth s a r with
  | .error addr => some (.bad addr)
  | .ok z => (tpos a r z).map (fetchColour s a c)

/-! ### Blending (R216, R217) -/

/-- A value and the addresses of the reads that failed. -/
structure RayVal where
  v    : Nat
  errs : List Nat
deriving DecidableEq, Repr

/-- One colour step of R216. -/
def blendStep (cacc aacc x : Nat) : Nat := min (cacc + ((65536 - aacc) * x + 32768) / 65536) 262143

def alphaStep (aacc a : Nat) : Nat := min (aacc + ((65536 - aacc) * a + 32768) / 65536) 65536

/-- Blend a list front to back over background `bg`. -/
def blend (s : State) (r : Ray) (c bg : Nat) : Nat → Nat → List Nat → List Lay → RayVal
  | cacc, aacc, errs, [] => ⟨blendStep cacc aacc bg, errs⟩
  | cacc, aacc, errs, a :: t =>
    match layerFetch s a r c with
    | none => blend s r c bg cacc aacc errs t
    | some (.bad addr) => blend s r c bg cacc aacc (errs ++ [addr]) t
    | some (.got cp al) =>
      if 0xFF00 ≤ alphaStep aacc al then ⟨blendStep cacc aacc cp, errs⟩
      else blend s r c bg (blendStep cacc aacc cp) (alphaStep aacc al) errs t

/-- CMP_BG_s_c in force (R217). -/
def background (s : State) (sl c : Nat) : Nat := regFld s (Reg.CMP_BG_0 0 + 16 * sl + 4 * c) 0 18

/-- The effective focal length in force. -/
def focalOf (s : State) : Nat := effFocal (getReg s Reg.RAY_FOCAL)

/-- The active layer list of composer tile `t` in the current plan, front to back. -/
def planList (s : State) (t : Nat) : List Lay :=
  (sGet (fun _ => []) t s.comp.lists).map (layOf s.ctxForce)

/-- The composer tile of a pixel (R200). -/
def tileOf (x y : Nat) : Nat := 30 * (y / 512) + x / 512

/-- The value of ray (x, y, c, s) (R217, R73). -/
def rayValue (s : State) (x y c sl : Nat) : RayVal :=
  let e := lctUsed s (lensletIdx x y)
  if lctDead e then ⟨0, []⟩
  else blend s (rayGeometry (focalOf s) e x y c sl) c (background s sl c) 0 0 [] (planList s (tileOf x y))

end Sys2Proof.Machine
end

