-- ==== Sys2Proof/Machine/Finish.lean ====
section
/-!
DEFINITION. Finishing: zones, the modelled backlight, compensation, drive targets, the frame store's regions and the
mirror tap (08_finishing.md).
-/
namespace Sys2Proof.Machine

/-! ### Regions (R31, R314) -/

def composingRegion (s : State) : Nat := regFld s Reg.MFS_ROLES 0 2
def showingRegion (s : State) : Nat := regFld s Reg.MFS_ROLES 4 2
def previousRegion (s : State) : Nat := regFld s Reg.MFS_ROLES 8 2

/-- First offset of a region. -/
def regionBase (r : Nat) : Nat := 2654208000 * r

/-- Offset of pixel (x, y) of slot frame `sl` of a region (R240). -/
def pixelOff (r sl x y : Nat) : Nat := regionBase r + 663552000 * sl + (15360 * y + x) * 5

/-- First offset of a mirror staging buffer. -/
def stagingBase (b : Nat) : Nat := 0x1DA9C0000 + 8294400 * b

/-! ### Zones (R231–R235) -/

/-- Left and top pixel of tile `n`. -/
def tileX0 (n : Nat) : Nat := 2560 * (n % 6)
def tileY0 (n : Nat) : Nat := 2160 * (n / 6)

/-- Number of zone (n, i, j) within its slot. -/
def zoneNum (n i j : Nat) : Nat := 512 * n + 32 * j + i

/-- The stored word of a zone: FIN_ZDATA of region `r`'s store, slot `sl`. -/
def zoneKey (r sl z : Nat) : Nat := (4 * r + sl) * 12288 + z

def zoneWord (s : State) (r sl z : Nat) : Word := sGet zeroW (zoneKey r sl z) s.zones

/-- Code of colour `c` of a zone word. -/
def zoneCode (w : Word) (c : Nat) : Nat := fld w (8 * c) 8

/-- Lenslet columns whose centres lie in zone column (n, i) of slot `sl` widened by `m` lenslets (R233). -/
def zoneCols (n i sl m : Nat) : List Nat :=
  let lo : Int := (tileX0 n + 80 * i + 20 * sl : Nat) - 30 - 8 * (m : Int)
  let hi : Int := (tileX0 n + 80 * i + 20 * sl + 50 + 8 * m : Nat)
  (List.range 1920).filter (fun lx => lo ≤ ((8 * lx + 4 : Nat) : Int) && ((8 * lx + 4 : Nat) : Int) < hi)

/-- Lenslet rows likewise. -/
def zoneRows (n j m : Nat) : List Nat :=
  let lo : Int := (tileY0 n + 135 * j : Nat) - 8 * (m : Int)
  let hi : Int := (tileY0 n + 135 * j + 135 + 8 * m : Nat)
  (List.range 1080).filter (fun ly => lo ≤ ((8 * ly + 4 : Nat) : Int) && ((8 * ly + 4 : Nat) : Int) < hi)

/-- A coarse value (R218). -/
def coarseValue (s : State) (lx ly c sl : Nat) : Nat := (rayValue s (8 * lx + 4) (8 * ly + 4) c sl).v

/-- The demand of a zone (R233). -/
def zoneDemand (s : State) (m n i j sl c : Nat) : Nat :=
  (zoneRows n j m).foldl (fun a ly => (zoneCols n i sl m).foldl (fun a lx => max a (coarseValue s lx ly c sl)) a) 0

/-- Code of a demand in MODE 0, step 1 of R234. -/
def demandCode (s : State) (c d : Nat) : Nat :=
  clampN (regFld s Reg.FIN_ZMIN (8 * c) 8) 255 ((d * regFld s (Reg.FIN_ZGAIN c) 0 24 + 0xFFFFFFFF) / 2 ^ 32)

/-- The OPEN flag of zone (n, i, j), slot `sl`, colour `c`: of the string that lights it, or of a tile not ON (R234). -/
def zoneOpen (s : State) (n i j sl c : Nat) : Bool :=
  (getTile s n).st ≠ .on || (getTile s n).openSet.contains ((3 * (4 * i + sl) + c) * 16 + j)

/-- The zones beside (n, i, j) on its scan line, across tile boundaries. -/
def zoneBeside (n i : Nat) : List (Nat × Nat) :=
  (if 0 < i then [(n, i - 1)] else if n % 6 ≠ 0 then [(n - 1, 31)] else []) ++
  (if i < 31 then [(n, i + 1)] else if n % 6 ≠ 5 then [(n + 1, 0)] else [])

/-- The code of a zone (R234). -/
def zoneLevel (s : State) (n i j sl c : Nat) : Nat :=
  let m := regFld s Reg.FIN_ZCTL 4 3
  let own := fun n i => demandCode s c (zoneDemand s m n i j sl c)
  if zoneOpen s n i j sl c then 0
  else if regBit s Reg.FIN_ZCTL 0 then regFld s Reg.FIN_ZFIX (8 * c) 8
  else ((zoneBeside n i).filter (fun q => zoneOpen s q.1 q.2 j sl c)).foldl (fun a q => max a (own q.1 q.2)) (own n i)

/-- The word of a zone that zone analysis writes. -/
def zoneResult (s : State) (n i j sl : Nat) : Word :=
  w32 (zoneLevel s n i j sl 0 + 2 ^ 8 * zoneLevel s n i j sl 1 + 2 ^ 16 * zoneLevel s n i j sl 2 +
    2 ^ 24 * (zoneOpen s n i j sl 0).toNat + 2 ^ 25 * (zoneOpen s n i j sl 1).toNat +
    2 ^ 26 * (zoneOpen s n i j sl 2).toNat)

/-- The store of the composing region after zone analysis. -/
def zoneTable (s : State) : Sparse Word :=
  let r := composingRegion s
  let keys := (List.range 4).flatMap (fun sl => (List.range 12288).map (fun z => (sl, z)))
  keys.foldl (fun l q =>
    sPut zeroW (zoneKey r q.1 q.2) (zoneResult s (q.2 / 512) (q.2 % 32) (q.2 % 512 / 32) q.1) l) s.zones

/-- Zone analysis writes the composing region's store (R235) (log entry 18, DEDUCED). -/
def zoneAnalysis (s : State) : State := { s with zones := zoneTable s }

/-! ### Compensation and transfer (R236–R239) -/

/-- Spread entry of colour `c` in force. -/
def spread (s : State) (c ay ax : Nat) : Nat := fld (getTab s tabSPR true (4096 * c + 64 * ay + ax)) 0 16

/-- Distance along one axis, in half pixels, where it is within reach. -/
def reach (a b : Nat) : Option Nat :=
  let d := ((a : Int) - b).natAbs
  if d < 1024 then some (d / 16) else none

/-- Bsum of lenslet (lx, ly), slot `sl`, colour `c` (R236). -/
def bsum (s : State) (lx ly c sl : Nat) : Nat :=
  let r := composingRegion s
  ((List.range 24).flatMap (fun n => (List.range 32).flatMap (fun i =>
    match reach (2 * tileX0 n + 160 * i + 40 * sl + 20) (16 * lx + 8) with
    | none => []
    | some ax => (List.range 16).map (fun j =>
      match reach (2 * tileY0 n + 270 * j + 135) (16 * ly + 8) with
      | none => 0
      | some ay => zoneCode (zoneWord s r sl (zoneNum n i j)) c * spread s c ay ax)))).sum

/-- The reciprocal table (R237). -/
def recip (i : Nat) : Nat := if i = 1024 then 32768 else divRound (2 ^ 32) (65536 + 64 * i)

/-- Compensation before clipping (R238). -/
def compensateRaw (v bs k : Nat) : Nat :=
  let e := Nat.log2 bs
  let m := if 16 ≤ e then bs / 2 ^ (e - 16) else bs * 2 ^ (16 - e)
  let i := m / 64 % 1024
  let r := (recip i : Int) - sar (((recip i : Int) - recip (i + 1)) * (m % 64 : Nat) + 32) 6
  (v * k * r.toNat + 2 ^ (15 + e)) / 2 ^ (16 + e)

/-- Bsum as it acts. -/
def bsumUsed (s : State) (bs : Nat) : Nat := max bs (max 1 (regFld s Reg.FIN_BMIN 0 31))

/-- v′ of a value of colour `c` under a modelled backlight, and whether it was clipped (R238). -/
def compensate (s : State) (c bs v : Nat) : Nat × Bool :=
  let vp := compensateRaw v (bsumUsed s bs) (regFld s (Reg.FIN_K c) 0 24)
  if 65536 < vp then (65536, true) else (vp, false)

def xfr (s : State) (c i : Nat) : Nat := fld (getTab s tabXFR true (4096 * c + i)) 0 16

/-- The drive target of v′ (R239). -/
def transfer (s : State) (c vp : Nat) : Nat :=
  let i := vp / 16
  let x : Int := if 4095 ≤ i then xfr s c 4095 * 16
    else xfr s c i * 16 + ((xfr s c (i + 1) : Int) - xfr s c i) * (vp % 16 : Nat)
  (min (sar (x + 128) 8) 4095).toNat

/-- The drive target of a value. -/
def target (s : State) (c bs v : Nat) : Nat := transfer s c (compensate s c bs v).1

/-! ### Items in the frame store (R200, R201, R240) -/

abbrev itemTile (i : Nat) : Nat := i % 510
abbrev itemSlot (i : Nat) : Nat := i / 510

/-- The rows of a composer tile. -/
def itemRows (t : Nat) : List Nat := (List.range (tileY1 t - 512 * tileY t)).map (· + 512 * tileY t)

/-- Values of item `i` in the order of R221, with the addresses of reads that failed. -/
def itemValues (s : State) (i : Nat) : List Nat × List Nat :=
  let t := itemTile i
  let rs := (itemRows t).flatMap (fun y => (List.range 512).flatMap (fun x => (List.range 3).map (fun c =>
    rayValue s (512 * tileX t + x) y c (itemSlot i))))
  (rs.map RayVal.v, rs.flatMap RayVal.errs)

/-- The signature of ray values (R221). -/
def valuesCrc (vals : List Nat) : Word := w32 (crc32c (vals.flatMap (leBytes 4)))

/-- Ray values as a faulty engine computes them: the values at the positions of `upset` differ in the bits given. -/
def upsetValues (upset : List (Nat × BitVec 18)) (l : List Nat) : List Nat :=
  upset.foldl (fun l q => l.set q.1 (l.getD q.1 0 ^^^ q.2.toNat)) l

/-- Item `i` as engine `e` computes it. `upset` is what no residue check has caught (R223, R227). -/
def composeItem (s : State) (e i : Nat) (upset : List (Nat × BitVec 18)) : ItemSig × List Nat :=
  let r := itemValues s i
  let v := upsetValues upset r.1
  (⟨i, e, v, valuesCrc v, !r.2.isEmpty⟩, r.2)

/-- The value of a composed item at pixel (x, y), colour `c`. -/
def itemVal (a : ItemSig) (x y c : Nat) : Nat :=
  let t := itemTile a.item
  a.vals.getD (((y - 512 * tileY t) * 512 + (x - 512 * tileX t)) * 3 + c) 0

/-- The 5 bytes of a pixel (R240). -/
def pixelBytes (r g b : Nat) : List Byte := leBytes 5 (r + 2 ^ 12 * g + 2 ^ 24 * b)

/-- The modelled backlight of the 64 lenslets of an item's row, colour by colour. -/
def rowBsums (s : State) (t sl y : Nat) : List (List Nat) :=
  (List.range 64).map (fun l => (List.range 3).map (fun c => bsum s (64 * tileX t + l) (y / 8) c sl))

def bsumAt (bs : List (List Nat)) (x c : Nat) : Nat := (bs.getD (x / 8) []).getD c 0

/-- Drive targets of one row of an item. -/
def itemRowBytes (s : State) (a : ItemSig) (y : Nat) : List Byte :=
  let t := itemTile a.item
  let bs := rowBsums s t (itemSlot a.item) y
  (List.range 512).flatMap (fun x =>
    let tg := fun c => target s c (bsumAt bs x c) (itemVal a (512 * tileX t + x) y c)
    pixelBytes (tg 0) (tg 1) (tg 2))

/-- Rays of an item that compensation clips (R238). -/
def itemClips (s : State) (a : ItemSig) : Nat :=
  let t := itemTile a.item
  ((itemRows t).map (fun y =>
    let bs := rowBsums s t (itemSlot a.item) y
    ((List.range 512).map (fun x => ((List.range 3).filter (fun c =>
      (compensate s c (bsumAt bs x c) (itemVal a (512 * tileX t + x) y c)).2)).length)).sum)).sum

/-- Drive targets of an item into the composing region. -/
def writeTargets (a : ItemSig) (s : State) : State :=
  let t := itemTile a.item
  (itemRows t).foldl (fun s y =>
    memWrite .frame (pixelOff (composingRegion s) (itemSlot a.item) (512 * tileX t) y) (itemRowBytes s a y) s) s

/-- A replaced item takes the targets of the showing region (R229): the state, and the bytes copied. -/
def copyTargets (i : Nat) (s : State) : State × List Byte :=
  let t := itemTile i
  (itemRows t).foldl (fun a y =>
    let src := pixelOff (showingRegion s) (itemSlot i) (512 * tileX t) y
    let s1 := (memRead .frame src 2560 4 a.1).1
    let row := memBytes s1 .frame src 2560
    (memWrite .frame (pixelOff (composingRegion s) (itemSlot i) (512 * tileX t) y) row s1, a.2 ++ row)) (s, [])

/-! ### The mirror tap (R245–R250) -/

/-- Slot of a view. -/
def viewSlot (vx vy : Nat) : Nat := vx % 2 + 2 * (vy % 2)

def mirEntry (s : State) (c i : Nat) : Nat := fld (getTab s tabMTB true (1025 * c + i)) 0 16

/-- A mirror component (R246). -/
def mirComponent (s : State) (c v : Nat) : Nat :=
  let i := v / 256
  let x : Int := mirEntry s c i * 256 + ((mirEntry s c (i + 1) : Int) - mirEntry s c i) * (v % 256 : Nat)
  (clampI 0 1023 (sar (x + 8192) 14)).toNat

/-- A mirror pixel of a composed item. -/
def mirPixel (s : State) (a : ItemSig) (vx vy lx ly : Nat) : Nat :=
  let v := fun c => mirComponent s c (itemVal a (8 * lx + vx / 2) (8 * ly + vy / 2) c)
  v 0 + 2 ^ 10 * v 1 + 2 ^ 20 * v 2

/-- Lenslet rows of a composer tile. -/
def tileLensRows (t : Nat) : List Nat := (List.range (tileLenslets t / 64)).map (· + 64 * tileY t)

/-- Stage an item's part of a mirror frame: its pixels, or STALE ones where it was replaced. -/
def stageItem (f : MirFrame) (i : Nat) (a : Option ItemSig) (s : State) : State :=
  if itemSlot i = viewSlot f.vx f.vy then
    (tileLensRows (itemTile i)).foldl (fun s ly =>
      memWrite .frame (stagingBase f.buf + (1920 * ly + 64 * tileX (itemTile i)) * 4)
        ((List.range 64).flatMap (fun l => leBytes 4 (match a with
          | none => 2 ^ 30
          | some a => mirPixel s a f.vx f.vy (64 * tileX (itemTile i) + l) ly))) s) s
  else s

/-- The mirror frame of the frame being composed. -/
def mirOfFrame (s : State) : Option MirFrame :=
  s.mirror.find? (fun f => f.frame = getReg s Reg.FIN_FRAME)

def stageFor (i : Nat) (a : Option ItemSig) (s : State) : State :=
  match mirOfFrame s with
  | none => s
  | some f => stageItem f i a s

/-- FIN_MIR acts as EN = 1: the receiving master, k of M(3 + k) (R245). -/
def mirMaster (s : State) : Option Nat :=
  let m := regFld s Reg.FIN_MIR 24 4
  if regBit s Reg.FIN_MIR 31 && 3 ≤ m && m ≤ 10 then some (m - 3) else none

/-- The free staging buffers. -/
def freeStaging (s : State) : Option Nat := (List.range 2).find? (fun b =>
  !s.mirror.any (fun f => f.buf = b && f.next < 2160))

/-- At the Sunrise of a new frame, a staging buffer is taken, or the frame has no mirror (R247). -/
def takeStaging (s : State) : State :=
  match mirMaster s with
  | none => s
  | some m =>
    match freeStaging s with
    | some b =>
      { s with mirror := s.mirror ++ [{ frame := getReg s Reg.FIN_FRAME, buf := b, m := m,
                                        vx := regFld s Reg.FIN_MIR 0 4, vy := regFld s Reg.FIN_MIR 4 4,
                                        seqAt := getReg s Reg.CMT_LAST_SEQ }] }
    | none => raise 383 (regN s Reg.FIN_FRAME) (bumpSat Reg.FIN_N_MIR_DROP s)

/-- A mirror frame leaves: its buffer is free, and it is reported abandoned where it was being sent (R250). -/
def abortMirror (f : MirFrame) (s : State) : State :=
  raise 384 (f.frame.toNat + 2 ^ 32 * f.next) (bumpSat Reg.FIN_N_MIR_DROP
    { s with mirror := s.mirror.filter (fun g => g.frame ≠ f.frame) })

/-- The mirror frame whose LINE transactions are being sent: the oldest that is ready (R248) (log entry 19, DEDUCED). -/
def sendingMirror (s : State) : Option MirFrame :=
  s.mirror.find? (fun f => f.ready && f.next < 2160)

/-- FIN_MIR_STAT. -/
def mirStat (s : State) : Word :=
  w32 ((s.mirror.filter (fun f => f.next < 2160)).length +
    2 ^ 2 * (s.mirror.any (fun f => f.ready && 0 < f.next && f.next < 2160)).toNat)

/-! ### FIN_ZDATA (R235) -/

/-- The region whose store FIN_ZSEL.ROLE names. -/
def zselRegion (s : State) : Nat :=
  match regFld s Reg.FIN_ZSEL 30 2 with
  | 0 => composingRegion s
  | 2 => previousRegion s
  | _ => showingRegion s

/-- A read of FIN_ZDATA: the zone, and FIN_ZSEL with its index moved on. -/
def zdataRead (s : State) : Word × State :=
  let z := regFld s Reg.FIN_ZSEL 0 14
  (if z < 12288 then zoneWord s (zselRegion s) (regFld s Reg.FIN_ZSEL 16 2) z else 0,
   setRegFld Reg.FIN_ZSEL 0 14 (if z + 1 < 12288 then z + 1 else 0) s)

def execFinZdata (m : Master) (s : State) : Host.Outcome State Fault Refusal :=
  done (readWith m Reg.FIN_ZDATA zdataRead s)

/-! ### The tables of R244 -/

def sprRead (s : State) : Word × State := tabRead Reg.FIN_SPR_IDX tabSPR 12288 s
def sprWrite (v : Word) (s : State) : State := tabWrite 0x26 Reg.FIN_SPR_IDX tabSPR 12288 (fun _ => 0xFFFF) v s
def xfrRead (s : State) : Word × State := tabRead Reg.FIN_XFR_IDX tabXFR 12288 s
def xfrWrite (v : Word) (s : State) : State := tabWrite 0x26 Reg.FIN_XFR_IDX tabXFR 12288 (fun _ => 0xFFFF) v s
def mtbRead (s : State) : Word × State := tabRead Reg.FIN_MTB_IDX tabMTB 3075 s
def mtbWrite (v : Word) (s : State) : State := tabWrite 0x26 Reg.FIN_MTB_IDX tabMTB 3075 (fun _ => 0xFFFF) v s

def execFinSprData (m : Master) (x : Acc) (s : State) : Host.Outcome State Fault Refusal :=
  done (dataAccess m Reg.FIN_SPR_DATA x sprRead sprWrite s)

def execFinXfrData (m : Master) (x : Acc) (s : State) : Host.Outcome State Fault Refusal :=
  done (dataAccess m Reg.FIN_XFR_DATA x xfrRead xfrWrite s)

def execFinMtbData (m : Master) (x : Acc) (s : State) : Host.Outcome State Fault Refusal :=
  done (dataAccess m Reg.FIN_MTB_DATA x mtbRead mtbWrite s)

end Sys2Proof.Machine
end

