-- ==== Sys2Proof/Machine/Composer.lean ====
section
/-!
DEFINITION. The ray composer's engines: work items, roles, the audit, stale items and the end of a frame's composition
(07_composer.md, R200–R230).
-/
namespace Sys2Proof.Machine

def setComp (c : Comp) (s : State) : State := { s with comp := c }

/-- The composer's clock runs: not in a dip episode (R422), in Night (R416) or in an orderly shutdown (R367). -/
def compClock (s : State) : Bool := unitOn s 0x20 && s.pwr.dip.isNone && s.pwr.st ≠ .night && !s.pwr.shut

/-- Engine `e` is clocked: the composer's clock runs, and PAGE_CTL.EN of its group does not hold it idle (R43). -/
def engineClock (s : State) (e : Nat) : Bool := compClock s && enabled s (0x21 + e / 16)

/-! ### Roles (R225, R227, R228) -/

/-- Detail of CMP_EV_RESIDUE and CMP_EV_ROLE. -/
def engineDetail (s : State) (e : Nat) : Nat := e + 2 ^ 8 * ceRole s e + 2 ^ 12 * regFld s (Reg.CMP_ESTAT e) 8 4

/-- An engine takes a role, with CAUSE, and VFRAMES 0; CMP_EV_ROLE is raised. -/
def setRole (e role cause : Nat) (s : State) : State :=
  let s1 := setRegN (Reg.CMP_ESTAT e) (role + 2 ^ 8 * cause) s
  raise (319 + 2 * (e / 16)) (engineDetail s1 e) s1

/-- The engine's current work goes back to the head of its queue (R224, R228). -/
def unassign (e : Nat) (c : Comp) : Comp :=
  let rest := c.running.filter (fun r => r.e ≠ e)
  let free := fun (a : Audit) => if a.auditor = some e && a.sig.isNone then { a with auditor := none } else a
  let c1 := { c with running := rest, audits := c.audits.map free, verItems := c.verItems.filter (fun v => v.1 ≠ e) }
  match (c.running.find? (fun r => r.e = e)).map Running.w with
  | some (.coarse t) => { c1 with coarseQ := t :: c.coarseQ }
  | some (.full i) => { c1 with fullQ := i :: c.fullQ }
  | some (.redo i) => { c1 with redo := i :: c.redo }
  | _ => c1

/-- A verification under way leaves the scheduler. -/
def endEver (e : Nat) (s : State) : State :=
  { s with mnt := { s.mnt with queue := s.mnt.queue.filter (fun q => !(q.act = actEVER && q.unit = e)) } }

/-- An engine leaves service at once (R225, R227, R228); counter 9 counts it (R398). -/
def retireEngine (e role cause : Nat) (s : State) : State :=
  let was := ceRole s e
  let c := unassign e s.comp
  let s1 := setComp { c with vacant := if was = roACTIVE then c.vacant + 1 else c.vacant,
                             roleReq := c.roleReq.filter (fun q => q.1 ≠ e) } s
  let s2 := counterAdd 9 1 (setRole e role cause (if was = roVERIFY then endEver e s1 else s1))
  if (was = roACTIVE || was = roSPARE) && (withRole s2 roSPARE).length ≤ s2.comp.vacant then
    raise 313 (nActNext s2) s2
  else s2

/-- The engine works or may work: not RETIRED or QUARANTINED. -/
def inRole (s : State) (e : Nat) : Bool := ceRole s e ≠ roRETIRED && ceRole s e ≠ roQUARANTINED

/-- The loser of an audit is retired and passes to QUARANTINED, CAUSE 1 (R227). -/
def quarantineLoser (e : Nat) (s : State) : State := if inRole s e then retireEngine e roQUARANTINED 1 s else s

/-- A role change asked for, due at step 5 of the next Sunrise. -/
def askRole (e role : Nat) (s : State) : State :=
  setComp { s.comp with roleReq := s.comp.roleReq.filter (fun q => q.1 ≠ e) ++ [(e, BitVec.ofNat 3 role)] } s

/-- Apply one role change (R225). An engine that failed its verification has CAUSE 4. -/
def applyRole (s : State) (q : Nat × BitVec 3) : State :=
  let r := q.2.toNat
  if r = roVERIFY then setRole q.1 roVERIFY (regFld s (Reg.CMP_ESTAT q.1) 8 4) s
  else if r = roRETIRED then setRole q.1 roRETIRED 4 (endEver q.1 (mntFinish actEVER q.1 false s))
  else setRole q.1 r 0 (endEver q.1 (mntFinish actEVER q.1 true s))

/-- The EVER requests start at step 5 of Sunrise (R429): their engines enter VERIFY. An engine for which ADMIT has asked
becomes SPARE instead (log entry 21, DEDUCED). -/
def startEver (s : State) : State :=
  let due := s.mnt.queue.filter (fun q =>
    q.act = actEVER && !q.running && mntMayStart s actEVER && ceRole s q.unit = roQUARANTINED &&
    !s.comp.roleReq.contains (q.unit, BitVec.ofNat 3 roSPARE))
  let s1 := { s with mnt := { s.mnt with
    queue := s.mnt.queue.map (fun q => if due.contains q then { q with running := true } else q) } }
  due.foldl (fun s q => askRole q.unit roVERIFY s) s1

/-- Role changes at step 5 of a Sunrise (R225) (log entry 17, DEDUCED). -/
def applyRoles (s : State) : State :=
  let s1 := startEver s
  s1.comp.roleReq.foldl applyRole (setComp { s1.comp with roleReq := [] } s1)

/-- Spares take the places of retired engines, lowest number first. -/
def fillPlaces : Nat → State → State
  | 0, s => s
  | n + 1, s =>
    match withRole s roSPARE with
    | [] => s
    | e :: _ =>
      if s.comp.vacant = 0 then s
      else fillPlaces n (setRole e roACTIVE 0 (setComp { s.comp with vacant := s.comp.vacant - 1 } s))

/-! ### The plan of a frame (R202, R208, R226, R228) -/

/-- The register of R226 at this Sunrise (log entry 17, DEDUCED). -/
def lfsrNow (s : State) : Word :=
  if s.comp.reseed then (if getReg s Reg.CMP_SEED = 0 then 1 else getReg s Reg.CMP_SEED) else s.comp.lfsr

/-- How many items are audited. -/
def auditCount (s : State) : Nat :=
  if regBit s Reg.CMP_CTL 0 then
    (if (withRole s roSPARE).isEmpty then 1 else min 4 (withRole s roSPARE).length)
  else 0

/-- The audit selection: the register after it, and the items. -/
def selectAudits (s : State) : Word × List Nat := draw (auditCount s) 1000 (lfsrNow s) []

/-- The item that every VERIFY engine computes, and the register after it (R228). -/
def verifyItem (s : State) : Word × Option Nat :=
  let a := selectAudits s
  if (withRole s roVERIFY).isEmpty then (a.1, none)
  else
    match a.2 with
    | i :: _ => (a.1, some i)
    | [] => (lfsrStep a.1, some (candidate (lfsrStep a.1)))

/-- Each spare has one selection; without spares none is assigned yet. -/
def auditList (s : State) : List Audit :=
  let sp := withRole s roSPARE
  ((selectAudits s).2.zipIdx).map (fun q => { item := q.1, auditor := sp[q.2]? })

/-- The lists of a plan that are not empty, cut to 32 (R208). -/
def planLists (ub : Nat) (ls : List Lay) : Sparse (List Nat) :=
  (List.range 510).foldl (fun l t => sPut (fun _ => []) t ((tileList ub ls t).take 32 |>.map Lay.n) l) []

/-- CMP_EV_LIST_TRUNC for the first list that is too long (R208). -/
def reportTrunc (lens : List Nat) (s : State) : State :=
  match lens.findIdx? (32 < ·) with
  | none => s
  | some t => raise 315 (t + 2 ^ 16 * lens.getD t 0) s

/-- FIN_FRAME increments and wraps (R249). It numbers frames, so a hold of the page's status does not stop it (R43)
(log entry 19, DEDUCED). -/
def nextFrameNumber (s : State) : State := setReg Reg.FIN_FRAME (getReg s Reg.FIN_FRAME + 1) s

/-- Step 5 of a Sunrise at which a new frame's composition starts (R29, R202, R249). -/
def beginFrame (s : State) : State :=
  let ub := ubOf s (getReg s Reg.RAY_FOCAL)
  let ls := ranked s.ctxForce
  let lens := listLens ub ls
  let ver := verifyItem s
  let c : Comp :=
    { st := .composing, coarseQ := List.range 510, fullQ := List.range 2040, lists := planLists ub ls,
      trunc := lens.any (32 < ·), stale := s.comp.stale, audits := auditList s,
      verItems := (match ver.2 with
        | none => []
        | some i => (withRole s roVERIFY).map (fun e => (e, i))),
      lfsr := ver.1, vacant := s.comp.vacant, roleReq := s.comp.roleReq, seqAt := getReg s Reg.CMT_LAST_SEQ,
      startAt := s.now }
  let s1 := nextFrameNumber (setReg Reg.CMP_LISTS (listsWord (lens.map (min 32))) (storeBound (setComp c s)))
  takeStaging (reportTrunc lens s1)

/-! ### Items (R219, R240, R242) -/

/-- A finished item's computation, latest first. -/
def doneItem (s : State) (i : Nat) : Option ItemSig := s.comp.done.find? (fun d => d.item = i)

def isReplaced (s : State) (i : Nat) : Bool := s.comp.replaced.any (fun r => r.1 = i)

/-- The item's drive targets have been written (R219). -/
def itemWritten (s : State) (i : Nat) : Bool :=
  isReplaced s i || ((doneItem s i).isSome && !s.comp.finQ.contains i)

/-- A recomputation of the item waits or runs. -/
def recomputing (s : State) (i : Nat) : Bool :=
  s.comp.redo.contains i || s.comp.running.any (fun r => r.w = .redo i || r.w = .third i)

/-- An audit decision on the item is open. -/
def auditOpen (s : State) (i : Nat) : Bool := s.comp.audits.any (fun a => a.item = i && !a.settled)

/-- The item is complete: written or replaced, with nothing still open on it. -/
def itemComplete (s : State) (i : Nat) : Bool :=
  isReplaced s i || (itemWritten s i && !recomputing s i && !auditOpen s i)

def allWritten (s : State) : Bool := (List.range 2040).all (itemWritten s)

/-- A VERIFY engine still has its item of the frame to compute (R219, R228). -/
def verifyOpen (s : State) : Bool :=
  s.comp.verItems.any (fun v => ceRole s v.1 = roVERIFY && !s.comp.verSigs.any (fun g => g.e = v.1))

def allComplete (s : State) : Bool := (List.range 2040).all (itemComplete s) && !verifyOpen s

/-- CMP_STAT.PHASE (R219). -/
def compPhase (s : State) : Nat :=
  if s.comp.st ≠ .composing || !s.comp.day then 0
  else if s.comp.coarse < 510 then 1
  else if !allWritten s then 2
  else if allComplete s then 0 else 3

/-- CMP_STAT. -/
def cmpStat (s : State) : Word :=
  w32 ((withRole s roACTIVE).length + 2 ^ 8 * (withRole s roSPARE).length + 2 ^ 12 * compPhase s +
    2 ^ 16 * s.comp.trunc.toNat + 2 ^ 17 * s.comp.stale.toNat)

/-- The mirror frame is ready once every item of its slot is complete (R248). -/
def checkMirror (s : State) : State :=
  match mirOfFrame s with
  | none => s
  | some f =>
    if ((List.range 510).map (· + 510 * viewSlot f.vx f.vy)).all (itemComplete s) then
      { s with mirror := s.mirror.map (fun g => if g.frame = f.frame then { g with ready := true } else g) }
    else s

/-- One failed texture read that removed a context from a ray (R215). -/
def texError (s : State) (addr : Nat) : State :=
  let s1 := uncorr .scene addr 4 (bumpSat Reg.CMP_N_TEXERR s)
  if s1.comp.texerr then s1 else raise 316 addr (setComp { s1.comp with texerr := true } s1)

/-- The item's values reach the frame store, or wait for zone analysis (R242). -/
def deliver (a : ItemSig) (s : State) : State :=
  let s1 := setComp { s.comp with done := a :: s.comp.done.filter (fun d => d.item ≠ a.item) } s
  if s1.comp.zoned then stageFor a.item (some a) (writeTargets a s1)
  else setComp { s1.comp with finQ := s1.comp.finQ ++ [a.item] } s1

/-- A replaced item (R229). -/
def replaceItem (i : Nat) (s : State) : State :=
  let r := copyTargets i s
  let c := r.1.comp
  bumpSat Reg.CMP_N_STALE (stageFor i none (setComp { c with
    replaced := c.replaced ++ [(i, r.2)], redo := c.redo.filter (· ≠ i), finQ := c.finQ.filter (· ≠ i),
    running := c.running.filter (fun q => !(q.w = .redo i || q.w = .third i || q.w = .audit i)),
    audits := c.audits.map (fun a => if a.item = i then { a with settled := true } else a) } r.1))

/-- Replace items and report them (R229). -/
def replaceAll (is : List Nat) (s : State) : State :=
  match is with
  | [] => s
  | i :: _ => raise 314 (i + 2 ^ 16 * is.length) (is.foldl (fun s i => replaceItem i s) s)

/-! ### The audit (R226, R227) -/

def setAudit (a : Audit) (s : State) : State :=
  setComp { s.comp with audits := s.comp.audits.map (fun x => if x.item = a.item then a else x) } s

/-- Both signatures of an audited item are there: compare them (R226, R227, R215). -/
def compareAudit (i : Nat) (s : State) : State :=
  match s.comp.audits.find? (fun a => a.item = i), doneItem s i with
  | some a, some c =>
    match a.sig with
    | none => s
    | some b =>
      if a.settled || a.third || recomputing s i then s
      else
        let s1 := bumpWrap Reg.CMP_N_AUDIT s
        if b.sig = c.sig then setAudit { a with settled := true, decided := some c.sig } s1
        else if b.marked || c.marked then setAudit { a with third := true } s1
        else
          raise 311 (i + 2 ^ 16 * c.e + 2 ^ 24 * b.e)
            (bumpSat Reg.CMP_N_MISMATCH (setAudit { a with third := true } s1))
  | _, _ => s

/-- Every other item that engine `e` composed in this frame is to be recomputed (R227). -/
def redoOf (e i : Nat) (s : State) : State :=
  let mine := (s.comp.done.filter (fun d => d.e = e && d.item ≠ i && !s.comp.redo.contains d.item &&
    !isReplaced s d.item)).map ItemSig.item
  setComp { s.comp with redo := s.comp.redo ++ mine } s

/-- The third computation decides (R227, R215). The item may have been composed again since the mismatch, and then agree
with its audit: the third engine loses only if it differs (log entry 17, DEDUCED). -/
def decideAudit (t : ItemSig) (s : State) : State :=
  match s.comp.audits.find? (fun a => a.item = t.item), doneItem s t.item with
  | some a, some c =>
    match a.sig with
    | none => s
    | some b =>
      let end_ := fun w => setAudit { a with settled := true, decided := w } s
      if b.marked || c.marked then deliver t (end_ (some t.sig))
      else if b.sig = c.sig then
        if t.sig = c.sig then end_ (some c.sig)
        else redoOf t.e t.item (quarantineLoser t.e (end_ (some c.sig)))
      else if t.sig = b.sig then redoOf c.e t.item (quarantineLoser c.e (deliver t (end_ (some t.sig))))
      else if t.sig = c.sig then redoOf b.e t.item (quarantineLoser b.e (end_ (some t.sig)))
      else raise 312 t.item (replaceAll [t.item] (end_ none))
  | _, _ => s

/-! ### Taking work (R202, R226–R228) -/

def engineFree (s : State) (e : Nat) : Bool := !s.comp.running.any (fun r => r.e = e)

/-- Engine `e` may be the third of an audit: it is neither the composer nor the auditor. -/
def mayThird (s : State) (e : Nat) (a : Audit) : Bool :=
  a.third && !a.settled && !s.comp.running.any (fun r => r.w = .third a.item) &&
  ((doneItem s a.item).map ItemSig.e) ≠ some e && (a.sig.map ItemSig.e) ≠ some e

/-- A free spare that could be the third of an audit. -/
def freeSpareFor (s : State) (a : Audit) : Bool :=
  (withRole s roSPARE).any (fun e => engineFree s e && mayThird s e a)

/-- Engine `e` may recompute a selection as its auditor. -/
def mayAudit (s : State) (e : Nat) (a : Audit) : Bool :=
  !a.settled && a.sig.isNone && (a.auditor = some e || a.auditor = none) &&
  ((doneItem s a.item).map ItemSig.e) ≠ some e && !s.comp.running.any (fun r => r.w = .audit a.item || r = ⟨e, .full a.item⟩)

/-- What an ACTIVE engine takes next, and the composition without it in its queue. -/
def activeWork (s : State) (e : Nat) : Option (Work × Comp) :=
  let c := s.comp
  match c.coarseQ, c.fullQ with
  | t :: q, _ => some (.coarse t, { c with coarseQ := q })
  | [], i :: q => if c.coarse < 510 then none else some (.full i, { c with fullQ := q })
  | [], [] =>
    if c.coarse < 510 then none
    else
      match c.redo.find? (fun i => ((doneItem s i).map ItemSig.e) ≠ some e) with
      | some i => some (.redo i, { c with redo := c.redo.filter (· ≠ i) })
      | none =>
        match c.audits.find? (fun a => mayThird s e a && !freeSpareFor s a) with
        | some a => some (.third a.item, c)
        | none =>
          if (withRole s roSPARE).isEmpty then
            (c.audits.find? (fun a => mayAudit s e a && (doneItem s a.item).isSome)).map (fun a =>
              (.audit a.item, { c with audits := c.audits.map (fun x =>
                if x.item = a.item then { x with auditor := some e } else x) }))
          else none

/-- What a SPARE engine takes next. -/
def spareWork (s : State) (e : Nat) : Option (Work × Comp) :=
  let c := s.comp
  if c.coarse < 510 then none
  else
    match c.audits.find? (mayAudit s e) with
    | some a => some (.audit a.item, { c with audits := c.audits.map (fun x =>
        if x.item = a.item then { x with auditor := some e } else x) })
    | none => (c.audits.find? (mayThird s e)).map (fun a => (.third a.item, c))

/-- What a VERIFY engine takes next: its one item of the frame. -/
def verifyWork (s : State) (e : Nat) : Option (Work × Comp) :=
  if s.comp.coarse < 510 || s.comp.verSigs.any (fun v => v.e = e) then none
  else (s.comp.verItems.find? (fun v => v.1 = e)).map (fun v => (.verify v.2, s.comp))

/-- The work that engine `e` would take now. -/
def nextWork (s : State) (e : Nat) : Option (Work × Comp) :=
  match ceRole s e with
  | 0 => activeWork s e
  | 1 => spareWork s e
  | 4 => verifyWork s e
  | _ => none

/-- The composer tile of a piece of work. -/
def workTile : Work → Nat
  | .coarse t => t
  | .full i => itemTile i
  | .audit i => itemTile i
  | .third i => itemTile i
  | .redo i => itemTile i
  | .verify i => itemTile i

/-- The LCT indexes under a composer tile. -/
def tileEntries (t : Nat) : List Nat :=
  (tileLensRows t).flatMap (fun ly => (List.range 64).map (fun l => ly * 1920 + 64 * tileX t + l))

/-- The engine reads the LCT entries of its composer tile (R75, R76). -/
def readEntries (t : Nat) (s : State) : State := (tileEntries t).foldl (fun s i => lctTouch i 0 s) s

def execWorkItemStart (e : Fin 68) (s : State) : Host.Outcome State Fault Refusal :=
  if engineClock s e.val && composing s && s.comp.day && engineFree s e.val then
    match nextWork s e.val with
    | none => done s
    | some (w, c) => done (readEntries (workTile w) (setComp { c with running := c.running ++ [⟨e.val, w⟩] } s))
  else done s

/-! ### Completing work -/

/-- The reads of a coarse item that failed. -/
def coarseErrs (s : State) (t : Nat) : List Nat :=
  (tileEntries t).flatMap (fun i => (List.range 3).flatMap (fun c => (List.range 4).flatMap (fun sl =>
    (rayValue s (8 * (i % 1920) + 4) (8 * (i / 1920) + 4) c sl).errs)))

/-- A coarse item completes; after the last, zone analysis starts with the flags in force now (R234, R242). -/
def coarseDone (t : Nat) (s : State) : State :=
  let s1 := (coarseErrs s t).foldl texError s
  let s2 := setComp { s1.comp with coarse := s1.comp.coarse + 1 } s1
  if s2.comp.coarse = 510 then zoneAnalysis s2 else s2

/-- The effect of engine `e` completing a piece of work. Coarse items have no signature, and the spec states no error of
theirs that the residue checks let pass (R228). -/
def workDone (e : Nat) (w : Work) (upset : List (Nat × BitVec 18)) (s : State) : State :=
  match w with
  | .coarse t => coarseDone t s
  | .full i =>
    let r := composeItem s e i upset
    compareAudit i (deliver r.1 (bumpWrap (Reg.CMP_EITEMS e) (r.2.foldl texError s)))
  | .redo i =>
    let r := composeItem s e i upset
    compareAudit i (deliver r.1 (bumpWrap (Reg.CMP_EITEMS e) (r.2.foldl texError s)))
  | .audit i =>
    let r := composeItem s e i upset
    let s1 := r.2.foldl texError s
    let put := fun (a : Audit) => if a.item = i then { a with sig := some r.1 } else a
    compareAudit i (setComp { s1.comp with audits := s1.comp.audits.map put } s1)
  | .third i =>
    let r := composeItem s e i upset
    decideAudit r.1 (r.2.foldl texError s)
  | .verify i =>
    let r := composeItem s e i upset
    let s1 := r.2.foldl texError s
    setComp { s1.comp with verSigs := s1.comp.verSigs ++ [r.1] } s1

def execWorkItemDone (w : EngineEnd) (s : State) : Host.Outcome State Fault Refusal :=
  let e := w.e.val
  match s.comp.running.find? (fun r => r.e = e) with
  | none => done s
  | some r =>
    if engineClock s e && composing s then
      done (checkMirror (workDone e r.w w.upset
        (setComp { s.comp with running := s.comp.running.filter (fun x => x.e ≠ e) } s)))
    else done s

/-- A residue check fails in an engine (R224) (log entry 17, DEDUCED). -/
def execResidueFault (e : Fin 68) (s : State) : Host.Outcome State Fault Refusal :=
  if engineClock s e.val && inRole s e.val then
    let s1 := retireEngine e.val roQUARANTINED 2 (bumpSatW 16 (Reg.CMP_ERES e.val) s)
    done (raise (318 + 2 * (e.val / 16)) (engineDetail s1 e.val) s1)
  else done s

/-- Zone analysis has finished: the values that waited are finished (R242). -/
def execZoneAnalysisDone (s : State) : Host.Outcome State Fault Refusal :=
  if unitOn s 0x26 && composing s && s.comp.coarse = 510 && !s.comp.zoned then
    let s1 := setComp { s.comp with zoned := true, finQ := [] } s
    done (checkMirror ((s.comp.finQ.filterMap (doneItem s)).foldl
      (fun s a => stageFor a.item (some a) (writeTargets a s)) s1))
  else done s

/-! ### The end of a frame's composition (R222, R230, R238, R241) -/

/-- Value of a full-pass ray of the frame. -/
def frameValue (s : State) (x y c sl : Nat) : Nat :=
  ((doneItem s (510 * sl + tileOf x y)).map (fun a => itemVal a x y c)).getD 0

/-- From `a` to `b`, inclusive. -/
def span (a b : Nat) : List Nat := (List.range (b + 1 - a)).map (· + a)

/-- Rectangle of signature region `n`: x0, x1, y0, y1. -/
def sigRect (xr yr : Word) : Nat × Nat × Nat × Nat := (fld xr 0 14, fld xr 16 14, fld yr 0 14, fld yr 16 14)

/-- Signature of region `n` (R221). -/
def sigOf (s : State) (n : Nat) : Word :=
  let r := sigRect (getReg s (Reg.SIG_XR n)) (getReg s (Reg.SIG_YR n))
  valuesCrc ((span r.2.2.1 r.2.2.2).flatMap (fun y => (span r.1 r.2.1).flatMap (fun x =>
    (List.range 3).map (fun c => frameValue s x y c (n / 32)))))

/-- The region overlaps a replaced item. -/
def sigStale (s : State) (n : Nat) : Bool :=
  let r := sigRect (getReg s (Reg.SIG_XR n)) (getReg s (Reg.SIG_YR n))
  s.comp.replaced.any (fun q =>
    let t := itemTile q.1
    itemSlot q.1 = n / 32 && r.1 < 512 * tileX t + 512 && 512 * tileX t ≤ r.2.1 &&
    r.2.2.1 < tileY1 t && 512 * tileY t ≤ r.2.2.2)

/-- SIG_RSTAT of region `n` for the frame. -/
def sigOutcome (s : State) (n : Nat) : Nat :=
  if !regBit s (Reg.SIG_YR n) 31 then 0
  else if sigStale s n then 3
  else if sigOf s n = getReg s (Reg.SIG_EXP n) then 1 else 2

/-- Store and compare the signatures (R222), where PAGE_CTL.EN does not hold the page idle (R43). -/
def storeSignatures (s : State) : State :=
  if !enabled s 0x27 then s else
  let en := (List.range 128).filter (fun n => regBit s (Reg.SIG_YR n) 31)
  let miss := en.filter (fun n => sigOutcome s n = 2)
  let s1 := { s with
    sigRes := en.foldl (fun l n => sPut zeroW n (sigOf s n) l) s.sigRes
    sigStat := (List.range 128).foldl (fun l n => sPut zeroW n (w32 (sigOutcome s n)) l) s.sigStat }
  let s2 := (List.range 4).foldl (fun t k =>
    setReg (Reg.SIG_MISS_S k) (wordOf 32 (fun r => miss.contains (32 * k + r))) t) s1
  if miss.isEmpty then s2
  else
    raise 392 ((wordOf 4 (fun k => miss.any (fun n => n / 32 = k))).toNat + 2 ^ 4 * miss.length +
      2 ^ 32 * s.comp.seqAt.toNat) (bumpSat Reg.SIG_N_MISS s2)

/-- CRC-32 of R241. -/
def crc32 (bytes : List Byte) : Nat := crcLsb 0xEDB88320 0xFFFFFFFF bytes ^^^ 0xFFFFFFFF

/-- Row `y` of item `i` as finishing wrote it. -/
def writtenRow (s : State) (i y : Nat) : List Byte :=
  match s.comp.replaced.find? (fun r => r.1 = i) with
  | some r => (r.2.drop (2560 * (y - 512 * tileY (itemTile i)))).take 2560
  | none => ((doneItem s i).map (fun a => itemRowBytes s a y)).getD []

/-- The bytes of a slot frame as finishing wrote them, in ascending order. -/
def slotBytes (s : State) (sl : Nat) : List Byte :=
  (List.range 8640).flatMap (fun y => (List.range 30).flatMap (fun tx =>
    writtenRow s (510 * sl + 30 * (y / 512) + tx) y))

/-- The CRCs of the region's slot frames (R241). -/
def storeFcrc (s : State) : State :=
  let r := composingRegion s
  (List.range 4).foldl (fun t sl =>
    let c := w32 (crc32 (slotBytes s sl))
    setReg (Reg.FIN_FCRC sl) c { t with fcrc := sPut zeroW (4 * r + sl) c t.fcrc }) s

/-- Rays of the full pass with a saturated slope (R94). -/
def satCount (s : State) : Nat :=
  ((List.range 8640).map (fun y => ((List.range 15360).map (fun x =>
    let e := lctUsed s (lensletIdx x y)
    if lctDead e then 0
    else ((List.range 3).map (fun c => ((List.range 4).filter (fun sl =>
      (rayGeometry (focalOf s) e x y c sl).sat)).length)).sum)).sum)).sum

/-- Clipped rays of the frame (R238) (log entry 18, DEDUCED). -/
def clipCount (s : State) : Nat :=
  ((s.comp.done.filter (fun a => !isReplaced s a.item)).map (itemClips s)).sum

/-- FIN_N_CLIP and FIN_EV_CLIP. -/
def storeClips (s : State) : State :=
  let n := min (clipCount s) 0xFFFFFFFF
  let s1 := setRegN Reg.FIN_N_CLIP n s
  if regN s Reg.FIN_CLIP_THR < n then raise 382 n s1 else s1

/-- The result that engine `e`'s verification of the frame is compared with (R228): `none` where the frame has none. -/
def decidedOf (s : State) (i : Nat) : Option Word :=
  match s.comp.audits.find? (fun a => a.item = i) with
  | some a => a.decided
  | none => (doneItem s i).map ItemSig.sig

/-- Engine `e` computed item `i` and its signature differs from the decided result. -/
def verifyDiffers (s : State) (e i : Nat) : Bool :=
  s.comp.verSigs.any (fun g => g.e = e && (decidedOf s i).any (· ≠ g.sig))

/-- One frame of an engine's verification (R228): item `v.2` was engine `v.1`'s. A frame that leaves the item undecided, or
that Sunset ended before the engine had computed it, counts as one that agrees (log entry 21, DEDUCED). -/
def verifyFrame (s : State) (v : Nat × Nat) : State :=
  if ceRole s v.1 = roVERIFY then
    let n := regFld s (Reg.CMP_ESTAT v.1) 16 8 + 1
    let s1 := setRegFld (Reg.CMP_ESTAT v.1) 16 8 n s
    if verifyDiffers s v.1 v.2 then askRole v.1 roRETIRED s1
    else if 64 ≤ n then askRole v.1 roSPARE s1 else s1
  else s

/-- Composition time from the boundary at which Day began, in microseconds (R230) (log entry 17, DEDUCED). -/
def doneUs (s : State) : Nat := min ((s.now - s.comp.startAt) * 4 / 1000) 0xFFFF

/-- The frame's composition is complete. -/
def finishFrame (s : State) : State :=
  let s1 := storeClips (storeFcrc (storeSignatures s))
  let s2 := setRegN Reg.RAY_N_SAT (min (satCount s) 0xFFFFFFFF) (setRegN Reg.CMP_DONE_US (doneUs s) s1)
  let s3 := s2.comp.verItems.foldl verifyFrame s2
  setComp { s3.comp with st := .complete, running := [], stale := !s3.comp.replaced.isEmpty } s3

def execCompositionComplete (s : State) : Host.Outcome State Fault Refusal :=
  if compClock s && composing s && allComplete s then done (finishFrame s) else done s

/-- What Sunset does to the composition (R229, R230) (log entry 17, DEDUCED). -/
def sunsetComp (s : State) : State :=
  if composing s then
    if allWritten s then
      let open_ := (List.range 2040).filter (fun i => !itemComplete s i)
      finishFrame (checkMirror (replaceAll open_ s))
    else setComp { s.comp with left := ((List.range 2040).filter (fun i => !itemWritten s i)).length } s
  else s

/-! ### Engine commands (R228) -/

/-- Effect of CMD on engine `e`. -/
def effEctl (e cmd : Nat) (s : State) : State :=
  match cmd with
  | 1 => if ceRole s e = roQUARANTINED then mntPush actEVER e true s else s
  | 2 => if inRole s e then s else askRole e roSPARE s
  | 3 => if ceRole s e = roRETIRED then s else retireEngine e roRETIRED 3 s
  | _ => s

/-- One second in quarantine (R228). -/
def execEngineVerifyTimer (e : Fin 68) (s : State) : Host.Outcome State Fault Refusal :=
  if live s && ceRole s e.val = roQUARANTINED then done (mntPush actEVER e.val false s) else done s

def execCmpVerify (m : Master) (e : Fin 68) (s : State) : Host.Outcome State Fault Refusal :=
  done (writeWith m (Reg.CMP_ECTL e.val) 1 (effEctl e.val 1) s)

def execCmpAdmit (m : Master) (e : Fin 68) (s : State) : Host.Outcome State Fault Refusal :=
  done (writeWith m (Reg.CMP_ECTL e.val) 2 (effEctl e.val 2) s)

def execRetire (m : Master) (e : Fin 68) (s : State) : Host.Outcome State Fault Refusal :=
  done (writeWith m (Reg.CMP_ECTL e.val) 3 (effEctl e.val 3) s)

end Sys2Proof.Machine
end

