-- ==== Sys2Proof/Machine/Rs.lean ====
section
/-!
DEFINITION. The Reed–Solomon codes of the two memory systems: the field, check bytes, symbol layout and the correction of an
error pattern (R327). A word is a list of symbols, data first, the first symbol the coefficient of the highest power.
-/
namespace Sys2Proof.Machine

/-! ### GF(2^8) with polynomial 0x11D -/

/-- α times an element. -/
def gfX (a : Nat) : Nat := if a.testBit 7 then (2 * a) ^^^ 0x11D else 2 * a

def gfMul (a b : Nat) : Nat :=
  ((List.range 8).foldl (fun (p : Nat × Nat) i => (if b.testBit i then p.1 ^^^ p.2 else p.1, gfX p.2)) (0, a)).1

def gfPow (a : Nat) : Nat → Nat
  | 0 => 1
  | n + 1 => gfMul a (gfPow a n)

/-- α^k. -/
def gfAlpha (k : Nat) : Nat := gfPow 2 (k % 255)

/-- The inverse of an element that is not 0. -/
def gfInv (a : Nat) : Nat := gfPow a 254

/-! ### Polynomials: lists of coefficients, the constant first -/

def polyAt (l : List Nat) (x : Nat) : Nat := l.foldr (fun c a => c ^^^ gfMul x a) 0

def polyAdd : List Nat → List Nat → List Nat
  | [], l => l
  | l, [] => l
  | a :: s, b :: t => (a ^^^ b) :: polyAdd s t

def polyScale (k : Nat) (l : List Nat) : List Nat := l.map (gfMul k)

def polyMul (p q : List Nat) : List Nat := p.foldr (fun c a => polyAdd (polyScale c q) (0 :: a)) []

/-- The formal derivative. -/
def polyDeriv (l : List Nat) : List Nat := ((l.drop 1).zipIdx).map (fun q => if q.2 % 2 = 0 then q.1 else 0)

/-! ### Encoding -/

/-- The generator polynomial: roots α^0 to α^(r−1). -/
def rsGen (r : Nat) : List Nat := (List.range r).foldl (fun g i => polyMul g [gfAlpha i, 1]) [1]

/-- The `r` check symbols of data, the highest power first. -/
def rsCheck (r : Nat) (data : List Nat) : List Nat :=
  let g := ((rsGen r).take r).reverse
  data.foldl (fun c d =>
    let f := d ^^^ c.headD 0
    polyAdd (c.drop 1 ++ [0]) (polyScale f g)) (List.replicate r 0)

/-! ### Decoding -/

/-- The `r` syndromes of a word. -/
def rsSyndromes (r : Nat) (w : List Nat) : List Nat := (List.range r).map (fun j => polyAt w.reverse (gfAlpha j))

/-- The search for the shortest error locator (Berlekamp–Massey). -/
structure Locator where
  c : List Nat := [1]
  b : List Nat := [1]
  len : Nat := 0
  m : Nat := 1
  d : Nat := 1
deriving DecidableEq, Repr

/-- One syndrome more: number `n` of `syn`. -/
def locatorStep (syn : List Nat) (x : Locator) (n : Nat) : Locator :=
  let d := (List.range (x.len + 1)).foldl (fun a i => a ^^^ gfMul (x.c.getD i 0) (syn.getD (n - i) 0)) 0
  let c := polyAdd x.c (polyScale (gfMul d (gfInv x.d)) (List.replicate x.m 0 ++ x.b))
  if d = 0 then { x with m := x.m + 1 }
  else if 2 * x.len ≤ n then { c := c, b := x.c, len := n + 1 - x.len, m := 1, d := d }
  else { x with c := c, m := x.m + 1 }

def locator (syn : List Nat) : Locator := (List.range syn.length).foldl (locatorStep syn) {}

/-- The error word of length `n` with at most `t` symbols that has these syndromes; none where there is none. -/
def rsErrors (n t : Nat) (syn : List Nat) : Option (List Nat) :=
  let x := locator syn
  let ev := (polyMul syn x.c).take syn.length
  let dv := polyDeriv x.c
  let at_ := fun p => polyAt x.c (gfAlpha (255 - p))
  let e := ((List.range n).map (fun i =>
    let p := n - 1 - i
    if at_ p = 0 then gfMul (gfAlpha p) (gfMul (polyAt ev (gfAlpha (255 - p))) (gfInv (polyAt dv (gfAlpha (255 - p)))))
    else 0))
  if x.len ≤ t && (e.filter (· ≠ 0)).length = x.len && rsSyndromes syn.length e = syn then some e else none

end Sys2Proof.Machine
end

