-- ==== Sys2Proof/Machine/Memory.lean ====
section
/-!
DEFINITION. The two memory controllers: choice of a request, refresh debt, neighbour protection, power-down, errors,
patrol scrub and the repair list (11_memory.md).
-/
namespace Sys2Proof.Machine

/-! ### Units (R309, R310, R320) -/

/-- Key of a pseudo-channel or rank in State.dram. -/
def dramKey : DramUnit → Nat
  | .pc n => n.val
  | .rank ch k => 32 + 2 * ch.val + k.val

/-- Key under which a pseudo-channel or channel keeps its requests and neighbour refreshes: the pseudo-channel itself, or rank
0 of the channel (R317, R324). -/
def queueKey : DramUnit → Nat
  | .pc n => n.val
  | .rank ch _ => 32 + 2 * ch.val

def sysOf : DramUnit → MemSys
  | .pc _ => .frame
  | .rank _ _ => .scene

/-- The unit is hot (R322). -/
def isHot (s : State) : DramUnit → Bool
  | .pc n => regBit s Reg.MFS_STAT (n.val / 16)
  | .rank ch k => (getDram s (32 + 2 * ch.val + k.val)).hot

/-- tREFI in force, nanoseconds (R309, R320) (log entry 25, DEDUCED). -/
def trefi (s : State) (u : DramUnit) : Int := if isHot s u then 1950 else 3900

/-- The refresh debt in nanoseconds; `now` counts 4 ns (R320). -/
def debt (s : State) (u : DramUnit) : Int :=
  let d := getDram s (dramKey u)
  if d.sr then d.srDebt else 4 * (s.now : Int) - d.paid

/-- The debt exceeds the allowance of 8 × tREFI. -/
def refreshUrgent (s : State) (u : DramUnit) : Bool := decide (8 * trefi s u < debt s u)

/-- The page whose PAGE_CTL holds the unit idle (R43). -/
def unitPage : DramUnit → Nat
  | .pc _ => 0x2F
  | .rank _ _ => 0x31

/-- Refreshes, activates and requests go on in the unit. -/
def unitRuns (s : State) (u : DramUnit) : Bool := unitOn s (unitPage u) && !(getDram s (dramKey u)).sr

/-- The unit itself and the other rank of its channel, which share its command slots (R317). -/
def slotUnits : DramUnit → List DramUnit
  | .pc n => [.pc n]
  | .rank ch _ => [.rank ch 0, .rank ch 1]

/-- An urgent refresh takes the unit's next command slot (R317, R320). -/
def urgentFirst (s : State) (u : DramUnit) : Bool :=
  (slotUnits u).any (fun v => !(getDram s (dramKey v)).sr && refreshUrgent s v)

/-- One all-bank refresh (R320). It closes every row. -/
def refresh (u : DramUnit) (s : State) : State :=
  let d := getDram s (dramKey u)
  let s1 := putDram (dramKey u) { d with paid := d.paid + trefi s u, rows := [] } s
  match u with
  | .pc n => bumpWrap (Reg.MFS_PC_N_REF n.val) s1
  | .rank _ _ => s1

def setUnit (u : DramUnit) (f : DramAux → DramAux) (s : State) : State :=
  putDram (dramKey u) (f (getDram s (dramKey u))) s

/-- The refreshes of a burst that begins now in a pseudo-channel: issued back to back, 410 ns each, until the debt is within
the allowance (R320, R322). -/
def burstLen (s : State) (u : DramUnit) : Nat :=
  min 15 (max 1 (divCeil (debt s u - 8 * trefi s u).toNat (trefi s u - 410).toNat))

/-- Detail of MFS_EV_URGENT or MSC_EV_URGENT. The time that a scene-memory refresh takes is not stated, so the length of its
burst is a free value. -/
def urgentDetail (s : State) (u : DramUnit) : Nat :=
  match u with
  | .pc n => n.val + 2 ^ 8 * burstLen s u
  | .rank ch k => ch.val + 4 * k.val + 2 ^ 8 * (freeVal s % 16)

/-- An urgent refresh: it opens a burst, or goes on with one; the burst ends with the debt within the allowance (log entry 25, DEDUCED). -/
def urgentRefresh (u : DramUnit) (s : State) : State :=
  let b := memBase (sysOf u)
  let s0 := bumpSat (b + 0x58) s
  let s1 := if (getDram s (dramKey u)).urgent = 0 then tickFree (raise (memEv (sysOf u) + 3) (urgentDetail s u) s0) else s0
  let s2 := refresh u s1
  setUnit u (fun d => { d with urgent := if refreshUrgent s2 u then d.urgent + 1 else 0, pd := false }) s2

def execRefreshUrgent (u : DramUnit) (s : State) : Host.Outcome State Fault Refusal :=
  done (if unitRuns s u && refreshUrgent s u then urgentRefresh u s else s)

/-! ### Neighbour protection (R323, R324) -/

/-- NRR_EN. -/
def nrrOn (s : State) (sys : MemSys) : Bool := regBit s (memBase sys + 0x40) 1

/-- The activate table: 16 entries of (row + 1, count), cleared entries (0, 0). -/
def actTab (s : State) (k : Nat) : List (Nat × Nat) :=
  let l := sGet (fun _ => []) k s.acts
  l ++ List.replicate (16 - l.length) (0, 0)

/-- The lowest index with the smallest count. -/
def minIdx (l : List (Nat × Nat)) : Nat :=
  ((List.range l.length).foldl (fun (b : Nat × Nat) i =>
    let c := ((l[i]?).getD (0, 0)).2
    if c < b.2 then (i, c) else b) (0, ((l[0]?).getD (0, 0)).2)).1

/-- Count an activate of a row in its bank's table: the table, and whether a neighbour refresh is queued (R323). -/
def countAct (tab : List (Nat × Nat)) (row : Nat) : List (Nat × Nat) × Bool :=
  let k := ((List.range tab.length).find? (fun i => ((tab[i]?).getD (0, 0)).1 = row + 1)).getD (minIdx tab)
  let c := (((tab[k]?).getD (0, 0)).2 + 1) % 2 ^ 20
  (tab.set k (row + 1, c), c % 4096 = 0)

/-- A row waits for its neighbours to be refreshed. -/
def queueNeighbour (k bank row : Nat) (s : State) : State :=
  putDram k { getDram s k with refresh := (getDram s k).refresh ++ [(bank, row)] } s

/-- An activate in a frame-store bank. -/
def actFrame (n bank row : Nat) (s : State) : State :=
  let (tab, q) := countAct (actTab s (16 * n + bank)) row
  let s1 := { s with acts := sPut (fun _ => []) (16 * n + bank) tab s.acts }
  if q then queueNeighbour n bank row s1 else s1

/-- A bank's row is precharged. -/
def closeBank (k bank : Nat) (s : State) : State :=
  putDram k { getDram s k with rows := sPut zeroN bank 0 (getDram s k).rows } s

/-- The oldest neighbour refresh of a queue is issued. It precharges the bank. In the frame store its two activates are counted like any (log entry 25, DEDUCED). -/
def issueNeighbour (u : DramUnit) (s : State) : State :=
  let k := queueKey u
  let d := getDram s k
  match d.refresh with
  | [] => s
  | (bank, row) :: rest =>
    let s1 := bumpWrap (memBase (sysOf u) + 0x5C) (putDram k { d with refresh := rest } s)
    match u with
    | .pc n =>
      let s2 := if row = 0 then s1 else actFrame n.val bank (row - 1) s1
      closeBank n.val bank (actFrame n.val bank (row + 1) s2)
    | .rank ch _ => closeBank (32 + 2 * ch.val + bank / 32) (bank % 32) s1

/-- An activate for a request in scene memory: a full queue issues its oldest entry first, then the channel's
register steps (R324). Bank and rank share the queue entry's first number. -/
def actScene (ch k bank row : Nat) (u : DramUnit) (s : State) : State :=
  let q := 32 + 2 * ch
  let s1 := if 8 ≤ (getDram s q).refresh.length then issueNeighbour u s else s
  let v := lfsrStep (sGet zeroW ch s1.nrLfsr)
  let s2 := { s1 with nrLfsr := sPut zeroW ch v s1.nrLfsr }
  if fld v 0 9 = 0 then queueNeighbour q (bank + 32 * k) row s2 else s2

def activate (u : DramUnit) (bank row : Nat) (s : State) : State :=
  if !nrrOn s (sysOf u) then s
  else
    match u with
    | .pc n => actFrame n.val (bank % 16) row s
    | .rank ch k => actScene ch.val k.val bank row u s

/-- The registers of R324 as loaded at reset. -/
def loadNrr (s : State) : State :=
  let v := getReg s Reg.MSC_NRR_SEED
  let seed := if v = 0 then 1 else v
  { s with nrLfsr := (List.range 4).foldl (fun l ch => sPut zeroW ch (seed ^^^ w32 ch) l) [] }

def execRefreshWindowClear (stack : Fin 2) (s : State) : Host.Outcome State Fault Refusal :=
  done (if unitOn s 0x2E then { s with acts := s.acts.filter (fun e => e.1 / 256 ≠ stack.val) } else s)

/-! ### Error correction at a read (R327, R328) -/

/-- Data symbols, check symbols and symbols that are corrected, of a system's code. -/
def codeOf : MemSys → Nat × Nat × Nat
  | .frame => (60, 6, 2)
  | .scene => (128, 16, 8)

/-- The error word: every symbol of a codeword, data first. -/
def errWord (sys : MemSys) (errs : SymErrs) : List Nat :=
  let n := (codeOf sys).1 + (codeOf sys).2.1
  errs.foldl (fun w e => w.set e.1 ((w.getD e.1 0) ^^^ e.2.toNat)) (List.replicate n 0)

/-- The errors that the decoder takes away; none where it finds them uncorrectable (R327). -/
def correction (sys : MemSys) (errs : SymErrs) : Option (List Nat) :=
  let w := errWord sys errs
  rsErrors w.length (codeOf sys).2.2 (rsSyndromes (codeOf sys).2.1 w)

/-- What the check of a codeword finds (R327). -/
def readEcc (sys : MemSys) (errs : SymErrs) : Ecc :=
  if errs.isEmpty then .clean
  else
    match correction sys errs with
    | none => .uncorrectable
    | some e => if e.all (· = 0) then .clean else .corrected

/-- Byte `j` of a codeword's data under a word of symbols. In scene memory transfer j div 8 carries byte j on lines 8 (j mod 8)
to 8 (j mod 8) + 7, and data symbol 16p + g holds lines 4g to 4g + 3 of transfer 2p in its low half and of transfer 2p + 1 in
its high half (R327) (log entry 24, DESIGN CHOICE). -/
def byteOf (sys : MemSys) (w : List Nat) (j : Nat) : Byte :=
  match sys with
  | .frame => BitVec.ofNat 8 (w.getD j 0)
  | .scene =>
    let half := fun (i : Nat) => nfld (w.getD i 0) (4 * (j / 8 % 2)) 4
    let k := 16 * (j / 16) + 2 * (j % 8)
    BitVec.ofNat 8 (half k + 16 * half (k + 1))

/-- The symbol that data bytes give. -/
def symbolOf (sys : MemSys) (data : List Byte) (i : Nat) : Nat :=
  match sys with
  | .frame => ((data[i]?).getD 0).toNat
  | .scene =>
    let half := fun (t : Nat) => nfld ((data[8 * t + i % 16 / 2]?).getD 0).toNat (4 * (i % 2)) 4
    half (2 * (i / 16)) + 16 * half (2 * (i / 16) + 1)

/-- The check symbols stored with a codeword's data: 6 in the check-bit sideband, 16 on the check lines (R313, R327). -/
def checkSymbols (sys : MemSys) (data : List Byte) : List Nat :=
  rsCheck (codeOf sys).2.1 ((List.range (codeOf sys).1).map (symbolOf sys data))

/-- Stored data takes a word of errors. -/
def applyErrs (sys : MemSys) (c : Nat) (w : List Nat) (s : State) : State :=
  let old := memBytes s sys (c * cwSize sys) (cwSize sys)
  let new := (old.zipIdx).map (fun q => q.1 ^^^ byteOf sys w q.2)
  setCells sys (writeCells (c * cwSize sys) new (cells s sys)) s

/-- A codeword is found uncorrectable: from now on it reads so, with its data as stored (R328) (log entry 24, DEDUCED). -/
def spoil (sys : MemSys) (c : Nat) (errs : SymErrs) (s : State) : State :=
  if (ueOf s sys).contains c then s
  else setUE sys (c :: ueOf s sys) (applyErrs sys c (errWord sys errs) s)

/-- What a read of a codeword finds: one that is uncorrectable stays so (R462). -/
def found (s : State) (sys : MemSys) (c : Nat) (ecc : Ecc) : Ecc :=
  if (ueOf s sys).contains c then .uncorrectable else ecc

/-- A corrected error is counted in its row; the third in one scrub pass lists the row (R330). -/
def tallyRow (sys : MemSys) (off : Nat) (s : State) : State :=
  let m := getMem s sys
  let row := rplRow sys off
  let n := ((m.rows.find? (fun r => r.row = row)).map RowErr.n).getD 0 + 1
  let e : RowErr := { unit := nfld row 22 5, bank := nfld row 17 5, row := row, n := n }
  let s1 := setMem sys { m with rows := e :: m.rows.filter (fun r => r.row ≠ row) } s
  if n = 3 then listRow sys off 0 s1 else s1

/-- A corrected error is counted. -/
def countCorr (sys : MemSys) (off : Nat) (s : State) : State :=
  let s1 := bumpSat (memBase sys + 0x50) s
  tallyRow sys off (match sys with
    | .frame => s1
    | .scene => bumpSat (Reg.MSC_CH_N_CORR (scChan off)) s1)

/-- A demand read of codeword `c` that comes with these errors (R328). -/
def demandRead (sys : MemSys) (c reader : Nat) (errs : SymErrs) (s : State) : State :=
  match found s sys c (readEcc sys errs) with
  | .clean => s
  | .corrected =>
    let s1 := countCorr sys (c * cwSize sys) s
    let m := getMem s1 sys
    setMem sys { m with rewrite := m.rewrite.filter (· ≠ c) ++ [c] } s1
  | .uncorrectable => uncorr sys (c * cwSize sys) reader (spoil sys c errs s)

/-- The reader that a port stands for in an event's detail. -/
def portReader (sys : MemSys) (port : Nat) : Nat :=
  match sys with
  | .frame => if port ≤ 1 then 0 else if port = 4 then 1 else if port = 5 then 3 else 4
  | .scene => if port = 4 then 1 else if port = 6 then 3 else 4

/-- The read of a partial write found its codeword uncorrectable (R315, R462) (log entry 24, DEDUCED). -/
def partialWrite (sys : MemSys) (c : Nat) (errs : SymErrs) (s : State) : State := partialUE sys c (spoil sys c errs s)

/-- The read or the partial write of a request meets its outcome. -/
def serveData (sys : MemSys) (r : MemReq) (errs : SymErrs) (s : State) : State :=
  let c := r.offset / cwSize sys
  if r.write then
    match found s sys c (readEcc sys errs) with
    | .uncorrectable => if readEcc sys errs = .uncorrectable then partialWrite sys c errs s else s
    | _ => demandRead sys c 2 errs s
  else demandRead sys c (portReader sys r.port) errs s

/-! ### Choice of a request (R316–R318) -/

def portCount : MemSys → Nat
  | .frame => 6
  | .scene => 7

/-- A port's target in nanoseconds. -/
def portTarget (s : State) (sys : MemSys) (p : Nat) : Nat :=
  10 * max 1 (regFld s (memBase sys + 0x80 + 4 * p) 0 16)

/-- Time that a request has waited, nanoseconds. -/
def ageOf (s : State) (w : Waiting) : Nat := (4 * (s.now : Int) - w.at_).toNat

/-- Urgency of a request. -/
def urgency (s : State) (sys : MemSys) (w : Waiting) : Nat :=
  let t := portTarget s sys w.req.port
  let a := ageOf s w
  if t ≤ a then 3 else if 3 * t ≤ 4 * a then 2 else if t ≤ 2 * a then 1 else 0

/-- The oldest of some requests. -/
def oldestReq : List Waiting → Option Waiting
  | [] => none
  | r :: t =>
    match oldestReq t with
    | none => some r
    | some q => if q.at_ < r.at_ then some q else some r

/-! ### Entries (R309, R310, R319) -/

/-- Entries of a pseudo-channel or channel. -/
def entryCount : MemSys → Nat
  | .frame => 256
  | .scene => 1024

/-- Entries guaranteed to each port. -/
abbrev portEntries : Nat := 16

def portUsed (q : List Waiting) (p : Nat) : Nat := (q.filter (fun w => w.req.port = p)).length

/-- Shared entries in use: what each port holds beyond its own. -/
def sharedUsed (n : Nat) (q : List Waiting) : Nat := ((List.range n).map (fun p => portUsed q p - portEntries)).sum

/-- An entry is available to port `p`. -/
def entryFree (sys : MemSys) (q : List Waiting) (p : Nat) : Bool :=
  decide (portUsed q p < portEntries) ||
    decide (sharedUsed (portCount sys) q < entryCount sys - portEntries * portCount sys)

/-- A request takes an entry, or waits behind its port's others. -/
def takeEntry (sys : MemSys) (x : List Waiting × List Waiting) (w : Waiting) : List Waiting × List Waiting :=
  if entryFree sys x.1 w.req.port && !x.2.any (fun h => h.req.port = w.req.port) then (x.1 ++ [w], x.2) else (x.1, x.2 ++ [w])

/-- Requests that waited for an entry take those that are free, and wait in the controller from now (R316, R319). -/
def takeHeld (u : DramUnit) (s : State) : State :=
  let d := getDram s (queueKey u)
  let x := (d.hold.map (fun w => { w with at_ := 4 * (s.now : Int) })).foldl (takeEntry (sysOf u)) (d.q, [])
  putDram (queueKey u) { d with q := x.1, hold := x.2 } s

/-- The unit of a request: its rank in the channel. -/
def unitOfReq (u : DramUnit) (r : MemReq) : DramUnit :=
  match u with
  | .pc n => .pc n
  | .rank ch _ => .rank ch r.rank

/-- A request that can come to this pseudo-channel or channel. -/
def reqOk (u : DramUnit) (r : MemReq) : Bool :=
  decide (r.port < portCount (sysOf u)) &&
  match u with
  | .pc n => fsPc r.offset = n.val && decide (r.offset < 0x1DB992000)
  | .rank ch _ => scChan r.offset = ch.val && decide (r.offset < 2 ^ 36)

/-- A request reaches the controller: power-down ends (R325), and it takes an entry or waits for one (R319). -/
def arrive (u : DramUnit) (s : State) (r : MemReq) : State :=
  let t := 4 * (s.now : Int)
  let s1 := setUnit (unitOfReq u r) (fun d => { d with pd := false, busyAt := t }) s
  let d := getDram s1 (queueKey u)
  let x := takeEntry (sysOf u) (d.q, d.hold) ⟨r, t - r.age⟩
  putDram (queueKey u) { d with q := x.1, hold := x.2 } s1

/-- Requests of a unit that wait. -/
def waitsFor (s : State) (u : DramUnit) : List Waiting :=
  let d := getDram s (queueKey u)
  (d.q ++ d.hold).filter (fun w => dramKey (unitOfReq u w.req) = dramKey u)

/-- No request for `n` nanoseconds. -/
def idleFor (s : State) (u : DramUnit) (n : Nat) : Bool :=
  (waitsFor s u).isEmpty && decide ((getDram s (dramKey u)).busyAt + n ≤ 4 * (s.now : Int))

/-! ### The order of R317 -/

/-- (UNIT, BANK) of the rows under repair in a system. -/
def repairBanks (s : State) (sys : MemSys) : List (Nat × Nat) :=
  (s.mnt.queue.filter (fun q => q.running && q.act = pprAct sys)).map (fun q =>
    (fld (rplGet s sys q.unit) 22 5, fld (rplGet s sys q.unit) 17 5))

/-- UNIT of a request, as in MFS_RPL_DATA. -/
def unitField (u : DramUnit) (r : MemReq) : Nat :=
  match u with
  | .pc n => n.val
  | .rank ch _ => 2 * ch.val + 8 * r.rank.val

/-- A calibration step holds the pseudo-channel or channel (R378). -/
def calHolds (s : State) (u : DramUnit) : Bool :=
  s.mnt.queue.any (fun q => q.running && match u with
    | .pc n => q.act = actFCAL && q.unit = n.val
    | .rank ch _ => q.act = actMCAL && q.unit = ch.val)

/-- Requests that can issue: those to a bank under repair wait, and those to a unit in a calibration step (R331, R378). -/
def issuable (s : State) (u : DramUnit) : List Waiting :=
  if calHolds s u then []
  else (getDram s (queueKey u)).q.filter (fun w => !(repairBanks s (sysOf u)).contains (unitField u w.req, w.req.bank.toNat))

/-- The row of a request is open. -/
def rowOpen (s : State) (u : DramUnit) (r : MemReq) : Bool :=
  sGet zeroN r.bank.toNat (getDram s (dramKey (unitOfReq u r))).rows = r.row.toNat + 1

/-- Ports in ascending order, starting after the one last served at urgency 3. -/
def portOrder (n last : Nat) : List Nat := (List.range n).map (fun i => (last + 1 + i) % n)

/-- The request of urgency 3 whose turn it is (R317, R318). -/
def pick3 (s : State) (u : DramUnit) : Option Waiting :=
  let n := portCount (sysOf u)
  let at3 := (issuable s u).filter (fun w => urgency s (sysOf u) w = 3)
  let last := if n ≤ (getDram s (queueKey u)).rot then n - 1 else (getDram s (queueKey u)).rot
  (portOrder n last).findSome? (fun p => oldestReq (at3.filter (fun w => w.req.port = p)))

/-- Within a level, a request to an open row first, then the oldest. -/
def pickLevel (s : State) (u : DramUnit) (k : Nat) : Option Waiting :=
  let l := (issuable s u).filter (fun w => urgency s (sysOf u) w = k)
  match oldestReq (l.filter (fun w => rowOpen s u w.req)) with
  | some r => some r
  | none => oldestReq l

/-- A request of urgency 2 or 3 waits (R321). -/
def pressing (s : State) (u : DramUnit) : Bool := (issuable s u).any (fun w => decide (2 ≤ urgency s (sysOf u) w))

/-- The request that the next command slot issues, none when a refresh goes before (R317). -/
def pickReq (s : State) (u : DramUnit) : Option Waiting :=
  if urgentFirst s u then none
  else
    match pick3 s u with
    | some r => some r
    | none =>
      if (getDram s (queueKey u)).refresh ≠ [] then none
      else
        match pickLevel s u 2 with
        | some r => some r
        | none =>
          match pickLevel s u 1 with
          | some r => some r
          | none => pickLevel s u 0

/-- The request's row is open in its bank. -/
def openRow (u : DramUnit) (r : MemReq) (s : State) : State :=
  setUnit u (fun d => { d with rows := sPut zeroN r.bank.toNat (r.row.toNat + 1) d.rows }) s

/-- The request is issued: its row is opened if it is not open, its data is moved, and its entry is free. -/
def issueReq (u : DramUnit) (w : Waiting) (errs : SymErrs) (s : State) : State :=
  let v := unitOfReq u w.req
  let d := getDram s (queueKey u)
  let s1 := putDram (queueKey u) { d with
    q := d.q.erase w, rot := if urgency s (sysOf u) w = 3 then w.req.port else d.rot } s
  let s2 := setUnit v (fun d => { d with busyAt := 4 * (s.now : Int) }) s1
  let s3 := if rowOpen s u w.req then s2 else openRow v w.req (activate v w.req.bank.toNat w.req.row.toNat s2)
  serveData (sysOf u) w.req errs (takeHeld u s3)

/-- A command slot: requests that have reached the controller take their entries, and the first in the order of R317 is issued.
`errs` are the errors on the codeword that it reads. -/
def execMemoryRequestIssue (u : DramUnit) (arrivals : List MemReq) (errs : SymErrs) (s : State) :
    Host.Outcome State Fault Refusal :=
  done (
    if !unitRuns s u then s
    else
      let s1 := (arrivals.filter (reqOk u)).foldl (arrive u) s
      match pickReq s1 u with
      | none => s1
      | some w => issueReq u w errs s1)

/-- A queued neighbour refresh goes before all but urgent refreshes and requests at urgency 3 (R317). -/
def execNeighbourRefresh (u : DramUnit) (s : State) : Host.Outcome State Fault Refusal :=
  done (if unitRuns s u && !urgentFirst s u && (pick3 s u).isNone then issueNeighbour u s else s)

/-- A due or pulled-in refresh (R321): it leaves power-down (R325). -/
def dueRefresh (u : DramUnit) (s : State) : State :=
  refresh u (setUnit u (fun d => { d with pd := false, refAt := some (4 * (s.now : Int)) }) s)

/-- Pseudo-channels of the stack of pseudo-channel `n` in which a due or pulled-in refresh is under way: 410 ns (R309, R321). -/
def refreshing (s : State) (n : Nat) : Nat :=
  ((List.range 16).filter (fun i =>
    match (getDram s (16 * (n / 16) + i)).refAt with
    | none => false
    | some t => decide (4 * (s.now : Int) < t + 410))).length

/-- The stagger of R321 leaves room. -/
def staggerOk (s : State) : DramUnit → Bool
  | .pc n => decide (refreshing s n.val < 4)
  | .rank _ _ => true

/-- A refresh is issued when it is due, and `early` pulled in in a unit idle for 200 ns, at a command slot that nothing before
it in R317 takes (R321) (log entry 25, DEDUCED). -/
def execRefreshDue (u : DramUnit) (early : Bool) (s : State) : Host.Outcome State Fault Refusal :=
  done (
    if !unitRuns s u || urgentFirst s u || !staggerOk s u || pressing s u || (getDram s (queueKey u)).refresh ≠ [] then s
    else if 0 ≤ debt s u then dueRefresh u s
    else if early && idleFor s u 200 && decide (-(4 * trefi s u) ≤ debt s u) then dueRefresh u s
    else s)

/-! ### Temperature, power-down and self-refresh (R322, R325, R326) -/

/-- A reading makes a unit hot, or cool after 8 in a row below 83 °C: the state and the count. Readings are S12.4 °C. -/
def hotNext (hot : Bool) (cool : Nat) (t : BitVec 16) : Bool × Nat :=
  if 1360 ≤ t.toInt then (true, 0)
  else if t.toInt < 1328 then if hot && 7 ≤ cool then (false, 0) else (hot, if hot then cool + 1 else 0)
  else (hot, 0)

/-- MSC_STAT.HOT bit i: either rank of channel i is hot. -/
def setChHot (ch : Nat) (s : State) : State :=
  setRegBit Reg.MSC_STAT ch ((getDram s (32 + 2 * ch)).hot || (getDram s (33 + 2 * ch)).hot) s

def tempFrame (stack : Nat) (t : BitVec 16) (s : State) : State :=
  let hot := regBit s Reg.MFS_STAT stack
  let (h, c) := hotNext hot (getDram s (16 * stack)).cool t
  let s1 := setRegFld Reg.MFS_TEMP (16 * stack) 16 t.toNat
    (putDram (16 * stack) { getDram s (16 * stack) with cool := c } s)
  if h = hot then s1
  else raise 458 (stack + 2 * h.toNat + 2 ^ 16 * t.toNat) (setRegBit Reg.MFS_STAT stack h s1)

/-- MSC_EV_HOT carries channel and rank where MFS_EV_HOT has its stack and flag. -/
def tempRank (ch k : Nat) (t : BitVec 16) (code : Byte) (s : State) : State :=
  let d := getDram s (32 + 2 * ch + k)
  let (h, c) := hotNext d.hot d.cool t
  let s1 := setChHot ch (putDram (32 + 2 * ch + k) { d with hot := h, cool := c, code := code } s)
  if h = d.hot then s1
  else raise 470 (ch + 4 * k + 2 ^ 16 * t.toNat) s1

def execMemoryTempRead (u : DramUnit) (t : BitVec 16) (code : Byte) (s : State) : Host.Outcome State Fault Refusal :=
  done (
    if !unitOn s (unitPage u) then s
    else
      match u with
      | .pc n => tempFrame (n.val / 16) t s
      | .rank ch k => tempRank ch.val k.val t code s)

/-- PD_TIMER. -/
def pdTimer (s : State) (sys : MemSys) : Nat := regFld s (memBase sys + 0x40) 16 8

/-- Idle time after which a unit enters power-down, nanoseconds; in Evening 200 ns in scene memory (R325, R416). -/
def pdTime (s : State) (sys : MemSys) : Option Nat :=
  if sys = .scene && s.pwr.st = .evening then some 200
  else if pdTimer s sys = 0 then none
  else some (100 * pdTimer s sys)

def execPowerDownEntry (u : DramUnit) (s : State) : Host.Outcome State Fault Refusal :=
  done (
    match pdTime s (sysOf u) with
    | none => s
    | some n => if unitRuns s u && idleFor s u n then setUnit u (fun d => { d with pd := true, rows := [] }) s else s)

/-- Self-refresh begins: the debt stands still. -/
def enterSr (k : Nat) (s : State) : State :=
  let d := getDram s k
  if d.sr then s else putDram k { d with sr := true, pd := false, rows := [], srDebt := 4 * (s.now : Int) - d.paid } s

/-- Self-refresh ends: the debt is 0 (R321). -/
def exitSr (k : Nat) (s : State) : State :=
  let d := getDram s k
  if d.sr then putDram k { d with sr := false, urgent := 0, srDebt := 0, paid := 4 * (s.now : Int) } s else s

/-- The units after their controller's initialisation: no debt, nothing waiting (R320). -/
def freshDram (now : Nat) : Sparse DramAux :=
  (List.range 40).foldl (fun l k => sPut (fun _ => {}) k { paid := 4 * (now : Int), busyAt := 4 * (now : Int) } l) []

/-- Keys of a system's units. -/
def unitKeys : MemSys → List Nat
  | .frame => List.range 32
  | .scene => (List.range 8).map (· + 32)

def enterSrAll (sys : MemSys) (s : State) : State := (unitKeys sys).foldl (fun s k => enterSr k s) s

/-- All units of a system leave self-refresh, with the tables of R323 cleared (R326). -/
def exitSrAll (sys : MemSys) (s : State) : State :=
  let s1 := (unitKeys sys).foldl (fun s k => exitSr k s) s
  match sys with
  | .frame => { s1 with acts := [] }
  | .scene => s1

/-- The contents are marked unverified (R326). `unver` says that a whole scrub pass has begun since. -/
def setUnverified (sys : MemSys) (s : State) : State :=
  let s1 := setRegBit (memBase sys + 0x44) 4 true s
  setMem sys { getMem s1 sys with unver := decide ((getMem s1 sys).scrub = 0) } s1

/-! ### Patrol scrub (R329) -/

/-- Codewords of the used storage. -/
def scrubEnd : MemSys → Nat
  | .frame => 132986880
  | .scene => 536870912

/-- The scrub port has access: its unit is enabled, and nothing is in self-refresh (R43, R326). -/
def scrubPort (s : State) (sys : MemSys) : Bool :=
  unitOn s (memBase sys / 4096) && (unitKeys sys).all (fun k => !(getDram s k).sr)

/-- The scrub port may read: SCRUB_EN, and not in self-refresh. -/
def scrubRuns (s : State) (sys : MemSys) : Bool := scrubPort s sys && regBit s (memBase sys + 0x40) 0

/-- A pass ends. -/
def scrubPassEnd (sys : MemSys) (s : State) : State :=
  let m := getMem s sys
  let unv := regBit s (memBase sys + 0x44) 4
  let s1 := raise (memEv sys + 6) (m.corr % 2 ^ 32) (bumpWrap (memBase sys + 0x68) s)
  let s2 := if unv && m.unver then setRegBit (memBase sys + 0x44) 4 false s1 else s1
  setMem sys { getMem s2 sys with scrub := 0, corr := 0, rows := [], unver := unv && !m.unver } s2

/-- The error word that stays after the correction: none, but where the decoder corrects to another codeword (R327). -/
def residue (sys : MemSys) (errs : SymErrs) : List Nat :=
  polyAdd (errWord sys errs) ((correction sys errs).getD [])

/-- The scrub port's reading of codeword `c`. A corrected codeword is written back unless a write came between; the
bytes stored are what the correction gives. -/
def scrubCw (sys : MemSys) (c : Nat) (errs : SymErrs) (writeArrived : Bool) (s : State) : State :=
  match found s sys c (readEcc sys errs) with
  | .clean => s
  | .corrected =>
    let s1 := countCorr sys (c * cwSize sys) s
    let m := getMem s1 sys
    let s2 := setMem sys { m with corr := m.corr + 1,
                                  rewrite := if writeArrived then m.rewrite else m.rewrite.filter (· ≠ c) } s1
    if writeArrived then s2 else applyErrs sys c (residue sys errs) s2
  | .uncorrectable => uncorr sys (c * cwSize sys) 3 (spoil sys c errs s)

def execScrubRead (sys : MemSys) (errs : SymErrs) (writeArrived : Bool) (s : State) : Host.Outcome State Fault Refusal :=
  done (
    if !scrubRuns s sys then s
    else
      let c := (getMem s sys).scrub
      let s1 := scrubCw sys c errs writeArrived s
      if c + 1 < scrubEnd sys then setMem sys { getMem s1 sys with scrub := c + 1 } s1
      else scrubPassEnd sys s1)

/-- The scrub port rewrites the codeword that has waited longest since its corrected demand read; found uncorrectable
by now, it is counted and left as stored (R328, R329). -/
def execScrubRewrite (sys : MemSys) (s : State) : Host.Outcome State Fault Refusal :=
  done (
    if !scrubPort s sys then s
    else
      let m := getMem s sys
      match m.rewrite with
      | [] => s
      | c :: t =>
        let s1 := setMem sys { m with rewrite := t } s
        if (ueOf s1 sys).contains c then uncorr sys (c * cwSize sys) 3 s1 else s1)

/-! ### Repair list commands (R331) -/

/-- Effect of a write of MFS_PPR_CMD or MSC_PPR_CMD. -/
def effPprCmd (sys : MemSys) (v : Word) (s : State) : State :=
  let e := fld v 0 4
  if fld v 28 4 = 1 then
    if fld (rplGet s sys e) 30 2 = 0 then s else mntPush (pprAct sys) e true s
  else if fld v 28 4 = 2 then rplSet sys e 0 s
  else s

def pprCmd (m : Master) (sys : MemSys) (v : Word) (s : State) : State :=
  writeWith m (memBase sys + 0xA0) v (effPprCmd sys v) s

def execSoft (m : Master) (sys : MemSys) (entry : Fin 16) (s : State) : Host.Outcome State Fault Refusal :=
  done (pprCmd m sys (w32 (2 ^ 28 + entry.val)) s)

def execDrop (m : Master) (sys : MemSys) (entry : Fin 16) (s : State) : Host.Outcome State Fault Refusal :=
  done (pprCmd m sys (w32 (2 * 2 ^ 28 + entry.val)) s)

/-! ### Status registers -/

def memStat (s : State) (sys : MemSys) : Word :=
  setFld (getReg s (memBase sys + 0x44)) 8 5
    ((List.range 16).filter (fun i => fld (rplGet s sys i) 30 2 ≠ 0)).length

/-- A refresh debt in 10 ns, rounded down (log entry 25, DEDUCED). -/
def debtReg (s : State) (u : DramUnit) : Word := w32 (tc 32 (divFloor (debt s u) 10))

def pcStat (s : State) (n : Nat) : Word :=
  let d := getDram s n
  setFld (setBit (setBit (setBit (setBit 0 0 d.pd) 1 d.sr) 2 (d.urgent ≠ 0)) 3 d.repair) 16 9 d.q.length

def rkStat (s : State) (ch k : Nat) : Word :=
  let d := getDram s (32 + 2 * ch + k)
  setFld (setBit (setBit (setBit (setBit 0 0 d.pd) 1 d.sr) 2 (d.urgent ≠ 0)) 3 d.hot) 8 8 d.code.toNat

def chOut (s : State) (ch : Nat) : Word := w32 ((getDram s (32 + 2 * ch)).q.length % 2 ^ 11)

end Sys2Proof.Machine
end

