-- ==== Sys2Proof/Machine/Chain.lean ====
section
/-!
DEFINITION. Backlight tiles: block timing, chain frames, references, boost, life and diagnosis (10_backlight.md,
R276–R308; R375, R380).
-/
namespace Sys2Proof.Machine

/-! ### Block timing (R278, R281) -/

def bklBLANK (s : State) : Nat := clampN 3 32 (regFld s Reg.BKL_SCAN 16 6)
def bklON (s : State) : Nat := min (regFld s Reg.BKL_SCAN 22 10) (546 - bklBLANK s)

/-- A_R of tile `t`. -/
def tileLine (s : State) (t : Nat) : Nat := 2160 * (t / 6) + clampN 136 2026 (regFld s Reg.BKL_SCAN 0 12)

/-- The block of tile `t` that starts at line `L`, and whether it belongs to the panel frame in progress. -/
def blockAt (s : State) (t L : Nat) : Option (Nat × Bool) :=
  match (List.range 16).find? (fun j => tileLine s t + 546 * j = L) with
  | some j => some (j, true)
  | none => ((List.range 16).find? (fun j => tileLine s t + 546 * j = L + 8736)).map (fun j => (j, false))

/-- `n` nominal line times in chain clock cycles (R285). -/
def chainCycles (mode n : Nat) : Nat := divRound (n * 125000000 * (modeT mode).1) (34944 * (modeT mode).2)

/-- T_block in units of 1/12 ns (R306). -/
def blockTime (mode : Nat) : Nat := 187500000 * (modeT mode).1 / (modeT mode).2

/-! ### Chain frames (R283–R286) -/

/-- The bits [415:0] of a word, as a number. -/
def wordBits (opc pos : BitVec 4) (seq : BitVec 8) (arg : BitVec 16) (payload : BitVec 384) : Nat :=
  opc.toNat + 2 ^ 4 * pos.toNat + 2 ^ 8 * seq.toNat + 2 ^ 16 * arg.toNat + 2 ^ 32 * payload.toNat

def wordCrc (w : ChainWord) : Nat := crc16 (leBytes 52 (wordBits w.opc w.pos w.seq w.arg w.payload))

/-- A word with its CRC. -/
def mkWord (opc d seq arg payload : Nat) : ChainWord :=
  let w : ChainWord := ⟨BitVec.ofNat 4 opc, BitVec.ofNat 4 d, BitVec.ofNat 8 seq, BitVec.ofNat 16 arg,
    BitVec.ofNat 384 payload, 0⟩
  { w with crc := BitVec.ofNat 16 (wordCrc w) }

/-- A frame, word by word for drivers 0–7. -/
def mkFrame (kind opc seq arg : Nat) (payload : Nat → Nat) : SentFrame :=
  { kind := kind, words := (List.range 8).map (fun d => mkWord opc d seq arg (payload d)) }

/-- A word's 432 bits in the order they are sent (R283). -/
def wordLine (w : ChainWord) : List Bool :=
  let n := wordBits w.opc w.pos w.seq w.arg w.payload + 2 ^ 416 * w.crc.toNat
  (List.range 432).map n.testBit

/-- A frame's 3,456 bits: the word for driver 7 first, each word from its bit 0 (R283). -/
def frameBits (f : SentFrame) : List Bool := f.words.reverse.flatMap wordLine

def nopFrame (seq : Nat) : SentFrame := mkFrame 6 0 seq 0 (fun _ => 0)

/-- The NOP frame after `f`: SEQ counts on (R283). -/
def nextNop (f : SentFrame) : SentFrame := nopFrame (((f.words.head?.map (fun w => w.seq.toNat)).getD 0 + 1) % 256)

/-- F1: the codes of a block on scan line `j`, column group `g`. -/
def codesFrame (seq j g : Nat) (codes : List Byte) : SentFrame :=
  mkFrame 1 1 seq (j + 2 ^ 4 * g) (fun d => ofLe ((codes.drop (48 * d)).take 48))

/-- F2: references, boost and the pulse list. -/
def setupFrame (seq : Nat) (ref : Nat → Nat) (boost dline : Nat) (pulse : List Nat) : SentFrame :=
  mkFrame 2 2 seq 0 (fun d => ref 0 + 2 ^ 16 * ref 1 + 2 ^ 32 * ref 2 + (if d = 0 then 2 ^ 48 * boost else 0) +
    2 ^ 60 * pulse.length + ((pulse.zipIdx).map (fun q => q.1 * 2 ^ (64 + 16 * q.2))).sum + 2 ^ 192 * dline)

/-- F3, and the identity read. -/
def statusFrame (kind seq page : Nat) : SentFrame := mkFrame kind 3 seq page (fun _ => 0)

/-- A register write to every driver. -/
def wrregFrame (kind seq r v : Nat) : SentFrame := mkFrame kind 4 seq (2 ^ 8 * r) (fun _ => v)

def selectFrame (seq : Nat) (p : Path) : SentFrame := mkFrame 5 5 seq (if p = .b then 1 else 0) (fun _ => 0)

/-! ### Responses (R289, R294) -/

/-- The response of one driver is good. -/
def goodWord (sent recv : ChainWord) : Bool :=
  recv.crc.toNat = wordCrc recv && recv.pos = sent.pos && recv.opc = sent.opc && recv.seq = sent.seq &&
  recv.arg.getLsbD 0 && !recv.arg.getLsbD 1 && (sent.opc = 3 || recv.payload = sent.payload)

def goodResponse (f : SentFrame) (words : List ChainWord) : Bool :=
  decide (f.words.length = words.length) && (f.words.zip words).all (fun q => goodWord q.1 q.2)

def goodEcho (f : SentFrame) (words : List ChainWord) : Bool := f.words = words

/-- Driver 0 reports SWITCHED. -/
def switched (words : List ChainWord) : Bool := (words.head?.map (fun w => w.arg.getLsbD 5)).getD false

/-! ### Paths (R293–R298) -/

def otherPath : Path → Path
  | .a => .b
  | .b => .a

def pathNum : Path → Nat
  | .a => 0
  | .b => 1

def getPath (x : Tile) : Path → PathAux
  | .a => x.pa
  | .b => x.pb

def putPath (p : Path) (a : PathAux) (x : Tile) : Tile :=
  match p with
  | .a => { x with pa := a }
  | .b => { x with pb := a }

/-- The role carries the block's frames. -/
def carries : PathRole → Bool
  | .selected => true
  | .standby => true
  | _ => false

/-- Frames go out on a path: on a path in use behind what it still awaits, else NOP frames. -/
def sendOn (frames : List SentFrame) (seq : Nat) (a : PathAux) : PathAux :=
  if carries a.role then { a with pend := a.pend ++ frames, dat := frames.flatMap frameBits }
  else if a.pend.isEmpty then { a with pend := [nopFrame seq], dat := frameBits (nopFrame seq) }
  else a

/-- Frames go out on a path for the first time or again, in place of what it awaits. -/
def sendOnly (frames : List SentFrame) (a : PathAux) : PathAux :=
  { a with pend := frames, dat := frames.flatMap frameBits }

/-- The next NOP frame goes out on a path that is not in use. -/
def nopOn (f : SentFrame) (a : PathAux) : PathAux := sendOnly [nextNop f] a

/-- A path takes another role. -/
def roleTo (r : PathRole) (seq : Nat) (a : PathAux) : PathAux :=
  let b := { a with role := r, good := 0, bad := 0, barred := false }
  if carries r then b else sendOnly [nopFrame seq] b

def tileCode : TileState → Nat
  | .absent => 0
  | .init => 1
  | .on => 2

/-- BKL_EV_TILE for the tile as it stands. -/
def tileEvent (t : Nat) (s : State) : State :=
  let x := getTile s t
  raise 428 (t + 2 ^ 8 * tileCode x.st + 2 ^ 32 * (x.serial.toNat % 2 ^ 32)) s

/-- BVER requests and activities of a path leave the scheduler. -/
def endBver (t : Nat) (p : Path) (s : State) : State :=
  { s with mnt := { s.mnt with
    queue := s.mnt.queue.filter (fun q => !(q.act = actBVER && q.unit = 2 * t + pathNum p)) } }

/-- What goes out again on a path that takes over: what the failed path still awaited, then the block's frames (R289). -/
def sentAgain (x : Tile) (a : PathAux) : List SentFrame :=
  a.pend.filter (fun f => f.kind ≠ 6 && f.kind ≠ 5 && !x.frames.contains f) ++ x.frames

/-- Path `o` becomes SELECTED in place of `a`, through SELECT (R289, R295). -/
def selectNow (x : Tile) (a : PathAux) (o : Path) (x1 : Tile) : Tile :=
  let b := { getPath x o with role := .selected, good := 0, bad := 0 }
  { putPath o (sendOnly (selectFrame x.seq.toNat o :: sentAgain x a) b) x1 with sel := o, seq := x.seq + 1 }

/-- A path is declared FAILED (R295): a SELECTED one with the other on STANDBY is replaced through SELECT, and the
block's frames are sent again; without one it stays in use (R296). A verification of the path is over. -/
def failPath (t : Nat) (p : Path) (cause : Nat) (s : State) : State :=
  let x := getTile s t
  let a := getPath x p
  let o := otherPath p
  let b := getPath x o
  if a.role = .failed || (a.role = .selected && b.role ≠ .standby) then s
  else
    let x1 := putPath p (roleTo .failed x.seq.toNat a) x
    let x2 := if a.role = .selected then selectNow x a o x1 else x1
    raise 426 (t + 2 ^ 8 * pathNum p + 2 ^ 12 * cause) (bumpSat Reg.BKL_N_PATHFAIL
      (putTile t x2 (if a.role = .verify then endBver t p s else s)))

/-! ### Life (R306, R307, R399) -/

/-- Units of `hw` in a millisecond. -/
abbrev hwMs : Nat := 12 * 1023 * 8160 * 1000000

def hwOf (x : Tile) (c : Nat) : Nat := sGet zeroN c x.hw

/-- Hw_c in milliseconds, truncated. -/
def hwMillis (x : Tile) (c : Nat) : Nat := hwOf x c / hwMs

/-- Rated life in milliseconds (log entry 22, DEDUCED). -/
def ratedMs (s : State) (t : Nat) : Nat := regN s (Reg.BKL_TRATED t) * 3600000

abbrev lifeKey (m c : Nat) : Nat := 0x100 + 3 * m + c

/-- The 7216 writes a tile's life record (R307). -/
def writeLife (t : Nat) (s : State) : State :=
  let x := getTile s t
  match x.lifeBlk with
  | none => s
  | some m => (List.range 3).foldl (fun s c =>
      ozRecord (.ring (lifePage s m + 2 + 2 * c) 8 (lifeKey m c) (w64 (hwMillis x c))) s) s

/-- Serial and last-seen seconds of life block `m`, where it is taken. -/
def lifeHeader (s : State) (m : Nat) : Option (DWord × Nat) :=
  (twinUsed s (lifePage s m) magicLife).map (fun r => (r.2.getD 0 0, dfld (r.2.getD 3 0) 0 48))

/-- The header words of a tile's life record (R399). -/
def headerWords (s : State) (t : Nat) : List DWord :=
  [(getTile s t).serial, w64 (t + 2 ^ 8 * regN s (Reg.BKL_TID t) + 2 ^ 32 * regN s (Reg.BKL_TRATED t)),
   w64 (regN s (Reg.BKL_TBIN t)), w64 (tbSec (getTb s (glTb s)).value % 2 ^ 48), 0, 0, 0]

def writeHeader (t : Nat) (s : State) : State :=
  match (getTile s t).lifeBlk with
  | none => s
  | some m => ozRecord (.life m (headerWords s t)) s

/-- The serial is that of a tile that is ON. -/
def serialOn (s : State) (d : DWord) : Bool := s.tiles.any (fun e => e.2.st = .on && e.2.serial = d)

/-- Of two blocks, the one seen longer ago. -/
def oldest (s : State) (a : Option Nat) (m : Nat) : Option Nat :=
  let seen := fun k => ((lifeHeader s k).map Prod.snd).getD 0
  match a with
  | none => some m
  | some k => if seen m < seen k then some m else some k

/-- The block for a new serial: the lowest free, else the longest absent (R307, R399). -/
def newBlock (s : State) : Option Nat :=
  match (List.range 64).find? (fun m => (lifeHeader s m).isNone) with
  | some m => some m
  | none => ((List.range 64).filter (fun m => ((lifeHeader s m).map (fun h => !serialOn s h.1)).getD true)).foldl
      (oldest s) none

/-- The headers of every life block are read (R307, R383). -/
def readHeaders (s : State) : State :=
  ozReads (fun w => decide (lifePage s 0 ≤ w / 8) && decide (w / 8 < lifePage s 64) && (w / 8 - lifePage s 0) % 8 < 2) s

/-- Open the life record of tile `t`'s serial, or take a block for it (R305, R307). -/
def openLife (t : Nat) (s0 : State) : State :=
  let s := readHeaders s0
  let x := getTile s t
  match (List.range 64).find? (fun m => (lifeHeader s m).map Prod.fst = some x.serial) with
  | some m =>
    let ms := fun c => ((ringNewest s (lifePage s m + 2 + 2 * c) 8 (lifeKey m c)).map (fun b => b.value.toNat)).getD 0
    putTile t { x with lifeBlk := some m, lifeTold := (List.range 3).filter (fun c => decide (ratedMs s t ≤ ms c)),
                       hw := (List.range 3).foldl (fun l c => sPut zeroN c (ms c * hwMs) l) [] } (ozReadAt (8 * (lifePage s m + 2)) 48 s)
  | none =>
    match newBlock s with
    | none => putTile t { x with lifeBlk := none, hw := [], lifeTold := [] } s
    | some m => writeLife t (writeHeader t (putTile t { x with lifeBlk := some m, hw := [], lifeTold := [] } s))

/-! ### Currents, references and boost (R290–R292) -/

/-- The units that drive tile `t` are enabled (R43). -/
def tileMay (s : State) (t : Nat) : Bool := enabled s 0x2A && enabled s (0x2B + t / 8)

/-- Night is on: only tiles T18–T23 are lit, in block 15 (R308). -/
def nightOn (s : State) : Bool := s.pwr.st = .night

/-- The reference of a colour in use: BKL_TREFA. -/
def refOf (s : State) (t c : Nat) : Nat := regFld s (Reg.BKL_TREFA t) (10 * c) 10

/-- Mean die temperature of a tile, 25 °C before the first STATUS. -/
def tileTemp (x : Tile) : Int :=
  if x.temps.isEmpty then 400 else sar x.temps.sum 3

def tcEntry (s : State) (c i : Nat) : Nat := fld (getTab s tabTC true (9 * c + i)) 0 16

/-- The reference of R291 before it saturates. With a rated life of 0 the manual states none: a free value. -/
def refRaw (s : State) (t c : Nat) : Nat :=
  let u := (clampI (-160) 1760 (tileTemp (getTile s t)) + 160).toNat
  let i := min (u / 240) 7
  let k := (tcEntry s c i : Int) + divFloor (((tcEntry s c (i + 1) : Int) - tcEntry s c i) * (u - 240 * i : Nat) + 120) 240
  let lr := ratedMs s t
  let lf := 16384 - (9830 * min (hwMillis (getTile s t) c) lr + lr) / (2 * lr)
  let ka := (2 ^ 29 + lf) / (2 * lf)
  if lr = 0 then freeVal s
  else (regFld s (Reg.BKL_TREF t) (10 * c) 10 * k.toNat * ka + 2 ^ 27) / 2 ^ 28

/-- Compute one reference of a tile (R291); in Night it is that of BKL_NIGHT (R308). -/
def newRef (t : Nat) (s : State) (c : Nat) : State :=
  let r := refRaw s t c
  let s1 := if ratedMs s t = 0 then tickFree s else s
  let s2 := setRegFld (Reg.BKL_TREFA t) (10 * c) 10 (min r 1023) s1
  if nightOn s then setRegFld (Reg.BKL_TREFA t) (10 * c) 10 (regFld s Reg.BKL_NIGHT 16 10) s
  else if 1023 < r then raise 430 (t + 2 ^ 8 * c) s2
  else s2

/-- The references of a panel frame, at its slot tick (R291). -/
def newRefs (t : Nat) (s : State) : State := (List.range 3).foldl (newRef t) s

/-- Vneed: the largest Vf of the last 16 windows, in 10 mV (R292). -/
def vneed (x : Tile) : Option Nat :=
  (x.vf.filter (fun e => decide (x.win < e.1 + 16))).foldl (fun a e => some (max (a.getD 0) e.2)) none

/-- The next BOOST, in 10 mV (R292). -/
def nextBoost (s : State) (x : Tile) : Nat :=
  let vmax := regFld s Reg.BKL_BOOST 12 12
  let target := match vneed x with
    | none => vmax
    | some v => v + regFld s Reg.BKL_BOOST 24 8
  clampN (regFld s Reg.BKL_BOOST 0 12) vmax
    (if x.boost < target then min (x.boost + 5) target else max (x.boost - 5) target)

/-- Night is to be left: a wake source, or a request for Noon or Evening (R418, R420). -/
def leavingNight (s : State) : Bool :=
  s.pwr.leaving.isSome || (s.pwr.dip.isNone && (s.pwr.req = some .noon || s.pwr.req = some .evening))

/-- The codes of tile `t` for block `j` of a panel frame that shows `src` (R290, R308). -/
def blockCodes (s : State) (t j slot : Nat) (src : Option (Nat × Nat)) : List Byte :=
  (List.range 384).map (fun h =>
    if (h / 3) % 4 ≠ slot then 0
    else if nightOn s then (if 18 ≤ t && j = 15 then BitVec.ofNat 8 (regFld s Reg.BKL_NIGHT 0 8) else 0)
    else
      match src with
      | none => 0
      | some (r, sl) => BitVec.ofNat 8 (zoneCode (zoneWord s r sl (zoneNum t (h / 12) j)) (h % 3)))

/-- S_c of a block: the sum of its codes of colour `c`. -/
def codeSum (codes : List Byte) (c : Nat) : Nat :=
  ((codes.zipIdx).map (fun q => if q.2 % 3 = c then q.1.toNat else 0)).sum

/-! ### Diagnosis (R299–R301) -/

/-- One result of string (h, j) for a count in a row: the count's new value. -/
def resultCount (bad : Bool) (k : Nat) (l : Sparse Nat) : Sparse Nat :=
  sPut zeroN k (if bad then sGet zeroN k l + 1 else 0) l

/-- An open result, or a good one (R301). -/
def openResult (t h j : Nat) (bad : Bool) (s : State) : State :=
  let k := 16 * h + j
  let x := getTile s t
  let x1 := { x with opens := resultCount bad k x.opens }
  if 2 ≤ sGet zeroN k x1.opens && !x.openSet.contains k then
    raise 424 (t + 2 ^ 8 * h + 2 ^ 20 * j) (putTile t { x1 with openSet := k :: x1.openSet } s)
  else putTile t x1 s

def shortResult (t h j : Nat) (bad : Bool) (s : State) : State :=
  let k := 16 * h + j
  let x := getTile s t
  let x1 := { x with shorts := resultCount bad k x.shorts }
  if 2 ≤ sGet zeroN k x1.shorts && !x.shortSet.contains k then
    raise 425 (t + 2 ^ 8 * h + 2 ^ 20 * j) (putTile t { x1 with shortSet := k :: x1.shortSet } s)
  else putTile t x1 s

/-- A field of a response's payload. -/
def pay (w : ChainWord) (lsb n : Nat) : Nat := nfld w.payload.toNat lsb n

/-- Vf of a sink in 10 mV; `force` is the boost in force during the window. -/
def vfOf (force : Nat) (w : ChainWord) (m : Nat) : Nat := force - 5 * pay w (6 * m) 6

/-- The sink was measured: its voltage, or an open finding. -/
def measured (w : ChainWord) (m : Nat) : Bool := pay w (6 * m) 6 ≠ 63 || pay w (288 + m) 1 = 1

/-- The results of one sink in a window on scan line `j` (R299). -/
def sinkResult (t d m j force : Nat) (w : ChainWord) (s : State) : State :=
  let h := 48 * d + m
  let op := pay w (288 + m) 1 = 1
  if measured w m then
    let s1 := openResult t h j op s
    if op then s1 else shortResult t h j (vfOf force w m < 10 * regFld s Reg.BKL_DIAG 0 8) s1
  else s

/-- The pulse results of one driver (R300). -/
def pulseResult (t dline : Nat) (w : ChainWord) (s : State) (q : Nat × Nat) : State :=
  if pay w (344 + q.2) 1 = 1 then openResult t q.1 dline (pay w (336 + q.2) 1 = 1) s else s

/-- Channels of driver `d` in a pulse list, with their places. -/
def pulsesOf (pulse : List Nat) (d : Nat) : List (Nat × Nat) := (pulse.zipIdx).filter (fun q => q.1 / 48 = d)

/-- The results that a driver's STATUS page 0 reports. -/
def driverResult (t : Nat) (r : StatusOf) (s : State) (q : ChainWord × Nat) : State :=
  let s1 := match r.line with
    | none => s
    | some j => (List.range 48).foldl (fun s m => sinkResult t q.2 m j r.force q.1 s) s
  (pulsesOf r.pulse q.2).foldl (pulseResult t r.dline q.1) s1

/-- The largest Vf of the window (R292). -/
def windowVf (force : Nat) (words : List ChainWord) : Option Nat :=
  words.foldl (fun a w => (List.range 48).foldl (fun a m =>
    if pay w (6 * m) 6 ≠ 63 && pay w (288 + m) 1 = 0 then some (max (a.getD 0) (vfOf force w m)) else a) a) none

/-- A trim for a temperature (R375), from entries 4c to 4c + 3 of CAL_LEDSET. -/
def interp4 (v : Nat → Int) (t : Int) : Int :=
  if t ≤ 400 then v 0
  else if 1680 ≤ t then v 3
  else
    let i := if t < 880 then 0 else if t < 1360 then 1 else 2
    let p : Int := if i = 0 then 400 else if i = 1 then 880 else 1360
    let w : Nat := if i = 2 then 320 else 480
    v i + divFloor (2 * (v (i + 1) - v i) * (t - p) + (w : Int)) (2 * w)

def ledTrim (s : State) (c : Nat) (t : Int) : Nat :=
  (interp4 (fun i => fld (getTab s tabLEDSET true (4 * c + i)) 0 12) t).toNat

/-- ΔT_cal (CAL_CTL). -/
def deltaTcal (s : State) : Int := max 16 (regFld s Reg.CAL_CTL 0 12)

/-- Compute a tile's three trims for its mean temperature; they go out one a block (R380). None while the reference is
bad (R373). -/
def startTrims (t : Nat) (s : State) : State :=
  let x := getTile s t
  let m := tileTemp x
  if s.thm.refBad || !enabled s 0x37 then s
  else putTile t { x with trims := (List.range 3).map (fun c => (4 + c, ledTrim s c m)), trimTemp := m } s

/-- Whether the tile's temperature asks for new trims: always at its first reading. -/
def trimsDue (s : State) (x : Tile) : Bool :=
  x.trims.isEmpty && (match x.tref with
    | none => true
    | some r => regBit s Reg.CAL_CTL 20 && deltaTcal s < ((tileTemp x - r).natAbs : Int))

/-- Vf of the window that a STATUS reports joins those of the last 16 windows (R292). -/
def vfWith (x : Tile) (r : StatusOf) (words : List ChainWord) : List (Nat × Nat) :=
  match r.line, windowVf r.force words with
  | some _, some v => (r.win, v) :: x.vf.filter (fun e => decide (x.win < e.1 + 16))
  | _, _ => x.vf

/-- A good STATUS page 0 of all eight drivers, with what it reports on (R286). -/
def statusRead (t : Nat) (r : StatusOf) (words : List ChainWord) (s : State) : State :=
  let s1 := (words.zipIdx).foldl (driverResult t r) s
  let y := getTile s1 t
  let y1 := { y with vf := vfWith y r words, temps := words.map (fun w => sx 16 (pay w 352 16)) }
  let s2 := setRegN (Reg.BKL_TTEMP t) (tc 16 (tileTemp y1)) (putTile t y1 s1)
  if trimsDue s2 y1 then startTrims t s2 else s2

/-- Register of a WRREG frame. -/
def wrregOf (f : SentFrame) : Nat := (f.words.head?.map (fun w => nfld w.arg.toNat 8 8)).getD 0

/-- The trim that goes out in a block: the first that is not out already (R380). -/
def nextTrim (x : Tile) : Option (Nat × Nat) :=
  let out := ((getPath x x.sel).pend.filter (fun f => f.kind = 4)).map wrregOf
  x.trims.find? (fun q => !out.contains q.1)

/-- A trim write is confirmed; after the third, T_ref follows (R380). -/
def trimDone (t : Nat) (f : SentFrame) (s : State) : State :=
  let x := getTile s t
  let rest := x.trims.filter (fun q => q.1 ≠ wrregOf f)
  putTile t { x with trims := rest, tref := if rest.isEmpty && !x.trims.isEmpty then some x.trimTemp else x.tref } s

/-! ### Identity (R303–R305) -/

/-- The tile starts its initialisation: the identity is read on its paths. -/
def tileInit (t : Nat) (s : State) : State :=
  let x := getTile s t
  let f := statusFrame 7 x.seq.toNat 1
  tileEvent t (putTile t { x with
    st := .init, idTries := 0, idGood := false, seq := x.seq + 1, frames := [f],
    pa := sendOn [f] x.seq.toNat { x.pa with pend := [] }, pb := sendOn [f] x.seq.toNat { x.pb with pend := [] } } s)

/-- Read the identity again. -/
def readAgain (t : Nat) (s : State) : State :=
  let x := getTile s t
  let f := statusFrame 7 x.seq.toNat 1
  putTile t { x with idTries := x.idTries + 1, seq := x.seq + 1, frames := [f],
                     pa := sendOn [f] x.seq.toNat x.pa, pb := sendOn [f] x.seq.toNat x.pb } s

/-- The register writes of R285. -/
def regFrames (s : State) (seq : Nat) : List SentFrame :=
  [wrregFrame 8 seq 1 (chainCycles (modeAct s) 546), wrregFrame 8 (seq + 1) 2 (chainCycles (modeAct s) (bklBLANK s)),
   wrregFrame 8 (seq + 2) 3 (chainCycles (modeAct s) (bklON s))]

/-- The register writes go to a tile again when the line timing changes (R285). -/
def writeTimes (s : State) (t : Nat) : State :=
  let x := getTile s t
  let fs := regFrames s x.seq.toNat
  if x.st = .on || (x.st = .init && x.idGood) then
    putTile t { x with seq := x.seq + 3, pa := sendOn fs x.seq.toNat x.pa, pb := sendOn fs x.seq.toNat x.pb } s
  else s

/-- The line timing changes in gate idle: every tile's drivers are told (R285) (log entry 22, DEDUCED). -/
def tellTimes (s : State) : State := (List.range 24).foldl writeTimes s

/-- The identity's CRC checks (R303). -/
def identityGood (w : ChainWord) : Bool := pay w 368 16 = crc16 (leBytes 46 (pay w 0 368))

/-- A good identity (R305). -/
def identityRead (t : Nat) (w : ChainWord) (s : State) : State :=
  let serial := w64 (pay w 0 64)
  let s1 := setRegN (Reg.BKL_TRATED t) (pay w 104 32) (setRegN (Reg.BKL_TBIN t) (pay w 80 24)
    (setRegN (Reg.BKL_TID t) (pay w 64 16) (setReg (Reg.BKL_TSER_HI t) (hi32 serial)
      (setReg (Reg.BKL_TSER_LO t) (lo32 serial) s))))
  let x := getTile s1 t
  let kept := x.lastOn = some serial
  let fs := regFrames s1 x.seq.toNat
  let x1 := { x with
    serial := serial, idGood := true, seq := x.seq + 3, tref := none, trims := [], vf := [], temps := [], frames := [],
    opens := if kept then x.opens else [], shorts := if kept then x.shorts else [],
    openSet := if kept then x.openSet else [], shortSet := if kept then x.shortSet else [],
    pa := sendOn fs x.seq.toNat x.pa, pb := sendOn fs x.seq.toNat x.pb }
  openLife t (putTile t x1 s1)

/-- An identity response (R305): read again up to 8 times. -/
def identityStep (t : Nat) (words : List ChainWord) (s : State) : State :=
  match words.head? with
  | none => s
  | some w =>
    if identityGood w then identityRead t w s
    else if (getTile s t).idTries < 8 then readAgain t s
    else tileEvent t s

/-- At a slot tick an initialised tile becomes ON (R305). -/
def tileOn (t : Nat) (s : State) : State :=
  let x := getTile s t
  if x.st = .init && x.idGood then
    writeHeader t (tileEvent t (putTile t { x with
      st := .on, lastOn := some x.serial, lost := 0, block := 16, f1 := false, f2 := false, boost := 0, src := none, frames := [],
      curLine := none, pulseNow := [], codes := [], refs := [] } s))
  else s

/-- The tile becomes ABSENT (R296). -/
def tileAbsent (t : Nat) (s : State) : State :=
  let x := getTile s t
  let s1 := writeHeader t (writeLife t s)
  tileEvent t (endBver t .a (endBver t .b (putTile t { x with
    st := .absent, pa := roleTo .failed x.seq.toNat x.pa, pb := roleTo .failed x.seq.toNat x.pb, lost := 0,
    idGood := false, frames := [], codes := [], trims := [], restoreTo := none } s1)))

end Sys2Proof.Machine
end

