-- ==== Sys2Proof/Machine/Backlight.lean ====
section
/-!
DEFINITION. Backlight commands: APPLY of a block, chain responses, alerts, timers and BKL_TCTL (10_backlight.md).
-/
namespace Sys2Proof.Machine

/-! ### APPLY (R280, R287, R288, R306) -/

/-- The panel frame of the block after block `j`: what it shows and its slot. Block 0 is of the panel frame in progress. -/
def nextSource (s : State) (j : Nat) (cur : Bool) : Option (Nat × Nat) × Nat :=
  let slot := regFld s Reg.SCN_STAT 8 2
  if j < 15 && !cur then (s.scan.shownWas, (slot + 3) % 4) else (s.scan.shownAt, slot)

/-- F of R300 for the block after block `j`. -/
def nextF (s : State) (j : Nat) (cur : Bool) : Nat :=
  let f := 4 * regN s Reg.SCN_PERIOD + regFld s Reg.SCN_STAT 8 2
  if j < 15 && !cur then f - 1 else f

/-- The pulse list of block `j` of panel frame `f` (R300). -/
def pulseList (s : State) (j f : Nat) : List Nat :=
  if regBit s Reg.BKL_DIAG 31 && !nightOn s then
    (List.range 8).map (fun k => 8 * (16 * (f % 3) + (j + f / 3) % 16) + k)
  else []

/-- The weighted on-time grows by the block that starts now (R306). -/
def lightBlock (t : Nat) (s : State) (c : Nat) : State :=
  let x := getTile s t
  let hw := hwOf x c + blockTime (modeAct s) * x.refs.getD c 0 * codeSum x.codes c
  let s1 := putTile t { x with hw := sPut zeroN c hw x.hw } s
  if ratedMs s t ≤ hw / hwMs && !x.lifeTold.contains c then
    raise 431 (t + 2 ^ 8 * c) (putTile t { getTile s1 t with lifeTold := c :: x.lifeTold } s1)
  else s1

/-- References of the block after block `j`: those of its panel frame's slot tick (R291). -/
def nextRefs (s : State) (x : Tile) (t j : Nat) : List Nat :=
  if j < 15 && !x.refs.isEmpty then x.refs else (List.range 3).map (refOf s t)

/-- Frames of the block after block `j` of a tile, with its codes and staged settings (R288, R380). -/
def prepare (t j : Nat) (cur : Bool) (s : State) : State :=
  let x := getTile s t
  let src := nextSource s j cur
  let j1 := (j + 1) % 16
  let codes := blockCodes s t j1 src.2 src.1
  let boost := nextBoost s x
  let pulse := pulseList s j1 (nextF s j cur)
  let dline := (j1 + 1) % 16
  let n := x.seq.toNat
  let refs := nextRefs s x t j
  let f3 := match nextTrim x with
    | none => { statusFrame 3 (n + 2) 0 with rep := some ⟨x.win, x.curLine, x.wasForce, x.pulseNow, x.dlineNow⟩ }
    | some q => wrregFrame 4 (n + 2) q.1 q.2
  let fs := [codesFrame n j1 src.2 codes, setupFrame (n + 1) (fun c => refs.getD c 0) boost dline pulse, f3]
  let keep := fun (a : PathAux) => { a with pend := a.pend.filter (fun f => f.kind ≠ 1 && f.kind ≠ 2) }
  putTile t { x with
    seq := x.seq + 3, src := src.1, frames := fs, codes := codes, refs := refs, boost := boost, pulse := pulse,
    dline := dline, f1 := false, f2 := false,
    pa := sendOn fs n (keep x.pa), pb := sendOn fs n (keep x.pb) } s

/-- The window of the block in progress is the last one completed. -/
def windowOver (x : Tile) : Tile :=
  if x.block < 16 then { x with curLine := some x.block, wasForce := x.inForce, win := x.win + 1 } else { x with curLine := none }

/-- What was staged takes effect (R287). -/
def takeEffect (j : Nat) (x0 : Tile) : Tile :=
  let x := windowOver x0
  { x with
    block := j, frames := [], inForce := if x.f2 then x.boost else x.inForce,
    pulseNow := if x.f2 then x.pulse else [], dlineNow := x.dline, f1 := false, f2 := false,
    lost := if x.f1 && x.f2 then 0 else x.lost + 1 }

/-- A RESTORE due at this block (R298). -/
def restorePath (t : Nat) (s : State) : State :=
  let x := getTile s t
  match x.restoreTo with
  | none => s
  | some p =>
    let a := getPath x p
    let b := getPath x (otherPath p)
    if a.role = .standby && b.role = .selected then
      let f := selectFrame x.seq.toNat p
      putTile t { putPath p (sendOn [f] 0 { a with role := .selected, bad := 0 })
        (putPath (otherPath p) (sendOn [f] 0 { b with role := .standby, bad := 0 }) x) with
          sel := p, seq := x.seq + 1, restoreTo := none } s
    else putTile t { x with restoreTo := none } s

/-- A verification of the tile's paths starts at the block (R297, R429); one of a tile at a time. -/
def startBver (t : Nat) (s : State) : State :=
  let mine := fun (q : MntReq) => q.act = actBVER && q.unit / 2 = t
  if s.mnt.queue.any (fun q => mine q && q.running) || !mntMayStart s actBVER then s
  else
    match s.mnt.queue.find? mine with
    | none => s
    | some q =>
      let p : Path := if q.unit % 2 = 0 then .a else .b
      let x := getTile s t
      if (getPath x p).role = .quarantined then
        putTile t (putPath p (roleTo .verify x.seq.toNat (getPath x p)) x) { s with mnt := { s.mnt with
          queue := s.mnt.queue.map (fun r => if r.act = actBVER && r.unit = q.unit then { r with running := true } else r) } }
      else endBver t p s

/-- BKL_TVB of a tile. -/
def storeBoost (t : Nat) (s : State) : State :=
  let x := getTile s t
  setRegN (Reg.BKL_TVB t) (x.inForce % 2 ^ 12 + 2 ^ 16 * ((vneed x).getD 0 % 2 ^ 12)) s

/-- The APPLY of block `j` of tile `t`; `cur`: it belongs to the panel frame in progress. A tile's first block is block 0
(R305). After a block 15 whose panel frame is still in progress, the next slot tick says what block 0 lights. -/
def applyBlock (t : Nat) (s : State) (b : Nat × Bool) : State :=
  let x := getTile s t
  if tileMay s t && x.st = .on && (x.block < 16 || b = (0, true)) then
    let s1 := if x.f1 then (List.range 3).foldl (lightBlock t) s else s
    let s2 := putTile t (takeEffect b.1 (getTile s1 t)) s1
    if 16 ≤ (getTile s2 t).lost then tileAbsent t s2
    else
      let s3 := storeBoost t (restorePath t s2)
      startBver t (if b = (15, true) then s3 else prepare t b.1 b.2 s3)
  else s

/-- The APPLYs issued at line `L` of the panel frame (R280). -/
def applyAt (L : Nat) (s : State) : State :=
  (List.range 24).foldl (fun s t => ((blockAt s t L).map (applyBlock t s)).getD s) s

/-- At a slot tick, the APPLYs of the lines that an early tick skips (R280): lines `L` to 8,735 of the frame that ends. -/
def applySkipped (L : Nat) (s : State) : State := ((List.range 8736).drop L).foldl (fun s k => applyAt k s) s

/-- A panel frame begins: a tile whose next block is its block 0 is sent that block (R279, R291, R305) (log entry 22, DEDUCED). -/
def firstBlock (s : State) (t : Nat) : State :=
  if s.scan.active && (getTile s t).st = .on && 15 ≤ (getTile s t).block then prepare t 15 false s else s

/-- Gate idle: no APPLY follows until a panel frame begins, and the drivers take what is staged by themselves (R287). -/
def restTile (s : State) (t : Nat) : State :=
  let x := getTile s t
  if x.st = .on && x.block < 16 then putTile t { windowOver x with block := 16, frames := [], pulseNow := [] } s else s

def restTiles (s : State) : State := (List.range 24).foldl restTile s

/-! ### Responses (R289, R294–R297, R304) -/

/-- A good frame of the obeyed path. -/
def goodSelected (t : Nat) (p : Path) (f : SentFrame) (words : List ChainWord) (s : State) : State :=
  let x := getTile s t
  let a := getPath x p
  let s1 := putTile t (putPath p { a with bad := 0, good := a.good + 1, pend := a.pend.drop 1 } x) s
  match f.kind with
  | 1 => putTile t { getTile s1 t with f1 := true } s1
  | 2 => putTile t { getTile s1 t with f2 := true } s1
  | 3 => match f.rep with
    | some r => statusRead t r words s1
    | none => s1
  | 4 => trimDone t f s1
  | 7 => identityStep t words s1
  | _ => s1

/-- A good frame of the STANDBY path, or a good echo of a SELECT frame. -/
def goodStandby (t : Nat) (p : Path) (s : State) : State :=
  let x := getTile s t
  let a := getPath x p
  putTile t (putPath p { a with bad := 0, good := a.good + 1, pend := a.pend.drop 1 } x) s

/-- A good echo of a path not in use (R297): 16 in a row of a FAILED path, 4,096 of one in VERIFY. -/
def goodIdle (t : Nat) (p : Path) (f : SentFrame) (s : State) : State :=
  let x := getTile s t
  let a := nopOn f (getPath x p)
  let n := a.good + 1
  let s1 := putTile t (putPath p { a with good := n } x) s
  let turn := fun r => putPath p (roleTo r x.seq.toNat a) x
  match x.st, a.role with
  | .on, .failed => if 16 ≤ n then raise 427 (t + 2 ^ 8 * pathNum p) (putTile t (turn .quarantined) s) else s1
  | .on, .verify => if 4096 ≤ n then mntFinish actBVER (2 * t + pathNum p) true (putTile t (turn .standby) s) else s1
  | _, _ => s1

/-- A good frame from a tile that is ABSENT (R304): after 16 in a row it is initialised; the path it obeys is
SELECTED, the other STANDBY if its echoes are good (log entry 22, DEDUCED). -/
def goodAbsent (t : Nat) (p : Path) (f : SentFrame) (resp : Bool) (s : State) : State :=
  let x := getTile s t
  let a := nopOn f (getPath x p)
  let x1 := putPath p { a with good := a.good + 1 } x
  if a.good + 1 = 16 then
    let q := if resp then p else otherPath p
    let o := otherPath q
    let x2 := putPath q (roleTo .selected x.seq.toNat (getPath x1 q)) x1
    let r : PathRole := if (getPath x1 o).good = 0 then .failed else .standby
    tileInit t (putTile t { putPath o (roleTo r x.seq.toNat (getPath x1 o)) x2 with sel := q } s)
  else putTile t x1 s

/-- A frame with a bad response goes out again, and each frame after it, on both paths in use (R289, R293): the other path
awaits them again. -/
def resend (p : Path) (x : Tile) : Tile :=
  let a := getPath x p
  let b := getPath x (otherPath p)
  let x1 := putPath p (sendOnly a.pend a) x
  if carries b.role && decide (b.pend.length < a.pend.length) then putPath (otherPath p) (sendOnly a.pend b) x1 else x1

/-- A bad frame: counted; two in a row fail a path in use, one ends a verification (R289, R295, R297). After a bad echo the
STANDBY path goes on with its next frame (log entry 22, DEDUCED). -/
def badFrame (t : Nat) (p : Path) (f : SentFrame) (s : State) : State :=
  let x := getTile s t
  let a := { getPath x p with good := 0, bad := (getPath x p).bad + 1 }
  let count := fun y => bumpSat (Reg.BKL_TN_ERR t) (putTile t y s)
  match a.role with
  | .selected =>
    let s1 := count (resend p (putPath p a x))
    if 2 ≤ a.bad then failPath t p 1 s1 else s1
  | .standby =>
    let s1 := count (putPath p { a with pend := a.pend.drop 1 } x)
    if 2 ≤ a.bad then failPath t p 1 s1 else s1
  | .verify =>
    mntFinish actBVER (2 * t + pathNum p) false (count (putPath p { roleTo .quarantined x.seq.toNat a with barred := true } x))
  | _ => count (putPath p (nopOn f a) x)

/-- Driver 0 switched to path `p` by itself (R294, R295): the path it left fails with cause 2, and the block's frames go out
again on `p` behind a SELECT (R289). -/
def takeOver (t : Nat) (p : Path) (s : State) : State :=
  let x := getTile s t
  let o := otherPath p
  let x1 := selectNow x (getPath x o) p (putPath o (roleTo .failed x.seq.toNat (getPath x o)) x)
  raise 426 (t + 2 ^ 8 * pathNum o + 2 ^ 12 * 2) (bumpSat Reg.BKL_N_PATHFAIL (putTile t x1 s))

/-- The response or echo to the oldest frame that a path awaits. A SELECT frame may come back either way. -/
def chainResponse (t : Nat) (p : Path) (words : List ChainWord) (s : State) : State :=
  let x := getTile s t
  let a := getPath x p
  let f := a.pend.headD (nopFrame x.seq.toNat)
  let resp := goodResponse f words
  let echo := goodEcho f words
  if x.st = .absent then (if resp || echo then goodAbsent t p f resp s else badFrame t p f s)
  else if carries a.role then
    if a.pend.isEmpty then s
    else if f.kind = 5 && (resp || echo) then goodStandby t p s
    else if a.role = .selected then (if resp then goodSelected t p f words s else badFrame t p f s)
    else if echo then goodStandby t p s
    else if resp && switched words then takeOver t p s
    else badFrame t p f s
  else if echo then goodIdle t p f s else badFrame t p f s

def execChainResponse (t : Fin 24) (p : Path) (words : Vector ChainWord 8) (s : State) :
    Host.Outcome State Fault Refusal :=
  if live s && tileMay s t.val then done (chainResponse t.val p words.toList s) else done s

/-- A tile holds its ALERT_N low (R302). -/
def execAlertN (t : Fin 24) (s : State) : Host.Outcome State Fault Refusal :=
  if live s then done (raise 429 t.val s) else done s

/-! ### Timers and BKL_TCTL (R295–R301, R305, R307) -/

/-- A path is quarantined: its verification is requested, after a failed one only by a VERIFY command (R297). -/
def askBver (t : Nat) (p : Path) (host : Bool) (s : State) : State :=
  let a := getPath (getTile s t) p
  if a.role = .quarantined && (host || !a.barred) then mntPush actBVER (2 * t + pathNum p) host s else s

def execPathVerifyTimer (t : Fin 24) (p : Path) (s : State) : Host.Outcome State Fault Refusal :=
  if live s then done (askBver t.val p false s) else done s

def execLifeRecordWrite (t : Fin 24) (s : State) : Host.Outcome State Fault Refusal :=
  if live s && (getTile s t.val).st = .on then done (writeLife t.val s) else done s

/-- RESTORE names a STANDBY path: it is selected at the next block (R298). -/
def effRestore (t : Nat) (p : Path) (s : State) : State :=
  let x := getTile s t
  if (getPath x p).role = .standby then putTile t { x with restoreTo := some p } s else s

/-- CLEAR_OPEN (R301). -/
def effClearOpen (t : Nat) (s : State) : State :=
  putTile t { getTile s t with openSet := [], shortSet := [], opens := [], shorts := [] } s

/-- REINIT: a tile that answers is initialised again. -/
def effReinit (t : Nat) (s : State) : State := if (getTile s t).st = .absent then s else tileInit t s

/-- Effect of a write of BKL_TCTL_t. -/
def effTctl (t : Nat) (v : Word) (s : State) : State :=
  let p : Path := if bit v 4 then .b else .a
  match fld v 0 4 with
  | 1 => effRestore t p s
  | 2 => askBver t p true s
  | 3 => failPath t p 3 s
  | 4 => effClearOpen t s
  | 5 => effReinit t s
  | _ => s

/-- The word of BKL_TCTL for a command. -/
def tctlWord (cmd : Nat) (p : Path) : Word := w32 (cmd + 2 ^ 4 * pathNum p)

def execBklRestore (m : Master) (t : Fin 24) (p : Path) (s : State) : Host.Outcome State Fault Refusal :=
  done (writeWith m (Reg.BKL_TCTL t.val) (tctlWord 1 p) (effRestore t.val p) s)

def execBklVerify (m : Master) (t : Fin 24) (p : Path) (s : State) : Host.Outcome State Fault Refusal :=
  done (writeWith m (Reg.BKL_TCTL t.val) (tctlWord 2 p) (askBver t.val p true) s)

def execBklFail (m : Master) (t : Fin 24) (p : Path) (s : State) : Host.Outcome State Fault Refusal :=
  done (writeWith m (Reg.BKL_TCTL t.val) (tctlWord 3 p) (failPath t.val p 3) s)

def execClearOpen (m : Master) (t : Fin 24) (s : State) : Host.Outcome State Fault Refusal :=
  done (writeWith m (Reg.BKL_TCTL t.val) (tctlWord 4 .a) (effClearOpen t.val) s)

def execReinit (m : Master) (t : Fin 24) (s : State) : Host.Outcome State Fault Refusal :=
  done (writeWith m (Reg.BKL_TCTL t.val) (tctlWord 5 .a) (effReinit t.val) s)

def tcRead (s : State) : Word × State := tabRead Reg.BKL_TC_IDX tabTC 27 s
def tcWrite (v : Word) (s : State) : State := tabWrite 0x2A Reg.BKL_TC_IDX tabTC 27 (fun _ => 0xFFFF) v s

def execBklTcData (m : Master) (x : Acc) (s : State) : Host.Outcome State Fault Refusal :=
  done (dataAccess m Reg.BKL_TC_DATA x tcRead tcWrite s)

/-! ### Registers read from the tiles -/

def roleCode : PathRole → Nat
  | .selected => 0
  | .standby => 1
  | .failed => 2
  | .quarantined => 3
  | .verify => 4

/-- BKL_TSTAT_t. -/
def tstat (s : State) (t : Nat) : Word :=
  let x := getTile s t
  w32 (tileCode x.st + 2 ^ 4 * pathNum x.sel + 2 ^ 8 * roleCode x.pa.role + 2 ^ 12 * roleCode x.pb.role +
    2 ^ 16 * x.openSet.length)

/-- BKL_THW_t_c: Hw_c in hours. -/
def thw (s : State) (t c : Nat) : Word := w32 (hwMillis (getTile s t) c / 3600000)

/-- BKL_N_OPEN. -/
def bklNOpen (s : State) : Word := w32 ((List.range 24).map (fun t => (getTile s t).openSet.length)).sum

end Sys2Proof.Machine
end

