-- ==== Sys2Proof/Machine/Clock.lean ====
section
/-!
DEFINITION. Time that passes: the time bases, the tick generator's phase and the write cap's bucket over a number of
CLK_TIM cycles, the grid of ticks, seeding and re-seeding (R24, R334, R335, R350–R354).
-/
namespace Sys2Proof.Machine

/-- 1 ns in the units of a time base. -/
abbrev one48 : Nat := 2 ^ 48

/-- One second in the units of a time base. -/
abbrev sec48 : Nat := 1000000000 * one48

/-- Values of a time base: 64-bit seconds. -/
abbrev tbMod : Nat := 2 ^ 64 * sec48

def tbAdd (v : Nat) (d : Int) : Nat := ((v + d) % (tbMod : Int)).toNat

/-! ### Time bases (R334, R335) -/

/-- TIM_TB_CTL_k.EN, with the unit of the time bases enabled (R43). -/
def tbOn (s : State) (k : Nat) : Bool := enabled s 0x34 && regBit s (Reg.TIM_TB_CTL k) 31

/-- Advance of a time base in one CLK_TIM cycle. -/
def tbStepLen (s : State) (k : Nat) : Int := if tbOn s k then 4 * ((one48 : Int) + (getTb s k).f) else 0

def tbAddTo (k : Nat) (d : Int) (s : State) : State :=
  if d = 0 then s else putTb k { getTb s k with value := tbAdd (getTb s k).value d } s

/-- `n` cycles of every time base. -/
def tbRun (n : Nat) (s : State) : State :=
  (List.range 4).foldl (fun s k => tbAddTo k (n * tbStepLen s k) s) s

/-- Cycles of 40 ns, or of 32.768 kHz, that end in the `n` cycles of 4 ns after time `t`. -/
def slowCycles (timeclk : Bool) (t n : Nat) : Nat :=
  if timeclk then (t + n) / 10 - t / 10
  else (t + n) * 4 * 32768 / 1000000000 - t * 4 * 32768 / 1000000000

/-- In Midnight TB0 alone counts, in the always-on domain (R335). -/
def tbMidnight (n : Nat) (s : State) : State :=
  let tc := regBit s Reg.AON_STAT 2
  let c := slowCycles tc s.now n
  let f := (getTb s 0).f
  let x := sx 32 (regN s Reg.TIM_TB0_XADJ)
  let d : Int := if tc then 40 * ((one48 : Int) + f) else divFloor (30517578125 * ((one48 : Int) + f + x)) 1000000
  if tbOn s 0 then tbAddTo 0 (c * d) s else s

/-! ### The tick generator (R350, R351) -/

/-- E in 2^-48 ns. -/
def epoch (s : State) : Int :=
  let sec := regN s Reg.TIM_GL_EPOCH_SHI * 2 ^ 32 + regN s Reg.TIM_GL_EPOCH_SLO
  ((sec * 1000000000 + regN s Reg.TIM_GL_EPOCH_NS) * one48 + regN s Reg.TIM_GL_EPOCH_FRAC * 2 ^ 32 : Nat)

/-- ψ*: the genlock time base less the epoch. -/
def psiStar (s : State) : Int := ((getTb s (glTb s)).value : Int) - epoch s

/-- The phase error e. -/
def glErr (s : State) : Int := psiStar s - s.gl.psi

/-- The slew limit in ppm. -/
def slewPpm (s : State) : Nat := clampN 1 1000 (regFld s Reg.TIM_GL_CTL 16 10)

/-- The largest |a| of a cycle. -/
def slewMax (s : State) : Nat := (tbStepLen s (glTb s)).toNat * slewPpm s / 1000000

/-- The part of e that `n` cycles take away. -/
def slewed (s : State) (n : Nat) : Int :=
  let m : Int := min (glErr s).natAbs (n * slewMax s)
  if glErr s < 0 then -m else m

/-- The phase after `n` cycles. -/
def psiAfter (s : State) (n : Nat) : Int := s.gl.psi + n * tbStepLen s (glTb s) + slewed s n

/-- `n` cycles of 4 ns pass (R24). With the clocks stopped only the always-on domain goes on (log entry 27, DESIGN CHOICE). -/
def passTime (n : Nat) (s : State) : State :=
  ozSettle <| if live s then
    let psi := psiAfter s n
    let s1 := tbRun n s
    { s1 with now := s.now + n, wcapLevel := min 65536 (s1.wcapLevel + n * (4 * wcapRate s1)),
              gl := if s1.gl.seeded then { s1.gl with psi := psi } else s1.gl }
  else
    let s1 := if s.pwr.tripped then s else tbMidnight n s
    { s1 with now := s.now + n }

/-- The mode of the tick grid: LF30 in Night (R275). -/
def tickMode (s : State) : Nat := if s.pwr.st = .night then 4 else modeAct s

/-- g(n) of R350, in 2^-48 ns. -/
def gridAt (mode : Nat) (n : Int) : Int :=
  divFloor (n * 2 ^ 16 * 1000000000 * (modeT mode).1) (4 * (modeT mode).2) * 2 ^ 32

/-- The first grid boundary at or after ψ = x. -/
def firstBoundary (mode : Nat) (x : Int) : Int :=
  let k := divFloor (x * (modeT mode).2) (sec48 * (modeT mode).1)
  if x ≤ gridAt mode (4 * k) then k else if x ≤ gridAt mode (4 * (k + 1)) then k + 1 else k + 2

/-- Slot tick `sl` of the period that ends at boundary `k`. -/
def slotAt (s : State) (sl : Nat) : Int :=
  match s.gl.base with
  | some b => b + gridAt (tickMode s) sl
  | none => gridAt (tickMode s) (4 * (s.gl.k - 1) + sl)

/-- Fewest cycles, at most `hi`, after which ψ has reached `x`: `fuel` halvings of the range. -/
def cyclesTo (s : State) (x : Int) : Nat → Nat → Nat → Nat
  | 0, _, hi => hi
  | fuel + 1, lo, hi =>
    if hi ≤ lo then hi
    else
      let m := (lo + hi) / 2
      if x ≤ psiAfter s m then cyclesTo s x fuel lo m else cyclesTo s x fuel (m + 1) hi

/-- Time passes until ψ reaches `x`; none when ψ stands still (log entry 27, DESIGN CHOICE). -/
def reachPsi (x : Int) (s : State) : Option State :=
  if x ≤ s.gl.psi then some s
  else
    let d := tbStepLen s (glTb s)
    if d ≤ 0 then none
    else
      let hi := 2 * divCeil (x - s.gl.psi).toNat d.toNat + 1
      some (passTime (cyclesTo s x (hi.log2 + 2) 0 hi) s)

/-- Nanoseconds of a phase error as event fields and registers carry it. -/
def errNs (e : Int) : Int := divFloor e one48

/-- TIM_EV_SLEW at the start of a slew (R351), and a re-seed pending above 4 × T_LF (R353) (log entry 27, DESIGN CHOICE). -/
def glCheck (s : State) : State :=
  let e := glErr s
  let s1 := if s.gl.seeded && !s.gl.slewing && decide (1000 * one48 < e.natAbs) then
      raise 491 (1 + 2 ^ 16 * tc 48 (errNs e)) { s with gl := { s.gl with slewing := true } }
    else s
  if s1.gl.seeded && decide ((gridAt (tickMode s1) 16).toNat < e.natAbs) then
    { s1 with gl := { s1.gl with reseed := true } }
  else s1

/-- The slew is over: e is 0 (R351). -/
def slewDone (s : State) : State :=
  if s.gl.slewing then raise 491 0 { s with gl := { s.gl with slewing := false } } else s

/-- Seed the generator (R352). -/
def seedTicks (s : State) : State :=
  let x := psiStar s
  slewDone { s with scan := { s.scan with nextSlot := 4, nominal := true }, gl := { s.gl with
    seeded := true, psi := x, k := firstBoundary (tickMode s) (x + 100000 * one48), base := none, reseed := false } }

/-- Carry out the pending re-seed at a boundary (R353, items 1–3). -/
def reseedTicks (s : State) : State :=
  let e := glErr s
  let x := psiStar s
  let s1 := raise 488 (2 ^ 16 * tc 48 (errNs e)) (bumpSat Reg.TIM_GL_N_RESEED s)
  slewDone { s1 with gl := { s1.gl with
    psi := x, k := firstBoundary (tickMode s) (x + gridAt (tickMode s) 4), base := some x, reseed := false } }

/-! ### Outputs (R354) -/

/-- A pulse of `w` cycles begins now. -/
def tickWidth (s : State) : Nat := 25 * max 1 (regFld s Reg.TIM_GL_OUT 16 8)

/-- LF_TICK_OUT and SLOT_TICK_OUT at a tick. -/
def tickOut (boundary : Bool) (s : State) : State :=
  let g := s.gl
  let lf := if boundary && regBit s Reg.TIM_GL_OUT 0 then s.now + tickWidth s else g.lfTick
  let sl := if regBit s Reg.TIM_GL_OUT 1 then s.now + tickWidth s else g.slotTick
  { s with gl := { g with lfTick := lf, slotTick := sl } }

/-- Levels of LF_TICK_OUT, SLOT_TICK_OUT, PPS_OUT0 and PPS_OUT1: held low when disabled. -/
def outLevel (s : State) : List Bool :=
  [regBit s Reg.TIM_GL_OUT 0 && decide (s.now < s.gl.lfTick), regBit s Reg.TIM_GL_OUT 1 && decide (s.now < s.gl.slotTick),
   regBit s Reg.TIM_GL_OUT 2 && decide (s.now < s.gl.pps0), regBit s Reg.TIM_GL_OUT 3 && decide (s.now < s.gl.pps1)]

end Sys2Proof.Machine
end

