-- ==== Sys2Proof/Machine/Scanout.lean ====
section
/-!
DEFINITION. Scan-out and panel drive: panel frames, lines, overdrive, dither, polarity, gate timing and the read checks
(09_scanout_panel.md; 06_lanes.md, R191–R195).
-/
namespace Sys2Proof.Machine

def setScan (c : Scan) (s : State) : State := { s with scan := c }

/-! ### State and slot (SCN_STAT) -/

abbrev scNORMAL : Nat := 0
abbrev scDARK : Nat := 1
abbrev scIDLE : Nat := 2
abbrev scNIGHT : Nat := 3

def scanState (s : State) : Nat := regFld s Reg.SCN_STAT 30 2
def scanSlot (s : State) : Nat := regFld s Reg.SCN_STAT 8 2
def scanBand (s : State) : Nat := regFld s Reg.SCN_STAT 10 3

def setScanState (v : Nat) (s : State) : State := setRegFld Reg.SCN_STAT 30 2 v s

/-- Gate idle, whatever its reason (R271, R414). The night strip waits for no frame. -/
def gateIdle (s : State) : Bool := (s.scan.wait && !nightOn s) || scanState s = scIDLE

/-- Nominal P of a mode, in CLK_SCN cycles (R251). -/
def nominalP (mode : Nat) : Nat := divRound (125000000 * (modeT mode).1) (modeT mode).2

/-- Start of line `L` after the slot tick, in CLK_SCN cycles (R252). -/
def lineStart (s : State) (L : Nat) : Nat := L * s.scan.p / 8736

/-- φ of the panel frame in progress (R264). -/
def phi (s : State) : Bool := (regN s Reg.SCN_PERIOD + scanSlot s) % 2 = 1

/-- POL of row `y` (R265). -/
def polOf (s : State) (y : Nat) : Bool :=
  Bool.xor (phi s) (match regFld s Reg.SCN_CTL 4 2 with
    | 0 => false
    | 3 => y / 2 % 2 = 1
    | _ => y % 2 = 1)

/-- Polarity of subpixel column `x` in row `y` (R265). -/
def subpixelPol (s : State) (x y : Nat) : Bool :=
  if regFld s Reg.SCN_CTL 4 2 ≤ 1 then polOf s y else Bool.xor (polOf s y) (x % 2 = 1)

/-! ### Overdrive and dither (R260, R263) -/

def odEntry (s : State) (c a k : Nat) : Nat := fld (getTab s tabOD true (1089 * (3 * scanBand s + c) + 33 * a + k)) 0 16

/-- Overdrive of target `q` with reference `p` (R260). -/
def overdrive (s : State) (c p q : Nat) (bypass : Bool) : Nat :=
  if bypass || !regBit s Reg.SCN_CTL 0 then q
  else
    let a := p / 128
    let fp := p % 128
    let k := q / 128
    let fq := q % 128
    let v := (128 - fp) * (128 - fq) * odEntry s c a k + fp * (128 - fq) * odEntry s c (a + 1) k +
      (128 - fp) * fq * odEntry s c a (k + 1) + fp * fq * odEntry s c (a + 1) (k + 1)
    min ((v + 131072) / 2 ^ 18) 4095

/-- The base matrix of R263. -/
def ditherM (j i : Nat) : Nat :=
  ([0, 8, 2, 10, 12, 4, 14, 6, 3, 11, 1, 9, 15, 7, 13, 5] : List Nat).getD (4 * j + i) 0

/-- M_s[j][i]. -/
def ditherAt (sl j i : Nat) : Nat :=
  match sl with
  | 0 => ditherM j i
  | 1 => ditherM (3 - i) j
  | 2 => ditherM (3 - j) (3 - i)
  | _ => ditherM i (3 - j)

/-- The 10-bit code of a value at subpixel column `x`, row `y` (R263). -/
def ditherCode (s : State) (v x y : Nat) : Nat :=
  if regBit s Reg.SCN_CTL 1 then min ((4 * v + ditherAt (scanSlot s) (y % 4) (x % 4)) / 16) 1023
  else min (v / 4) 1023

/-! ### A row as delivered (R255, R258) -/

/-- The bytes of row `y` of a slot frame. -/
def rowBytes (s : State) (r sl y : Nat) : List Byte := memBytes s .frame (pixelOff r sl 0 y) 76800

/-- Granules of row `y` of a slot frame that read as uncorrectable: their numbers in the row. -/
def badGranules (s : State) (r sl y : Nat) : List Nat :=
  (ueIn s .frame (pixelOff r sl 0 y) 76800).map (fun c => c - pixelOff r sl 0 y / 60)

/-- Row `y` as the frame store delivers it now. -/
def readRow (s : State) (r sl y : Nat) : FifoRow := ⟨(r, sl), y, rowBytes s r sl y, badGranules s r sl y⟩

/-- Row `y` as it was read. -/
def heldRow (s : State) (q : List FifoRow) (r sl y : Nat) : FifoRow :=
  (q.find? (fun h => h.src = (r, sl) && h.line = y)).getD (readRow s r sl y)

/-- Reads of rows `ys` go out: rows of the slot frame that the FIFO does not hold yet (R256). -/
def readRows (s : State) (q : List FifoRow) (r sl : Nat) (ys : List Nat) : List FifoRow :=
  q ++ (ys.filter (fun y => decide (y < 8640) && !q.any (fun h => h.src = (r, sl) && h.line = y))).map (readRow s r sl)

/-- Reads for the reference slot frame. -/
def readRef (s : State) (src : RefSrc) (ys : List Nat) : List FifoRow :=
  match src with
  | .zero => s.scan.rfifo
  | .slot r sl => readRows s s.scan.rfifo r sl ys

/-- Reads of rows `ys` of the slot frame shown and of its reference (R256). -/
def issueReads (ys : List Nat) (s : State) : State :=
  match s.scan.shownAt with
  | none => s
  | some (r, sl) =>
    setScan { s.scan with fifo := readRows s s.scan.fifo r sl ys, rfifo := readRef s s.scan.ref ys } s

/-- Reads of lines 0–47 of the next slot frame, at line 8,640 (R256). After slot 3 they wait for the boundary, which decides
what slot 0 shows (log entry 23, DEDUCED). -/
def readAhead (s : State) : State :=
  match s.scan.shownAt with
  | some (r, sl) =>
    if sl < 3 && s.scan.dark.isNone then
      setScan { s.scan with fifo := readRows s s.scan.fifo r (sl + 1) (List.range 48),
                            rfifo := readRows s s.scan.rfifo r sl (List.range 48) } s
    else s
  | none => s

/-- Rows up to `L` of the slot frame shown leave the FIFOs. -/
def dropRows (L : Nat) (s : State) : State :=
  match s.scan.shownAt with
  | none => s
  | some (r, sl) =>
    setScan { s.scan with
      fifo := s.scan.fifo.filter (fun h => h.src ≠ (r, sl) || decide (L < h.line)),
      rfifo := s.scan.rfifo.filter (fun h => s.scan.ref ≠ .slot h.src.1 h.src.2 || decide (L < h.line)) } s

/-- A panel frame starts with the rows already read for it; the rest of lines 0–47 is read now. -/
def fillFifos (s : State) : State :=
  match s.scan.shownAt with
  | none => setScan { s.scan with fifo := [], rfifo := [] } s
  | some (r, sl) =>
    issueReads (List.range 48) (setScan { s.scan with
      fifo := s.scan.fifo.filter (fun h => h.src = (r, sl)),
      rfifo := s.scan.rfifo.filter (fun h => s.scan.ref = .slot h.src.1 h.src.2) } s)

/-- Target of pixel `x`, colour `c` in a row's bytes (R240). -/
def targetIn (bytes : List Byte) (x c : Nat) : Nat := nfld (ofLe ((bytes.drop (5 * x)).take 5)) (12 * c) 12

/-- The targets of a row, subpixel by subpixel. -/
def rowTargets (bytes : List Byte) : List Nat :=
  (List.range 15360).flatMap (fun x => (List.range 3).map (targetIn bytes x))

/-- Row `y` with the targets of failed granules replaced: by the row before as sent, in row 0 by row 1 (R258). -/
def fixedTargets (s : State) (r sl y : Nat) : List Nat :=
  let h := heldRow s s.scan.fifo r sl y
  let own := rowTargets h.bytes
  if h.bad.isEmpty then own
  else
    let h1 := heldRow s s.scan.fifo r sl 1
    let row1 := rowTargets h1.bytes
    (own.zipIdx).map (fun q =>
      let g := q.2 / 36
      if !h.bad.contains g then q.1
      else if y = 0 then (if h1.bad.contains g then 0 else row1.getD q.2 0)
      else s.scan.sent.getD q.2 0)

/-- Drive codes of row `y` that shows targets `t` (R255). `refMissing`: overdrive is bypassed for the row (R257). -/
def rowCodes (s : State) (y : Nat) (t : List Nat) (refMissing : Bool) : List Nat :=
  let ref := match s.scan.ref with
    | .zero => ([], [])
    | .slot r sl => (rowTargets (heldRow s s.scan.rfifo r sl y).bytes, (heldRow s s.scan.rfifo r sl y).bad)
  (t.zipIdx).map (fun q =>
    ditherCode s (overdrive s (q.2 % 3) (ref.1.getD q.2 0) q.1 (refMissing || ref.2.contains (q.2 / 36))) q.2 y)

/-! ### Packets (R191–R195) -/

/-- The 200 body words of 640 codes, and the CRC word (R194). -/
def bodyWords (codes : List Nat) : List Word :=
  let n := codes.foldr (fun c a => c + 1024 * a) 0
  let b := (List.range 200).map (fun i => w32 (nfld n (32 * i) 32))
  b ++ [w32 (crc32c (b.flatMap (fun w => leBytes 4 w.toNat)))]

/-- The lane sends payload under the number in its markers. -/
def panelSends (s : State) (l : Lane) : Bool := laneState s l = lsUP && txSends s l = .payload

/-- The lane numbers in use: h = 0 and 1 of each driver that is not dark, carried by a lane that is UP (R23, R180, R191). -/
def lineNumbers (s : State) : List Nat :=
  ((List.range 36).flatMap (fun k => [3 * k, 3 * k + 1])).filter (fun n =>
    !s.psb.dark.contains (n / 3) && (groupOf (panelLane n)).any (fun l => panelSends s l && markLane s l = n))

/-- Panel lanes are UP: what scan-out and panel drive wait on (R23). -/
def panelUp (s : State) : Bool := !(lineNumbers s).isEmpty

/-- The LINE packets of row `y`: one for each lane number 3k + h in use (R191, R195). -/
def linePackets (s : State) (y : Nat) (codes : List Nat) : List LanePkt :=
  let hd := cmdWord 1 (y + 2 ^ 14 * scanSlot s + 2 ^ 16 * (polOf s y).toNat)
  (lineNumbers s).map (fun n => ⟨n, hd :: bodyWords ((codes.drop (1280 * (n / 3) + 640 * (n % 3))).take 640)⟩)

/-- VBLANK on every lane number in use (log entry 23, DEDUCED). -/
def vblankPackets (s : State) : List LanePkt := (lineNumbers s).map (fun n => ⟨n, [cmdWord 2 (scanSlot s)]⟩)

/-- The lane numbers of driver `k` on lanes that are UP, its idle spare's among them. -/
def upLanes (s : State) (k : Nat) : List Nat :=
  (((panelLanes.filter (fun l => driverOf l = k && panelSends s l)).map (markLane s))).eraseDups

/-- Drivers that a DRVREG word addresses. -/
def drvTargets (v : Word) : List Nat := if fld v 24 6 = 63 then List.range 36 else [fld v 24 6]

/-- The oldest queued DRVREG goes out in a blanking line (R193). -/
def sendDrvreg (s : State) : State :=
  match s.psb.drvq with
  | [] => s
  | v :: rest =>
    let pk := (drvTargets v).flatMap (fun k => (upLanes s k).map (fun n => (⟨n, [cmdWord 3 (fld v 0 24)]⟩ : LanePkt)))
    setScan { s.scan with out := s.scan.out ++ pk } { s with psb := { s.psb with drvq := rest } }

/-- Words that a panel lane carries in a line beside a marker and a pointer word (R197). -/
def lineWords (mode rate : Nat) : Nat :=
  let gb := if rate = 0 then 8 else if rate = 1 then 12 else 16
  (modeT mode).1 * (gb * 1000000000) / ((modeT mode).2 * 34944 * 32) - 3

/-- IDLE fills the line behind a lane's packets (R173, R193) (log entry 23, DEDUCED). -/
def idleFill (mode rate : Nat) (p : List (List Word)) : List (List Word) :=
  List.replicate (lineWords mode rate - (p.map List.length).sum) [cmdWord 0 0]

/-- The packets of lane `l` in this line: those of its number, then the commands of its own stream, then IDLE. -/
def lanePackets (s : State) (l : Lane) : List (List Word) :=
  let p := (s.scan.out.filter (fun q => q.lane = markLane s l)).map LanePkt.words ++ (getAux s l).cmds.map (fun w => [w])
  p ++ idleFill (tickMode s) (getAux s l).rate p

/-- One panel lane sends its line. A lane that copies another repeats that one's. -/
def transmitLane (s : State) (l : Lane) : State :=
  if panelSends s l && (getAux s l).txCopy.isNone then
    sendPanel l (lanePackets s l) (putAux l { getAux s l with cmds := [] } s)
  else s

/-- What `scan.out` holds goes out on the panel lanes (R172, R192). -/
def transmit (s : State) : State := panelLanes.foldl transmitLane s

/-! ### Gate signals (R266, R267) -/

/-- The pulse that a setting gives from cycle `t` on. WIDTH 0 acts as 1. -/
def pulseOf (sig : Fin 10) (t : Nat) (v : Word) : GatePulse :=
  ⟨sig, t + fld v 0 9, t + fld v 0 9 + max 1 (fld v 16 12)⟩

/-- Start of line `L` of the panel frame in progress, in CLK_SCN cycles of the machine's time (R252). -/
def lineAt (s : State) (L : Nat) : Nat := 2 * s.scan.tick + lineStart s L

/-- GOE is active in lines `lo` to 8,640 (R266, R275). -/
def oePulse (s : State) (L lo : Nat) : List GatePulse :=
  let v := s.scan.gset.oe
  if lo ≤ L && L ≤ 8640 && fld v 0 9 < fld v 16 9 then [⟨9, lineAt s L + fld v 0 9, lineAt s L + fld v 16 9⟩] else []

/-- The pulses that line `L` issues. -/
def linePulses (s : State) (L lo : Nat) : List GatePulse :=
  (if L = 0 then [pulseOf 8 (lineAt s 0) s.scan.gset.stv] else []) ++
  (if 1 ≤ L && L ≤ 8640 then [pulseOf ⟨(L - 1) % 8, by omega⟩ (lineAt s L) s.scan.gset.gck] else []) ++ oePulse s L lo

/-- Gate signals from the start of line `L`: pulses that are not over go on, but GOE is low outside lines `lo` to 8,640. -/
def gateOf (s : State) (L lo : Nat) : Gate :=
  let on := s.scan.gate.pulses.filter (fun p =>
    decide (lineAt s L < p.fall) && (p.sig ≠ 9 || (decide (lo ≤ L) && decide (L ≤ 8640))))
  { pulses := on ++ linePulses s L lo
    gpol := if L = 0 then phi s else s.scan.gate.gpol
    glpol := if 1 ≤ L && L ≤ 8640 then polOf s (L - 1) else s.scan.gate.glpol }

/-- Level of a gate signal at CLK_SCN cycle `t`. -/
def gateLevel (g : Gate) (sig : Fin 10) (t : Nat) : Bool :=
  g.pulses.any (fun p => p.sig = sig && decide (p.rise ≤ t) && decide (t < p.fall))

/-- Gate idle: STV, GCK and GOE low, GPOL and GLPOL hold (R267). -/
def gateLow (g : Gate) : Gate := { gpol := g.gpol, glpol := g.glpol }

/-! ### Read checks (R268–R270) -/

/-- Rectangle register of region `r`: kind 0 extent x, 1 extent y, 2 expected CRC. -/
def rectKey (r kind n : Nat) : Nat := 192 * r + 64 * kind + n

def rectReg (s : State) (r kind n : Nat) : Word := sGet zeroW (rectKey r kind n) s.rects

/-- The rectangle registers active now go with a region (R254). -/
def keepRects (r : Nat) (s : State) : State :=
  { s with rects := (List.range 64).foldl (fun l n =>
      sPut zeroW (rectKey r 2 n) (getReg s (Reg.SCN_REXP n)) (sPut zeroW (rectKey r 1 n) (getReg s (Reg.SCN_RYR n))
        (sPut zeroW (rectKey r 0 n) (getReg s (Reg.SCN_RXR n)) l))) s.rects }

/-- Enabled rectangles of a slot of a region. -/
def rectsOf (s : State) (r sl : Nat) : List Nat :=
  ((List.range 16).map (· + 16 * sl)).filter (fun n => bit (rectReg s r 1 n) 31)

/-- A rectangle's CRC grows by its pixels in row `y`, as delivered (R269). -/
def rectGrow (s : State) (r y : Nat) (t : List Nat) (q : Nat × Nat) : Nat × Nat :=
  let xr := rectReg s r 0 q.1
  let yr := rectReg s r 1 q.1
  if fld yr 0 14 ≤ y && y ≤ fld yr 16 14 then
    (q.1, crcLsb 0x82F63B78 q.2 ((((t.take (3 * fld xr 16 14 + 3)).drop (3 * fld xr 0 14))).flatMap (leBytes 2)))
  else q

/-- One row delivered: the frame-store CRC and the rectangles' CRCs (R255). -/
def rowChecks (r y : Nat) (bytes : List Byte) (s : State) : State :=
  setScan { s.scan with
    crc := crcLsb 0xEDB88320 s.scan.crc bytes
    rcrc := s.scan.rcrc.map (rectGrow s r y (rowTargets bytes)) } s

/-- One failed granule: counted, reported once a panel frame (R258, R328). -/
def granuleFailed (r sl y : Nat) (s : State) (g : Nat) : State :=
  let s1 := uncorr .frame (pixelOff r sl (12 * g) y) 0 (bumpSat Reg.SCN_N_MEMERR s)
  if s1.scan.memTold then s1
  else raise 411 (scanSlot s + 2 ^ 16 * y + 2 ^ 32 * (12 * g)) (setScan { s1.scan with memTold := true } s1)

/-- The failed granules of row `y`, of the shown and then of the reference slot frame. -/
def rowErrors (r sl y : Nat) (s : State) : State :=
  let bad := (heldRow s s.scan.fifo r sl y).bad
  let s1 := bad.foldl (granuleFailed r sl y) (setScan { s.scan with granules := s.scan.granules || !bad.isEmpty } s)
  match s.scan.ref with
  | .zero => s1
  | .slot r2 sl2 => (heldRow s s.scan.rfifo r2 sl2 y).bad.foldl (granuleFailed r2 sl2 y) s1

/-- Row `y` of a slot frame that is shown (R255, R257). -/
def showRow (r sl y : Nat) (shownMissing refMissing : Bool) (s : State) : State :=
  let s1 := rowChecks r y (heldRow s s.scan.fifo r sl y).bytes (rowErrors r sl y s)
  if shownMissing then
    bumpSat Reg.SCN_N_UNDERRUN (setScan { s1.scan with lostRows := s1.scan.lostRows ++ [y], out := [] } s1)
  else
    let t := fixedTargets s r sl y
    setScan { s1.scan with sent := t, out := linePackets s y (rowCodes s y t refMissing) } s1

/-- The frame-store check of a slot frame read (R268). -/
def checkFcrc (r sl : Nat) (s : State) : State :=
  let c := s.scan.crc ^^^ 0xFFFFFFFF
  if w32 c = sGet zeroW (4 * r + sl) s.fcrc then s
  else raise 408 (sl + 2 ^ 2 * s.scan.granules.toNat + 2 ^ 32 * (c % 2 ^ 32)) (bumpSat Reg.SCN_N_FCRC s)

/-- The rectangle check at the end of a panel frame (R270). -/
def checkRects (r sl : Nat) (s : State) : State :=
  let res := fun n => (sFind n s.scan.rcrc).map (fun c => w32 (c ^^^ 0xFFFFFFFF))
  let miss := (rectsOf s r sl).filter (fun n => res n ≠ some (rectReg s r 2 n))
  let s1 := ((List.range 16).map (· + 16 * sl)).foldl (fun s n => setReg (Reg.SCN_RRES n) ((res n).getD 0) s) s
  let s2 := setReg (Reg.SCN_RMISS_S sl) (wordOf 16 (fun k => miss.contains (16 * sl + k))) s1
  if miss.isEmpty then s2 else raise 409 (sl + 2 ^ 4 * miss.length) (bumpBySat Reg.SCN_N_RECT miss.length s2)

/-- SCN_EV_UNDERRUN, once for a panel frame that lost rows (R257) (log entry 23, DEDUCED). -/
def reportUnderrun (s : State) : State :=
  match s.scan.lostRows with
  | [] => s
  | y :: _ => raise 410 (scanSlot s + 2 ^ 16 * y + 2 ^ 32 * s.scan.lostRows.length) s

/-! ### The end of a panel frame (R253, R270–R272) -/

/-- A slot tick before line 8,640 has started (R253). -/
def reportShort (s : State) : State :=
  if s.scan.line ≤ 8640 then raise 414 (scanSlot s + 2 ^ 16 * s.scan.line) (bumpSat Reg.SCN_N_SHORT s) else s

/-- The gate settings that the registers hold come into force (R254). -/
def loadGates (s : State) : State :=
  setScan { s.scan with gset := ⟨getReg s Reg.PNL_STV, getReg s Reg.PNL_GCK, getReg s Reg.PNL_OE⟩ } s

/-- The dark panel frame of a mode change runs at the old timing: its gate settings are the old ones (R272). -/
def oldTiming (s : State) : Bool :=
  match s.scan.mode with
  | some m => !m.idle
  | none => false

/-- The transition of a mode change: ticks stop until the generator seeds, new gate settings are loaded, and lanes retrain
at a new rate (R272). -/
def enterTransition (s : State) : State :=
  match s.scan.mode with
  | none => s
  | some m =>
    let s1 := { s with gl := { s.gl with seeded := false } }
    loadGates (setScan { s1.scan with mode := some { m with idle := true } } (if m.rate && !m.idle then retrainPanel s1 else s1))

/-- Gate idle follows a dark panel frame (R271, R272, R367, R419). -/
def enterIdle (s : State) : State :=
  let s1 := if s.pwr.shut then setRegFld Reg.THM_STAT 14 2 2 s else s
  enterTransition (restTiles (setScanState scIDLE (setScan { s1.scan with
    active := false, gate := gateLow s1.scan.gate, out := [], dark := none, last := .zero, shownAt := none,
    blocked := false, fifo := [], rfifo := [] } s1)))

/-- The panel frame in progress ends. Gate idle follows a dark one, but for a shutdown decided in it (R273). -/
def endFrame (s : State) : State :=
  if s.scan.active then
    let s1 := applySkipped s.scan.line (reportUnderrun (reportShort s))
    let s2 := match s1.scan.shownAt with
      | some (r, sl) => checkRects r sl (checkFcrc r sl s1)
      | none => s1
    let s3 := setScan { s2.scan with active := false } s2
    if scanState s3 = scDARK && s3.scan.dark.isNone then enterIdle s3 else s3
  else s

/-! ### The start of a panel frame (R252, R254, R259, R271, R291, R305) -/

/-- P of the panel frame that starts now (R252). `now` counts 4 ns. -/
def newP (s : State) : Nat := if s.scan.nominal then nominalP (tickMode s) else 2 * (s.now - s.scan.tick)

/-- Copy a table's shadow into its active copy. -/
def swapTab (t : Nat) (s : State) : State :=
  let kept := s.tabs.filter (fun e => !(tabKey t true 0 ≤ e.1 && e.1 < tabKey (t + 1) false 0))
  let mine := s.tabs.filter (fun e => tabKey t false 0 ≤ e.1 && e.1 < tabKey t true 0)
  { s with tabs := mine.foldr (fun e l => sPut zeroW (e.1 + 2 ^ 18) e.2 l) kept }

/-- A panel frame starts: what it shows, its reference, and its state. The first one after a reset, a mode change or Night
uses up the nominal P (R252). -/
def startFrame (st : Nat) (shown : Option (Nat × Nat)) (s0 : State) : State :=
  let s := if oldTiming s0 then s0 else loadGates s0
  let r := match shown with
    | none => []
    | some (r, sl) => (rectsOf s r sl).map (fun n => (n, 0xFFFFFFFF))
  setScanState st (fillFifos (setScan { s.scan with
    active := true, line := 0, nominal := false, shownAt := shown, shownWas := s.scan.shownAt,
    ref := if st = scNORMAL then s.scan.last else .zero,
    last := (match shown with
      | some (r, sl) => .slot r sl
      | none => .zero),
    lostRows := [], memTold := false, granules := false, crc := 0xFFFFFFFF, rcrc := r, out := [] } s))

/-- A dark panel frame starts (R271). -/
def startDark (cause : Nat) (s : State) : State :=
  raise 416 cause (bumpSat Reg.PNL_N_DARK (startFrame scDARK none (setScan { s.scan with dark := none } s)))

/-- What scan-out and panel drive wait on: a panel lane that is UP, and the two units enabled (R23, R43). -/
def scanMay (s : State) : Bool := panelUp s && enabled s 0x28 && enabled s 0x29

/-- Gate idle while scan-out may not run, and its end (log entry 23, DEDUCED). -/
def scanBlock (s : State) : State :=
  if scanMay s then
    if s.scan.blocked then setScanState scNORMAL (setScan { s.scan with blocked := false, last := .zero } s) else s
  else if gateIdle s then s
  else setScanState scIDLE (setScan { s.scan with blocked := true } s)

/-- No panel frame at this slot tick. -/
def holdIdle (s : State) : State :=
  setScan { s.scan with
    gate := gateLow s.scan.gate, shownWas := s.scan.shownAt, shownAt := none, last := .zero, out := [], fifo := [],
    rfifo := [] } s

/-- The panel frame of this slot tick (log entry 23, DEDUCED). -/
def beginPanel (s0 : State) : State :=
  let s := scanBlock s0
  match s.scan.dark with
  | some c =>
    if gateIdle s || (c = 1 && (s.pwr.st = .evening || s.pwr.st = .night)) then enterIdle s else startDark c.toNat s
  | none =>
    if nightOn s then
      if leavingNight s then enterIdle s else if scanMay s then startFrame scNIGHT none (swapTab tabNSB s) else holdIdle s
    else if gateIdle s then holdIdle s
    else startFrame scNORMAL (some (showingRegion s, scanSlot s)) s

/-- Tiles at a slot tick, where their units are enabled: those initialised become ON, those ON take new references. -/
def tilesTick (s : State) : State :=
  (List.range 24).foldl (fun s t =>
    if tileMay s t then
      let s1 := tileOn t s
      if (getTile s1 t).st = .on then newRefs t s1 else s1
    else s) s

/-- Slot tick `sl` (R252, R253). -/
def slotTick (sl : Nat) (s : State) : State :=
  let s1 := endFrame s
  let s2 := setScan { s1.scan with p := newP s1, tick := s1.now, nextSlot := sl + 1 }
    { s1 with period := { s1.period with twilight := false, opening := false } }
  (List.range 24).foldl firstBlock (beginPanel (tilesTick (setRegFld Reg.SCN_STAT 8 2 sl s2)))

/-- The tick is issued when ψ reaches its instant (R351, R354). -/
def execSlotTick (s : State) : Host.Outcome State Fault Refusal :=
  done (
    if unitOn s 0x35 && s.gl.seeded && s.scan.nextSlot < 4 then
      match reachPsi (slotAt s s.scan.nextSlot) s with
      | some s1 => slotTick s.scan.nextSlot (tickOut false s1)
      | none => s
    else s)

/-! ### Lines (R252, R256, R266, R274, R275) -/

/-- Bit of the night strip for strip row `r`, subpixel column `x` (R274). -/
def stripBit (s : State) (r x : Nat) : Bool := bit (getTab s tabNSB true (1440 * r + x / 32)) (x % 32)

/-- The codes of a night-strip row (R275). -/
def stripCodes (s : State) (y : Nat) : List Nat :=
  (List.range 46080).map (fun x =>
    if stripBit s (y - 8512) x then regFld s Reg.PNL_NIGHT 16 10 else regFld s Reg.PNL_NIGHT 0 10)

/-- The codes of a row of a dark panel frame (R271). -/
def darkCodes : List Nat := List.replicate 46080 0

/-- What line `L` sends on the panel lanes. -/
def lineOutput (L : Nat) (shownMissing refMissing : Bool) (s : State) : State :=
  let put := fun (p : List LanePkt) => setScan { s.scan with out := p } s
  if L < 8640 then
    if scanState s = scDARK then put (linePackets s L darkCodes)
    else if scanState s = scNIGHT then put (if 8512 ≤ L then linePackets s L (stripCodes s L) else [])
    else
      match s.scan.shownAt with
      | some (r, sl) => issueReads [L + 48] (dropRows L (showRow r sl L shownMissing refMissing s))
      | none => put []
  else sendDrvreg (put (if L = 8640 then vblankPackets s else []))

/-- SCN_FIFO_MIN follows the lowest fill. -/
def fifoMin (fill : Nat) (s : State) : State := setRegN Reg.SCN_FIFO_MIN (min (regN s Reg.SCN_FIFO_MIN) fill) s

/-- Line `L` starts. -/
def lineStep (L fill : Nat) (shownMissing refMissing : Bool) (s : State) : State :=
  let s0 := { s with period := { s.period with opening := false } }
  let s1 := setRegFld Reg.SCN_STAT 16 14 L (setScan { s.scan with line := L + 1 } (fifoMin fill s0))
  let s2 := lineOutput L shownMissing refMissing (if L = 8640 then readAhead s1 else s1)
  let lo := if scanState s2 = scNIGHT then 8513 else 1
  applyAt L (transmit (setScan { s2.scan with gate := gateOf s2 L lo } s2))

def execLineStart (fill : Fin 49) (shownMissing refMissing : Bool) (s : State) : Host.Outcome State Fault Refusal :=
  if unitOn s 0x28 && s.scan.active && s.scan.line < 8736 then
    done (lineStep s.scan.line fill.val shownMissing refMissing s)
  else done s

/-- The blanking of a panel frame starts: a twilight window opens (R25, R27). -/
def execTwilightWindowOpen (s : State) : Host.Outcome State Fault Refusal :=
  if unitOn s 0x28 && s.scan.active && 8640 ≤ s.scan.line then done { s with period := { s.period with twilight := true, opening := true } }
  else done s

/-! ### Tables and SCN_FIFO_MIN -/

def odRead (s : State) : Word × State := tabRead Reg.SCN_OD_IDX tabOD 19602 s
def odWrite (v : Word) (s : State) : State := tabWrite 0x28 Reg.SCN_OD_IDX tabOD 19602 (fun _ => 0xFFFF) v s

def execScnOdData (m : Master) (x : Acc) (s : State) : Host.Outcome State Fault Refusal :=
  done (dataAccess m Reg.SCN_OD_DATA x odRead odWrite s)

def nsbRead (s : State) : Word × State := tabRead Reg.PNL_NSB_IDX tabNSB 184320 s

/-- A write of the strip buffer, used from the next night-strip panel frame (R274). -/
def nsbWrite (v : Word) (s : State) : State :=
  let i := regN s Reg.PNL_NSB_IDX
  let s1 := setRegN Reg.PNL_NSB_IDX (nextIdx 184320 i) s
  if i < 184320 then setTab tabNSB false i v s1 else s1

def execPnlNsbData (m : Master) (x : Acc) (s : State) : Host.Outcome State Fault Refusal :=
  done (dataAccess m Reg.PNL_NSB_DATA x nsbRead nsbWrite s)

/-- A read of SCN_FIFO_MIN (R256). -/
def fifoMinRead (s : State) : Word × State := (getReg s Reg.SCN_FIFO_MIN, setRegN Reg.SCN_FIFO_MIN 48 s)

def execScnFifoMin (m : Master) (s : State) : Host.Outcome State Fault Refusal :=
  done (readWith m Reg.SCN_FIFO_MIN fifoMinRead s)

end Sys2Proof.Machine
end

