-- ==== Sys2Proof/Machine/Thermal.lean ====
section
/-!
DEFINITION. Zone temperatures, their cross-check, thresholds and throttling, the orderly shutdown, the hardware trip and
recalibration (13_thermal_calibration.md, R356–R380). `refDeviation` of a sample is in units of 0.01 %.
-/
namespace Sys2Proof.Machine

def setThm (t : Thermal) (s : State) : State := { s with thm := t }

abbrev zeroI : Nat → Int := fun _ => 0

/-! ### Zones (R356–R358) -/

/-- Neighbours of a zone in the 4 × 3 grid. -/
def zoneNear (z : Nat) : List Nat :=
  (List.range 12).filter (fun y =>
    (y + 1 = z && z % 4 ≠ 0) || (z + 1 = y && y % 4 ≠ 0) || y + 4 = z || z + 4 = y)

def zoneFaulty (s : State) (z : Nat) : Bool := regBit s Reg.THM_STAT (16 + z)

/-- GT and OT of a zone: nominal where P1 gives none (R401). -/
def zoneTrim (s : State) (z : Nat) : Nat × Int := sGet (fun _ => (0x4000, 0)) z s.thm.trims

/-- A raw code as S12.4 °C (R357). -/
def sampleTemp (gt : Nat) (ot : Int) (c : Nat) : Int := ((c * gt + 8192) / 16384 : Nat) + ot - 768

def zoneSamples (s : State) (z : Nat) : List Int := sGet (fun _ => []) z s.thm.samples

/-- A of a zone: its last four samples (R358). -/
def zoneAvg (s : State) (z : Nat) : Int := divFloor ((zoneSamples s z).sum + 2) 4

/-- T_z as THM_ZT_z shows it. -/
def zoneT (s : State) (z : Nat) : Int := sx 16 (regN s (Reg.THM_ZT z))

/-- T_hot and its zone as THM_HOT shows them. -/
def tHot (s : State) : Int := sx 16 (regN s Reg.THM_HOT)
def hotZone (s : State) : Nat := regFld s Reg.THM_HOT 16 4

/-- The largest of some temperatures. -/
def largest : List Int → Option Int
  | [] => none
  | a :: t =>
    match largest t with
    | none => some a
    | some b => some (max a b)

/-- The substitute of a faulty zone (R360); with no healthy zone at all the manual states none: a free value (log entry 31, DEDUCED). -/
def substitute (s : State) (avg : Nat → Int) (z : Nat) : Int :=
  let well := fun (l : List Nat) => largest ((l.filter (fun y => !zoneFaulty s y)).map avg)
  match well (zoneNear z) with
  | some t => t + 48
  | none =>
    match well (List.range 12) with
    | some t => t + 48
    | none => sx 16 (Config.freeNat (s.freeCtr + z))

/-- THM_ZT_z: FAULTY, RAW and TEMP. -/
def storeZone (t : Int) (z : Nat) (s : State) : State :=
  setRegN (Reg.THM_ZT z) (tc 16 t + 2 ^ 16 * tc 15 (zoneAvg s z) + 2 ^ 31 * (zoneFaulty s z).toNat) s

/-- The zone temperatures, T_hot, its zone and the maximum follow the averages. -/
def storeTemps (s : State) : State :=
  let temp := fun z => if zoneFaulty s z then substitute s (zoneAvg s) z else zoneAvg s z
  let s1 := (List.range 12).foldl (fun s z => storeZone (temp z) z s) { s with freeCtr := s.freeCtr + 12 }
  let hot := ((List.range 12).map temp).foldl max (temp 0)
  let z := ((List.range 12).find? (fun z => temp z = hot)).getD 0
  let s2 := setRegN Reg.THM_HOT (tc 16 hot + 2 ^ 16 * z) s1
  if sx 16 (regN s2 Reg.THM_MAX) < hot then setRegN Reg.THM_MAX (tc 16 hot) s2 else s2

/-- A zone becomes faulty: cause 1 deviation, 2 open or shorted diode (R357, R359). -/
def zoneFault (z cause : Nat) (s : State) : State :=
  raise 495 (z + 2 ^ 4 * cause + 2 ^ 32 * tc 16 (zoneAvg s z)) (setRegBit Reg.THM_STAT (16 + z) true s)

/-! ### The orderly shutdown and the hardware trip (R362, R367–R370) -/

/-- The composer stops; the frame being composed is abandoned. -/
def stopComposer (s : State) : State :=
  setComp { s.comp with
    st := if s.comp.st = .composing then .none else s.comp.st, coarseQ := [], fullQ := [], running := [],
    finQ := [], redo := [], audits := [], verItems := [], verSigs := [] } s

/-- A dark panel frame becomes due, cause as in R271; during a mode change the sequence ends here (R273). -/
def askDark (cause : Nat) (s : State) : State :=
  let s1 := setScan { s.scan with dark := some (BitVec.ofNat 2 cause), mode := none } s
  match s.scan.mode with
  | none => s1
  | some m => if m.idle then enterIdle s1 else s1

/-- The decision of an orderly shutdown (R367); a second cause changes nothing (R368). -/
def orderlyShutdown (cause : Nat) (s : State) : State :=
  if s.pwr.shut || !live s then s
  else
    let s1 := { s with pwr := { s.pwr with shut := true, req := none } }
    let s2 := setRegFld Reg.THM_STAT 12 2 cause (setRegFld Reg.THM_STAT 14 2 1 s1)
    let s3 := raise 494 (cause + 2 ^ 8 * hotZone s2 + 2 ^ 32 * tc 16 (tHot s2)) s2
    askDark 1 (cancelCommit (stopComposer s3))

/-- Every lane in electrical idle (R370). -/
def idleLanes (s : State) : State := (hostLanes ++ panelLanes).foldl (fun s l => setLaneState l lsDARK s) s

/-- R370 at the first sample at or above 125 °C. The store finishes the word in progress and no more (R406). -/
def hardwareTrip (z : Nat) (s : State) : State :=
  let s1 := idleLanes (ozCut (setRegBit Reg.SYS_RESET_CAUSE 8 true (setRegFld Reg.AON_STAT 4 4 z s)))
  { s1 with
    pwr := { s1.pwr with tripped := true, trip := true }
    boot := { s1.boot with tripTold := false }
    scan := { s1.scan with gate := {}, active := false, out := [] } }

/-- Life records of every tile that is ON (R307, R367). -/
def writeLives (s : State) : State :=
  (List.range 24).foldl (fun s t => if (getTile s t).st = .on then writeLife t s else s) s

/-- What Midnight loses: STICKY registers but OZD_LOCKOUT and the time bases' state, the LCT, both memories and the
repair state (R407, R413). A lost register holds its power-on value (log entry 14, DESIGN CHOICE). -/
def loseMidnight (s : State) : State :=
  { s with
    regs := s.regs.filter (fun e => regClass e.1 ≠ .sticky || e.1 = Reg.OZD_LOCKOUT)
    lct := []
    lctc := {}
    fs := []
    fsUE := []
    scene := []
    scUE := []
    memF := {}
    memS := {}
    dram := freshDram s.now
    acts := []
    thm := { s.thm with tref := [], started := [], use := [], txUse := [] } }

/-- Midnight begins (R416, R419, R435). -/
def enterMidnight (byShutdown : Bool) (s : State) : State :=
  let old := if s.pwr.st = .evening then 1 else if s.pwr.st = .night then 2 else 0
  let s1 := raise 505 (old + 2 ^ 4 * 3) (setRegBit Reg.AON_STAT 1 byShutdown (setRegBit Reg.AON_STAT 0 true s))
  loseMidnight <| ozFinish { s1 with
    pwr := { s1.pwr with st := .midnight, req := none, due := none, leaving := none, dip := none }
    mnt := {}
    comp := {}
    mirror := []
    gl := { s1.gl with seeded := false }
    link := {}
    period := { s1.period with phase := .off } }

/-- The records of a shutdown, then THERM_TRIP_N (R367, R405). The queue of a dip is written first (log entry 33, DEDUCED). -/
def shutdownRecords (s : State) : State :=
  let s1 := ozFlush { s with pwr := { s.pwr with dip := none } }
  let cause := regFld s1 Reg.THM_STAT 12 2
  let s2 := counterAdd 5 1 (ozLog 1 [w64 (cause + 2 ^ 8 * hotZone s1 + 2 ^ 32 * tc 16 (tHot s1)),
    w64 (regN s1 Reg.SCN_PERIOD)] (writeLives s1))
  let s3 := setRegBit Reg.SYS_RESET_CAUSE 9 true (setRegFld Reg.THM_STAT 14 2 3 s2)
  enterMidnight true { s3 with pwr := { s3.pwr with trip := true }, boot := { s3.boot with shutTold := false } }

/-- In a dip only the shutdown that the dip began writes (R405); another waits for the recovery. -/
def shutdownMayWrite (s : State) : Bool := s.pwr.dip.isNone || regFld s Reg.THM_STAT 12 2 = 2

def execShutdownRecords (s : State) : Host.Outcome State Fault Refusal :=
  done (if live s && s.pwr.shut && regFld s Reg.THM_STAT 14 2 = 2 && shutdownMayWrite s then shutdownRecords s else s)

/-- Effect of a write of THM_CMD. -/
def effThmCmd (v : Word) (s : State) : State := if bit v 0 then orderlyShutdown 3 s else s

def execShutdown (m : Master) (s : State) : Host.Outcome State Fault Refusal :=
  done (writePriv m Reg.THM_CMD 1 (effThmCmd 1) s)

/-! ### Thresholds (R363–R365) -/

/-- A threshold as it acts: at or above 125 °C it is 124.9375 °C. -/
def threshold (s : State) (i : Nat) : Int := min (sx 16 (regN s (Reg.THM_THR + 4 * i))) 1999

def dminOf (s : State) : Int := clampI 16 256 (regFld s Reg.THM_CTL 0 9)

/-- D8 of R365, from the last T_hot and the T_thr that the last sample took (R364). -/
def dutyNow (s : State) : Nat :=
  if regBit s Reg.THM_STAT 10 then (clampI (dminOf s) 256 (256 - (tHot s - s.thm.thr))).toNat else 256

/-- Threshold 0 is crossed: THROT. -/
def setThrot (on : Bool) (s : State) : State :=
  let s1 := setRegBit Reg.THM_STAT 10 on s
  raise 492 (on.toNat + 2 ^ 16 * dutyNow s1 + 2 ^ 32 * tc 16 (tHot s1)) s1

/-- Threshold 1 is crossed: WARN. -/
def setWarn (on : Bool) (s : State) : State :=
  raise 493 (on.toNat + 2 ^ 8 * hotZone s + 2 ^ 32 * tc 16 (tHot s)) (setRegBit Reg.THM_STAT 11 on s)

/-- One threshold at one sample: the counts of samples in a row, and the crossing at the eighth. -/
def thresholdStep (i : Nat) (s : State) : State :=
  let up := if threshold s i ≤ tHot s then sGet zeroN i s.thm.up + 1 else 0
  let down := if tHot s < threshold s i - 32 then sGet zeroN i s.thm.down + 1 else 0
  let s1 := setThm { s.thm with up := sPut zeroN i (min up 8) s.thm.up, down := sPut zeroN i (min down 8) s.thm.down } s
  if i = 2 then if 8 ≤ up then orderlyShutdown 0 s1 else s1
  else
    let on := regBit s1 Reg.THM_STAT (10 + i)
    let set := if i = 0 then setThrot else setWarn
    if 8 ≤ up && !on then set true s1 else if 8 ≤ down && on then set false s1 else s1

/-- A write of a threshold restarts its counts (R364). -/
def effThreshold (i : Nat) (v : Word) (s : State) : State :=
  setReg (Reg.THM_THR + 4 * i) (v &&& 0xFFFF)
    (setThm { s.thm with up := sPut zeroN i 0 s.thm.up, down := sPut zeroN i 0 s.thm.down } s)

/-- Below the grade's junction range for 8 samples (R364) (log entry 31, DEDUCED). -/
def rangeStep (s : State) : State :=
  let low : Int := if s.boot.grade then -400 else 0
  let n := if tHot s < low then min (s.thm.cold + 1) 9 else 0
  let s1 := setThm { s.thm with cold := n } s
  if n = 8 then raise 497 (hotZone s + 2 ^ 32 * tc 16 (tHot s)) s1 else s1

/-- The monitor of the band-gap (R373). -/
def refStep (dev : Nat) (s : State) : State :=
  let out := if 200 < dev then s.thm.refOut + 1 else 0
  let inn := if dev ≤ 150 then s.thm.refIn + 1 else 0
  let s1 := setThm { s.thm with refOut := min out 8, refIn := min inn 8 } s
  if 8 ≤ out && !s.thm.refBad then raise 502 1 (setThm { s1.thm with refBad := true } s1)
  else if 8 ≤ inn && s.thm.refBad then raise 502 0 (setThm { s1.thm with refBad := false } s1)
  else s1

/-! ### Recalibration (R374–R379) -/

/-- Units of a domain: host lanes, panel lanes, channels, pseudo-channels. -/
def domainUnits (d : Nat) : Nat := if d = 0 then 18 else if d = 1 then 108 else if d = 2 then 4 else 32

/-- Zone of a unit's domain (R374). -/
def domainZone (d u : Nat) : Nat :=
  if d = 0 then 0 else if d = 1 then (if u < 54 then 3 else 7) else if d = 2 then 8 else 11

def domainTemp (s : State) (d u : Nat) : Int := zoneT s (domainZone d u)

/-! The sets and the settings in use (R374–R376) -/

/-- Number of a set's word. -/
def setKey (d u t : Nat) : Nat := 512 * d + 4 * u + t

abbrev noWord : Nat → Option DWord := fun _ => none

/-- The word of the set in force for a unit at a temperature point. -/
def setWord (s : State) (d u t : Nat) : DWord := (sGet noWord (setKey d u t) s.thm.sets).getD 0

/-- One trim code of a word. -/
def calCode (f : Nat × Nat × Bool) (w : DWord) : Int :=
  if f.2.2 then sx f.2.1 (nfld w.toNat f.1 f.2.1) else (nfld w.toNat f.1 f.2.1 : Nat)

/-- The interpolated starting values of a unit at temperature `temp`, each trim code by R375 (log entry 49, DEDUCED). -/
def calStart (s : State) (d u : Nat) (temp : Int) : DWord :=
  (Config.calFields d).foldl (fun w f =>
    w ||| w64 (tc f.2.1 (interp4 (fun t => calCode f (setWord s d u t)) temp) * 2 ^ f.1)) 0

/-- The settings that a unit works with: those a run began from while one is under way, else those in use. -/
def unitSetting (s : State) (d u : Nat) : Option DWord :=
  match sGet noRun (unitKey d u) s.thm.started with
  | some r => some r.2
  | none => sGet noWord (unitKey d u) s.thm.use

/-- Starting values of every unit of a domain, at the domain's temperature. -/
def startsOf (s : State) (d : Nat) : Sparse (Option DWord) :=
  (List.range (domainUnits d)).map (fun u => (unitKey d u, some (calStart s d u (domainTemp s d u))))

/-- The first bring-up after a power-on reset, at the first temperature reading: each unit starts from its interpolated
values (R376). Settings in use stand (log entry 49, DEDUCED). -/
def bringUp (s : State) : State :=
  if s.thm.use.isEmpty then
    setThm { s.thm with use := (List.range 4).flatMap (startsOf s), txUse := startsOf s 0 } s
  else s

/-- At a retrain a host lane takes the transmit part of its setting in use (R378). -/
def takeTransmit (u : Nat) (s : State) : State :=
  setThm { s.thm with txUse := sPut noWord u (sGet noWord (unitKey 0 u) s.thm.use) s.thm.txUse } s

def unitTref (s : State) (d u : Nat) : Int := sGet zeroI (unitKey d u) s.thm.tref

/-- The group of which a domain's run takes one unit at a time: the link, the driver, the channel, the stack (R378). -/
def calGroup (d u : Nat) : Nat := if d = 0 then 0 else if d = 1 then u / 3 else if d = 2 then u else u / 16

/-- The units whose turn it is in their groups: the lowest-numbered that are left. -/
def calHeads (s : State) (d : Nat) : List Nat :=
  let us := (s.thm.units.filter (fun q => q.1 = d)).map Prod.snd
  us.filter (fun u => us.all (fun v => calGroup d v ≠ calGroup d u || decide (u ≤ v)))

/-- The unit's activity is queued, running or waits to be queued again. -/
def calAsked (s : State) (d u : Nat) : Bool :=
  (s.mnt.queue ++ s.mnt.requeue).any (fun r => r.act = d + 1 && r.unit = u)

/-- Ask for a unit's calibration; refused, it is asked for again 100 ms later (R377). -/
def calAsk (d : Nat) (host : Bool) (s : State) (u : Nat) : State :=
  if calAsked s d u || s.thm.retry.contains d then s
  else
    let s1 := mntPush (d + 1) u host s
    if calAsked s1 d u then s1 else setThm { s1.thm with retry := d :: s1.thm.retry } s1

/-- Ask for the next units of domain `d`'s run. -/
def calPush (d : Nat) (host : Bool) (s : State) : State := (calHeads s d).foldl (calAsk d host) s

/-- A run of a domain is requested; not again while it is queued or running (R377, R378). -/
def calRequest (d : Nat) (host : Bool) (s : State) : State :=
  if s.thm.runs.contains d then s
  else
    calPush d host (setThm { s.thm with
      runs := d :: s.thm.runs, units := s.thm.units ++ (List.range (domainUnits d)).map (fun u => (d, u)) } s)

/-- The trigger of R377 at a sample. -/
def calTrigger (s : State) : State :=
  (List.range 4).foldl (fun s d =>
    let drift := (List.range (domainUnits d)).any (fun u =>
      decide (deltaTcal s < ((domainTemp s d u - unitTref s d u).natAbs : Int)))
    if enabled s 0x37 && regBit s Reg.CAL_CTL (16 + d) && drift then calRequest d false s else s) s

/-- CAL_TREF_d: the lowest and the highest T_ref of the domain. -/
def storeTref (d : Nat) (s : State) : State :=
  let ts := (List.range (domainUnits d)).map (unitTref s d)
  let lo := ts.foldl min (unitTref s d 0)
  let hi := ts.foldl max (unitTref s d 0)
  setRegN (Reg.CAL_TREF d) (tc 16 lo + 2 ^ 16 * tc 16 hi) s

/-- The outcome of a unit's run (R376, R379): its result is the setting in use, or the former one stays (log entry 32,
DEDUCED). -/
def calRecord (d u : Nat) (ok : Bool) (s : State) : State :=
  match sGet noRun (unitKey d u) s.thm.started with
  | none => s
  | some (t, w) =>
    let s1 := dropRun (d + 1) u s
    if ok then
      let use := sPut noWord (unitKey d u) (some (Config.calResult s1.freeCtr w)) s1.thm.use
      storeTref d (bumpWrap Reg.CAL_N_RUN (setThm { s1.thm with
        tref := sPut zeroI (unitKey d u) t s1.thm.tref, use := use } { s1 with freeCtr := s1.freeCtr + 1 }))
    else
      raise 501 (d + 2 ^ 8 * u + 2 ^ 32 * tc 16 (domainTemp s1 d u)) (bumpSat Reg.CAL_N_FAIL s1)

/-- A unit leaves its domain's run: the next is asked for, or the run is over, with CAL_EV_DONE (log entry 32, DEDUCED). -/
def calAdvance (d u : Nat) (s : State) : State :=
  let rest := s.thm.units.filter (· ≠ (d, u))
  let s1 := setThm { s.thm with units := rest } s
  if rest.any (fun q => q.1 = d) then calPush d false s1
  else
    let s2 := setThm { s1.thm with runs := s1.thm.runs.filter (· ≠ d) } s1
    raise 500 (d + 2 ^ 32 * tc 16 (unitTref s2 d u)) s2

/-- Domain 4 of CAL_REQ at a tile: one that is ON, with no run under way (R377). -/
def requestTrims (s : State) (t : Nat) : State :=
  if (getTile s t).st = .on && (getTile s t).trims.isEmpty then startTrims t s else s

/-- Effect of a write of CAL_REQ. -/
def effCalReq (v : Word) (s : State) : State :=
  let s1 := (List.range 4).foldl (fun s d => if bit v d then calRequest d true s else s) s
  if bit v 4 then (List.range 24).foldl requestTrims s1 else s1

def execCalReq (m : Master) (v : Word) (s : State) : Host.Outcome State Fault Refusal :=
  done (writeWith m Reg.CAL_REQ v (effCalReq v) s)

def execCalRetryTimer (domain : Fin 5) (s : State) : Host.Outcome State Fault Refusal :=
  done (
    if unitOn s 0x37 && s.thm.retry.contains domain.val then
      calPush domain.val false (setThm { s.thm with retry := s.thm.retry.filter (· ≠ domain.val) } s)
    else s)

/-- A lane that is calibrated in another's place is so only once that one carries its data (R185, R187). -/
def calReady (s : State) (d u : Nat) : Bool :=
  let ok := fun l => match (getAux s l).phase with
    | .away => true
    | .none => true
    | _ => false
  if d = 0 then ok (.host (Fin.ofNat 18 u)) else if d = 1 then ok (.panel (Fin.ofNat 108 u)) else true

def execCalRunDone (domain : Fin 5) (unit : BitVec 7) (ok : Bool) (s : State) : Host.Outcome State Fault Refusal :=
  done (
    if unitOn s 0x37 && mntRunning s (domain.val + 1) unit.toNat && decide (domain.val < 4) &&
      calReady s domain.val unit.toNat then
      calRecord domain.val unit.toNat ok s
    else s)

/-- CAL_STAT. -/
def calStat (s : State) : Word :=
  let run := fun d => if d = 4 then s.tiles.any (fun e => !e.2.trims.isEmpty) else s.thm.runs.contains d
  setBit (setBit (wordOf 5 run) 8 s.thm.refBad) 9 s.thm.setBad

/-- The trims of the 7048 drivers stand in one table of 12 entries, the index wrapping (R374, R459). -/
def ledIndex (s : State) : Nat := regFld s Reg.CAL_LEDSET_IDX 0 4

def nextLed (s : State) : State := setRegN Reg.CAL_LEDSET_IDX (if ledIndex s < 11 then ledIndex s + 1 else 0) s

def ledRead (s : State) : Word × State :=
  (if ledIndex s < 12 then getTab s tabLEDSET true (ledIndex s) else 0, nextLed s)

def ledWrite (v : Word) (s : State) : State :=
  nextLed (if ledIndex s < 12 then setTab tabLEDSET true (ledIndex s) (v &&& 0xFFF) s else s)

def execCalLedsetData (m : Master) (x : Acc) (s : State) : Host.Outcome State Fault Refusal :=
  done (dataAccess m Reg.CAL_LEDSET_DATA x ledRead ledWrite s)

/-! ### The sample and the cross-check (R356–R363, R369) -/

/-- A code enters a zone's samples; an open or shorted diode makes the zone faulty at once. -/
def takeSample (codes : Vector (BitVec 12) 12) (z : Fin 12) (s : State) : State :=
  let c := codes[z].toNat
  let t := sampleTemp (zoneTrim s z.val).1 (zoneTrim s z.val).2 c
  let s1 := setThm { s.thm with
    samples := sPut (fun _ => []) z.val (t :: (zoneSamples s z.val).take 3) s.thm.samples } s
  if (c = 0 || c = 4095) && !zoneFaulty s1 z.val then zoneFault z.val 2 s1 else s1

/-- The lowest-numbered healthy zone whose sample is at or above 125 °C (R369, R370) (log entry 31, DEDUCED). -/
def tripZone (s : State) : Option Nat :=
  (List.range 12).find? (fun z => !zoneFaulty s z && decide (2000 ≤ ((zoneSamples s z).head?).getD 0))

/-- Six or more faulty zones start the orderly shutdown (R362). -/
def faultyShutdown (s : State) : State :=
  if 6 ≤ ((List.range 12).filter (zoneFaulty s)).length then orderlyShutdown 1 s else s

/-- What is compared from the fourth sample on. -/
def compareTemps (s : State) : State :=
  calTrigger (bringUp (rangeStep (thresholdStep 2 (thresholdStep 1 (thresholdStep 0 (storeTemps s))))))

/-- T_u of R261: a zone's temperature, or SCN_PTEMP. -/
def bandTemp (s : State) : Int :=
  if regBit s Reg.SCN_ODT 4 then sx 16 (regN s Reg.SCN_PTEMP)
  else zoneT s (if regFld s Reg.SCN_ODT 0 4 < 12 then regFld s Reg.SCN_ODT 0 4 else 0)

/-- The filter of R261 at a sample; a zone has no average before its fourth sample (log entry 31, DEDUCED). -/
def bandFilter (s : State) : State :=
  if regBit s Reg.SCN_ODT 4 || decide (4 ≤ s.thm.n) then
    let x := 256 * bandTemp s
    let acc := if s.scan.tfSeen then s.scan.tfAcc + divFloor (x - s.scan.tfAcc) 256 else x
    setRegN Reg.SCN_TF (tc 16 (divFloor acc 256)) (setScan { s.scan with tfAcc := acc, tfSeen := true } s)
  else s

def thermalSample (codes : Vector (BitVec 12) 12) (dev : Nat) (s : State) : State :=
  let s1 := (List.finRange 12).foldl (fun s z => takeSample codes z s) s
  let s2 := setThm { s1.thm with n := min (s1.thm.n + 1) 4, thr := threshold s1 0 } s1
  match tripZone s2 with
  | some z => hardwareTrip z s2
  | none =>
    let s3 := faultyShutdown (refStep dev s2)
    bandFilter (if 4 ≤ s3.thm.n then compareTemps s3 else s3)

def execThermalSample (codes : Vector (BitVec 12) 12) (refDeviation : Nat) (s : State) :
    Host.Outcome State Fault Refusal :=
  done (if unitOn s 0x36 then thermalSample codes refDeviation s else s)

/-- k·A − sum of the k healthy neighbours' A, and k. -/
def zoneDiff (s : State) (z : Nat) : Int × Nat :=
  let near := (zoneNear z).filter (fun y => !zoneFaulty s y)
  (near.length * zoneAvg s z - (near.map (zoneAvg s)).sum, near.length)

/-- The check of a healthy zone: skipped with fewer than two healthy neighbours, it leaves the count as it was. -/
def checkHealthy (s : State) (z : Nat) : Nat :=
  let (d, k) := zoneDiff s z
  let n := sGet zeroN z s.thm.dev
  if k < 2 then n else if 128 * k < d.natAbs then min (n + 1) 3 else 0

/-- A zone's average is within 8 °C of its healthy neighbours' mean (R361). -/
def checkWithin (s : State) (z : Nat) : Bool :=
  let (d, k) := zoneDiff s z
  decide (k ≠ 0) && decide (d.natAbs ≤ 128 * k)

/-- The zone with the largest difference among those at three checks, the lowest-numbered of equals. -/
def worstZone (s : State) (zs : List Nat) : Option Nat :=
  zs.foldl (fun b z =>
    match b with
    | none => some z
    | some y =>
      let (dz, kz) := zoneDiff s z
      let (dy, ky) := zoneDiff s y
      if dy.natAbs * kz < dz.natAbs * ky then some z else some y) none

def crossCheck (s : State) : State :=
  let dev := (List.range 12).foldl (fun l z =>
    sPut zeroN z (if zoneFaulty s z then 0 else checkHealthy s z) l) []
  let checks := (List.range 12).foldl (fun l z =>
    sPut (fun _ => []) z
      (checkWithin s z :: (sGet (fun _ => []) z s.thm.checks).take 2) l) []
  let s1 := setThm { s.thm with dev := dev, checks := checks } s
  let due := (List.range 12).filter (fun z =>
    !zoneFaulty s z && decide (2 ≤ (zoneDiff s z).2) && decide (3 ≤ sGet zeroN z dev))
  match worstZone s due with
  | none => s1
  | some z => faultyShutdown (zoneFault z 1 (setThm { s1.thm with dev := sPut zeroN z 0 s1.thm.dev } s1))

def execSensorCrossCheck (s : State) : Host.Outcome State Fault Refusal :=
  done (if unitOn s 0x36 && decide (4 ≤ s.thm.n) then crossCheck s else s)

/-- Effect of a write of THM_ZCMD (R361). -/
def effZcmd (v : Word) (s : State) : State :=
  let z := fld v 0 4
  if fld v 4 4 = 1 && decide (z < 12) && zoneFaulty s z && sGet (fun _ => []) z s.thm.checks = [true, true, true] then
    raise 496 z (setRegBit Reg.THM_STAT (16 + z) false s)
  else s

def execThmZcmdRestore (m : Master) (z : BitVec 4) (s : State) : Host.Outcome State Fault Refusal :=
  let v := w32 (16 + z.toNat)
  done (writeWith m Reg.THM_ZCMD v (effZcmd v) s)

/-- A read of THM_MAX loads the current T_hot. -/
def readThmMax (s : State) : Word × State :=
  (getReg s Reg.THM_MAX, setRegN Reg.THM_MAX (regFld s Reg.THM_HOT 0 16) s)

def execThmMax (m : Master) (s : State) : Host.Outcome State Fault Refusal :=
  done (readWith m Reg.THM_MAX readThmMax s)

end Sys2Proof.Machine
end

