-- ==== Sys2Proof/Machine/Maint.lean ====
section
/-!
DEFINITION. The maintenance scheduler and the decompression engines' roles (16_faults.md, R426–R435).
-/
namespace Sys2Proof.Machine

def setMnt (m : Mnt) (s : State) : State := { s with mnt := m }

/-! ### Which activities may start (R429, R430, R432, R435) -/

/-- Frame-store stack of a repair entry's pseudo-channel. -/
def fpprStack (s : State) (unit : Nat) : Nat := fld (rplGet s .frame unit) 22 5 / 16

/-- Scene-memory channel of a repair entry. -/
def mpprChan (s : State) (unit : Nat) : Nat := fld (rplGet s .scene unit) 23 2

/-- The resource that an activity shares with others, as (kind, number): the link's calibration slot, a driver, a channel,
a stack's window slot, a tile. -/
def resourceOf (s : State) (act unit : Nat) : Option (Nat × Nat) :=
  if act = actHCAL then some (0, 0)
  else if act = actPCAL ∨ act = actPVER then some (1, unit / 3)
  else if act = actMCAL then some (2, unit)
  else if act = actMPPR then some (2, mpprChan s unit)
  else if act = actFCAL then some (3, unit / 16)
  else if act = actFPPR then some (3, fpprStack s unit)
  else if act = actBVER then some (4, unit / 2)
  else none

/-- Two requests hold a common resource (R430). PVERs and PCALs of one driver conflict like the rest. -/
def conflict (s : State) (a b : MntReq) : Bool :=
  match resourceOf s a.act a.unit with
  | none => false
  | some r => resourceOf s b.act b.unit = some r

/-- The lane that HCAL or PCAL works on. -/
def calLane (act unit : Nat) : Lane := if act = actHCAL then .host (Fin.ofNat 18 unit) else .panel (Fin.ofNat 108 unit)

/-- A calibration carried in another lane's place needs a spare; a lane that carries nothing of its own needs none. -/
def needsSpare (s : State) (act unit : Nat) : Bool :=
  (act = actHCAL || act = actPCAL) &&
    (laneRole s (calLane act unit) = lrACTIVE || laneRole s (calLane act unit) = lrCOVER)

/-- The pseudo-channel or ranks of an activity have no refresh debt (R378). -/
def debtFree (s : State) (act unit : Nat) : Bool :=
  if act = actMCAL then
    decide (debt s (.rank (Fin.ofNat 4 unit) 0) ≤ 0) && decide (debt s (.rank (Fin.ofNat 4 unit) 1) ≤ 0)
  else if act = actFCAL then decide (debt s (.pc (Fin.ofNat 32 unit)) ≤ 0)
  else true

/-- Starts of R331, R378 and R429 that wait for the opening of a twilight window. -/
def windowOk (s : State) (act : Nat) : Bool :=
  (act ≠ actMCAL && act ≠ actFCAL && act ≠ actFPPR) || s.period.opening

/-- What M2 starts itself: engine and path verifications start at a Sunrise and at a block, HVER at a retrain. -/
def startedHere (act : Nat) : Bool := act ≠ actHVER && act ≠ actEVER && act ≠ actBVER

/-- In Night only the verifications go on (R435). -/
def stateOk (s : State) (act : Nat) : Bool :=
  s.pwr.st ≠ .night || act = actPVER || act = actDVER

/-- The entry at index `i` of the queue may start (log entry 21, DEDUCED). -/
def mayStart (s : State) (i : Nat) (q : MntReq) : Bool :=
  !q.running && startedHere q.act && mntMayStart s q.act && stateOk s q.act && windowOk s q.act &&
  debtFree s q.act q.unit && !(s.thm.refBad && decide (q.act ≤ 4)) &&
  s.mnt.queue.all (fun r => !(r.running && conflict s q r)) &&
  (s.mnt.queue.take i).all (fun r => !(r.aged && !r.running && conflict s q r))

/-- The oldest request that may start. -/
def nextActivity (s : State) : Option MntReq :=
  ((s.mnt.queue.zipIdx).find? (fun q => mayStart s q.2 q.1)).map Prod.fst

/-! ### Start -/

/-- The entry becomes running. -/
def markRunning (q : MntReq) (s : State) : State :=
  setMnt { s.mnt with queue := s.mnt.queue.map (fun r =>
    if r.act = q.act && r.unit = q.unit then { r with running := true } else r) } s

/-- A calibration run of a unit begins at its domain's temperature, from the interpolated values (R376, R379). -/
def beginCal (q : MntReq) (s : State) : State :=
  if q.act ≤ 4 then
    let d := q.act - 1
    let t := domainTemp s d q.unit
    setThm { s.thm with
      started := sPut noRun (unitKey d q.unit) (some (t, calStart s d q.unit t)) s.thm.started } s
  else s

/-- The spare is granted: it is to carry a copy of the lane, which on the host side is asked for with RQ (R185, R187). -/
def lend (x l : Lane) (s : State) : State :=
  let s1 := putAux x { getAux s x with calib := true } (setLaneCopy x (carried s l) s)
  let s2 := putAux l { getAux s1 l with phase := .asked } (beginCopy x (carried s l) s1)
  match l with
  | .host _ => askCopy l s2
  | .panel _ => s2

/-- A PVER sets the driver's checker for its input to PRBS-31 and clears its counter (R189, R193). -/
def verifyPanel (n : Nat) (s : State) : State :=
  let w := fun (r d : Nat) => w32 (d + 2 ^ 16 * r + 2 ^ 24 * (n / 3))
  setLaneRole (.panel (Fin.ofNat 108 n)) lrVERIFY
    { s with psb := { s.psb with drvq := s.psb.drvq ++ [w 0 (4 * 8 ^ (n % 3)), w 1 (2 ^ (n % 3))] } }

/-- Effects of the start of an activity of a code. -/
def startEffect (q : MntReq) (s : State) : State :=
  if q.act = actPVER then verifyPanel q.unit s
  else if q.act = actFPPR then
    let k := fld (rplGet s .frame q.unit) 22 5
    putDram k { getDram s k with repair := true } s
  else s

/-- Start a request, or remove it where it finds no spare (R434); the temperature trigger asks again. -/
def startActivity (q : MntReq) (s : State) : State :=
  if needsSpare s q.act q.unit then
    match idleSpare s (calLane q.act q.unit) with
    | none => calAdvance (q.act - 1) q.unit (mntNoSpare q.act q.unit s)
    | some x => lend x (calLane q.act q.unit) (beginCal q (markRunning q s))
  else startEffect q (beginCal q (markRunning q s))

def execMntActivityStart (s : State) : Host.Outcome State Fault Refusal :=
  done (
    if unitOn s 0x3A then
      match nextActivity s with
      | none => s
      | some q => startActivity q s
    else s)

/-! ### End -/

/-- The lane is to be its own primary again: a panel driver is told by BACK; the change is made after two marker periods.
A lane that had not gone over to its copy is so at once (R185, R187). -/
def giveBack (l : Lane) (s : State) : State :=
  match (getAux s l).phase with
  | .away =>
    let s1 := putAux l { getAux s l with phase := .returning 0 } s
    (match l with
    | .host _ => s1
    | .panel _ => queueCmd l 5 (markLane s1 l) s1)
  | .returning _ => s
  | _ => homeAgain l s

/-- A calibration ends: its outcome where it has not been reported, its spare, its queue entry, the next unit. -/
def endCal (act unit : Nat) (pass : Bool) (s : State) : State :=
  let s1 := calRecord (act - 1) unit pass s
  let s2 := if act = actHCAL ∨ act = actPCAL then giveBack (calLane act unit) s1 else s1
  calAdvance (act - 1) unit (mntFinish act unit pass s2)

/-- The entry of the repair table for a repaired row (R333). -/
def tableEntry (sys : MemSys) (hard : Bool) (e : Word) : DWord :=
  let sysBit := match sys with
    | .frame => 0
    | .scene => 1
  w64 (2 ^ 63 + 2 ^ 62 * sysBit + 2 ^ 61 * hard.toNat + (setFld e 30 2 2).toNat)

/-- The event-log record of a repair (R400, TYPE 3). -/
def logRepair (sys : MemSys) (hard failed : Bool) (e : Word) (s : State) : State :=
  let sysBit := match sys with
    | .frame => 0
    | .scene => 1
  ozLog 3 [w64 (sysBit + 2 * hard.toNat + 4 * failed.toNat), w64 e.toNat] s

/-- A soft repair that has been applied: table, log, MFS_EV_PPR or MSC_EV_PPR. -/
def repairDone (sys : MemSys) (unit : Nat) (s : State) : State :=
  let e := setFld (rplGet s sys unit) 30 2 2
  let entry := tableEntry sys false e
  let full := !repairHeld s entry && (repairFree s).isNone
  let s1 := ozRecord (.repair entry) (rplSet sys unit e s)
  raise (memEv sys + 4) (unit + 2 ^ 4 * (if full then 2 else 0)) (logRepair sys false false e s1)

/-- A repair that was not applied: with no resource left the entry is EXHAUSTED. Which it is, is a free value (log entry 26, DEDUCED). -/
def repairFailed (sys : MemSys) (unit : Nat) (s : State) : State :=
  let e := rplGet s sys unit
  let s1 := raise (memEv sys + 4) (unit + 2 ^ 4) (logRepair sys false true e s)
  if Config.repairOutcome e.toNat = 2 then
    raise (memEv sys + 5) unit (rplSet sys unit (setFld e 30 2 3) s1)
  else s1

def endRepair (sys : MemSys) (act unit : Nat) (pass : Bool) (s : State) : State :=
  let s1 := match sys with
    | .frame =>
      let k := fld (rplGet s .frame unit) 22 5
      putDram k { getDram s k with repair := false } s
    | .scene => s
  mntFinish act unit pass (if pass then repairDone sys unit s1 else repairFailed sys unit s1)

/-- The role of a decompression engine after its verification (R428). -/
def endDver (e : Nat) (pass : Bool) (s : State) : State :=
  mntFinish actDVER e pass (if pass && deRole s e = 3 then setDeRole e 1 s else s)

/-- The verification of a host lane, which runs at a retrain without a queue entry, ends (R189, R429). -/
def endHver (unit : Nat) (pass : Bool) (s : State) : State :=
  let l := Lane.host (Fin.ofNat 18 unit)
  if 18 ≤ unit || laneRole s l ≠ lrVERIFY then s
  else raise 12 (actHVER + 2 ^ 4 * (!pass).toNat + 2 ^ 16 * unit) (bumpWrap Reg.MNT_N_DONE (verifyDone l pass s))

/-- An activity that M2 started ends with its outcome. -/
def endActivity (act unit : Nat) (pass : Bool) (s : State) : State :=
  if 1 ≤ act ∧ act ≤ 4 then endCal act unit pass s
  else if act = actPVER then mntFinish act unit pass (verifyDone (.panel (Fin.ofNat 108 unit)) pass s)
  else if act = actDVER then endDver unit pass s
  else if act = actFPPR then endRepair .frame act unit pass s
  else if act = actMPPR then endRepair .scene act unit pass s
  else s

def execMntActivityDone (act : BitVec 4) (unit : BitVec 16) (pass : Bool) (s : State) :
    Host.Outcome State Fault Refusal :=
  done (
    if !live s then s
    else if act.toNat = actHVER then endHver unit.toNat pass s
    else if mntRunning s act.toNat unit.toNat then endActivity act.toNat unit.toNat pass s
    else s)

/-! ### Queue (R432, R433) -/

/-- An entry that has waited 1 s without starting is AGED. -/
def execMntRequestAged (entry : Fin 16) (s : State) : Host.Outcome State Fault Refusal :=
  done (
    if unitOn s 0x3A then
      setMnt { s.mnt with queue := s.mnt.queue.modify entry.val (fun q => { q with aged := q.aged || !q.running }) } s
    else s)

/-- The oldest aborted activity that waits joins the queue again at its tail, without a new request. -/
def execMntRequeueRetry (s : State) : Host.Outcome State Fault Refusal :=
  done (
    if !unitOn s 0x3A || 16 ≤ s.mnt.queue.length then s
    else
      match s.mnt.requeue with
      | [] => s
      | q :: t =>
        if s.mnt.queue.any (fun r => r.act = q.act && r.unit = q.unit) then setMnt { s.mnt with requeue := t } s
        else setMnt { s.mnt with queue := s.mnt.queue ++ [q], requeue := t } s)

/-! ### Decompression engines (R159, R426, R428) -/

/-- Contexts resident in an engine. -/
def residents (s : State) (e : Nat) : List Nat := (s.dcx.filter (fun c => c.2.resident = some e)).map Prod.fst

/-- An engine leaves service: its contexts end with DCX_E_STATE. -/
def leaveService (e role : Nat) (s : State) : State :=
  let s1 := raise (257 + 2 * e) 0 (setDeRole e role s)
  (residents s e).foldl (fun s n => failContext n eState (getDcx s n).pos s) s1

def execDcxEngineFault (e : Fin 17) (s : State) : Host.Outcome State Fault Refusal :=
  done (if fabricOn s && enabled s (0x0D + e.val) && decide (deRole s e.val ≤ 1) then leaveService e.val 3 s else s)

def execDcxVerifyTimer (e : Fin 17) (s : State) : Host.Outcome State Fault Refusal :=
  done (if live s && deRole s e.val = 3 then mntPush actDVER e.val false s else s)

/-- A verification queued or running for an engine is over. -/
def dropDver (e : Nat) (s : State) : State :=
  setMnt { s.mnt with queue := s.mnt.queue.filter (fun q => !(q.act = actDVER && q.unit = e)) } s

/-- Effect of a write of MNT_DECMD (log entry 21, DEDUCED). -/
def effDecmd (v : Word) (s : State) : State :=
  let e := fld v 0 5
  let r := deRole s e
  if 17 ≤ e then s
  else
    match fld v 5 3 with
    | 1 => if r = 3 then mntPush actDVER e true s else s
    | 2 => if 2 ≤ r then setDeRole e 1 (dropDver e s) else s
    | 3 => if r = 0 then leaveService e 2 s else setDeRole e 2 (dropDver e s)
    | _ => s

def decmdWord (cmd : Nat) (e : BitVec 5) : Word := w32 (e.toNat + 2 ^ 5 * cmd)

def execMntDecmdVerify (m : Master) (e : BitVec 5) (s : State) : Host.Outcome State Fault Refusal :=
  done (writeWith m Reg.MNT_DECMD (decmdWord 1 e) (effDecmd (decmdWord 1 e)) s)

def execMntDecmdAdmit (m : Master) (e : BitVec 5) (s : State) : Host.Outcome State Fault Refusal :=
  done (writeWith m Reg.MNT_DECMD (decmdWord 2 e) (effDecmd (decmdWord 2 e)) s)

def execMntDecmdRetire (m : Master) (e : BitVec 5) (s : State) : Host.Outcome State Fault Refusal :=
  done (writeWith m Reg.MNT_DECMD (decmdWord 3 e) (effDecmd (decmdWord 3 e)) s)

/-! ### Registers of page 0x3A -/

/-- MNT_STAT. The token is held for 1 µs at most, inside a grant (R431): it reads 0 between commands (log entry 21, DEDUCED). -/
def mntStat (s : State) : Word := w32 (s.mnt.queue.length + 2 ^ 8 * s.mnt.lastErr.toNat)

/-- MNT_Q_DATA. -/
def mntQData (s : State) : Word :=
  match s.mnt.queue[regFld s Reg.MNT_Q_IDX 0 4]? with
  | none => 0
  | some q =>
    w32 (q.unit % 2 ^ 16 + 2 ^ 24 * (q.act % 16) + 2 ^ 28 * q.host.toNat + 2 ^ 29 * q.aged.toNat +
      2 ^ 30 * q.running.toNat + 2 ^ 31)

/-- MNT_RUN. -/
def mntRun (s : State) : Word := wordOf 12 (fun a => s.mnt.queue.any (fun q => q.running && q.act = a))

end Sys2Proof.Machine
end

