-- ==== Sys2Proof/Machine/Mirror.lean ====
section
/-!
DEFINITION. Mirror transactions on VC2 (08_finishing.md, R248–R250).
-/
namespace Sys2Proof.Machine

/-- A MIR transaction. `kind` is 0 for LINE, 1 for SHOWN (R249). -/
def mirTxn (s : State) (f : MirFrame) (kind line half : Nat) (data : List Byte) : OutTxn :=
  { m := f.m, vc := 2, typ := 5, rsp := false, tag := 0, rseq := (getMsgq s f.m).mirRseq, len := data.length,
    addr := BitVec.ofNat 48 (line + 2 ^ 11 * half + 2 ^ 12 * kind), arg := f.frame.setWidth 16, data := data }

/-- Some mirror pixel is STALE. -/
def anyStale (px : List Byte) : Bool := ((px.zipIdx).filter (fun q => q.2 % 4 = 3)).any (fun q => q.1.getLsbD 6)

/-- LINE number `n` of a mirror frame (R249). -/
def lineTxn (s : State) (f : MirFrame) (n : Nat) : OutTxn :=
  let px := memBytes s .frame (stagingBase f.buf + 3840 * n) 3840
  mirTxn s f 0 (n / 2) (n % 2) (leBytes 4 f.frame.toNat ++
    leBytes 4 (f.vx + 2 ^ 4 * f.vy + 2 ^ 8 * viewSlot f.vx f.vy + 2 ^ 10 * (anyStale px).toNat) ++
    leBytes 8 f.seqAt.toNat ++ px)

/-- The data of SHOWN at a boundary whose time in time base `k` is `v` (R249). -/
def shownData (frame : Word) (k v : Nat) : List Byte :=
  leBytes 4 frame.toNat ++ leBytes 4 (tbNs v) ++ leBytes 6 (tbSec v % 2 ^ 48) ++ leBytes 2 k

/-- At the boundary at which a mirrored frame is first shown, its SHOWN is queued (R248). -/
def queueShown (frame : Word) (s : State) : State :=
  { s with mirror := s.mirror.map (fun f =>
      if f.frame = frame then { f with shown := some (shownData frame (glTb s) (getTb s (glTb s)).value) } else f) }

/-- A frame that left the showing region unshown sends no SHOWN: its record ends with its last LINE (log entry 19, DEDUCED). -/
def neverShown (frame : Word) (s : State) : State :=
  let l := s.mirror.map (fun f => if f.frame = frame then { f with lost := true } else f)
  { s with mirror := l.filter (fun f => !(f.lost && decide (2160 ≤ f.next))) }

/-- A frame enters the showing region; one before it that was not shown never will be. -/
def toShow (frame : Word) (s : State) : State :=
  let s1 := match s.period.toShow with
    | some old => neverShown old s
    | none => s
  { s1 with period := { s1.period with toShow := some frame } }

/-- The frame of the showing region is shown for the first time in the panel frame that has just started (R248). -/
def markShown (s : State) : State :=
  match s.period.toShow with
  | some f =>
    if s.scan.active && (s.scan.shownAt.map Prod.fst) = some (showingRegion s) then
      queueShown f { s with period := { s.period with toShow := none } }
    else s
  | none => s

/-- A frame has a transaction to send. -/
def mirDue (f : MirFrame) : Bool := f.ready && (decide (f.next < 2160) || f.shown.isSome)

/-- The next transaction of a mirror frame. -/
def mirNext (s : State) (f : MirFrame) : OutTxn :=
  if f.next < 2160 then lineTxn s f f.next else mirTxn s f 1 0 0 (f.shown.getD [])

/-- One flit of VC1 that can be sent now (R138). -/
def sendVc1 (s : State) : State :=
  match s.link.out.find? (fun t => t.vc = 1 && nextOut s t.m 1 = some t && outReady s t) with
  | none => s
  | some t => sendNext t s

/-- Send flits of the transaction at the head of VC2 of a master, as many as credit and the replay buffer allow, in
alternation with those of VC1 (R138). -/
def sendVc2 : Nat → Nat → State → State
  | 0, _, s => s
  | n + 1, m, s =>
    let s1 := if s.link.last2 then sendVc1 s else s
    match nextOut s1 m 2 with
    | none => s1
    | some t => if outReady s1 t then sendVc2 n m (sendNext t s1) else s1

/-- A frame's record takes a new value. -/
def setMir (f : MirFrame) (s : State) : State :=
  { s with mirror := s.mirror.map (fun g => if g.frame = f.frame then f else g) }

/-- The transaction of a frame has left whole: a LINE counts, the last lets the buffer go, a SHOWN ends the frame. -/
def mirSent (f : MirFrame) (s : State) : State :=
  if f.next < 2160 then
    let g := { f with next := f.next + 1, out := false }
    if g.next = 2160 then
      bumpWrap Reg.FIN_N_MIR_SENT
        (if g.lost then { s with mirror := s.mirror.filter (fun x => x.frame ≠ f.frame) } else setMir g s)
    else setMir g s
  else { s with mirror := s.mirror.filter (fun g => g.frame ≠ f.frame) }

/-- The staging granules of a LINE that read as uncorrectable are recorded as any other reader's (R328)
(log entry 19, DEDUCED). -/
def lineRead (f : MirFrame) (s : State) : State :=
  if f.next < 2160 then (memRead .frame (stagingBase f.buf + 3840 * f.next) 3840 4 s).1 else s

/-- A frame's transaction joins VC2 of its master. -/
def mirPush (f : MirFrame) (s : State) : State :=
  let s1 := lineRead f s
  let q := getMsgq s1 f.m
  setMir { f with out := true } (putMsgq f.m { q with mirRseq := q.mirRseq + 1 } (pushOut (mirNext s1 f) s1))

/-- Send what can be sent on VC2 of a frame's master: what waits there already, or else the frame's next transaction. A
transaction there that is not this frame's is one of a frame that has been dropped, and counts for none. -/
def sendMir (f : MirFrame) (s : State) : State :=
  let f1 := { f with out := true }
  if (nextOut s f.m 2).isSome then
    let s1 := sendVc2 33 f.m s
    if f.out && (nextOut s1 f.m 2).isNone then mirSent f1 s1 else s1
  else
    let s1 := sendVc2 33 f.m (mirPush f s)
    if (nextOut s1 f.m 2).isNone then mirSent f1 s1 else s1

/-- A frame's master can be sent a flit on VC2: waiting for one master never blocks another (R138). -/
def mirMay (s : State) (f : MirFrame) : Bool := mirDue f && outReady s ((nextOut s f.m 2).getD (mirNext s f))

/-- The next transaction of the oldest mirror frame that is due and can be sent (R249; log entry 19, DEDUCED). -/
def execLineTransaction (s : State) : Host.Outcome State Fault Refusal :=
  match s.mirror.find? (mirMay s) with
  | none => done s
  | some f => if linkUpNow s && unitOn s 0x05 && !vc0Ready s && !vc3Ready s then done (sendMir f s) else done s

end Sys2Proof.Machine
end

