-- ==== Sys2Proof/Machine/Ozide.lean ====
section
/-!
DEFINITION. Access to the Ozide store through its window, unlocking, host counters and the log position
(14_ozide.md, R383–R393, R397, R398).
-/
namespace Sys2Proof.Machine

/-- Link address of a half of a store word (R381). -/
def windowAddr (word : Nat) (high : Bool) : Nat := 0x800000 + 8 * word + (if high then 4 else 0)

/-- A partition in force is read-only by its LOCK: P1 and P8–P15 (R387). -/
def partLocked (s : State) (p : Nat) : Bool := (p = 1 || 8 ≤ p) && ((partOf s p).map Part.lock).getD false

def lockedOut (s : State) (p : Nat) : Bool := regBit s Reg.OZD_LOCKOUT p

/-- The key of a partition: 0 read, 1 write (R391). -/
def partKey (s : State) (p : Nat) (write : Bool) : Word :=
  let k := sGet zeroD p s.ozd.keys
  if write then hi32 k else lo32 k

/-- The master's grant, or no key set (R391, R392). -/
def keyOk (s : State) (m p : Nat) (write : Bool) : Bool :=
  partKey s p write = 0 || (if write then s.ozd.wr else s.ozd.rd).contains (m, p)

/-- The table of R389 permits a write. -/
def tableWrites (s : State) (m p : Nat) : Bool :=
  if p = 0 ∨ p = 7 then privileged s m
  else if p = 1 then privileged s m && !partLocked s 1
  else if p = 2 ∨ p = 6 then true
  else if p ≤ 5 then false
  else !partLocked s p

/-- Reason of the violation that a write of a page is, if it is one (R389, R392, R393). -/
def windowDenies (s : State) (m page : Nat) : Option Nat :=
  match pagePart s page with
  | none => some 2
  | some p => if lockedOut s p || !tableWrites s m p || !keyOk s m p true then some 1 else none

/-- A word of page 0 keeps the LOCK bits that are set (R390). -/
def keepLocks (old new : DWord) : DWord := new ||| (old &&& 0x4000000040000000)

/-- The keys as P7 holds them (R391). -/
def loadKeys (s : State) : State :=
  let key := fun p => ozWord s (8 * (partStart s 7 + p / 8) + p % 8)
  let keys := (List.range 16).foldl (fun l p => sPut zeroD p (key p) l) []
  { s with ozd := { s.ozd with keys := keys } }

/-- A host's word write. -/
def windowStore (word : Nat) (v : DWord) (s : State) : State :=
  let s1 := ozPut word (if word < 8 then keepLocks (ozWord s word) v else v) s
  if pagePart s (word / 8) = some 7 then
    loadKeys (ozReadAt (8 * partStart s 7) 16 s1)
  else s1

/-- A write of a low half is held with its word; a write of a high half takes the held half of the same word (R384). -/
def windowHalf (m : Nat) (word : Nat) (high : Bool) (v : Word) (s : State) : State :=
  let rest := s.ozd.low.filter (fun e => e.1 ≠ m)
  if !high then { s with ozd := { s.ozd with low := (m, word, v) :: rest } }
  else
    match s.ozd.low.find? (fun e => e.1 = m && e.2.1 = word) with
    | none => s
    | some e => windowStore word (mk64 v e.2.2) { s with ozd := { s.ozd with low := rest } }

/-- The high half does not follow its low half: a malformed transaction (R384). -/
def halfWrong (s : State) (m word : Nat) (high : Bool) : Bool :=
  high && !s.ozd.low.any (fun e => e.1 = m && e.2.1 = word)

/-- A 32-bit write through the window, its right checked; `none` when it is done, else the violation's reason. -/
def windowWriteAt (m word : Nat) (high : Bool) (v : Word) (s : State) : Option Nat × State :=
  match windowDenies s m (word / 8) with
  | some r => (some r, s)
  | none => if halfWrong s m word high then (some 4, s) else (none, windowHalf m word high v s)

/-- The host may read a page's partition; counts a read refused for want of a grant (R389, R393). -/
def windowReads (s : State) (m page : Nat) : Bool × State :=
  match pagePart s page with
  | none => (false, s)
  | some p =>
    if p = 7 || lockedOut s p then (false, s)
    else if keyOk s m p false then (true, s)
    else (false, bumpSat Reg.OZD_N_DENY s)

/-- A 32-bit read through the window. A read of the low half holds the high half (R16, R384). -/
def windowReadAt (m word : Nat) (high : Bool) (s : State) : Word × State :=
  if high && s.holds.any (fun h => h.m = m && h.a = windowAddr word true) then takeHigh m (windowAddr word true) 0 s
  else
    let (ok, s1) := windowReads s m (word / 8)
    let d := if ok then ozWord s1 word else 0
    let s2 := if ok then ozTouch word s1 else s1
    if high then (hi32 d, s2) else (lo32 d, holdHigh m (windowAddr word true) (hi32 d) s2)

/-- Why a window access must wait (R405). -/
def windowHold (s : State) (m a : Nat) : Option HoldWhy :=
  match mustHold s m a with
  | some w => some w
  | none => if deferring s then some .dip else none

/-- A write through the window by a master (log entry 30, DEDUCED). -/
def windowWrite (m : Master) (word : Nat) (high : Bool) (v : Word) (s : State) : State :=
  let a := windowAddr word high
  noteM0 m <| match gate s m.val a true with
  | some r => answer r 0 s
  | none =>
    if frozen s m.val then answer .frozen 0 s
    else
      match windowHold s m.val a with
      | some w => holdOrBusy m w (.write m a v) s
      | none =>
        match windowWriteAt m.val word high v s with
        | (some r, s1) => answer (.violation r) 0 (violate m.val 1 a r s1)
        | (none, s1) => answer .done 0 s1

/-- A read through the window by a master. -/
def windowRead (m : Master) (word : Nat) (high : Bool) (s : State) : State :=
  let a := windowAddr word high
  match gate s m.val a false with
  | some r => answer r 0 s
  | none =>
    if frozen s m.val then answer .frozen 0 s
    else
      match windowHold s m.val a with
      | some w => holdOrBusy m w (.read m a) s
      | none => answer .done (windowReadAt m.val word high s).1 (windowReadAt m.val word high s).2

def execOzdLowWrite (m : Master) (word : BitVec 16) (v : Word) (s : State) : Host.Outcome State Fault Refusal :=
  done (windowWrite m word.toNat false v s)

def execOzdHighWrite (m : Master) (word : BitVec 16) (v : Word) (s : State) : Host.Outcome State Fault Refusal :=
  done (windowWrite m word.toNat true v s)

/-! ### Unlocking (R391–R393) -/

/-- The third wrong attempt in a row locks the partition out. -/
def lockOut (m p : Nat) (write : Bool) (s : State) : State :=
  let d := p + 2 ^ 8 * m + 2 ^ 12 * write.toNat
  let s1 := setRegBit Reg.OZD_LOCKOUT p true
    { s with ozd := { s.ozd with rd := s.ozd.rd.filter (·.2 ≠ p), wr := s.ozd.wr.filter (·.2 ≠ p) } }
  counterAdd 11 1 (ozLog 6 [w64 d] (raise 509 d s1))

/-- Effect of a write of OZD_UNL_KEY by master `m` (log entry 30, DEDUCED). -/
def effUnlKey (m : Nat) (v : Word) (s : State) : State :=
  let p := regFld s Reg.OZD_UNL_SEL 0 4
  let write := regBit s Reg.OZD_UNL_SEL 8
  if partKey s p write = v && !lockedOut s p then
    let o := { s.ozd with wrong := sPut zeroN p 0 s.ozd.wrong }
    if write then { s with ozd := { o with wr := (m, p) :: o.wr.filter (· ≠ (m, p)) } }
    else { s with ozd := { o with rd := (m, p) :: o.rd.filter (· ≠ (m, p)) } }
  else
    let n := sGet zeroN p s.ozd.wrong + 1
    let s1 := { s with ozd := { s.ozd with wrong := sPut zeroN p n s.ozd.wrong } }
    if 3 ≤ n && !lockedOut s p then lockOut m p write s1 else s1

def execOzdUnlKey (m : Master) (v : Word) (s : State) : Host.Outcome State Fault Refusal :=
  done (writeWith m Reg.OZD_UNL_KEY v (effUnlKey m.val v) s)

/-- Effect of a write of OZD_RELOCK by master `m`. -/
def effRelock (m : Nat) (v : Word) (s : State) : State :=
  let keep := fun (g : Nat × Nat) => !(g.1 = m && bit v g.2 && decide (g.2 < 16))
  { s with ozd := { s.ozd with rd := s.ozd.rd.filter keep, wr := s.ozd.wr.filter keep } }

def execOzdRelock (m : Master) (v : Word) (s : State) : Host.Outcome State Fault Refusal :=
  done (writeWith m Reg.OZD_RELOCK v (effRelock m.val v) s)

/-- All grants of master `m` end (R411). -/
def endGrants (m : Nat) (s : State) : State :=
  { s with ozd := { s.ozd with rd := s.ozd.rd.filter (·.1 ≠ m), wr := s.ozd.wr.filter (·.1 ≠ m) } }

/-! ### Counters and status -/

/-- Effect of a write of OZD_CTR_CMD: INC of a host counter. -/
def effCtrCmd (v : Word) (s : State) : State :=
  if fld v 28 4 = 1 ∧ 32 ≤ fld v 0 6 then counterAdd (fld v 0 6) 1 s else s

def execInc (m : Master) (ctr : BitVec 6) (s : State) : Host.Outcome State Fault Refusal :=
  let v := w32 (2 ^ 28 + ctr.toNat)
  done (writeWith m Reg.OZD_CTR_CMD v (effCtrCmd v) s)

/-- Counter 1 rises by 60 every 60 s outside Midnight (R398). -/
def execSecondsOutsideMidnight (s : State) : Host.Outcome State Fault Refusal :=
  done (if live s then counterAdd 1 60 s else s)

/-- OZD_STAT. -/
def ozdStat (s : State) : Word :=
  w32 (s.ozd.scanned.toNat + 2 * s.ozd.deftab.toNat + 4 * s.ozd.bootOk.toNat + 8 * s.ozd.cfg.toNat +
    2 ^ 7 * (deferring s).toNat + 2 ^ 8 * s.ozd.queue.length)

/-- A master's grants of one kind, as a mask. -/
def grantMask (m : Nat) (l : List (Nat × Nat)) : Nat :=
  ((List.range 16).filter (fun p => l.contains (m, p))).foldl (fun v p => v + 2 ^ p) 0

/-- OZD_UNL_STAT for the reading master. -/
def unlStat (s : State) (m : Nat) : Word := w32 (grantMask m s.ozd.rd + 2 ^ 16 * grantMask m s.ozd.wr)

end Sys2Proof.Machine
end

