-- ==== Sys2Proof/Machine/Time.lean ====
section
/-!
DEFINITION. Time bases and their servos, trackers and sources, PTP messages, PPS, triggers and the tick generator's
commands (12_time.md, R336–R355).
-/
namespace Sys2Proof.Machine

/-! ### Sources and trackers (R345–R348) -/

/-- TYPE of a source register: 6 and 7 act as 0. -/
def srcType (v : Word) : Nat := if 5 < fld v 0 3 then 0 else fld v 0 3

/-- A source register of time base `k`, by role: the swapped roles of R348. -/
def srcReg (s : State) (k : Nat) (primary : Bool) : Word :=
  getReg s (if Bool.xor primary (getTb s k).swapped then Reg.TIM_TB_PRI k else Reg.TIM_TB_SHD k)

/-- Master identity and port of a source, by role: all 0 is automatic (R346). -/
def srcMaster (s : State) (k : Nat) (primary : Bool) : DWord × BitVec 16 :=
  let pri := Bool.xor primary (getTb s k).swapped
  let b := if pri then Reg.TIM_TB_PID_LO k else Reg.TIM_TB_SID_LO k
  (mk64 (getReg s (b + 4)) (getReg s b), (getReg s (b + 8)).setWidth 16)

/-- The tracker that steers time base `k`. -/
def priTracker (s : State) (k : Nat) : Nat :=
  let b := getTb s k
  if b.swapped then b.shdTrk.getD k else k

/-- The tracker that measures the shadow of time base `k`. -/
def shdTracker (s : State) (k : Nat) : Option Nat :=
  let b := getTb s k
  b.shdTrk.map (fun x => if b.swapped then k else x)

/-- Time bases enabled. -/
def tbsOn (s : State) : List Nat := (List.range 4).filter (tbOn s)

/-- What tracker `x` is used for: a time base, and whether it steers it. -/
def trackerUse (s : State) (x : Nat) : Option (Nat × Bool) :=
  match (tbsOn s).find? (fun k => priTracker s k = x) with
  | some k => some (k, true)
  | none => ((tbsOn s).find? (fun k => shdTracker s k = some x)).map (fun k => (k, false))

/-- The source of a tracker in use. -/
def trackerSrc (s : State) (x : Nat) : Option Word := (trackerUse s x).map (fun u => srcReg s u.1 u.2)

/-- The PTP port of a source: TYPE 1 and 2. -/
def srcPort (v : Word) : Option Nat := if srcType v = 1 then some 0 else if srcType v = 2 then some 1 else none

/-- The PTP port that a tracker measures on. -/
def trackerPort (s : State) (x : Nat) : Option Nat := (trackerSrc s x).bind srcPort

/-! ### The foreign master table and the automatic choice (R341, R346) -/

abbrev fmNone : Nat → Option FmEntry := fun _ => none

/-- An identity with its byte 0 most significant. -/
def idOrder (d : DWord) : Nat := (dBytes d).foldl (fun v b => 256 * v + b.toNat) 0

/-- Lexicographic order. -/
def lexLt : List Nat → List Nat → Bool
  | a :: t, b :: u => a < b || (a = b && lexLt t u)
  | [], _ :: _ => true
  | _, [] => false

/-- `a` is the better master (R346): of two grandmasters by their data sets and identities; of one grandmaster by
stepsRemoved, then by the sender's identity and port (log entry 28, PRESUMED). -/
def betterMaster (a b : AnnounceMsg) : Bool :=
  if a.gm = b.gm then
    lexLt [a.steps.toNat, idOrder a.hdr.clock, a.hdr.port.toNat] [b.steps.toNat, idOrder b.hdr.clock, b.hdr.port.toNat]
  else
    let rank := fun (c : AnnounceMsg) =>
      [c.priority1.toNat, c.clockClass.toNat, c.accuracy.toNat, c.variance.toNat, c.priority2.toNat, idOrder c.gm]
    lexLt (rank a) (rank b)

/-- The best entry of a port's table in a domain (log entry 28, PRESUMED). -/
def bestMaster (s : State) (p : Nat) (domain : Nat) : Option (DWord × BitVec 16) :=
  let es := (List.range 8).filterMap (fun i => sGet fmNone i (getEth s p).fm)
  let mine := (es.map FmEntry.msg).filter (fun a => a.hdr.domain.toNat = domain)
  (mine.foldl (fun (b : Option AnnounceMsg) a =>
    match b with
    | none => some a
    | some c => if betterMaster a c then some a else some c) none).map (fun a => (a.hdr.clock, a.hdr.port))

/-- A tracker that has to choose its master does so. -/
def chooseMaster (x : Nat) (s : State) : State :=
  match trackerUse s x with
  | none => s
  | some (k, r) =>
    match srcPort (srcReg s k r) with
    | none => s
    | some p =>
      if srcMaster s k r = (0, 0) && (getTrk s x).chosen = none then
        putTrk x { getTrk s x with chosen := bestMaster s p (fld (srcReg s k r) 16 8) } s
      else s

/-- A tracker starts on a source. -/
def startTracker (x : Nat) (s : State) : State := chooseMaster x (putTrk x {} s)

/-- The master that a tracker accepts messages of. -/
def trackerMaster (s : State) (x : Nat) : Option (DWord × BitVec 16) :=
  match trackerUse s x with
  | none => none
  | some (k, r) => if srcMaster s k r = (0, 0) then (getTrk s x).chosen else some (srcMaster s k r)

/-- Tracker `x` accepts messages with this header on port `p`. -/
def accepts (s : State) (x p : Nat) (h : PtpHdr) : Bool :=
  trackerPort s x = some p && (trackerSrc s x).map (fun v => fld v 16 8) = some h.domain.toNat &&
  trackerMaster s x = some (h.clock, h.port)

/-- The shadow trackers of R347: with at most two time bases enabled, each that asks takes the next tracker of a disabled
one. -/
def shadowPlan (s : State) : List (Nat × Nat) :=
  let on := tbsOn s
  if 2 < on.length then []
  else (on.filter (fun k => regBit s (Reg.TIM_TB_CTL k) 28)).zip ((List.range 4).filter (fun k => !tbOn s k))

/-- Assign the shadow trackers anew; one that changes starts again. -/
def assignShadows (s : State) : State :=
  let plan := shadowPlan s
  (List.range 4).foldl (fun s k =>
    let b := getTb s k
    let x := (plan.find? (fun q => q.1 = k)).map Prod.snd
    if b.shdTrk = x then s
    else
      let s1 := putTb k { b with shdTrk := x, shdCnt := 0 } s
      let s2 := match x with
        | none => s1
        | some x => startTracker x s1
      if b.swapped then startTracker k s2 else s2) s

/-! ### States of a time base (R343) -/

def tbCode : TbState → Nat
  | .unset => 0
  | .acquire => 1
  | .locked => 2
  | .holdover => 3
  | .free => 4

/-- A change of state; the counts of updates start again. -/
def setTbState (k : Nat) (x : TbState) (s : State) : State :=
  let b := getTb s k
  if b.st = x then s
  else raise 485 (k + 2 ^ 4 * tbCode b.st + 2 ^ 8 * tbCode x) (putTb k { b with st := x, inLock := 0, outLock := 0 } s)

/-- F held within ±2^38 (R334). -/
def satF (x : Int) : Int := clampI (-(2 ^ 38)) (2 ^ 38) x

/-- TIM_TB_FREEF. -/
def freeF (s : State) : Int := satF (sx 48 (regN s Reg.TIM_TB_FREEF_LO + 2 ^ 32 * regFld s Reg.TIM_TB_FREEF_HI 0 16))

/-- Loss of the steering source without a ready shadow: F becomes i. -/
def toHoldover (k : Nat) (s : State) : State :=
  let b := getTb s k
  if b.st = .acquire ∨ b.st = .locked then setTbState k .holdover (putTb k { b with f := b.i } s)
  else if b.st = .free then setTbState k .holdover (putTb k { b with i := b.f } s)
  else s

/-- A primary source of type FREE. -/
def toFree (k : Nat) (s : State) : State :=
  if tbOn s k && srcType (srcReg s k true) = 5 && (getTb s k).st ≠ .free then
    setTbState k .free (putTb k { getTb s k with f := freeF s } s)
  else s

/-- A write that changes the primary source of time base `k` (R343). The register names the primary again (log entry 28, PRESUMED). -/
def changePrimary (k : Nat) (s : State) : State :=
  let s1 := toHoldover k s
  let s2 := putTb k { getTb s1 k with swapped := false, shdCnt := 0 } s1
  toFree k (startTracker k (match shdTracker s2 k with
    | some x => startTracker x s2
    | none => s2))

/-- TB k is valid for CMT_E_TIME (R343). -/
def tbValid (s : State) (k : Nat) : Bool :=
  tbOn s k && ((getTb s k).st = .locked || (getTb s k).st = .holdover || (getTb s k).st = .free)

/-! ### The servo (R342) -/

/-- POLICY: 3 acts as 0. -/
def tbPolicy (s : State) (k : Nat) : Nat := regFld s (Reg.TIM_TB_CTL k) 29 2 % 3

/-- Θ in 2^-16 ns. -/
def tbTheta (s : State) (k : Nat) : Nat := max 1 (regFld s (Reg.TIM_TB_CTL k) 0 16) * 1000 * 65536

/-- Nanoseconds of an offset. -/
def ofsNs (o : Int) : Int := divFloor o 65536

/-- A step by `d` units of 2^-48 ns: TIM_EV_STEP with its cause, and LOCKED goes to ACQUIRE (R343). -/
def stepTb (k cause : Nat) (v : Nat) (d : Int) (s : State) : State :=
  let s1 := raise 484 (k + 4 * cause + 2 ^ 16 * tc 48 (divFloor d one48)) (putTb k { getTb s k with value := v } s)
  let s2 := if (getTb s1 k).st = .locked then setTbState k .acquire s1 else s1
  glCheck s2

/-- The update of i and f. -/
def servoSlew (s : State) (k : Nat) (o : Int) (b : Tb) : Tb :=
  let os := clampI (-(2 ^ 47)) (2 ^ 47) o
  let i := satF (b.i - divFloor (os * regN s (Reg.TIM_TB_KI k) + 32768) 65536)
  { b with i := i, f := satF (i - divFloor (os * regN s (Reg.TIM_TB_KP k) + 32768) 65536) }

/-- BIGOFS rises at the first update at or above Θ under SLEW_ONLY or HOLD, and falls at the first below it. -/
def noteBig (k : Nat) (o : Int) (s : State) : State :=
  let b := getTb s k
  let big := decide (tbTheta s k ≤ o.natAbs)
  if big && tbPolicy s k ≠ 0 && !b.bigofs then
    raise 487 (k + 4 * tbPolicy s k + 2 ^ 16 * tc 48 (ofsNs o)) (putTb k { b with bigofs := true } s)
  else if !big then putTb k { b with bigofs := false } s
  else s

/-- LOCK and its loss are counted over updates (R343). -/
def countLock (k : Nat) (o : Int) (s : State) : State :=
  let b := getTb s k
  let lock := regFld s (Reg.TIM_TB_LOCK k) 0 24 * 65536
  let inL := if o.natAbs < lock then b.inLock + 1 else 0
  let outL := if 4 * lock ≤ o.natAbs then b.outLock + 1 else 0
  let s1 := putTb k { b with inLock := inL, outLock := outL } s
  if b.st = .acquire ∧ 16 ≤ inL then setTbState k .locked s1
  else if b.st = .locked ∧ 4 ≤ outL then setTbState k .acquire s1
  else s1

/-- TIM_TB_OFS: nanoseconds, saturating. -/
def setOfs (k : Nat) (o : Int) (s : State) : State :=
  setRegN (Reg.TIM_TB_OFS k) (tc 32 (clampI (-(2 ^ 31)) (2 ^ 31 - 1) (ofsNs o))) s

/-- One measurement of the steering tracker. -/
def servo (k : Nat) (o : Int) (s : State) : State :=
  let s0 := setOfs k o s
  let b := getTb s0 k
  let big := decide (tbTheta s0 k ≤ o.natAbs)
  if b.st = .unset then
    setTbState k .acquire (stepTb k 2 (tbAdd b.value (-(o * 2 ^ 32))) (-(o * 2 ^ 32)) s0)
  else
    let s1 := if b.st = .holdover then setTbState k .acquire s0 else s0
    let s2 := noteBig k o s1
    let s3 :=
      if big && tbPolicy s2 k = 0 then
        stepTb k 0 (tbAdd (getTb s2 k).value (-(o * 2 ^ 32))) (-(o * 2 ^ 32)) s2
      else if big && tbPolicy s2 k = 2 then s2
      else putTb k (servoSlew s2 k o (getTb s2 k)) s2
    countLock k o s3

/-- One measurement of a shadow tracker: ready after 16 in a row below Θ (R347). -/
def shadowUpdate (k : Nat) (o : Int) (s : State) : State :=
  let b := getTb s k
  putTb k { b with shdCnt := if o.natAbs < tbTheta s k then min 16 (b.shdCnt + 1) else 0, lastShd := o } s

/-- A measurement of tracker `x`. A source of type FREE steers nothing. -/
def measure (x : Nat) (o : Int) (s : State) : State :=
  match trackerUse s x with
  | none => s
  | some (k, true) => servo k o s
  | some (k, false) => shadowUpdate k o s

def shadowReady (s : State) (k : Nat) : Bool := (shdTracker s k).isSome && decide (16 ≤ (getTb s k).shdCnt)

/-- The roles swap (R348). -/
def swapRoles (k : Nat) (s : State) : State :=
  let b := getTb s k
  let s1 := putTb k { b with swapped := !b.swapped, shdCnt := 0 } s
  raise 486 (k + 2 ^ 4 * priTracker s1 k + 2 ^ 32 * tc 32 (clampI (-(2 ^ 31)) (2 ^ 31 - 1) (ofsNs b.lastShd))) s1

/-- An automatic choice is made again after a loss (R346). -/
def rechoose (x : Nat) (s : State) : State := chooseMaster x (putTrk x { getTrk s x with chosen := none } s)

/-- Tracker `x` loses its source (R345, R348). -/
def loseSource (x : Nat) (s : State) : State :=
  match trackerUse s x with
  | none => s
  | some (k, steers) =>
    rechoose x (
      if !steers then putTb k { getTb s k with shdCnt := 0 } s
      else if shadowReady s k then swapRoles k s
      else if (getTb s k).st = .free then s
      else toHoldover k s)

/-- PPS input `i` is present or not (TIM_EV_PPS_LOSS at each change). -/
def setPps (i : Nat) (p : Bool) (s : State) : State :=
  if (if i = 0 then s.gl.ppsIn0 else s.gl.ppsIn1) = p then s
  else raise 489 (i + 2 * p.toNat)
    { s with gl := if i = 0 then { s.gl with ppsIn0 := p } else { s.gl with ppsIn1 := p } }

def execSourceLoss (k : Fin 4) (s : State) : Host.Outcome State Fault Refusal :=
  done (
    if !unitOn s 0x34 then s
    else
      let t := ((trackerSrc s k.val).map srcType).getD 0
      let s1 := if t = 3 ∨ t = 4 then setPps (t - 3) false s else s
      loseSource k.val s1)

/-! ### Ports and PTP messages (R338–R341, R349) -/

/-- The port runs and its link is up. -/
def portUp (s : State) (p : Nat) : Bool := unitOn s (0x32 + p) && regBit s (Reg.TIM_ETH_CFG p) 31 && (getEth s p).up

/-- TRANSPORT: 3 acts as 0. -/
def portVia (s : State) (p : Nat) : Fin 3 := Fin.ofNat 3 (regFld s (Reg.TIM_ETH_CFG p) 28 2)

def portP2p (s : State) (p : Nat) : Bool := regBit s (Reg.TIM_ETH_CFG p) 27

/-- Time base of Pdelay timestamps. -/
def pdlyTb (s : State) (p : Nat) : Nat := regFld s (Reg.TIM_ETH_CFG p) 23 2

/-- A time base in 2^-16 ns. -/
def tbTime (s : State) (k : Nat) : Int := ((getTb s k).value / 2 ^ 32 : Nat)

/-- Receive and transmit timestamps now, in time base `k` (R339): the latencies are U16.4 ns. -/
def rxTime (s : State) (p k : Nat) : Int := tbTime s k - (regFld s (Reg.TIM_ETH_RXLAT p) 0 20 * 4096 : Nat)
def txTime (s : State) (p k : Nat) : Int := tbTime s k + (regFld s (Reg.TIM_ETH_TXLAT p) 0 20 * 4096 : Nat)

def asymOf (s : State) (p : Nat) : Int := sx 20 (regN s (Reg.TIM_ETH_ASYM p)) * 4096

/-- A PTP message is accepted by a port. -/
def gotPtp (p : Nat) (s : State) : State := bumpWrap (Reg.TIM_ETH_N_RX p) s

/-- A PTP message reaches a port: `f` is what it does there. On another transport than the port's it is discarded and
counted (R338). -/
def onPort (p : Nat) (h : PtpHdr) (f : State → State) (s : State) : State :=
  if !portUp s p then s
  else if h.via ≠ portVia s p then bumpSat (Reg.TIM_ETH_N_DROP p) s
  else f (gotPtp p s)

/-- A new sample of a path or link delay is filtered (R340). -/
def filterDelay (old : Option Int) (d : Int) : Int :=
  match old with
  | none => d
  | some df => df + divFloor (d - df) 16

/-- TIM_ETHn_LDLY: U28.4 ns. -/
def setLdly (p : Nat) (d : Int) (s : State) : State :=
  setRegN (Reg.TIM_ETH_LDLY p) (clampI 0 (2 ^ 32 - 1) (divFloor d 4096)).toNat s

/-- The delay that an offset on port `p` is computed with. -/
def pathDelay (s : State) (x p : Nat) : Option Int := if portP2p s p then (getEth s p).dlf else (getTrk s x).df

/-- A Sync is complete for tracker `x`: t1 with its corrections, and t2 (R340). -/
def syncDone (x p : Nat) (t1 t2 : Int) (s : State) : State :=
  let s1 := putTrk x { getTrk s x with sync := some (t1, t2), wait := none } s
  match pathDelay s1 x p with
  | none => s1
  | some d => measure x (t2 - t1 - d - asymOf s1 p) s1

/-- A Sync reaches tracker `x`. -/
def syncTrk (x p : Nat) (h : PtpHdr) (origin : Int) (twoStep : Bool) (s : State) : State :=
  match trackerUse s x with
  | none => s
  | some (k, _) =>
    let t2 := rxTime s p k
    if !accepts s x p h then s
    else if twoStep then putTrk x { getTrk s x with wait := some ⟨h.seq, t2, h.corr⟩ } s
    else syncDone x p (origin + h.corr) t2 s

/-- A Follow_Up reaches tracker `x`. -/
def followTrk (x p : Nat) (h : PtpHdr) (origin : Int) (s : State) : State :=
  if !accepts s x p h then s
  else
    match (getTrk s x).wait with
    | none => s
    | some w => if w.seq = h.seq then syncDone x p (origin + w.corr + h.corr) w.rx s else s

/-- A Delay_Resp reaches tracker `x`: t4 = receipt + correction (R340). -/
def delayTrk (x p : Nat) (h : PtpHdr) (receipt : Int) (s : State) : State :=
  let t := getTrk s x
  if !accepts s x p h || portP2p s p || t.dseq ≠ h.seq then s
  else
    match t.t3, t.sync with
    | some t3, some (t1, t2) =>
      let d := divFloor (t2 - t1 + (receipt + h.corr) - t3 + 1) 2
      let df := filterDelay t.df d
      setLdly p df (putTrk x { t with df := some df, t3 := none } s)
    | _, _ => s

def eachTracker (f : Nat → State → State) (s : State) : State := (List.range 4).foldl (fun s x => f x s) s

def execSync (p : Fin 2) (h : PtpHdr) (origin : Int) (twoStep : Bool) (s : State) : Host.Outcome State Fault Refusal :=
  done (onPort p.val h (eachTracker (fun x => syncTrk x p.val h origin twoStep)) s)

def execFollowUp (p : Fin 2) (h : PtpHdr) (origin : Int) (s : State) : Host.Outcome State Fault Refusal :=
  done (onPort p.val h (eachTracker (fun x => followTrk x p.val h origin)) s)

def execDelayResp (p : Fin 2) (h : PtpHdr) (receipt : Int) (s : State) : Host.Outcome State Fault Refusal :=
  done (onPort p.val h (eachTracker (fun x => delayTrk x p.val h receipt)) s)

/-- An entry of the transmit timestamp queue (R349). `t` is in 2^-16 ns. -/
def txEntry (k typ : Nat) (domain : BitVec 8) (seq : BitVec 16) (t : Int) : TxTs :=
  let v := (t % (2 ^ 64 * 1000000000 * 65536 : Nat)).toNat
  let sec := v / 65536 / 1000000000
  ⟨w32 (2 ^ 31 + 2 ^ 28 * k + 2 ^ 24 * typ + 2 ^ 16 * domain.toNat + seq.toNat), w32 (v / 65536 % 1000000000),
   w32 (sec % 2 ^ 32), w32 (2 ^ 16 * (v % 65536) + sec / 2 ^ 32 % 2 ^ 16)⟩

/-- The timestamp joins the queue, or is dropped from a full one (R349). -/
def queueTx (p : Nat) (e : TxTs) (s : State) : State :=
  let x := getEth s p
  if x.txq.length < 16 then putEth p { x with txq := x.txq ++ [e] } s
  else raise (481 + 2 * p) e.w0.toNat (putEth p { x with ovf := true } s)

/-- What carries the messages of a port now (R338, R339): TIM_ETHn_MAC, TIM_ETHn_IP4 or IP6, and the tag of
TIM_ETHn_VLAN. -/
def carrier (s : State) (p : Nat) : PtpVia :=
  let v := portVia s p
  { via := v
    tag := if regBit s (Reg.TIM_ETH_CFG p) 25 then some (getReg s (Reg.TIM_ETH_VLAN p) &&& 0x7FFF) else none
    mac := BitVec.ofNat 48 (regN s (Reg.TIM_ETH_MAC_LO p) + 2 ^ 32 * regFld s (Reg.TIM_ETH_MAC_HI p) 0 16)
    ip := if v = 0 then [] else if v = 1 then [getReg s (Reg.TIM_ETH_IP4 p)]
      else (List.range 4).map (fun k => getReg s (Reg.TIM_ETH_IP6 p k))
    sum := if v = 0 then .none else if v = 1 then .zero else .computed }

/-- A message goes out: its type, domain, sequenceId, correctionField and timestamp. -/
def sendPtp (p typ : Nat) (domain : BitVec 8) (seq : BitVec 16) (corr stamp : Int) (s : State) : State :=
  putEth p { getEth s p with sent := ⟨typ, domain, seq, corr, stamp, carrier s p⟩ :: (getEth s p).sent } s

/-- An event message is sent: its timestamp is queued. -/
def sendEvent (p k typ : Nat) (domain : BitVec 8) (seq : BitVec 16) (corr stamp : Int) (s : State) : State :=
  queueTx p (txEntry k typ domain seq (txTime s p k)) (sendPtp p typ domain seq corr stamp s)

/-- A peer-to-peer port answers at once: in one step with the turnaround in correctionField, or in two with t2 in the
Pdelay_Resp and t3 and the request's correction in the Pdelay_Resp_Follow_Up (R338, R339) (log entry 28, PRESUMED). -/
def answerPdelay (p : Nat) (h : PtpHdr) (s : State) : State :=
  if !portP2p s p then s
  else
    let k := pdlyTb s p
    if regBit s (Reg.TIM_ETH_CFG p) 26 then
      sendEvent p k 3 h.domain h.seq (h.corr + (txTime s p k - rxTime s p k)) 0 s
    else sendPtp p 10 h.domain h.seq h.corr (txTime s p k) (sendEvent p k 3 h.domain h.seq 0 (rxTime s p k) s)

def execPdelayReq (p : Fin 2) (h : PtpHdr) (s : State) : Host.Outcome State Fault Refusal :=
  done (onPort p.val h (answerPdelay p.val h) s)

/-- t2 and t3 are the peer's, t3 with the corrections of the response (R340). -/
def takePdelay (p : Nat) (h : PtpHdr) (t2 t3 : Int) (s : State) : State :=
  let x := getEth s p
  match x.t1 with
  | none => s
  | some t1 =>
    if x.pseq ≠ h.seq || !portP2p s p then s
    else
      let t4 := rxTime s p (pdlyTb s p)
      let dlf := filterDelay x.dlf (divFloor ((t4 - t1) - (t3 + h.corr - t2) + 1) 2)
      setLdly p dlf (putEth p { x with dlf := some dlf, t1 := none } s)

def execPdelayResp (p : Fin 2) (h : PtpHdr) (t2 t3 : Int) (s : State) : Host.Outcome State Fault Refusal :=
  done (onPort p.val h (takePdelay p.val h t2 t3) s)

/-- The entry that an Announce goes to: its own, a free one, or the one heard longest ago (R341). -/
def fmSlot (s : State) (p : Nat) (a : AnnounceMsg) : Nat :=
  let fm := (getEth s p).fm
  let entry := fun i => sGet fmNone i fm
  match (List.range 8).find? (fun i => (entry i).map (fun e => (e.msg.hdr.clock, e.msg.hdr.port, e.msg.hdr.domain)) =
      some (a.hdr.clock, a.hdr.port, a.hdr.domain)) with
  | some i => i
  | none =>
    match (List.range 8).find? (fun i => entry i = none) with
    | some i => i
    | none =>
      ((List.range 8).foldl (fun (b : Nat × Nat) i =>
        let h := ((entry i).map FmEntry.heard).getD 0
        if h < b.2 then (i, h) else b) (0, ((entry 0).map FmEntry.heard).getD 0)).1

/-- An Announce fills or refreshes its entry; a tracker that has no master yet may choose one (R341, R346). -/
def takeAnnounce (p : Nat) (m : AnnounceMsg) (s : State) : State :=
  let x := getEth s p
  eachTracker chooseMaster (putEth p { x with fm := sPut fmNone (fmSlot s p m) (some ⟨m, s.now⟩) x.fm } s)

def execAnnounce (p : Fin 2) (a : AnnounceMsg) (s : State) : Host.Outcome State Fault Refusal :=
  done (onPort p.val a.hdr (takeAnnounce p.val a) s)

def execPtpDiscard (p : Fin 2) (s : State) : Host.Outcome State Fault Refusal :=
  done (if portUp s p.val then bumpSat (Reg.TIM_ETH_N_DROP p.val) s else s)

/-- A tracker on an end-to-end port sends its Delay_Req; its domain is the source's. -/
def execDelayReq (k : Fin 4) (s : State) : Host.Outcome State Fault Refusal :=
  done (
    match trackerUse s k.val, trackerPort s k.val with
    | some (b, r), some p =>
      if !portUp s p || portP2p s p then s
      else
        let seq := (getTrk s k.val).dseq + 1
        let s1 := putTrk k.val { getTrk s k.val with t3 := some (txTime s p b), dseq := seq } s
        sendEvent p b 1 (BitVec.ofNat 8 (fld (srcReg s b r) 16 8)) seq 0 0 s1
    | _, _ => s)

/-- The domain of the port's Pdelay_Req is not given: a free value. -/
def execPdelayReqSend (p : Fin 2) (s : State) : Host.Outcome State Fault Refusal :=
  done (
    if !portUp s p.val || !portP2p s p.val then s
    else
      let x := getEth s p.val
      let k := pdlyTb s p.val
      let s1 := putEth p.val { x with t1 := some (txTime s p.val k), pseq := x.pseq + 1 } s
      tickFree (sendEvent p.val k 2 (BitVec.ofNat 8 (freeVal s)) (x.pseq + 1) 0 0 s1))

def execDelayAnswerTimeout (who : DelayAsker) (s : State) : Host.Outcome State Fault Refusal :=
  done (
    match who with
    | .tracker k => putTrk k.val { getTrk s k.val with t3 := none } s
    | .port p => putEth p.val { getEth s p.val with t1 := none } s)

def execForeignMasterExpire (p : Fin 2) (entry : Fin 8) (s : State) : Host.Outcome State Fault Refusal :=
  done (
    let x := getEth s p.val
    putEth p.val { x with fm := sPut fmNone entry.val none x.fm } s)

/-- The offset of a PPS edge in time base `k`, in (−500,000,000, 500,000,000] ns (R345). -/
def ppsOffset (s : State) (k i : Nat) : Int :=
  let dly := sx 24 (regN s (if i = 0 then Reg.TIM_GL_PPSIN_DLY0 else Reg.TIM_GL_PPSIN_DLY1)) * 65536
  let one : Int := 1000000000 * 65536
  let m := (tbTime s k - dly) % one
  if one < 2 * m then m - one else m

def execPpsEdge (i : Fin 2) (s : State) : Host.Outcome State Fault Refusal :=
  done (
    if !unitOn s 0x34 then s
    else
      eachTracker (fun x s =>
        match trackerUse s x with
        | none => s
        | some (k, r) => if srcType (srcReg s k r) = 3 + i.val then measure x (ppsOffset s k i.val) s else s)
        (setPps i.val true s))

/-- A link that goes down is a loss for every tracker on the port (R345). -/
def execEthLinkChange (p : Fin 2) (up : Bool) (speed : Bool) (s : State) : Host.Outcome State Fault Refusal :=
  done (
    if !unitOn s (0x32 + p.val) || !regBit s (Reg.TIM_ETH_CFG p.val) 31 then s
    else
      let s1 := raise (480 + 2 * p.val) (up.toNat + 2 * speed.toNat)
        (putEth p.val { getEth s p.val with up := up, speed := speed } s)
      if up then s1
      else eachTracker (fun x s => if trackerPort s x = some p.val then loseSource x s else s) s1)

/-! ### Register commands (R337, R343, R344, R348, R349) -/

/-- Effect of a write of TIM_TB_CMD_k. -/
def effTbCmd (k cmd : Nat) (s : State) : State :=
  let b := getTb s k
  if cmd = 1 then
    let sec := regN s Reg.TIM_TB_SET_SHI * 2 ^ 32 + regN s Reg.TIM_TB_SET_SLO
    let v := (sec * 1000000000 + regFld s Reg.TIM_TB_SET_NS 0 30) * one48 % tbMod
    stepTb k 1 v ((v : Int) - b.value) s
  else if cmd = 2 then
    let adj := sx 64 (regN s Reg.TIM_TB_ADJ_HI * 2 ^ 32 + regN s Reg.TIM_TB_ADJ_LO) * one48
    stepTb k 1 (tbAdd b.value adj) adj s
  else if cmd = 3 then if shadowReady s k then swapRoles k s else s
  else if cmd = 4 then
    let t := srcType (srcReg s k true)
    if (b.st = .acquire ∨ b.st = .locked ∨ b.st = .holdover) ∧ 1 ≤ t ∧ t ≤ 4 then
      setTbState k .acquire (putTb k { b with i := 0, f := 0 } s)
    else if b.st ≠ .unset ∧ t = 5 then putTb k { b with f := freeF s } s
    else s
  else s

def tbCmd (m : Master) (k : Nat) (cmd : Nat) (s : State) : State :=
  writeWith m (Reg.TIM_TB_CMD k) (w32 cmd) (effTbCmd k cmd) s

def execTbSet (m : Master) (k : Fin 4) (s : State) : Host.Outcome State Fault Refusal := done (tbCmd m k.val 1 s)

def execTbStep (m : Master) (k : Fin 4) (s : State) : Host.Outcome State Fault Refusal := done (tbCmd m k.val 2 s)

def execTbSwitch (m : Master) (k : Fin 4) (s : State) : Host.Outcome State Fault Refusal := done (tbCmd m k.val 3 s)

def execReservo (m : Master) (k : Fin 4) (s : State) : Host.Outcome State Fault Refusal := done (tbCmd m k.val 4 s)

/-- Effect of a write of TIM_TB_PRI_k (R343). -/
def effTbPri (k : Nat) (v : Word) (s : State) : State :=
  let old := getReg s (Reg.TIM_TB_PRI k)
  let s1 := setReg (Reg.TIM_TB_PRI k) (v &&& 0xFF0007) s
  if srcType old = srcType v ∧ fld old 16 8 = fld v 16 8 then s1 else changePrimary k s1

/-- Effect of a write of the primary master's identity or port: `w` is the word 0–2 from TIM_TB_PID_LO_k. -/
def effTbPid (k w : Nat) (v : Word) (s : State) : State :=
  let a := Reg.TIM_TB_PID_LO k + 4 * w
  let x := if w = 2 then v &&& 0xFFFF else v
  if getReg s a = x then s else changePrimary k (setReg a x s)

/-- Effect of a write of the shadow source: register `a` of time base `k`. The tracker on it starts again. -/
def effTbShd (k a : Nat) (v : Word) (s : State) : State :=
  if getReg s a = v then s
  else
    let s1 := setReg a v s
    let s2 := putTb k { getTb s1 k with shdCnt := 0 } s1
    match (getTb s2 k).shdTrk with
    | none => s2
    | some x => startTracker x s2

/-- Effect of a write of TIM_TB_CTL_k: a time base enabled starts its tracker (R347). -/
def effTbCtl (k : Nat) (v : Word) (s : State) : State :=
  let was := tbOn s k
  let s1 := setReg (Reg.TIM_TB_CTL k) (v &&& 0xF000FFFF) s
  let s2 := assignShadows s1
  glCheck (toFree k (if bit v 31 && !was then startTracker k s2 else s2))

def execTimTbPri (m : Master) (k : Fin 4) (v : Word) (s : State) : Host.Outcome State Fault Refusal :=
  done (writeWith m (Reg.TIM_TB_PRI k.val) v (effTbPri k.val v) s)

/-- A read of TIM_TB_NS_k: the snapshot, with its other words held (R337). -/
def readTbNs (m k : Nat) (s : State) : Word × State :=
  let v := (getTb s k).value
  (w32 (tbNs v), holdHigh m (Reg.TIM_TB_SLO k) (w32 (tbSec v % 2 ^ 32))
    (holdHigh m (Reg.TIM_TB_SHI k) (w32 (tbSec v / 2 ^ 32)) (holdHigh m (Reg.TIM_TB_FRAC k) (w32 (tbFrac v)) s)))

def execTimTbNs (m : Master) (k : Fin 4) (s : State) : Host.Outcome State Fault Refusal :=
  done (readWith m (Reg.TIM_TB_NS k.val) (readTbNs m.val k.val) s)

/-- The head of a port's transmit timestamp queue; all 0 when it is empty. -/
def txHead (s : State) (p : Nat) : TxTs := ((getEth s p).txq.head?).getD ⟨0, 0, 0, 0⟩

/-- A read of TIM_ETHn_TXQ_W0 (R349). -/
def readTxq (m p : Nat) (s : State) : Word × State :=
  let e := txHead s p
  let s1 := putEth p { getEth s p with txq := (getEth s p).txq.tail } s
  (e.w0, holdHigh m (Reg.TIM_ETH_TXQ_W1 p) e.w1 (holdHigh m (Reg.TIM_ETH_TXQ_W2 p) e.w2
    (holdHigh m (Reg.TIM_ETH_TXQ_W3 p) e.w3 s1)))

def execTimEthTxqW0 (m : Master) (p : Fin 2) (s : State) : Host.Outcome State Fault Refusal :=
  done (readWith m (Reg.TIM_ETH_TXQ_W0 p.val) (readTxq m.val p.val) s)

/-- TIM_TB_STAT_k. -/
def tbStat (s : State) (k : Nat) : Word :=
  let b := getTb s k
  w32 (tbCode b.st + 2 ^ 4 * priTracker s k + 2 ^ 6 * (shdTracker s k).getD 0 + 2 ^ 8 * b.shdTrk.isSome.toNat +
    2 ^ 9 * (shadowReady s k).toNat + 2 ^ 10 * b.bigofs.toNat)

/-- TIM_ETHn_STAT. -/
def ethStat (s : State) (p : Nat) : Word :=
  let x := getEth s p
  w32 (x.up.toNat + 2 * x.ovf.toNat + 2 ^ 8 * x.txq.length)

/-- TIM_ETHn_FM_DATA: the word that TIM_ETHn_FM_IDX selects. -/
def fmData (s : State) (p : Nat) : Word :=
  let idx := getReg s (Reg.TIM_ETH_FM_IDX p)
  match sGet fmNone (fld idx 0 3) (getEth s p).fm with
  | none => 0
  | some e =>
    let a := e.msg
    match fld idx 4 3 with
    | 0 => lo32 a.hdr.clock
    | 1 => hi32 a.hdr.clock
    | 2 => w32 (a.hdr.port.toNat + 2 ^ 16 * a.hdr.domain.toNat + 2 ^ 24 * a.priority1.toNat)
    | 3 => w32 (a.clockClass.toNat + 2 ^ 8 * a.accuracy.toNat + 2 ^ 16 * a.variance.toNat)
    | 4 => w32 (a.priority2.toNat + 2 ^ 8 * a.steps.toNat + 2 ^ 24 * a.timeSource.toNat)
    | 5 => w32 (a.utcOffset.toNat + 2 ^ 16 + 2 ^ 17 * a.utcValid.toNat)
    | 6 => w32 (min ((s.now - e.heard) / 250000) (2 ^ 32 - 1))
    | _ => 0

/-- TIM_GL_STAT. -/
def glStat (s : State) : Word :=
  w32 ((decide (glErr s ≠ 0)).toNat + 2 * s.gl.reseed.toNat + 4 * glTb s)

/-- TIM_GL_ERR. -/
def glErrReg (s : State) : Word := w32 (tc 32 (clampI (-(2 ^ 31)) (2 ^ 31 - 1) (errNs (glErr s))))

/-! ### The tick generator and the outputs (R351–R355) -/

def execReseedPending (s : State) : Host.Outcome State Fault Refusal :=
  done (
    if unitOn s 0x35 && s.gl.seeded && decide ((gridAt (tickMode s) 16).toNat < (glErr s).natAbs) then
      { s with gl := { s.gl with reseed := true } }
    else s)

/-- e is slewed to 0 (R351); a generator that stands still cannot get there. -/
def execSlewEnd (s : State) : Host.Outcome State Fault Refusal :=
  done (
    if !unitOn s 0x35 || !s.gl.seeded || !s.gl.slewing then s
    else if slewMax s = 0 then if glErr s = 0 then slewDone s else s
    else slewDone (passTime (divCeil (glErr s).natAbs (slewMax s)) s))

/-- PPS_OUTn rises when its time base's nanoseconds next pass 0 (R354). -/
def execPpsOut (i : Fin 2) (s : State) : Host.Outcome State Fault Refusal :=
  done (
    let k := regFld s Reg.TIM_GL_OUT (8 + 2 * i.val) 2
    let d := tbStepLen s k
    if !unitOn s 0x35 || !regBit s Reg.TIM_GL_OUT (2 + i.val) || d ≤ 0 then s
    else
      let r := (getTb s k).value % sec48
      let s1 := if (r : Int) < d then s else passTime (divCeil (sec48 - r) d.toNat) s
      let high := s1.now + 250 * max 1 (regFld s1 Reg.TIM_GL_OUT 24 8)
      { s1 with gl := if i.val = 0 then { s1.gl with pps0 := high } else { s1.gl with pps1 := high } })

/-- The time that trigger `k` compares against, in 2^-48 ns. -/
def trigTime (s : State) (k : Nat) : Int :=
  if regBit s (Reg.TIM_TRIG_CTL k) 23 then epoch s + s.gl.psi else (getTb s (glTb s)).value

/-- t_m of R355 in 2^-48 ns. -/
def trigAt (s : State) (k : Nat) (m : Int) : Int :=
  let c := getReg s (Reg.TIM_TRIG_CTL k)
  let num := (modeT (tickMode s)).1 * (fld c 16 6 + 1)
  let den := (modeT (tickMode s)).2 * (fld c 24 6 + 1)
  epoch s + sx 32 (regN s (Reg.TIM_TRIG_OFS k)) * one48 + divFloor (m * 2 ^ 16 * 1000000000 * num) den * 2 ^ 32

/-- MODE of a trigger: 3 acts as 0. -/
def trigMode (s : State) (k : Nat) : Nat := regFld s (Reg.TIM_TRIG_CTL k) 30 2 % 3

/-- The first instance after time `x`. -/
def trigFirst (s : State) (k : Nat) (x : Int) : Int :=
  let c := getReg s (Reg.TIM_TRIG_CTL k)
  let num := (modeT (tickMode s)).1 * (fld c 16 6 + 1)
  let den := (modeT (tickMode s)).2 * (fld c 24 6 + 1)
  let m := divFloor ((x - trigAt s k 0) * den) (sec48 * num)
  if x < trigAt s k m then m else if x < trigAt s k (m + 1) then m + 1 else m + 2

/-- ABS in 2^-48 ns. -/
def trigAbs (s : State) (k : Nat) : Int :=
  let sec := regN s (Reg.TIM_TRIG_ABS_SHI k) * 2 ^ 32 + regN s (Reg.TIM_TRIG_ABS_SLO k)
  ((sec * 1000000000 + regFld s (Reg.TIM_TRIG_ABS_NS k) 0 30) * one48 : Nat)

/-- What numbers the instances of a periodic trigger: E, OFS, MUL and DIV (R355). -/
def trigGrid (s : State) (k : Nat) : Int × Word × Nat × Nat :=
  let c := getReg s (Reg.TIM_TRIG_CTL k)
  (epoch s, getReg s (Reg.TIM_TRIG_OFS k), fld c 24 6, fld c 16 6)

/-- The instances of a periodic trigger are numbered from now: the next is the first at or after the compared time. -/
def trigStart (k : Nat) (s : State) : State :=
  if trigMode s k = 1 then putTrig k { getTrig s k with next := trigFirst s k (trigTime s k), run := true } s else s

/-- The line timing has changed, and with it the rate of R355. -/
def trigRate (s : State) : State := (List.range 4).foldl (fun s k => trigStart k s) s

/-- The registers of trigger `k` are in force from now. A periodic trigger whose instances are numbered as before goes on;
otherwise they are numbered anew. `again` says that a one-shot is armed, by mode 2 or by a new ABS (R355) (log entry 29,
DEDUCED). -/
def trigApply (k : Nat) (fresh again : Bool) (s : State) : State :=
  let t := getTrig s k
  if trigMode s k = 1 then
    let s1 := putTrig k { t with armed := false } s
    if fresh then trigStart k s1 else s1
  else putTrig k { t with run := false, armed := trigMode s k = 2 && (t.armed || again) } s

/-- The generator seeds after a reset, and at the gate idle of a mode change on the new mode's grid (R272, R285, R352) (log entry 27, DESIGN CHOICE). -/
def execTickSeed (s : State) : Host.Outcome State Fault Refusal :=
  done (
    if !unitOn s 0x35 || s.gl.seeded then s
    else
      match s.scan.mode with
      | some m => if m.idle then trigRate (seedTicks (tellTimes (setRegFld Reg.SCN_STAT 0 3 m.new s))) else seedTicks s
      | none => seedTicks s)

/-- Cycles until the compared time of trigger `k` reaches `x`. -/
def trigReach (k : Nat) (x : Int) (s : State) : Option State :=
  if x ≤ trigTime s k then some s
  else if regBit s (Reg.TIM_TRIG_CTL k) 23 then reachPsi (x - epoch s) s
  else
    let d := tbStepLen s (glTb s)
    if d ≤ 0 then none else some (passTime (divCeil (x - trigTime s k).toNat d.toNat) s)

/-- Pulse of trigger `k`, cut short 10 ns before its next instance (`gap`, in 2^-48 ns). -/
def trigPulse (k : Nat) (gap : Option Int) (s : State) : State :=
  let w := divCeil (10 * max 1 (regFld s (Reg.TIM_TRIG_CTL k) 0 16)) 4
  let w1 := match gap with
    | none => w
    | some g => min w ((g - 10 * one48).toNat / (4 * one48))
  bumpWrap (Reg.TIM_TRIG_N k) (putTrig k { getTrig s k with high := s.now + w1 } s)

/-- Skipped instances are counted and told (R355) (log entry 29, DEDUCED). -/
def trigMiss (k n : Nat) (s : State) : State :=
  if n = 0 then s else raise 490 (k + 2 ^ 16 * min n 65535) (bumpBySat (Reg.TIM_TRIG_N_MISS k) n s)

/-- The next instance of a periodic trigger; one whose instances are not numbered yet begins now. -/
def trigNext (s : State) (k : Nat) : Int :=
  if (getTrig s k).run then (getTrig s k).next else trigFirst s k (trigTime s k - tbStepLen s (glTb s))

/-- A periodic trigger fires its next instance; those whose time was passed before this cycle are skipped. -/
def firePeriodic (k : Nat) (s : State) : State :=
  let first := trigFirst s k (trigTime s k - tbStepLen s (glTb s))
  let n := trigNext s k
  let m := if n < first then first else n
  let s1 := trigMiss k (m - n).toNat (putTrig k { getTrig s k with next := m, run := true } s)
  if n < m && decide (trigTime s1 k < trigAt s1 k m) then s1
  else
    match trigReach k (trigAt s1 k m) s1 with
    | none => s1
    | some s2 =>
      trigPulse k (some (trigAt s2 k (m + 1) - trigAt s2 k m)) (putTrig k { getTrig s2 k with next := m + 1 } s2)

def execTriggerFire (k : Fin 4) (s : State) : Host.Outcome State Fault Refusal :=
  done (
    if !unitOn s 0x35 then s
    else if trigMode s k.val = 1 then firePeriodic k.val s
    else if trigMode s k.val = 2 && (getTrig s k.val).armed &&
        decide (trigTime s k.val - tbStepLen s (glTb s) ≤ trigAbs s k.val) then
      match trigReach k.val (trigAbs s k.val) s with
      | none => s
      | some s1 => trigPulse k.val none (putTrig k.val { getTrig s1 k.val with armed := false } s1)
    else s)

/-- AON_STAT shows TIMECLK's presence, and CLK_TIM changes its source (R24). -/
def execTimeclkChange (present : Bool) (s : State) : Host.Outcome State Fault Refusal :=
  done (setRegBit Reg.AON_STAT 2 present s)

end Sys2Proof.Machine
end

