-- ==== Sys2Proof/Machine/Reset.lean ====
section
/-!
DEFINITION. LINK, BLOCK and warm resets and POR (05_ingest_decompression.md, R142; 15_resets_power.md, R407–R415).
-/
namespace Sys2Proof.Machine

/-! ### LINK reset of the whole link (R142, R179, R189, R250) -/

/-- The mirror frames whose LINE transactions are being sent: one for a master at most. -/
def mirrorInFlight (s : State) : List MirFrame :=
  s.mirror.filter (fun f => f.ready && decide (f.next < 2160) && (decide (0 < f.next) || f.out))

/-- With the transactions waiting for a master gone, those of its mirror frames are to be formed again. -/
def mirForget (p : Nat → Bool) (s : State) : State :=
  { s with mirror := s.mirror.map (fun f => if p f.m then { f with out := false } else f) }

/-- A held access of a host master, or the rest of its request (R142). -/
def ofHost (h : Held) : Bool := 3 ≤ heldMaster h.op

/-- A direct write that waits at the write cap. -/
def isWrWait (c : CapWrite) : Bool :=
  match c.src with
  | .wr _ => true
  | .ctx _ => false

/-- Both replay buffers, every request not executed and every read tag go; SEQ, RSEQ expectations and credits start
again. Contexts keep their states (log entry 36, DEDUCED). -/
def linkForget (s : State) : State :=
  let s1 := { s with link := {}, wcapQ := s.wcapQ.filter (fun c => !isWrWait c), heldQ := s.heldQ.filter (fun h => !ofHost h) }
  let s2 := (s.dcx.map Prod.fst).foldl (fun s n => putDcx n { getDcx s n with acks := [] } s) s1
  (List.range 8).foldl (fun s m => putMsgq m { getMsgq s m with formed := [] } s) s2

/-- A host lane at a retrain: copies end, and a quarantined lane that waits for it is verified (R189). -/
def laneRetrain (l : Lane) (s : State) : State :=
  let x := getAux s l
  let s1 := putAux l { x with rqOut := false, txCopy := none, copyNext := none, calib := false, goods := 0, misses := 0,
                              rqIn := 0, rqGone := 0, stuffs := 0, phase := .none } s
  if laneRole s1 l = lrQUARANTINED then
    if x.verifyAt && mntMayStart s1 actHVER then setLaneRole l lrVERIFY s1 else s1
  else if laneRole s1 l = lrFAILED ∨ laneState s1 l = lsDARK then s1
  else startTrain l (takeTransmit (laneUnit l) s1)

/-- The link goes down (R142). -/
def linkReset (s : State) : State :=
  let s0 := mirForget (fun _ => true) ((mirrorInFlight s).foldl (fun s f => abortMirror f s) s)
  let s1 := hostLanes.foldl (fun s l => laneRetrain l s) (linkForget s0)
  raise 97 0 (bumpSat Reg.LNH_N_RETRAIN (setRegN Reg.LNH_LINK_STAT 0 s1))

/-- No ACK has advanced for 1 ms while flits are unacknowledged (R141). -/
def execLinkRetrain (s : State) : Host.Outcome State Fault Refusal :=
  done (if unitOn s 0x05 && linkUpNow s && !s.link.replay.isEmpty then linkReset s else s)

/-! ### LINK reset of one master (R411) -/

/-- The link's records of host master `k` (M3 + k). -/
def masterLink (k : Nat) (l : Link) : Link :=
  let four := fun (x : Sparse Nat) => (List.range 4).foldl (fun x vc => sPut zeroN (4 * k + vc) 0 x) x
  let two := fun (x : Sparse Nat) => (List.range 2).foldl (fun x vc => sPut zeroN (2 * k + vc) 0 x) x
  { l with
    asm := l.asm.filter (fun a => a.m.val ≠ k)
    reqs := l.reqs.filter (fun q => q.req.m.val ≠ k)
    out := l.out.filter (fun t => t.m ≠ k)
    tags := l.tags.filter (fun t => t.1 ≠ k)
    rseq := (List.range 4).foldl (fun x vc => sPut (fun _ => none) (4 * k + vc) none x) l.rseq
    credit := four l.credit
    used := two l.used
    freed := two l.freed
    init := sPut (fun _ => false) k false l.init }

/-- The request waits at the write cap, or is held, for host master `k`. -/
def capOf (k : Nat) (c : CapWrite) : Bool :=
  match c.src with
  | .wr r => r.m.val = k
  | .ctx _ => false

def masterReset (k : Nat) (s : State) : State :=
  let s0 := mirForget (· = k) (((mirrorInFlight s).filter (·.m = k)).foldl (fun s f => abortMirror f s) s)
  let s1 := { s0 with
    link := masterLink k s0.link
    wcapQ := s0.wcapQ.filter (fun c => !capOf k c)
    heldQ := s0.heldQ.filter (fun h => heldMaster h.op ≠ 3 + k) }
  let s2 := (s1.dcx.map Prod.fst).foldl (fun s n =>
    putDcx n { getDcx s n with acks := (getDcx s n).acks.filter (fun a => a.2.m.val ≠ k) } s) s1
  let q := getMsgq s2 k
  let s3 := putMsgq k { q with recs := [], formed := [], lost := false } s2
  updateInitAll (endGrants (3 + k) (setRegBit Reg.CMT_RDY_STAT (3 + k) false (setRegN (Reg.EVT_LOST k) 0 s3)))

/-! ### BLOCK reset (R412, R413) -/

/-- Registers that a BLOCK reset of their page keeps: MST and CMT_PART (R413, items 2 and 3) and SCN_PERIOD (R264). -/
def blockKeeps (a : Nat) : Bool := a / 4096 = 1 || a = Reg.CMT_PART || a = Reg.SCN_PERIOD

/-- The register returns to default at a BLOCK reset of page `p`. -/
def blockClears (p a : Nat) : Bool :=
  a / 4096 = p && decide (0x40 ≤ a % 4096) && regClass a = .volatile && !blockKeeps a

/-- The registers of a page return to their reset or boot values. -/
def blockRegs (p : Nat) (s : State) : State :=
  let s1 := { s with regs := s.regs.filter (fun e => !blockClears p e.1) }
  (regdef s1).foldl (fun s q =>
    match activeOf q.1 with
    | some (a, _) => if blockClears p a then bootStore q s else s
    | none => s) s1

/-- A table returns to zero, both copies. -/
def clearTab (t : Nat) (s : State) : State := { s with tabs := s.tabs.filter (fun e => e.1 / 2 ^ 19 ≠ t) }

/-- The LEDSET section (R454). -/
def applyLedset (s : State) : State :=
  if s.boot.defaults then s
  else
    let b := slotBase s s.boot.slot
    match (sections s b).find? (fun x => x.typ = 3) with
    | none => s
    | some x => (List.range 12).foldl (fun s i =>
        setTab tabLEDSET true i (w32 (flashNum s (b + x.off + 4 * i) 4) &&& 0xFFF) s) s

/-- Lanes of a page return to their reset state. -/
def clearLanes (l : List Lane) (s : State) : State := l.foldl (fun s x => putAux x {} s) s

/-- The frame being composed is abandoned; roles asked for and vacancies stand. -/
def dropFrame (s : State) : State :=
  setComp { lfsr := s.comp.lfsr, reseed := s.comp.reseed, vacant := s.comp.vacant, roleReq := s.comp.roleReq } s

/-- Every decompression context is CLOSED. -/
def clearContexts (s : State) : State :=
  (List.range 17).foldl (fun s e => setRegFld (Reg.DCX_STAT e) 4 3 0 s)
    { s with dcx := [], wcapQ := s.wcapQ.filter isWrWait }

/-- A DRAM controller starts again from self-refresh: no debt, no repair list, no tables. -/
def clearMem (sys : MemSys) (s : State) : State :=
  let t := 4 * (s.now : Int)
  let s1 := (unitKeys sys).foldl (fun s k => putDram k { paid := t, busyAt := t, sr := (getDram s k).sr } s) s
  match sys with
  | .frame => { s1 with memF := {}, acts := [] }
  | .scene => loadNrr { s1 with memS := {} }

/-- What is not a register of the unit that page `p` describes (log entry 38, DEDUCED). -/
def unitReset (p : Nat) (s : State) : State :=
  if p = 0x02 then (List.range 8).foldl (fun s k =>
    putMsgq k { evtRseq := (getMsgq s k).evtRseq, mirRseq := (getMsgq s k).mirRseq } s) s
  else if p = 0x03 then { s with holdOpen := false }
  else if p = 0x04 then clearLanes hostLanes (linkReset s)
  else if p = 0x05 then linkReset s
  else if 0x06 ≤ p ∧ p ≤ 0x0B then
    let s1 := clearLanes (panelLanes.filter (fun l => lanePage l = p)) s
    if p = 0x06 then { s1 with psb := {} } else s1
  else if p = 0x0C then clearContexts { s with wcapLevel := 65536 }
  else if 0x0D ≤ p ∧ p ≤ 0x1D then (residents s (p - 0x0D)).foldl (fun s n => dcxPark n s) s
  else if p = 0x1E then
    clearTab tabCMX (clearTab tabEOTF (dropFrame { s with
        ctxShadow := [], ctxActive := [], ctxForce := [], handles := [], sclQueue := [], sclCur := none, sclTouched := [] }))
  else if p = 0x1F then
    let l := s.lctc
    auditRestart (dropFrame { s with lctc := { loaded := l.loaded, auditOk := l.auditOk, dmax := l.dmax, gmax := l.gmax } })
  else if 0x20 ≤ p ∧ p ≤ 0x25 then dropFrame s
  else if p = 0x26 then
    clearTab tabSPR (clearTab tabXFR (clearTab tabMTB (dropFrame { s with zones := [], mirror := [] })))
  else if p = 0x27 then { s with sigRes := [], sigStat := [] }
  else if p = 0x28 then
    setScan { s.scan with mode := none, tfSeen := false, tfAcc := 0 } (clearTab tabOD { s with rects := [] })
  else if p = 0x2A then clearTab tabTC s
  else if 0x2B ≤ p ∧ p ≤ 0x2D then (List.range 8).foldl (fun s i => putTile (8 * (p - 0x2B) + i) {} s) s
  else if p = 0x2E ∨ p = 0x2F then clearMem .frame s
  else if p = 0x30 ∨ p = 0x31 then clearMem .scene s
  else if p = 0x32 ∨ p = 0x33 then putEth (p - 0x32) { up := (getEth s (p - 0x32)).up, speed := (getEth s (p - 0x32)).speed } s
  else if p = 0x34 then assignShadows { s with trk := [] }
  else if p = 0x35 then { s with gl := { ppsIn0 := s.gl.ppsIn0, ppsIn1 := s.gl.ppsIn1 }, trig := [] }
  else if p = 0x36 then
    { s with thm := { s.thm with
      samples := [], n := 0, dev := [], checks := [], up := [], down := [], cold := 0, acc := 0, refOut := 0, refIn := 0 } }
  else if p = 0x37 then applyLedset (clearTab tabLEDSET { s with thm := { s.thm with
      runs := [], units := [], started := [], retry := [], refBad := false, setBad := false, refOut := 0, refIn := 0 } })
  else if p = 0x38 then { s with pwr := { s.pwr with req := none } }
  else if p = 0x39 then { s with ozd := { s.ozd with
      low := [], rd := [], wr := [], scanned := false, deftab := false, bootOk := false, cfg := 0 } }
  else if p = 0x3A then { s with mnt := {} }
  else s

/-- After a BLOCK reset of scan-out in state `s`, SCN_STAT shows the state that goes on and the mode in force; a mode that
differs from the one before is seeded anew (log entry 38, DEDUCED). -/
def scanReset (s t : State) : State :=
  let m := if nightOn s then modeAct s else modeSet t
  let t1 := setRegFld Reg.SCN_STAT 0 3 m (setScanState (scanState s) t)
  if modeAct s = m then t1
  else trigRate { t1 with gl := { t1.gl with seeded := false }, scan := { t1.scan with nominal := true } }

/-- BLOCK reset of a page, complete. A shutdown that has been decided goes on (R368). -/
def blockReset (p : Nat) (s : State) : State :=
  let t := unitReset p (blockRegs p { s with resetPending := s.resetPending.filter (· ≠ p) })
  if p = 0x28 then scanReset s t
  else if p = 0x36 && s.pwr.shut then setRegFld Reg.THM_STAT 12 4 (regFld s Reg.THM_STAT 12 4) t
  else t

/-- Pages whose BLOCK reset waits for a boundary. -/
def atBoundary (p : Nat) : Bool := 0x1E ≤ p && p ≤ 0x2F

/-- A BLOCK reset is asked for (R412); a dip holds it (R422). -/
def askBlockReset (p : Nat) (s : State) : State :=
  let s1 := { s with resetPending := p :: s.resetPending.filter (· ≠ p) }
  if s.pwr.dip.isSome then { s1 with pwr := { s1.pwr with blocks := p :: s1.pwr.blocks.filter (· ≠ p) } }
  else if atBoundary p then s1
  else blockReset p s1

/-- BLOCK resets that the next boundary carries out: asked for, and not held by a dip. -/
def boundaryResets (s : State) : List Nat := s.resetPending.filter (fun p => atBoundary p && !s.pwr.blocks.contains p)

/-- At a boundary the waiting resets are carried out. -/
def execBlockResetApply (s : State) : Host.Outcome State Fault Refusal :=
  done (
    if live s && s.period.resetDue then
      (boundaryResets s).foldl (fun s p => blockReset p s) { s with period := { s.period with resetDue := false } }
    else s)

/-- Effect of a write of PAGE_CTL: EN and FRZ_ON_FAULT are stored, FRZ_ON_FAULT 0 ends a hold, SRST asks for a reset
(R43). -/
def effPageCtl (p : Nat) (v : Word) (s : State) : State :=
  let s1 := setReg (Reg.PAGE_CTL p) (v &&& 5) s
  let s2 := if bit v 2 then s1 else { s1 with captured := s1.captured.filter (· ≠ p) }
  if bit v 1 then askBlockReset p s2 else s2

def execSrst (m : Master) (page : Fin 60) (s : State) : Host.Outcome State Fault Refusal :=
  let a := Reg.PAGE_CTL page.val
  let v := getReg s a ||| 2
  done (writeWith m a v (effPageCtl page.val v) s)

/-! ### Warm resets and POR (R408–R415) -/

/-- The sequence of R410 is under way: 70 µs from the trigger, `now` counting 4 ns. -/
def inSequence (s : State) : Bool :=
  match s.boot.resetAt with
  | none => false
  | some (t, _) => decide (s.now < t + 17500)

/-- A memory system was in self-refresh when the reset, or the sequence under way, was triggered. -/
def srBefore (s : State) (sys : MemSys) : Bool :=
  match s.boot.resetAt, sys with
  | none, _ => (unitKeys sys).all (fun k => (getDram s k).sr)
  | some (_, f, _), .frame => f
  | some (_, _, m), .scene => m

/-- A memory system is in self-refresh at the end of the sequence (R410). It may not have got there where a supply ends a
sequence under way, or where the clocks had stopped: which, is open (log entry 38, DEDUCED). -/
def srReached (s : State) (supply : Bool) (sys : MemSys) : Bool :=
  !(s.pwr.tripped || (supply && inSequence s)) || srBefore s sys ||
    Config.selfRefreshReached (2 * s.freeCtr + (match sys with
      | .frame => 0
      | .scene => 1))

/-- What a tile's paths in use end with: a CODES frame of 0, which the APPLY after it takes into effect (R410). -/
def darkTile (x : Tile) : Tile :=
  let f := codesFrame x.seq.toNat 0 0 (List.replicate 384 0)
  let out := fun (a : PathAux) => if carries a.role then ({ dat := frameBits f } : PathAux) else {}
  { pa := out x.pa, pb := out x.pb }

/-- The tiles after a warm reset. With the clocks stopped no frame goes out. -/
def darkTiles (s : State) : Sparse Tile :=
  if live s then
    (s.tiles.filter (fun e => e.2.st = .on)).foldl (fun l e => sPut (fun _ => {}) e.1 (darkTile e.2) l) []
  else []

/-- A time base after a reset other than power-on (R336). -/
def tbAfter (b : Tb) : Tb :=
  { value := b.value, f := b.f, i := b.i,
    st := match b.st with
      | .locked => .holdover
      | .holdover => .holdover
      | .free => .free
      | _ => .unset }

/-- SYS_RESET_CAUSE after a reset: TRIP and SHUT stay until they have been recorded. -/
def causeWord (s : State) (kind : Nat) : Word :=
  let trip := !s.boot.tripTold && regBit s Reg.SYS_RESET_CAUSE 8
  let shut := !s.boot.shutTold && regBit s Reg.SYS_RESET_CAUSE 9
  w32 (kind + 2 ^ 8 * trip.toNat + 2 ^ 9 * shut.toNat)

/-- What every reset leaves: the commands waiting, the store, the flash and straps, the clock. -/
def kept (s : State) : State :=
  { State.reset with
    pending := s.pending, readData := s.readData, lastAccess := s.lastAccess, freeCtr := s.freeCtr, now := s.now, dram := freshDram s.now
    ozd := { words := s.ozd.words, ue := s.ozd.ue, ce := s.ozd.ce }
    boot := { straps := s.boot.straps, flash := s.boot.flash, size := s.boot.size,
              scanErrs := s.boot.scanErrs } }

/-- Power-on reset: everything but the Ozide store, of which the word in progress is completed (R382, R406). -/
def powerOnReset (s : State) : State := kept (ozCut s)

/-- Contents of the two memories that a warm reset keeps are marked unverified (R414). -/
def keepMem (s : State) (fsOk smOk : Bool) (t : State) : State :=
  let t1 := if fsOk then setUnverified .frame { t with fs := s.fs, fsUE := s.fsUE } else t
  if smOk then setUnverified .scene { t1 with scene := s.scene, scUE := s.scUE } else t1

/-- Items of R413 that a warm reset returned to default or lost. -/
def warmLost (fsOk smOk : Bool) : Nat := 0x1D + 2 ^ 9 * (!fsOk).toNat + 2 ^ 10 * (!smOk).toNat

/-- Items that Midnight and the reset that ends it return to default or lose. -/
abbrev midnightLost : Nat := 0x63F

/-- STICKY and AON registers, of which DCX_STAT keeps its role only. -/
def keptRegs (s : State) : Sparse Word :=
  let l := s.regs.filter (fun e => regClass e.1 ≠ .volatile)
  (List.range 17).foldl (fun l e => sPut regReset (Reg.DCX_STAT e) (w32 (deRole s e)) l) l

/-- A power state asked for or being entered when the reset falls is carried out at its end (R416). -/
def powerAsked (s : State) : Option PState :=
  match s.pwr.req with
  | none => s.pwr.due
  | some r => some r

/-- PIN, WDG and CHIP resets and wake: `kind` is SYS_RESET_CAUSE as set, `ctr` the counter of the reset kind, `supply` that
a supply fell below its reset level. The records that the store has been handed are completed (R410). -/
def warmReset (kind ctr : Nat) (supply : Bool) (s : State) : State :=
  let off := s.pwr.st = .midnight
  let fsOk := !off && srReached s supply .frame
  let smOk := !off && srReached s supply .scene
  let cause := causeWord s (kind + 2 ^ 16 * fsOk.toNat + 2 ^ 17 * smOk.toNat)
  let t := { kept (ozFinish s) with
    tiles := darkTiles s
    pwr := { req := powerAsked s }
    freeCtr := s.freeCtr + 1
    regs := keptRegs s
    tabs := s.tabs.filter (fun e => e.1 / 2 ^ 19 = tabNSB)
    lct := s.lct
    lctc := { loaded := s.lctc.loaded, auditOk := s.lctc.auditOk, dmax := s.lctc.dmax, gmax := s.lctc.gmax }
    tb := (List.range 4).foldl (fun l k => sPut (fun _ => {}) k (tbAfter (getTb s k)) l) []
    thm := { tref := s.thm.tref, use := s.thm.use, txUse := s.thm.txUse } }
  let t1 := setReg Reg.SYS_RESET_CAUSE cause (setRegFld Reg.AON_STAT 0 2 0 (keepMem s fsOk smOk t))
  { t1 with boot := { t1.boot with
      kind := ctr, lost := BitVec.ofNat 12 (if off then midnightLost else warmLost fsOk smOk)
      resetAt := some (s.now, srBefore s .frame, srBefore s .scene)
      tripTold := !regBit t1 Reg.SYS_RESET_CAUSE 8, shutTold := !regBit t1 Reg.SYS_RESET_CAUSE 9 } }

def execPor (s : State) : Host.Outcome State Fault Refusal := done (powerOnReset s)

/-- A PIN reset: RESET_N, or a supply other than VDD_AON outside Midnight (R408, R421). It ends THERM_TRIP_N (R368). -/
def execPin (cause : PinCause) (s : State) : Host.Outcome State Fault Refusal :=
  done (
    match cause with
    | .resetN => warmReset 4 2 false s
    | .supply r =>
      if r.val = 2 || s.pwr.st = .midnight then s else warmReset (2 ^ 6 + 2 ^ 28 * r.val) 2 true s)

/-- A sequencer's watchdog expires; M2's is stopped while no activity runs (R409). Neither a watchdog nor a CHIP order cancels
a shutdown that has been decided (R368) (log entry 38, DEDUCED). -/
def execWdg (m2 : Bool) (s : State) : Host.Outcome State Fault Refusal :=
  done (
    if !live s || s.pwr.shut || (m2 && !s.mnt.queue.any MntReq.running) then s
    else warmReset (if m2 then 2 ^ 4 else 2 ^ 3) 3 false s)

/-- A CHIP reset ordered by master `m` (R408). -/
def chipReset (m : Nat) (s : State) : State :=
  if s.pwr.shut then s else warmReset (2 ^ 5 + 2 ^ 24 * m) 4 false s

/-- Effect of SYS_RST with CMD = CHIP: the key must match, and a dip holds the reset (R422). -/
def effChip (m : Nat) (v : Word) (s : State) : State :=
  if fld v 16 16 ≠ 0xC41F then s
  else if s.pwr.dip.isSome then { s with pwr := { s.pwr with chip := some m } }
  else chipReset m s

/-- Effect of SYS_RST with CMD = MASTER. -/
def effMaster (v : Word) (s : State) : State :=
  if 3 ≤ fld v 4 4 ∧ fld v 4 4 ≤ 10 then masterReset (fld v 4 4 - 3) s else s

/-- A write of SYS_RST: CHIP acts for a privileged master, MASTER for one or for Mk itself (R408, R411). The page's owner may
write it, to no effect (R45) (log entry 38, DEDUCED). -/
def writeSysRst (m : Master) (v : Word) (s : State) : State :=
  let a := Reg.SYS_RST
  if fld v 0 4 = 1 then writePriv m a v (effChip m.val v) s
  else if fld v 0 4 = 2 then
    writeRight m a v (mayWrite s m.val a || fld v 4 4 = m.val)
      (fun s => if privileged s m.val || fld v 4 4 = m.val then effMaster v s else s) s
  else writeWith m a v id s

def execChip (m : Master) (key : BitVec 16) (s : State) : Host.Outcome State Fault Refusal :=
  done (writeSysRst m (w32 (1 + 2 ^ 16 * key.toNat)) s)

def execMasterReset (m : Master) (target : BitVec 4) (s : State) : Host.Outcome State Fault Refusal :=
  done (writeSysRst m (w32 (2 + 2 ^ 4 * target.toNat)) s)

end Sys2Proof.Machine
end

