-- ==== Sys2Proof/Machine/Power.lean ====
section
/-!
DEFINITION. Power states, wake and the supply monitors (15_resets_power.md, R416–R422).
-/
namespace Sys2Proof.Machine

def setPwr (p : Power) (s : State) : State := { s with pwr := p }

/-! ### PWR_REQ (R416) -/

def stateCode : PState → Nat
  | .noon => 0
  | .evening => 1
  | .night => 2
  | .midnight => 3

def stateOf (n : Nat) : PState := if n = 0 then .noon else if n = 1 then .evening else if n = 2 then .night else .midnight

/-- Effect of a write of PWR_REQ. A shutdown that has been decided is never cancelled (R368). -/
def effPwrReq (v : Word) (s : State) : State :=
  let s1 := setReg Reg.PWR_REQ (v &&& 3) s
  if s.pwr.shut then s1 else setPwr { s1.pwr with req := some (stateOf (fld v 0 2)) } s1

def execPwrReq (m : Master) (v : Word) (s : State) : Host.Outcome State Fault Refusal :=
  done (writeWith m Reg.PWR_REQ v (effPwrReq v) s)

/-- PWR_STAT. -/
def pwrStat (s : State) : Word :=
  w32 (stateCode s.pwr.st + 2 ^ 4 * (s.pwr.req.isSome || s.pwr.due.isSome).toNat + 2 ^ 5 * s.pwr.dip.isSome.toNat)

/-- The state changes, with PWR_EV_STATE. `src` is the wake source as AON_WAKE_CTL shows it (log entry 34, DEDUCED). -/
def changeState (new : PState) (src : Nat) (s : State) : State :=
  raise 505 (stateCode s.pwr.st + 2 ^ 4 * stateCode new + 2 ^ 8 * src) (setPwr { s.pwr with st := new } s)

/-! ### Entry to Night and exit from it (R418) -/

/-- An activity that does not run in Night is aborted, its spare given back (R435, R433). -/
def abortForNight (q : MntReq) (s : State) : State :=
  if q.act = actHCAL ∨ q.act = actPCAL then
    laneEvent (calLane q.act q.unit) 6 (mntAbort q.act q.unit 2 (giveBack (calLane q.act q.unit) s))
  else if q.act = actFPPR then
    let k := fld (rplGet s .frame q.unit) 22 5
    mntAbort q.act q.unit 2 (putDram k { getDram s k with repair := false } s)
  else mntAbort q.act q.unit 2 s

def runsInNight (act : Nat) : Bool := act = actPVER || act = actBVER || act = actEVER || act = actDVER

def abortsForNight (s : State) : State :=
  (s.mnt.queue.filter (fun q => q.running && !runsInNight q.act)).foldl (fun s q => abortForNight q s) s

/-- Host lanes rest: HLO in electrical idle, HLI in low-power detect. -/
def darkHostLanes (s : State) : State :=
  hostLanes.foldl (fun s l => if laneRole s l = lrFAILED then s else setLaneState l lsDARK s) s

/-- Steps 2 to 4 of the entry to Night, and LF30 line timing (R275, R308). -/
def nightFall (s : State) : State :=
  let s1 := darkHostLanes (linkReset (enterSrAll .scene (enterSrAll .frame (abortsForNight s))))
  let s2 := changeState .night 0 (setPwr { s1.pwr with due := none, leaving := none } s1)
  trigRate (seedTicks (tellTimes (setRegFld Reg.SCN_STAT 0 3 4 (setScan { s2.scan with nominal := true } s2))))

/-- The last wake source as PWR_EV_STATE carries it: one bit for each (log entry 34, DEDUCED). -/
def sourceBits (s : State) : Nat :=
  match s.pwr.leaving with
  | some k => 2 ^ k.val
  | none => 0

/-- The exit from Night, after its last panel frame. With no frame composed since a reset gate idle goes on (R414). -/
def nightEnd (s : State) : State :=
  let nextSt := if s.pwr.leaving.isNone && s.pwr.req = some .evening then PState.evening else .noon
  let s1 := linkReset (exitSrAll .scene (exitSrAll .frame s))
  let s2 := changeState nextSt (sourceBits s) s1
  let s3 := setPwr { s2.pwr with leaving := none, req := if s.pwr.leaving.isSome then s2.pwr.req else none } s2
  let s4 := setScanState (if s3.scan.wait then scIDLE else scNORMAL) (setScan { s3.scan with nominal := true, last := .zero } s3)
  trigRate (seedTicks (tellTimes (setRegFld Reg.SCN_STAT 0 3 (modeSet s4) s4)))

/-! ### POWER_STATE_CHANGE (R418, R419) -/

/-- Scan-out has come to gate idle, with no dark panel frame due. -/
def scanResting (s : State) : Bool := !s.scan.active && s.scan.dark.isNone && scanState s = scIDLE

/-- The state that a boundary has begun to enter, or the end of Night, when scan-out rests. -/
def powerChange (s : State) : State :=
  match s.pwr.due with
  | some .night => nightFall s
  | some .midnight => enterMidnight false (writeLives s)
  | _ => if s.pwr.st = .night && leavingNight s then nightEnd s else s

def execPowerStateChange (s : State) : Host.Outcome State Fault Refusal :=
  done (if live s && s.pwr.dip.isNone && !s.pwr.shut && scanResting s then powerChange s else s)

/-! ### Wake (R420) -/

/-- The source is enabled, and TB0 has reached its alarm. -/
def wakeEnabled (s : State) (src : Nat) : Bool :=
  regBit s Reg.AON_WAKE_CTL src &&
  (src ≠ 1 || decide (regN s Reg.AON_WAKE_AT_HI * 2 ^ 32 + regN s Reg.AON_WAKE_AT_LO ≤ tbSec (getTb s 0).value))

/-- AON_WAKE_CTL shows the source. -/
def noteWake (src : Nat) (s : State) : State := setRegFld Reg.AON_WAKE_CTL 8 3 (2 ^ src) s

/-- Wake source 0 SMBus, 1 the TB0 alarm, 2 host lanes (Night only). Midnight entered by a shutdown stays (log entry 34, DEDUCED). -/
def wake (src : Fin 3) (s : State) : State :=
  if !wakeEnabled s src.val || s.pwr.tripped then s
  else if s.pwr.st = .night then
    if s.pwr.shut then s else setPwr { s.pwr with leaving := some src } (noteWake src.val s)
  else if s.pwr.st = .midnight && src.val ≠ 2 && !regBit s Reg.AON_STAT 1 then
    warmReset (2 ^ 7) 64 false (noteWake src.val s)
  else s

def execWake (src : Fin 3) (s : State) : Host.Outcome State Fault Refusal := done (wake src s)

/-! ### Supply monitors and dips (R421, R422) -/

/-- Warning levels in 0.1 mV, in the row order of R421. -/
def warnLevel (rail : Nat) : Nat := ([7125, 7600, 7600, 10450, 10450, 8550, 11400, 17100] : List Nat).getD rail 0

/-- A supply crosses its warning level with `mv` millivolts sampled. VDD_CORE and VDD_SRAM open a dip episode (log entry 41, DEDUCED). -/
def supplyWarning (rail : Fin 8) (below : Bool) (mv : Nat) (s : State) : State :=
  if decide (10 * mv < warnLevel rail.val) ≠ below || regBit s Reg.PWR_SUP_STAT rail.val = below then s
  else
    let s1 := setRegBit Reg.PWR_SUP_STAT rail.val below s
    if 2 ≤ rail.val then raise 506 (rail.val + 2 ^ 4 * below.toNat) s1
    else if below && s.pwr.dip.isNone then setPwr { s1.pwr with dip := some ⟨rail.val⟩ } s1
    else s1

def execSupplyWarning (rail : Fin 8) (below : Bool) (mv : Nat) (s : State) : Host.Outcome State Fault Refusal :=
  done (if live s then supplyWarning rail below mv s else s)

/-- Resets that the episode held proceed: BLOCK resets, then the CHIP reset. -/
def heldResets (s : State) : State :=
  let s1 := setPwr { s.pwr with blocks := [], chip := none } s
  let s2 := (s.pwr.blocks.filter (fun p => !atBoundary p)).foldl (fun s p => blockReset p s) s1
  match s.pwr.chip with
  | some m => chipReset m s2
  | none => s2

/-- The dip episode `d` recovers: its queue is written, then its own records (log entry 41, DEDUCED). -/
def dipRecovered (d : Dip) (minMv durUs : Nat) (s : State) : State :=
  let s1 := ozFlush (setPwr { s.pwr with dip := none } s)
  let s2 := bumpSat Reg.PWR_N_BROWN (setRegN Reg.PWR_BROWN_DUR (min durUs 0xFFFFFFFF)
    (setRegN Reg.PWR_BROWN_MIN (minMv % 2 ^ 16) s1))
  let s3 := raise 504 (d.first + 2 ^ 16 * (minMv % 2 ^ 16) + 2 ^ 32 * min durUs 0xFFFFFFFF) s2
  heldResets (ozLog 4 [w64 (minMv % 2 ^ 16), w64 (min durUs 0xFFFFFFFF)] (counterAdd 7 1 s3))

/-- Both supplies have recovered. -/
def suppliesGood (s : State) : Bool := regFld s Reg.PWR_SUP_STAT 0 2 = 0

def execDipRecovery (minMv durUs : Nat) (s : State) : Host.Outcome State Fault Refusal :=
  done (
    match s.pwr.dip with
    | none => s
    | some d => if live s && suppliesGood s then dipRecovered d minMv durUs s else s)

/-- An episode has lasted 1 ms. -/
def execDipShutdownTimer (s : State) : Host.Outcome State Fault Refusal :=
  done (if live s && s.pwr.dip.isSome then orderlyShutdown 2 s else s)

end Sys2Proof.Machine
end

