-- ==== Sys2Proof/Machine/Period.lean ====
section
/-!
DEFINITION. The light-field period: boundaries, the commit decision, and the phases (01_architecture.md, R25–R36;
02_control_plane.md, R55–R59; 09_scanout_panel.md, R262, R272; 13_thermal_calibration.md, R366).
-/
namespace Sys2Proof.Machine

def setPeriod (p : Period) (s : State) : State := { s with period := p }

/-! ### The commit checks (R57) -/

/-- Panel lane rate of an image of LNP_CFG: 0 for 8, 1 for 12, 2 for 16 Gb/s. -/
def laneRate (w : Word) : Nat := min (fld w 0 2) 2

/-- A rate carries a timing mode (R197). -/
def rateCarries (mode rate : Nat) : Bool := if mode ≤ 1 then rate = 2 else if mode ≤ 3 then 1 ≤ rate else true

/-- The timing mode of the shadow set. -/
def shadowMode (s : State) : Nat := fld (getShd s Reg.SCN_MODE) 0 3

/-- L_t of every composer tile, on the state that the swap would put in force (R209). -/
def nextLens (s : State) (nr : List Nat) : List Nat :=
  listLens (ubOf s (getShd s Reg.RAY_FOCAL)) (ranked (forceAfter s nr))

/-- C of the check. With a mode that is not one of the five no capacity is stated: a free value (log entry 35, DEDUCED). -/
def budgetCap (s : State) : Nat := if 5 ≤ shadowMode s then freeVal s else capacityOf (nActNext s) (shadowMode s)

/-- CMT_E_BUDGET passes (R209). -/
def budgetOk (s : State) (nr : List Nat) : Bool :=
  let lens := nextLens s nr
  lens.all (fun l => decide (l ≤ 32)) && decide (workOf lens ≤ budgetCap s * marginOf s / 100)

/-- CMP_WORK and CMP_CAP show W and C of the check. A C that needs more than 32 bits is saturated (R13) (log entry 35, DEDUCED). -/
def storeBudget (nr : List Nat) (s : State) : State :=
  setRegN Reg.CMP_CAP (min (budgetCap s) 0xFFFFFFFF) (setRegN Reg.CMP_WORK (min (workOf (nextLens s nr)) 0xFFFFFFFF) s)

/-- CMT_E_LAYER passes (R103). -/
def layersOk (s : State) : Bool :=
  (enabledIn s.ctxShadow).all (fun n =>
    let w := shadowWord s n 0
    bit w 31 && !(decide (fld w 24 4 ≤ 10) && frozen s (fld w 24 4)))

/-- CMT_E_MODE passes. -/
def modeOk (s : State) : Bool :=
  decide (shadowMode s < 5) && rateCarries (shadowMode s) (laneRate (getShd s Reg.LNP_CFG))

/-- An enabled rectangle of panel pixels is well formed (R220, R269). -/
def extentOk (xr yr : Word) : Bool :=
  !bit yr 31 || (decide (fld xr 0 14 ≤ fld xr 16 14) && decide (fld yr 0 14 ≤ fld yr 16 14) &&
    decide (fld xr 16 14 < 15360) && decide (fld yr 16 14 < 8640))

/-- CMT_E_SIG passes. -/
def extentsOk (s : State) : Bool :=
  (List.range 128).all (fun n => extentOk (getShd s (Reg.SIG_XR n)) (getShd s (Reg.SIG_YR n))) &&
  (List.range 64).all (fun n => extentOk (getShd s (Reg.SCN_RXR n)) (getShd s (Reg.SCN_RYR n)))

/-- CMT_E_TIME passes: the time base that the shadow set selects for genlock is valid (log entry 35, DEDUCED). -/
def timeOk (s : State) : Bool := tbValid s (fld (getShd s Reg.TIM_GL_CTL) 0 2)

/-- The checks, in the order of R57: REASON 1 to 6. -/
def checks (s : State) (nr : List Nat) : List Bool :=
  [budgetOk s nr, layersOk s, s.lctc.loaded && s.lctc.auditOk, modeOk s, extentsOk s, timeOk s]

/-- FAILMASK. -/
def failMask (s : State) (nr : List Nat) : Nat := (wordOf 6 (fun i => !(checks s nr).getD i true)).toNat

/-! ### Swap and refusal (R58, R59) -/

/-- Shadowed registers take their shadow values. -/
def swapRegs (s : State) : State :=
  let own := s.regs.filter (fun e =>
    match regAt e.1 with
    | .active r => !r.sh
    | _ => true)
  let shd := s.regs.filter (fun e =>
    match regAt e.1 with
    | .shadow _ => true
    | _ => false)
  { s with regs := shd.foldr (fun e l => sPut regReset (e.1 - 0x800) e.2 l) own }

/-- Committed tables take their shadow copies. -/
def swapTables (s : State) : State :=
  [tabCMX, tabEOTF, tabSPR, tabXFR, tabMTB, tabOD, tabTC].foldl (fun s t => swapTab t s) s

/-- The triggers take the settings that this commit applies: mode 2, or a new ABS, fires a one-shot again (R355). -/
def applyTriggers (before s : State) : State :=
  (List.range 4).foldl (fun s k =>
    trigApply k (trigMode before k ≠ 1 || trigGrid before k ≠ trigGrid s k)
      (trigMode before k ≠ 2 || trigAbs before k ≠ trigAbs s k) s) s

/-- SHADOW_STAT of every page after a commit. -/
def stampPages (seq : Nat) (s : State) : State :=
  (List.range 60).foldl (fun s p => setRegN (Reg.SHADOW_STAT p) (seq % 2 ^ 31) s) s

/-- The swap (R58). -/
def applyCommit (nr : List Nat) (s : State) : State :=
  let seq := regN s Reg.CMT_PEND_SEQ
  let s1 := applyTriggers s (swapContexts nr (swapTables (swapRegs s)))
  let s2 := setRegFld Reg.CMT_STAT 0 3 cmtAPPLIED (setRegN Reg.CMT_RDY_STAT 0
    (setRegN Reg.CMT_LAST_SEQ seq (stampPages seq s1)))
  glCheck (bindBufs (raise 48 seq (bumpWrap Reg.CMT_N_APPLIED s2)))

/-- A refusal (R59): `mask` is FAILMASK. -/
def refuseCommit (mask : Nat) (s : State) : State :=
  let reason := (((List.range 7).find? (fun i => mask.testBit i)).map (· + 1)).getD 0
  let s1 := setRegFld Reg.CMT_STAT 0 3 cmtREFUSED (setRegFld Reg.CMT_STAT 4 4 reason (setRegFld Reg.CMT_STAT 8 7 mask s))
  raise 49 (regN s Reg.CMT_PEND_SEQ + 2 ^ 32 * mask) (bumpWrap Reg.CMT_N_REFUSED s1)

/-! ### The decision (R56) -/

/-- A master of CMT_PART is not ready. -/
def partsMissing (s : State) : Bool := fld (getReg s Reg.CMT_PART &&& ~~~getReg s Reg.CMT_RDY_STAT) 0 11 ≠ 0

def cmtWaited (s : State) : Nat := regFld s Reg.CMT_STAT 16 8

/-- Detail of CMT_EV_DEFERRED and CMT_EV_WAIT. -/
def waitDetail (s : State) : Nat := regN s Reg.CMT_PEND_SEQ + 2 ^ 32 * cmtWaited s

/-- Step 3: the request waits for a participant, up to CMT_TIMEOUT boundaries. -/
def waitForParts (s : State) : State :=
  let s1 := setRegFld Reg.CMT_STAT 16 8 (min (cmtWaited s + 1) 255) s
  let s2 := raise 51 (waitDetail s1) s1
  if regFld s2 Reg.CMT_TIMEOUT 0 8 ≠ 0 && decide (regFld s2 Reg.CMT_TIMEOUT 0 8 ≤ cmtWaited s2) then
    refuseCommit (2 ^ 6) s2
  else s2

/-- The decision at a boundary that is not one of R35 or R36. -/
def decideCommit (s : State) : State :=
  if !cmtPending s || !enabled s 0x03 then s
  else
    let nr := notReady s
    let st := stalled s
    let s1 := reportNotReady nr st s
    if !st.isEmpty then
      let s2 := setRegBit Reg.CMT_STAT 3 true s1
      raise 50 (waitDetail s2) s2
    else if partsMissing s1 then waitForParts s1
    else
      let mask := failMask s1 nr
      let sb := storeBudget nr s1
      let s2 := if 5 ≤ shadowMode s1 then tickFree sb else sb
      if mask = 0 then applyCommit nr s2 else refuseCommit mask s2

/-! ### Steps of a boundary -/

/-- REPEAT of SCN_STAT. -/
def setRepeat (b : Bool) (s : State) : State := setRegBit Reg.SCN_STAT 4 b s

/-- The roles rotate and the complete frame is to be shown (R31, R248, R414). -/
def rotate (s : State) : State :=
  let roles := previousRegion s + 2 ^ 4 * composingRegion s + 2 ^ 8 * showingRegion s
  let s1 := toShow (getReg s Reg.FIN_FRAME) (setRegN Reg.MFS_ROLES roles s)
  let s2 := setComp { s1.comp with st := .none, day := false } (setRepeat false s1)
  if s2.scan.wait then setScanState scNORMAL (setScan { s2.scan with wait := false } s2) else s2

/-- The regions rotate where the composing frame is complete (R31). -/
def rotateIfDone (s : State) : State := if s.comp.st = .complete then rotate s else setRepeat true s

/-- The overdrive band of R262. -/
def bandFor (bnd : Nat → Int) (tf : Int) (b : Nat) : Nat :=
  let up := (List.range 5).foldl (fun b i => if b = i && decide (bnd i ≤ tf) then i + 1 else b) b
  ([4, 3, 2, 1, 0] : List Nat).foldl (fun b i => if b = i + 1 && decide (tf < bnd i - 32) then i else b) up

/-- Step 4 of Sunrise. -/
def latchBand (s : State) : State :=
  let tf := sx 16 (regN s Reg.SCN_TF)
  let old := scanBand s
  let new := bandFor (fun i => sx 16 (regN s (Reg.SCN_ODB i))) tf old
  if new = old then s
  else raise 412 (old + 2 ^ 4 * new + 2 ^ 16 * tc 16 tf) (setRegFld Reg.SCN_STAT 10 3 new s)

/-- Steps 4 and 5 at a boundary at which no new frame's composition starts (R29, R204, R225). -/
def restOfSunrise (s : State) : State := storeBound (applyRoles (latchBand s))

/-- Step 5 at a boundary at which a new frame's composition starts (R29, R86, R225, R254). -/
def startComposition (s : State) : State :=
  let s1 := beginFrame (fillPlaces 68 (applyRoles (lctApply s)))
  keepRects (composingRegion s1) s1

/-- CMP_EV_OVERRUN (R35, R230) (log entry 35, DEDUCED). -/
def reportOverrun (s : State) : State := raise 310 (s.comp.left % 2 ^ 12) (bumpSat Reg.CMP_N_OVERRUN s)

/-- A timing-mode change begins where the commit changed SCN_MODE or the lane rate (R272). -/
def modeChangeOf (before s : State) : Option ModeChange :=
  let new := regFld s Reg.SCN_MODE 0 3
  let rate := laneRate (getReg s Reg.LNP_CFG) ≠ laneRate (getReg before Reg.LNP_CFG)
  if new = regFld before Reg.SCN_MODE 0 3 && !rate then none
  else some { old := modeAct s, new := new, rate := rate, idle := false, since := s.now }

/-- The dark panel frame of a mode change is due; composition does not start. -/
def beginModeChange (m : ModeChange) (s : State) : State := setScan { s.scan with mode := some m, dark := some 0 } s

/-- B′: the first boundary of the new grid, with SCN_EV_MODE (R272, R273). -/
def endModeChange (m : ModeChange) (s : State) : State :=
  let s1 := setScan { s.scan with mode := none, nominal := true } s
  raise 413 (m.old + 2 ^ 4 * m.new + 2 ^ 16 * min ((s.now - m.since) * 4 / 10000) 0xFFFF) 
    (if s1.scan.wait then s1 else setScanState scNORMAL s1)

/-! ### Throttling (R365, R366) -/

/-- D8 at the boundary instant, as THM_STAT shows it. -/
def storeDuty (s : State) : State := setRegFld Reg.THM_STAT 0 9 (dutyNow s) s

/-- The accumulator after the boundary's step, and whether a new frame's composition starts. -/
def dutyStep (s : State) : Nat × Bool :=
  let a := s.thm.acc + regFld s Reg.THM_STAT 0 9
  if 256 ≤ a then (a - 256, true) else (a, false)

def setAcc (a : Nat) (s : State) : State := setThm { s.thm with acc := a } s

/-! ### Power requests at a boundary (R416, R418, R419) -/

/-- No step of another sequence stands in the way of a power request. -/
def powerFree (s : State) : Bool := s.pwr.dip.isNone && !s.pwr.shut && s.pwr.due.isNone && s.scan.mode.isNone

/-- The entry to Night begins: the composer stops, gate idle begins. -/
def nightDue (s : State) : State := setPwr { s.pwr with due := some .night } (enterIdle (stopComposer s))

/-- A requested entry to Midnight begins with a dark panel frame, cause 2. -/
def midnightDue (s : State) : State := setPwr { s.pwr with due := some .midnight } (askDark 2 (stopComposer s))

/-- The request that this boundary carries out. Night is left in its own sequence. -/
def powerRequest (s : State) : State :=
  match s.pwr.req with
  | none => s
  | some r =>
    let s1 := setPwr { s.pwr with req := none } s
    if !powerFree s then s
    else if r = s.pwr.st then s1
    else if s.pwr.st = .night then if r = .midnight then midnightDue s1 else s
    else
      match r with
      | .night => nightDue (if s.pwr.st = .noon then rotateIfDone s1 else s1)
      | .midnight => midnightDue (if s.pwr.st = .noon then rotateIfDone s1 else s1)
      | r => changeState r 0 s1

/-! ### The boundary -/

/-- A load is under way, or begins at this boundary (R80). -/
def loadHolds (s : State) : Bool := s.lctc.begun || s.period.loadDue = some 0

/-- No frame may be composed for want of a table (R83). -/
def noTable (s : State) : Bool := !s.lctc.loaded && (!s.lctc.loading || s.period.loadDue.isSome)

/-- The boundary behaves as one of R35: a late frame, a re-seed, a BLOCK reset, a load, Evening or Night, a shutdown. A frame
that is late at Sunset and complete at the boundary rotates there, with no overrun: R35 keys both on Sunset, R31 and R35's
last sentence on the boundary (log entry 35, DESIGN CHOICE). -/
def repeats (s : State) (reseeded : Bool) : Bool :=
  composing s || reseeded || s.period.resetDue || loadHolds s || s.pwr.st = .evening || s.pwr.st = .night ||
  s.pwr.due.isSome || s.pwr.shut

/-- Sunrise of a boundary that repeats: steps 4 and 5 without a new frame. CMP_EV_OVERRUN is for a late frame and for
a BLOCK reset, and not for a boundary that a load holds (R80). -/
def repeatSunrise (reseeded : Bool) (s : State) : State :=
  let s1 := if !reseeded && (composing s || s.period.resetDue) && !s.pwr.shut && !loadHolds s then reportOverrun s else s
  restOfSunrise (setRepeat true s1)

/-- Sunrise of a throttled boundary (R36) (log entry 35, DEDUCED). -/
def throttledSunrise (s : State) : State := restOfSunrise (setRepeat true (bumpSat Reg.THM_N_THROT s))

/-- Sunrise while the table is not loaded: the decision is made, and no new frame starts (R83). -/
def tablelessSunrise (s : State) : State := restOfSunrise (decideCommit (setRepeat true s))

/-- An ordinary Sunrise; `acc` is the throttle's accumulator after this boundary, unless a mode change begins. -/
def fullSunrise (acc : Nat) (s : State) : State :=
  let s1 := rotateIfDone s
  let s2 := decideCommit s1
  match modeChangeOf s1 s2 with
  | some m => restOfSunrise (beginModeChange m s2)
  | none => startComposition (latchBand (setAcc acc s2))

/-- Sunrise of B′ (R272). -/
def firstSunrise (reseeded : Bool) (s : State) : State :=
  if repeats s reseeded || noTable s then repeatSunrise true s else startComposition (latchBand (setRepeat true s))

def sunrise (reseeded first : Bool) (s : State) : State :=
  if first then firstSunrise reseeded s
  else if repeats s reseeded then repeatSunrise reseeded s
  else if noTable s then tablelessSunrise s
  else
    let d := dutyStep s
    if d.2 then fullSunrise d.1 s else throttledSunrise (setAcc d.1 s)

/-- What the boundary fixes before Sunrise: the count of R264, the phase, held accesses (R60), BLOCK resets (R412) and an
armed load (R80). -/
def boundaryMarks (s : State) : State :=
  let s1 := if s.period.seen then setReg Reg.SCN_PERIOD (getReg s Reg.SCN_PERIOD + 1) s else s
  let load := if loadCanBegin s && !composing s then some (loadCheck s) else none
  let s2 := loadPin load s1
  setPeriod { s2.period with
      phase := .sunrise, seen := true, resetDue := !(boundaryResets s1).isEmpty, loadDue := load }
    { s2 with holdOpen := cmtPending s1 && enabled s1 0x03, lctc := { s2.lctc with told := [] } }

/-- The generator at the boundary: the next one, or the re-seed (R351, R353). -/
def nextBoundary (s : State) : State :=
  let s1 := setScan { s.scan with nominal := s.scan.nominal || s.gl.base.isSome } s
  if s.gl.reseed then reseedTicks s1 else { s1 with gl := { s1.gl with k := s1.gl.k + 1, base := none } }

/-- A light-field boundary at the present instant. -/
def boundary (s : State) : State :=
  let reseeded := s.gl.reseed
  let s1 := storeDuty (boundaryMarks (nextBoundary (tickOut true (endFrame s))))
  let s2 := match s1.scan.mode with
    | some m => if m.idle then endModeChange m s1 else s1
    | none => s1
  let first := s1.scan.mode.isSome && s2.scan.mode.isNone
  markShown (slotTick 0 (sunrise reseeded first (powerRequest s2)))

/-- The boundary comes when ψ reaches its instant (R351). -/
def execLfTick (s : State) : Host.Outcome State Fault Refusal :=
  done (
    if unitOn s 0x35 && s.gl.seeded then
      match reachPsi (gridAt (tickMode s) (4 * s.gl.k)) s with
      | some s1 => boundary s1
      | none => s
    else s)

/-! ### Day and Sunset (R25, R26, R34) -/

/-- Day begins: the composer may start, and the buffers that the frame reads are in use. -/
def execDayStart (s : State) : Host.Outcome State Fault Refusal :=
  done (
    if live s && s.period.phase = .sunrise then
      let s1 := setPeriod { s.period with phase := .day } s
      if composing s1 && !s1.comp.day then useBufs (setComp { s1.comp with day := true } s1) else s1
    else s)

/-- Sunset begins. -/
def execSunset (s : State) : Host.Outcome State Fault Refusal :=
  done (
    if live s && s.period.phase = .day then releasePins (sunsetComp (setPeriod { s.period with phase := .sunset } s))
    else s)

end Sys2Proof.Machine
end

