-- ==== Sys2Proof/Machine/Access.lean ====
section
/-!
DEFINITION. A 32-bit access to any address of the register region: which register answers a read, what a write of each
does, and the commands for registers that have no row of their own (00_scope.md, R15–R20; 02_control_plane.md, R40–R46).
-/
namespace Sys2Proof.Machine

/-! ### Writes -/

/-- A plain write: the stored bits take the value and bits cleared by 1 clear (R17). A shadow image sets DIRTY (R19). -/
def storeReg (a : Nat) (v : Word) (s : State) : State :=
  match regAt a with
  | .none => s
  | .active r => setReg a (((getReg s a &&& ~~~w32 r.rw) ||| (v &&& w32 r.rw)) &&& ~~~(v &&& w32 r.w1c)) s
  | .shadow r => setDirty (a / 4096) (setReg a ((getReg s a &&& ~~~w32 r.rw) ||| (v &&& w32 r.rw)) s)

/-- EVT_EN: bits with a source are stored, and events that become pending are queued (R43, R62). -/
def effEvtEn (p : Nat) (v : Word) (s : State) : State :=
  queuePending p (evtPend s p) (setReg (Reg.EVT_EN p) (v &&& w32 (evMask p)) s)

/-- The registers at the head of every page (R43). -/
def effHead (p o : Nat) (v : Word) (s : State) : State :=
  match o with
  | 0x08 => effPageCtl p v s
  | 0x14 => effEvtEn p v s
  | 0x20 => effOwner p v s
  | _ => storeReg (0x1000 * p + o) v s

/-- Index of a register in an array of `stride` bytes from 0x100, and its place in its element. -/
def arrIdx (stride o : Nat) : Nat := (o - 0x100) / stride
def arrOff (stride o : Nat) : Nat := (o - 0x100) % stride

def effPage00 (o : Nat) (v : Word) (s : State) : State := storeReg o v s

def effPage01 (o : Nat) (v : Word) (s : State) : State :=
  match o with
  | 0x44 => effThaw v s
  | _ => storeReg (0x1000 + o) v s

def effPage03 (m : Master) (o : Nat) (v : Word) (s : State) : State :=
  match o with
  | 0x40 => effCmtReq v s
  | 0x48 => effCmtReady m.val v s
  | 0x64 => effCmtCancel v s
  | _ => storeReg (0x3000 + o) v s

/-- LNH lanes. -/
def effPage04 (o : Nat) (v : Word) (s : State) : State :=
  if 0x100 ≤ o ∧ arrOff 16 o = 0 then effLctl (.host (Fin.ofNat 18 (arrIdx 16 o))) v s else storeReg (0x4000 + o) v s

/-- LNP, 18 lanes per page. -/
def effPage06 (m : Master) (p o : Nat) (v : Word) (s : State) : State :=
  if 0x100 ≤ o ∧ o < 0x800 ∧ arrOff 16 o = 0 then
    effLctl (.panel (Fin.ofNat 108 (18 * (p - 6) + arrIdx 16 o))) v s
  else if p = 6 ∧ o = 0x44 then effPsbSel v s
  else if p = 6 ∧ o = 0x4C then effDrvreg m v s
  else storeReg (0x1000 * p + o) v s

def effPage0C (o : Nat) (v : Word) (s : State) : State :=
  match o with
  | 0x40 => effCtxCmd v s
  | _ => storeReg (0xC000 + o) v s

def effPage1E (o : Nat) (v : Word) (s : State) : State :=
  match o with
  | 0x4C => effBufCmd v s
  | 0x64 => cmxWrite v s
  | 0x6C => eotfWrite v s
  | _ => storeReg (0x1E000 + o) v s

def effPage1F (m : Master) (o : Nat) (v : Word) (s : State) : State :=
  match o with
  | 0x50 => effLctCtl v s
  | 0x70 => lctWriteHi m v s
  | 0x74 => effLctAudit v s
  | 0x90 => lctQueued m Reg.LCT_CRC_EXP v (effCrcExp v) s
  | _ => storeReg (0x1F000 + o) v s

/-- A write of CMP_SEED is taken up at the next composition start (R226). -/
def effPage20 (o : Nat) (v : Word) (s : State) : State :=
  match o with
  | 0x58 => storeReg Reg.CMP_SEED v (setComp { s.comp with reseed := true } s)
  | _ => storeReg (0x20000 + o) v s

/-- Engine groups: 16 engines per page. -/
def effPage21 (p o : Nat) (v : Word) (s : State) : State :=
  if 0x100 ≤ o ∧ arrOff 16 o = 0 then effEctl (16 * (p - 0x21) + arrIdx 16 o) (fld v 0 4) s
  else storeReg (0x1000 * p + o) v s

def effPage26 (o : Nat) (v : Word) (s : State) : State :=
  match o with
  | 0x74 => sprWrite v s
  | 0x7C => xfrWrite v s
  | 0x84 => mtbWrite v s
  | _ => storeReg (0x26000 + o) v s

def effPage28 (o : Nat) (v : Word) (s : State) : State :=
  match o with
  | 0x68 => odWrite v s
  | _ => storeReg (0x28000 + o) v s

def effPage29 (o : Nat) (v : Word) (s : State) : State :=
  match o with
  | 0x58 => nsbWrite v s
  | _ => storeReg (0x29000 + o) v s

def effPage2A (o : Nat) (v : Word) (s : State) : State :=
  match o with
  | 0x50 => tcWrite v s
  | _ => storeReg (0x2A000 + o) v s

/-- Backlight tiles: 8 per page. -/
def effPage2B (p o : Nat) (v : Word) (s : State) : State :=
  if 0x100 ≤ o ∧ o < 0x800 ∧ arrOff 64 o = 0 then effTctl (8 * (p - 0x2B) + arrIdx 64 o) v s
  else storeReg (0x1000 * p + o) v s

/-- MFS_CTL and MSC_CTL: with PPR_AUTO = 1 the repair of every candidate is requested (R331). -/
def effMemCtl (sys : MemSys) (v : Word) (s : State) : State :=
  let s1 := storeReg (memBase sys + 0x40) v s
  if bit v 2 then
    ((List.range 16).filter (fun i => fld (rplGet s sys i) 30 2 = 1)).foldl (fun s i => mntPush (pprAct sys) i false s) s1
  else s1

/-- MFS and MSC: UNVERIFIED clears by a write of 1 (R326). -/
def effMemPage (sys : MemSys) (o : Nat) (v : Word) (s : State) : State :=
  match o with
  | 0x40 => effMemCtl sys v s
  | 0x44 => if bit v 4 then setRegBit (memBase sys + 0x44) 4 false (setMem sys { getMem s sys with unver := false } s) else s
  | 0xA0 => effPprCmd sys v s
  | _ => storeReg (memBase sys + o) v s

/-- TIM ETHn: TXQ_OVF clears by a write of 1. -/
def effPage32 (p o : Nat) (v : Word) (s : State) : State :=
  match o with
  | 0x90 => if bit v 1 then putEth p { getEth s p with ovf := false } s else s
  | _ => storeReg (0x32000 + 0x1000 * p + o) v s

/-- TIM time bases: 128 bytes each. -/
def effPage34 (o : Nat) (v : Word) (s : State) : State :=
  if o < 0x100 then storeReg (0x34000 + o) v s
  else
    let k := arrIdx 128 o
    match arrOff 128 o with
    | 0x10 => effTbCtl k v s
    | 0x14 => effTbPri k v s
    | 0x18 => effTbShd k (0x34000 + o) (v &&& 0xFF0007) s
    | 0x1C => effTbCmd k (fld v 0 4) s
    | 0x40 => effTbPid k 0 v s
    | 0x44 => effTbPid k 1 v s
    | 0x48 => effTbPid k 2 v s
    | 0x4C => effTbShd k (0x34000 + o) v s
    | 0x50 => effTbShd k (0x34000 + o) v s
    | 0x54 => effTbShd k (0x34000 + o) (v &&& 0xFFFF) s
    | _ => storeReg (0x34000 + o) v s

def effPage36 (o : Nat) (v : Word) (s : State) : State :=
  match o with
  | 0x44 => effThreshold 0 v s
  | 0x48 => effThreshold 1 v s
  | 0x4C => effThreshold 2 v s
  | 0x60 => effZcmd v s
  | _ => storeReg (0x36000 + o) v s

def effPage37 (o : Nat) (v : Word) (s : State) : State :=
  match o with
  | 0x48 => effCalReq v s
  | 0x74 => ledWrite v s
  | _ => storeReg (0x37000 + o) v s

def effPage38 (o : Nat) (v : Word) (s : State) : State :=
  match o with
  | 0x40 => effPwrReq v s
  | _ => storeReg (0x38000 + o) v s

def effPage39 (m : Master) (o : Nat) (v : Word) (s : State) : State :=
  match o with
  | 0x48 => effUnlKey m.val v s
  | 0x54 => effRelock m.val v s
  | 0x64 => effCtrCmd v s
  | _ => storeReg (0x39000 + o) v s

def effPage3A (o : Nat) (v : Word) (s : State) : State :=
  match o with
  | 0x54 => effDecmd v s
  | _ => storeReg (0x3A000 + o) v s

/-- Effect of a write of page address `a` by a master that has the right to it. -/
def effPage (m : Master) (a : Nat) (v : Word) (s : State) : State :=
  let p := a / 4096
  let o := a % 4096
  if o < 0x40 then effHead p o v s
  else
    match p with
    | 0x00 => effPage00 o v s
    | 0x01 => effPage01 o v s
    | 0x03 => effPage03 m o v s
    | 0x04 => effPage04 o v s
    | 0x0C => effPage0C o v s
    | 0x1E => effPage1E o v s
    | 0x1F => effPage1F m o v s
    | 0x20 => effPage20 o v s
    | 0x26 => effPage26 o v s
    | 0x28 => effPage28 o v s
    | 0x29 => effPage29 o v s
    | 0x2A => effPage2A o v s
    | 0x2E => effMemPage .frame o v s
    | 0x30 => effMemPage .scene o v s
    | 0x34 => effPage34 o v s
    | 0x36 => effPage36 o v s
    | 0x37 => effPage37 o v s
    | 0x38 => effPage38 o v s
    | 0x39 => effPage39 m o v s
    | 0x3A => effPage3A o v s
    | _ =>
      if 6 ≤ p ∧ p ≤ 0x0B then effPage06 m p o v s
      else if 0x21 ≤ p ∧ p ≤ 0x25 then effPage21 p o v s
      else if 0x2B ≤ p ∧ p ≤ 0x2D then effPage2B p o v s
      else if p = 0x32 ∨ p = 0x33 then effPage32 (p - 0x32) o v s
      else storeReg a v s

/-- An access that is a violation whatever its master (R15, R49). -/
def refuseAccess (m : Master) (a reason : Nat) (write : Bool) (op : HeldOp) (s : State) : State :=
  match gate s m.val a write with
  | some r => answer r 0 s
  | none =>
    if frozen s m.val then answer .frozen 0 s
    else
      match mustHold s m.val a with
      | some w => holdOrBusy m w op s
      | none => answer (.violation reason) 0 (violate m.val write.toNat a reason s)

/-- A write of page address `a` by master `m`: SYS_RST and THM_CMD act for privileged masters (R367, R408, R411). -/
def writePage (m : Master) (a : Nat) (v : Word) (s : State) : State :=
  if a = Reg.SYS_RST then writeSysRst m v s
  else if a = Reg.THM_CMD then writePriv m a v (effThmCmd v) s
  else writeWith m a v (effPage m a v) s

/-- A 32-bit write to address `a` of the register region by master `m`. -/
def writeReg (m : Master) (a : Nat) (v : Word) (s : State) : State :=
  if a % 4 ≠ 0 then noteM0 m (refuseAccess m a 4 true (.write m a v) s)
  else
    match locOf a with
    | .page a => writePage m a v s
    | .context n w => ctxWrite m n w v s
    | .ozide word high => windowWrite m word high v s
    | .unmapped => noteM0 m (refuseAccess m a 2 true (.write m a v) s)

/-! ### Reads -/

/-- The newest slot of the ring of the counter that OZD_CTR_SEL selects. -/
def selectedCounter (s : State) : DWord := counterVal s (regFld s Reg.OZD_CTR_SEL 0 6)

/-- Read tags that a master holds (R148). -/
def tagsHeld (s : State) (m : Nat) : Word := w32 (s.link.tags.filter (fun t => t.1 = m)).length

/-- OZD_LOG_HEAD (log entry 39, DEDUCED). -/
def headNow (s : State) (p o : Nat) : Word :=
  match o with
  | 0x00 => pageId p
  | 0x04 => 1
  | 0x08 => setBit (getReg s (Reg.PAGE_CTL p)) 1 (s.resetPending.contains p)
  | 0x0C => pageStat s p
  | 0x18 => evtPend s p
  | _ => getReg s (0x1000 * p + o)

def page2Now (s : State) (o : Nat) : Word :=
  if 0x40 ≤ o ∧ o < 0x80 then evtSummary s ((o - 0x40) / 4)
  else if o = 0x80 then evtPinStat s
  else if 0xC0 ≤ o ∧ o < 0xE0 then evtQfill s ((o - 0xC0) / 4)
  else getReg s (0x2000 + o)

/-- LNH_LSTAT_n: a lane that transmits another's copy shows that lane's number (R182, R183). -/
def lstatNow (s : State) (n : Nat) : Word :=
  let v := getReg s (Reg.LNH_LSTAT n)
  match (getAux s (.host (Fin.ofNat 18 n))).txCopy with
  | none => v
  | some k => if fld v 24 8 = 0xFF then setFld v 24 8 k else v

def page04Now (s : State) (o : Nat) : Word :=
  if 0x100 ≤ o ∧ o < 0x220 ∧ arrOff 16 o = 4 then lstatNow s (arrIdx 16 o) else getReg s (0x4000 + o)

def page1ENow (s : State) (o : Nat) : Word :=
  match o with
  | 0x5C => actData s
  | 0x7C => sclStat s
  | 0x80 => nFree s
  | 0x84 => nPinned s
  | _ => getReg s (0x1E000 + o)

def page27Now (s : State) (o : Nat) : Word :=
  match o with
  | 0x44 => sGet zeroW (regFld s Reg.SIG_SEL 0 7) s.sigRes
  | 0x48 => sGet zeroW (regFld s Reg.SIG_SEL 0 7) s.sigStat
  | _ => getReg s (0x27000 + o)

def page2BNow (s : State) (p o : Nat) : Word :=
  let t := 8 * (p - 0x2B) + arrIdx 64 o
  if o < 0x100 ∨ 0x800 ≤ o then getReg s (0x1000 * p + o)
  else
    match arrOff 64 o with
    | 0x04 => tstat s t
    | 0x24 => thw s t 0
    | 0x28 => thw s t 1
    | 0x2C => thw s t 2
    | _ => getReg s (0x1000 * p + o)

def memPageNow (s : State) (sys : MemSys) (o : Nat) : Word :=
  match o with
  | 0x44 => memStat s sys
  | 0xA8 => rplGet s sys (regFld s (memBase sys + 0xA4) 0 4)
  | _ => getReg s (memBase sys + o)

def page2FNow (s : State) (o : Nat) : Word :=
  let n := arrIdx 16 o
  if o < 0x100 then getReg s (0x2F000 + o)
  else
    match arrOff 16 o with
    | 0x0 => debtReg s (.pc (Fin.ofNat 32 n))
    | 0x4 => pcStat s n
    | _ => getReg s (0x2F000 + o)

def page31Now (s : State) (o : Nat) : Word :=
  let n := arrIdx 64 o
  if o < 0x100 then getReg s (0x31000 + o)
  else
    match arrOff 64 o with
    | 0x00 => debtReg s (.rank (Fin.ofNat 4 n) 0)
    | 0x04 => rkStat s n 0
    | 0x10 => debtReg s (.rank (Fin.ofNat 4 n) 1)
    | 0x14 => rkStat s n 1
    | 0x20 => chOut s n
    | _ => getReg s (0x31000 + o)

def page32Now (s : State) (p o : Nat) : Word :=
  match o with
  | 0x84 => (txHead s p).w1
  | 0x88 => (txHead s p).w2
  | 0x8C => (txHead s p).w3
  | 0x90 => ethStat s p
  | 0xA4 => fmData s p
  | _ => getReg s (0x32000 + 0x1000 * p + o)

/-- F of a time base in two's complement. -/
def tbF (s : State) (k : Nat) : Nat := tc 64 (getTb s k).f

def page34Now (s : State) (o : Nat) : Word :=
  let k := arrIdx 128 o
  let v := (getTb s k).value
  if o < 0x100 then getReg s (0x34000 + o)
  else
    match arrOff 128 o with
    | 0x00 => w32 (tbNs v)
    | 0x04 => w32 (tbSec v)
    | 0x08 => w32 (tbSec v / 2 ^ 32)
    | 0x0C => w32 (tbFrac v)
    | 0x20 => tbStat s k
    | 0x24 => w32 (tbF s k)
    | 0x28 => w32 (tbF s k / 2 ^ 32)
    | _ => getReg s (0x34000 + o)

def page39Now (s : State) (m o : Nat) : Word :=
  match o with
  | 0x40 => ozdStat s
  | 0x4C => unlStat s m
  | 0x5C => lo32 (selectedCounter s)
  | 0x60 => hi32 (selectedCounter s)
  | 0x68 => w32 ((s.ozd.logSeq.toNat + 1) % 2 ^ 32 % 3072)
  | 0x6C => s.ozd.logSeq
  | _ => getReg s (0x39000 + o)

def page3ANow (s : State) (o : Nat) : Word :=
  match o with
  | 0x44 => mntStat s
  | 0x4C => mntQData s
  | 0x50 => mntRun s
  | _ => getReg s (0x3A000 + o)

/-- What the register at page address `a` reads as now, for master `m`, where the read has no effect. -/
def regNow (s : State) (m a : Nat) : Word :=
  let p := a / 4096
  let o := a % 4096
  match regAt a with
  | .none => 0
  | .shadow _ => getReg s a
  | .active r =>
    if r.kind = .wo then 0
    else if o < 0x40 then headNow s p o
    else
      match p with
      | 0x02 => page2Now s o
      | 0x04 => page04Now s o
      | 0x05 => if 0x60 ≤ o then tagsHeld s ((o - 0x60) / 4) else getReg s a
      | 0x0C => if o = 0x74 then nOpen s else getReg s a
      | 0x1E => page1ENow s o
      | 0x1F => if o = 0x5C then lctStat s else getReg s a
      | 0x20 => if o = 0x44 then cmpStat s else getReg s a
      | 0x26 => if o = 0x8C then mirStat s else getReg s a
      | 0x27 => page27Now s o
      | 0x2A => if o = 0x5C then bklNOpen s else getReg s a
      | 0x2E => memPageNow s .frame o
      | 0x2F => page2FNow s o
      | 0x30 => if o = 0x48 then Config.memoryPopulation else memPageNow s .scene o
      | 0x31 => page31Now s o
      | 0x34 => page34Now s o
      | 0x35 => if o = 0x54 then glStat s else if o = 0x58 then glErrReg s else getReg s a
      | 0x37 => if o = 0x44 then calStat s else getReg s a
      | 0x38 => if o = 0x44 then pwrStat s else getReg s a
      | 0x39 => page39Now s m o
      | 0x3A => page3ANow s o
      | _ =>
        if 0x2B ≤ p ∧ p ≤ 0x2D then page2BNow s p o
        else if p = 0x32 ∨ p = 0x33 then page32Now s (p - 0x32) o
        else getReg s a

/-- The active address of a register or shadow image. -/
def activeAddr (a : Nat) : Nat :=
  match regAt a with
  | .shadow _ => a - 0x800
  | _ => a

/-- Low words of 64-bit quantities on pages with one of each (R16). -/
def pairFixed : List Nat :=
  [Reg.ING_CTX_OFS_LO, Reg.ING_CTX_IN_LO, Reg.ING_CTX_OUT_LO, Reg.ING_CTX_EBIT_LO, Reg.MFS_ERR_LO, Reg.MSC_ERR_LO,
   Reg.TIM_TB_SET_SLO, Reg.TIM_TB_ADJ_LO, Reg.TIM_TB_FREEF_LO, Reg.TIM_GL_EPOCH_SLO, Reg.OZD_CTR_LO,
   Reg.AON_WAKE_AT_LO, Reg.TIM_ETH_MAC_LO 0, Reg.TIM_ETH_MAC_LO 1]

/-- The register at `a` is the low word of a 64-bit quantity, its high word at `a + 4` (R16) (log entry 15, DESIGN CHOICE). -/
def pairLow (a : Nat) : Bool :=
  let p := a / 4096
  let o := a % 4096
  pairFixed.contains a ||
  (p = 0x01 && 0x100 ≤ o && o < 0x260 && arrOff 32 o = 0) ||
  (0x0D ≤ p && p ≤ 0x1D && o = 0x44) ||
  (0x2B ≤ p && p ≤ 0x2D && 0x100 ≤ o && o < 0x300 && arrOff 64 o = 0x10) ||
  (p = 0x34 && 0x100 ≤ o && o < 0x300 && (arrOff 128 o = 0x24 || arrOff 128 o = 0x40 || arrOff 128 o = 0x4C)) ||
  (p = 0x35 && 0x100 ≤ o && o < 0x180 && arrOff 32 o = 0x0C)

/-- Registers whose value a read of another holds: high words, and those of R337 and R349. -/
def heldBy (a : Nat) : Bool :=
  let p := a / 4096
  let o := a % 4096
  (4 ≤ a && pairLow (activeAddr a - 4)) ||
  ((p = 0x32 || p = 0x33) && (o = 0x84 || o = 0x88 || o = 0x8C)) ||
  (p = 0x34 && 0x100 ≤ o && o < 0x300 && (arrOff 128 o = 0x04 || arrOff 128 o = 0x08 || arrOff 128 o = 0x0C))

/-- A read under R16: a low word holds its high word for the reading master, a high word returns the held copy. -/
def pairRead (m a : Nat) (s : State) : Word × State :=
  if pairLow (activeAddr a) then (regNow s m a, holdHigh m (a + 4) (regNow s m (a + 4)) s)
  else if heldBy a then takeHigh m a (regNow s m a) s
  else (regNow s m a, s)

/-- Data and effect of a read of page address `a`. -/
def readEff (m a : Nat) (s : State) : Word × State :=
  if a = Reg.LYR_CMX_DATA then cmxRead s
  else if a = Reg.LYR_EOTF_DATA then eotfRead s
  else if a = Reg.FIN_SPR_DATA then sprRead s
  else if a = Reg.FIN_XFR_DATA then xfrRead s
  else if a = Reg.FIN_MTB_DATA then mtbRead s
  else if a = Reg.FIN_ZDATA then zdataRead s
  else if a = Reg.SCN_OD_DATA then odRead s
  else if a = Reg.SCN_FIFO_MIN then fifoMinRead s
  else if a = Reg.PNL_NSB_DATA then nsbRead s
  else if a = Reg.BKL_TC_DATA then tcRead s
  else if a = Reg.TIM_ETH_TXQ_W0 0 then readTxq m 0 s
  else if a = Reg.TIM_ETH_TXQ_W0 1 then readTxq m 1 s
  else if a / 4096 = 0x34 ∧ 0x100 ≤ a % 4096 ∧ a % 4096 < 0x300 ∧ arrOff 128 (a % 4096) = 0 then
    readTbNs m (arrIdx 128 (a % 4096)) s
  else if a = Reg.THM_MAX then readThmMax s
  else if a = Reg.CAL_LEDSET_DATA then ledRead s
  else pairRead m a s

/-- A read of page address `a`. -/
def readPage (m : Master) (a : Nat) (s : State) : State :=
  if a = Reg.LCT_RDATA_LO then lctRead m a lctReadLo s
  else if a = Reg.LCT_RDATA_HI then lctRead m a lctReadHi s
  else if a = Reg.LCT_WDATA_HI then lctRead m a (fun _ s => (0, s)) s
  else readWith m a (readEff m.val a) s

/-- A 32-bit read of address `a` of the register region by master `m`. -/
def readReg (m : Master) (a : Nat) (s : State) : State :=
  if a % 4 ≠ 0 then refuseAccess m a 4 false (.read m a) s
  else
    match locOf a with
    | .page a => readPage m a s
    | .context n w => readWith m a (fun s => (ctxRead s n w, s)) s
    | .ozide word high => windowRead m word high s
    | .unmapped => refuseAccess m a 2 false (.read m a) s

/-! ### Commands -/

def execRegisterWrite (m : Master) (a : BitVec 24) (v : Word) (s : State) : Host.Outcome State Fault Refusal :=
  done (writeReg m a.toNat v s)

def execHoldingRead (m : Master) (a : BitVec 24) (s : State) : Host.Outcome State Fault Refusal :=
  done (readReg m a.toNat s)

def execShadowWrite (m : Master) (a : BitVec 24) (v : Word) (s : State) : Host.Outcome State Fault Refusal :=
  done (writeReg m a.toNat v s)

end Sys2Proof.Machine
end

