-- ==== Sys2Proof/Machine/HostReq.lean ====
section
/-!
DEFINITION. Host requests execute: RD, WR, BPUT and BGET; and held accesses (05_ingest_decompression.md, R143–R155;
02_control_plane.md, R60; 14_ozide.md, R385, R405).
-/
namespace Sys2Proof.Machine

/-! ### Which request may execute (R147) -/

/-- The first request waiting of a master on a VC. -/
def frontReq (s : State) (m : HostMaster) (vc : Fin 4) : Option RxTxn :=
  s.link.reqs.find? (fun q => q.req.m = m && q.req.vc = vc)

/-- A direct write of the master waits at the write cap. -/
def wrWaits (s : State) (m : HostMaster) : Bool :=
  s.wcapQ.any (fun c => match c.src with
    | .wr r => r.m = m
    | .ctx _ => false)

/-- The host link carries requests to execute. -/
def linkServes (s : State) : Bool := unitOn s 0x05 && s.boot.hostOpen && linkUpNow s

/-- The request is the next of its master and VC to execute, and nothing of its master is held before it (log entry 36, DEDUCED). -/
def mayRun (s : State) (typ : Nat) (r : Req) : Option RxTxn :=
  if linkServes s && (hasHeld s (3 + r.m.val)).isNone && !(r.vc.val = 1 && wrWaits s r.m) then
    match frontReq s r.m r.vc with
    | some q => if q.typ.toNat = typ ∧ q.req = r then some q else none
    | none => none
  else none

/-- The request leaves the receive pool's queue. -/
def takeReq (q : RxTxn) (s : State) : State := setLink { s.link with reqs := s.link.reqs.erase q } s

/-- Its flits are free. -/
def freeReq (q : RxTxn) (s : State) : State := freeFlits q.req.m.val q.req.vc.val q.flits s

/-! ### Malformed requests (R135, R145) -/

/-- RSEQ follows the last one received on the master and VC, or is the first. -/
def rseqOk (s : State) (r : Req) : Bool :=
  match sGet (fun _ => none) (4 * r.m.val + r.vc.val) s.link.rseq with
  | none => true
  | some e => e = r.rseq

def noteRseq (r : Req) (s : State) : State :=
  setLink { s.link with rseq := sPut (fun _ => none) (4 * r.m.val + r.vc.val) (some (r.rseq + 1)) s.link.rseq } s

/-- What an RD or WR may be at its address: its length, alignment and VC. -/
def placeOk (r : Req) : Bool :=
  let a := r.addr.toNat
  match targetOf a with
  | .regs _ => r.vc = 0 && r.len % 4 = 0 && r.len ≤ 64 && a % 4 = 0
  | .unmapped => r.len = 0 || a / 4096 = (a + r.len - 1) / 4096
  | _ => r.vc = 1 && (r.len = 0 || a / 4096 = (a + r.len - 1) / 4096)

/-- The data length that the type requires (R143). -/
def dataOk (typ : Nat) (r : Req) : Bool :=
  r.len ≤ 4096 && r.data.length = (if typ = tyWR || typ = tyBPUT then r.len else 0)

/-- A request breaks a rule of R145 or R149, checked when it executes (log entry 36, DEDUCED). -/
def malformed (s : State) (typ : Nat) (q : RxTxn) : Bool :=
  let r := q.req
  !rseqOk s r || !dataOk typ r || q.dup || (takesTag typ && r.len = 0) ||
  (if typ = tyRD || typ = tyWR then !placeOk r else r.vc ≠ 1) ||
  (typ = tyBPUT && 3072 ≤ r.arg.toNat % 4096)

/-- Execute a request: a frozen master's is refused, a malformed one is a violation, another takes its effect. -/
def runReq (typ : Nat) (r : Req) (eff : RxTxn → State → State) (s : State) : State :=
  match mayRun s typ r with
  | none => s
  | some q =>
    let s1 := takeReq q s
    if frozen s (3 + r.m.val) then freeReq q (nak typ 1 r s1)
    else if malformed s typ q then freeReq q (violateReq typ 4 r s1)
    else eff q (noteRseq r s1)

/-! ### Register accesses (R146, R385) -/

/-- R385 wraps the accesses of a transaction within a page of P0, P5 and P7. -/
def wrapsInPage (s : State) (page : Nat) : Bool :=
  pagePart s page = some 0 || pagePart s page = some 5 || pagePart s page = some 7

/-- Address of access `i` of a transaction at `a`. -/
def accessAddr (s : State) (a i : Nat) : Nat :=
  match locOf a with
  | .ozide word _ =>
    if wrapsInPage s (word / 8) then 0x800000 + 64 * (word / 8) + ((a - 0x800000) % 64 + 4 * i) % 64 else a + 4 * i
  | _ => a + 4 * i

/-- The address of access `i`, as what it is in the register region: the first access places the transaction. -/
def accessOf (r : Req) (s : State) (i : Nat) : Nat := accessAddr s r.addr.toNat i

/-- Word `i` of a write's data. -/
def wordAt (data : List Byte) (i : Nat) : Word := w32 (leAt data (4 * i) 4)

/-- Why the access just made waits: the reason that it joined the held ones with. -/
def heldWhy (s : State) : HoldWhy := (s.heldQ.getLast?.map Held.why).getD .commit

/-- The rest of a transaction waits as one access of its master; the request keeps its place (R60). -/
def holdTxn (q : RxTxn) (w : HoldWhy) (isWrite : Bool) (i : Nat) (got : List Byte) (s : State) : State :=
  holdAccess w (.txn q.req isWrite i got) (setLink { s.link with reqs := q :: s.link.reqs } s)

/-- The transaction ends: a completion where one is asked for. -/
def endTxn (q : RxTxn) (isWrite : Bool) (got : List Byte) (s : State) : State :=
  let s1 := freeReq q s
  if !isWrite then complete tyRD q.req got s1
  else if q.req.ackreq then complete tyWR q.req [] s1 else s1

/-- One access of a transaction. -/
def accessOne (q : RxTxn) (isWrite : Bool) (i : Nat) (s : State) : State :=
  let m : Master := Fin.ofNat 11 (3 + q.req.m.val)
  let a := accessOf q.req s i
  if isWrite then writeReg m a (wordAt q.req.data i) s else readReg m a s

/-- `n` accesses from access `i` on; the first violation stops the transaction, and those before it stand (R146). -/
def accessAll (q : RxTxn) (isWrite : Bool) : Nat → Nat → List Byte → State → State
  | 0, _, got, s => endTxn q isWrite got s
  | n + 1, i, got, s =>
    let s1 := accessOne q isWrite i s
    match s1.lastAccess with
    | .done =>
      accessAll q isWrite n (i + 1) (if isWrite then got else got ++ leBytes 4 s1.readData.toNat) s1
    | .held => holdTxn q (heldWhy s1) isWrite i got s
    | _ => freeReq q (nak (if isWrite then tyWR else tyRD) 1 q.req s1)

def regsTxn (q : RxTxn) (isWrite : Bool) (s : State) : State := accessAll q isWrite (q.req.len / 4) 0 [] s

/-! ### RD and WR (R144, R150) -/

/-- The reader code of host reads (R328). -/
abbrev readerHost : Nat := 1

/-- The data of an aperture read. -/
def apertureData (s : State) (sys : MemSys) (off n : Nat) : List Byte :=
  match sys with
  | .scene => memBytes s .scene off n
  | .frame => (List.range n).map (fun i => frameByte s (off + i))

/-- A read of memory: its data, or NAK MEM_ERR (R149). -/
def memTxn (typ : Nat) (q : RxTxn) (sys : MemSys) (off : Nat) (s : State) : State :=
  let r := memRead sys off q.req.len readerHost s
  if r.2 then freeReq q (nak typ 4 q.req r.1)
  else freeReq q (complete typ q.req (apertureData r.1 sys off q.req.len) r.1)

/-- A request that is a violation by its address (R49). -/
def denyTxn (typ reason : Nat) (q : RxTxn) (s : State) : State := freeReq q (violateReq typ reason q.req s)

def effRd (q : RxTxn) (s : State) : State :=
  match targetOf q.req.addr.toNat with
  | .regs _ => regsTxn q false s
  | .scene off => if installedEnd < off + q.req.len then denyTxn tyRD 2 q s else memTxn tyRD q .scene off s
  | .frame off => memTxn tyRD q .frame off s
  | .unmapped => denyTxn tyRD 2 q s

/-- A WR beyond installed memory is denied when its turn to execute comes, and draws no tokens (log entry 36, DESIGN CHOICE). -/
def effWr (q : RxTxn) (s : State) : State :=
  match targetOf q.req.addr.toNat with
  | .regs _ => regsTxn q true s
  | .scene off =>
    if installedEnd < off + q.req.len then denyTxn tyWR 2 q s
    else capWrite ⟨.wr q.req, off, q.req.data⟩ (freeReq q s)
  | _ => denyTxn tyWR 2 q s

def execRd (r : Req) (s : State) : Host.Outcome State Fault Refusal := done (runReq tyRD r effRd s)

def execWr (r : Req) (s : State) : Host.Outcome State Fault Refusal := done (runReq tyWR r effWr s)

/-! ### BPUT and BGET (R144, R149, R154) -/

/-- The checks of R154 after its first, in their order. -/
def effBput (q : RxTxn) (s : State) : State :=
  let r := q.req
  let n := r.arg.toNat % 4096
  let c := getDcx s n
  if c.st = .closed then freeReq q (nak tyBPUT 2 r s)
  else if c.owner.toNat ≠ 3 + r.m.val then denyTxn tyBPUT 1 q s
  else if c.st ≠ .opened then freeReq q (nak tyBPUT 2 r s)
  else if pinnedState (getHandle s c.handle.toNat).st then denyTxn tyBPUT 3 q s
  else freeReq q (bputAccept r n s)

def execBput (r : Req) (s : State) : Host.Outcome State Fault Refusal := done (runReq tyBPUT r effBput s)

/-- A read of a buffer by handle: NAK BUF on a FREE handle or beyond its size. -/
def effBget (q : RxTxn) (s : State) : State :=
  let h := getHandle s (q.req.arg.toNat % 8192)
  let off := q.req.addr.toNat
  if h.st = .free ∨ sizeBytes h < off + q.req.len then freeReq q (nak tyBGET 3 q.req s)
  else memTxn tyBGET q .scene (baseBytes h + off) s

def execBget (r : Req) (s : State) : Host.Outcome State Fault Refusal := done (runReq tyBGET r effBget s)

/-! ### Held accesses (R60, R85, R405) -/

/-- The rest of a held transaction goes on, if its request still waits (log entry 37, DEDUCED). -/
def resumeTxn (r : Req) (isWrite : Bool) (i : Nat) (got : List Byte) (s : State) : State :=
  match frontReq s r.m r.vc with
  | none => s
  | some q =>
    if q.req ≠ r then s
    else if frozen s (3 + r.m.val) then freeReq q (nak (if isWrite then tyWR else tyRD) 1 r (takeReq q s))
    else accessAll q isWrite (r.len / 4 - i) i got (takeReq q s)

/-- A held access executes, or is held again where its reason, or one before it of its master, still stands. -/
def replayHeld (h : Held) (s : State) : State :=
  match h.op with
  | .write m a v => writeReg m a v s
  | .read m a => readReg m a s
  | .txn r w i got =>
    match hasHeld s (3 + r.m.val) with
    | some why => holdAccess why h.op s
    | none => resumeTxn r w i got s

/-- Every held access in arrival order (log entry 37, DEDUCED). -/
def replayAllHeld (s : State) : State := s.heldQ.foldl (fun s h => replayHeld h s) { s with heldQ := [] }

/-- The decision of R56 is complete: the accesses held for it execute. -/
def execHeldAccessExecute (s : State) : Host.Outcome State Fault Refusal :=
  done (if live s then replayAllHeld { s with holdOpen := false } else s)

/-- After a dip episode: the queued records, then the held window accesses, then what was lost (R405). -/
def recordFlush (s : State) : State :=
  let s1 := replayAllHeld (ozFlush s)
  reportStore (0 < s1.ozd.lost) (2 ^ 32 * min s1.ozd.lost 0xFFFF) { s1 with ozd := { s1.ozd with lost := 0 } }

def execOzdRecordFlush (s : State) : Host.Outcome State Fault Refusal :=
  done (if live s && !deferring s then recordFlush s else s)

end Sys2Proof.Machine
end

