-- ==== Sys2Proof/Machine/Boot.lean ====
section
/-!
DEFINITION. The boot sequencer: the boot scan, the choice of a slot, REGDEF, repairs, the configuration copy and the
opening of host access (14_ozide.md, R401–R404; 15_resets_power.md, R415; 17_pins_electrical.md, R451–R457).
-/
namespace Sys2Proof.Machine

/-- M1, the boot sequencer. -/
abbrev m1 : Master := 1

/-! ### Findings of the boot scan -/

/-- OZD_EV_TWIN's detail. -/
def twinDetail (part block : Nat) (used : Bool) : Nat := part + 2 ^ 8 * block + 2 ^ 16 * used.toNat

/-- The copies of a twin-page record at `page` resolved as R403 lays down (log entry 39, DEDUCED). -/
def resolveTwin (page magic part block : Nat) (s : State) : State :=
  match pageRec s page magic, pageRec s (page + 1) magic with
  | none, none => s
  | some a, none => ozRecord (.page (page + 1) magic a.1 a.2) s
  | none, some b => ozRecord (.page page magic b.1 b.2) s
  | some a, some b =>
    if newer b.1 a.1 then ozRecord (.page page magic b.1 b.2) s
    else if newer a.1 b.1 then ozRecord (.page (page + 1) magic a.1 a.2) s
    else if a = b then s
    else
      let d := twinDetail part block false
      ozLog 7 [w64 d] (raise 508 d (ozRecord (.page (page + 1) magic a.1 a.2) s))

/-- Two valid slots of a ring carry the SEQ in force (R404). -/
def ringTwin (page slots key part block : Nat) (s : State) : State :=
  match ringNewest s page slots key with
  | none => s
  | some b =>
    if ((List.range slots).filterMap (ringSlot s page key)).any (fun x => x.idx ≠ b.idx && x.seq = b.seq) then
      raise 508 (twinDetail part block true) s
    else s

/-! ### Configuration copies (R396, R403) -/

/-- A copy is valid: its magic value, NREC and CRC. -/
def cfgValid (s : State) (w : Nat) : Bool :=
  let n := cfgNrec s w
  dfld (ozWord s w) 48 16 = magicCfg && decide (n ≤ 2046) && !ozAnyUE s w (n + 2) &&
  crc32c ((dBytes (ozWord s w)).take 6 ++ dsBytes (ozWords s (w + 2) n)) = dfld (ozWord s (w + 1)) 0 32

/-- Resolve the two copies; CFG takes the copy in use. -/
def resolveCfg (s : State) : State :=
  let a := cfgWord s false
  let b := cfgWord s true
  let use := fun (c : BitVec 2) (s : State) => { s with ozd := { s.ozd with cfg := c } }
  match cfgValid s a, cfgValid s b with
  | false, false => use 0 s
  | true, false => use 1 (ozRecord (.copy true) s)
  | false, true => use 2 (ozRecord (.copy false) s)
  | true, true =>
    let sa := lo32 (ozWord s a)
    let sb := lo32 (ozWord s b)
    if newer sb sa then use 2 (ozRecord (.copy false) s)
    else if newer sa sb then use 1 (ozRecord (.copy true) s)
    else if cfgUsed s a = cfgUsed s b then use 1 s
    else
      let d := twinDetail 2 0 false
      use 1 (ozLog 7 [w64 d] (raise 508 d (ozRecord (.copy true) s)))

/-! ### P1 (R401) -/

/-- Directory word of a section of P1. -/
def p1Dir (s : State) (i : Nat) : DWord := ozWord s (8 * partStart s 1 + i)

def p1Words (s : State) (i : Nat) : List DWord :=
  ozWords s (8 * partStart s 1 + dfld (p1Dir s i) 0 16) (dfld (p1Dir s i) 16 16)

/-- The section's check. -/
def p1Ok (s : State) (i : Nat) : Bool :=
  let d := p1Dir s i
  !ozAnyUE s (8 * partStart s 1 + i) 1 && !ozAnyUE s (8 * partStart s 1 + dfld d 0 16) (dfld d 16 16) &&
  crc32c (dsBytes (p1Words s i)) = dfld d 32 32

/-- The sections of P1 whose check fails (log entry 40, DEDUCED). -/
def p1Failed (s : State) : List Nat := (List.range 8).filter (fun i => !p1Ok s i)

/-- The words of the calibration set of a domain (R401). -/
def p1Set (s : State) (d : Nat) : Sparse (Option DWord) :=
  ((p1Words s (2 + d)).zipIdx.take (4 * domainUnits d)).map (fun q => (setKey d 0 0 + q.2, some q.1))

/-- Grade, thermal trims and calibration sets from P1; a set that fails its check is not used (R374, R401). -/
def loadP1 (s : State) : State :=
  let id := p1Words s 0
  let tr := p1Words s 1
  let trims : Sparse (Nat × Int) := if p1Ok s 1 && 13 ≤ tr.length then
      (List.range 12).map (fun z => (z, (dfld (tr.getD z 0) 0 15, sx 12 (dfld (tr.getD z 0) 16 12))))
    else []
  { s with
    boot := { s.boot with grade := p1Ok s 0 && dfld (id.getD 1 0) 40 8 = 1 }
    thm := { s.thm with
      trims := trims, setBad := (List.range 4).any (fun d => !p1Ok s (2 + d))
      sets := (List.range 4).flatMap (fun d => if p1Ok s (2 + d) then p1Set s d else []) } }

/-! ### The boot scan (R402) -/

/-- The partition table in force (R388). -/
def loadTable (s : State) : State :=
  if tableValid s then { s with ozd := { s.ozd with parts := tableParts s, deftab := false } }
  else { s with ozd := { s.ozd with parts := defaultParts, deftab := true } }

/-- What the scan's reads do to words with errors: those of P0–P5 and P7 (R383). -/
def touchScan (s : State) : State :=
  ozReads (fun w =>
    match pagePart s (w / 8) with
    | some p => p ≤ 5 || p = 7
    | none => false) s

/-- The words that the store's check bits find with errors when it is scanned (R383) (log entry 48, DESIGN CHOICE). -/
def ozErrors (s : State) : State :=
  let ws := fun (d : Bool) => (s.boot.scanErrs.filter (fun e => e.double = d)).map (fun e => e.word.toNat)
  { s with
    boot := { s.boot with scanErrs := [] }
    ozd := { s.ozd with
      ue := s.ozd.ue ++ (ws true).filter (fun w => !s.ozd.ue.contains w)
      ce := s.ozd.ce ++ (ws false).filter (fun w => !s.ozd.ce.contains w && !s.ozd.ue.contains w) } }

/-- The log's head: the valid record with the newest SEQ. -/
def loadLogHead (s : State) : State :=
  let seqs := (List.range 3072).filterMap (fun i => (pageRec s (partStart s 5 + i) magicLog).map Prod.fst)
  let best := seqs.foldl (fun b q => match b with
    | none => some q
    | some b => if newer q b then some q else some b) none
  { s with ozd := { s.ozd with logSeq := best.getD 0 } }

/-- Headers and rings of P4. -/
def scanLives (s : State) : State :=
  (List.range 64).foldl (fun s m =>
    let page := lifePage s m
    (List.range 3).foldl (fun s c => ringTwin (page + 2 + 2 * c) 8 (0x100 + 3 * m + c) 4 m s)
      (resolveTwin page magicLife 4 m s)) s

def scanCounters (s : State) : State :=
  (List.range 64).foldl (fun s k => ringTwin (ctrPage s k) 64 k 3 k s) s

/-- OZD_EV_STORE's detail: what the scan found. -/
def scanFindings (s : State) (cfgNone bootNone : Bool) : Nat :=
  s.ozd.deftab.toNat + 2 * cfgNone.toNat + 4 * bootNone.toNat +
  2 ^ 8 * (p1Failed s).foldl (fun v i => v + 2 ^ i) 0

/-- A life block is free: neither copy of its header is valid, a finding of R403 for which the detail word has no bit. -/
def lifeFree (s : State) : Bool := (List.range 64).any (fun m => (twinUsed s (lifePage s m) magicLife).isNone)

/-- A hardware trip that has not been recorded. -/
def tripOwed (s : State) : Bool := !s.boot.tripTold && regBit s Reg.SYS_RESET_CAUSE 8

/-- The records owed: the reset's counter and TYPE 2, a trip's counter and TYPE 5 (R415). -/
def owedRecords (s : State) : State :=
  let s1 := if s.boot.kind < 64 then counterAdd s.boot.kind 1 s else s
  let s2 := ozLog 2 [w64 (regN s Reg.SYS_RESET_CAUSE), w64 s.boot.lost.toNat] s1
  let s3 := if tripOwed s then ozLog 5 [w64 (regFld s Reg.AON_STAT 4 4)] (counterAdd 6 1 s2) else s2
  { s3 with boot := { s3.boot with tripTold := true, shutTold := true } }

/-- What the scan takes from the store before it resolves copies (R402). -/
def scanHead (s : State) : State := loadP1 (loadLogHead (touchScan (loadKeys (loadTable s))))

/-- The copies and rings, resolved as R403 and R404 lay down. -/
def scanCopies (s : State) : State := scanLives (scanCounters (resolveCfg (resolveTwin 1 magicBoot 0 0 s)))

/-- The records owed, the findings, and the scan is done. -/
def endScan (found : Bool) (detail : Nat) (bootOk : Bool) (s : State) : State :=
  let s1 := reportStore found detail (owedRecords s)
  { s1 with
    ozd := { s1.ozd with scanned := true, bootOk := bootOk }
    boot := { s1.boot with resetAt := none } }

/-- The scan, the rewrites and the records owed (log entry 39, DEDUCED). -/
def bootScan (s : State) : State :=
  let s1 := scanHead s
  let bootNone := (twinUsed s1 1 magicBoot).isNone
  let s2 := scanCopies s1
  let detail := scanFindings s2 (s2.ozd.cfg = 0) bootNone
  endScan (detail ≠ 0 || lifeFree s1) detail (!bootNone) s2

/-! ### Choosing a slot (R451, R456) -/

/-- The boot record's fields (R401). -/
structure BootRec where
  slot    : Nat
  reached : Bool
  fails   : Nat
  seqs    : List Word
deriving DecidableEq, Repr

def bootRec (s : State) : BootRec :=
  let c := ((twinUsed s 1 magicBoot).map Prod.snd).getD []
  let w0 := c.getD 0 0
  let w1 := c.getD 1 0
  ⟨dfld w0 0 1, w0.getLsbD 1, dfld w0 8 8, [lo32 w1, hi32 w1]⟩

/-- The boot record as the sequence leaves it (R455; log entry 40, DEDUCED). -/
def writeBootRec (r : BootRec) (s : State) : State :=
  ozRecord (.boot ([w64 (r.slot + 2 * r.reached.toNat + 2 ^ 8 * r.fails), mk64 (r.seqs.getD 1 0) (r.seqs.getD 0 0)] ++
    List.replicate 5 0)) s

/-- A slot's header, section table and section contents (log entry 40, DEDUCED). -/
def slotContents (s : State) (b : Nat) : List Byte :=
  flashBytes s b (0x40 + 16 * imgNsec s b) ++ (sections s b).flatMap (sectionBytes s b)

/-- What the choice came to: the slot, none for the built-in defaults, and SYS_EV_BOOT's detail. -/
structure Choice where
  slot : Option Nat
  fell : Bool
  same : Bool
  v0   : Bool
  v1   : Bool
deriving DecidableEq, Repr

/-- The choice by the boot record (R456). -/
def chooseByRec (s : State) : Choice :=
  let v0 := slotValid s 0
  let v1 := slotValid s 1
  let q0 := imgSeq s (slotBase s 0)
  let q1 := imgSeq s (slotBase s 1)
  let c := if v0 && v1 then (if newer q1 q0 then 1 else 0) else if v1 then 1 else 0
  let r := bootRec s
  let other := if c = 0 then v1 else v0
  let fell := !r.reached && r.slot = c && r.seqs.getD c 0 = imgSeq s (slotBase s c) && decide (2 ≤ r.fails) && other
  let same := v0 && v1 && q0 = q1 && slotContents s (slotBase s 0) ≠ slotContents s (slotBase s 1)
  ⟨if !v0 && !v1 then none else some (if fell then 1 - c else c), fell && (v0 || v1), same, v0, v1⟩

def choose (s : State) : Choice :=
  match s.boot.straps.toNat with
  | 0 => chooseByRec s
  | 1 => ⟨if slotValid s 0 then some 0 else none, false, false, slotValid s 0, false⟩
  | 2 => ⟨if slotValid s 1 then some 1 else none, false, false, false, slotValid s 1⟩
  | _ => ⟨none, false, false, false, false⟩

/-- SYS_EV_BOOT's detail (R456). -/
def bootDetail (c : Choice) : Nat :=
  c.slot.getD 0 + 2 * c.slot.isNone.toNat + 4 * c.fell.toNat + 8 * c.same.toNat + 16 * c.v0.toNat + 32 * c.v1.toNat

/-- The boot record follows a choice made by it. -/
def recordChoice (c : Choice) (s : State) : State :=
  match c.slot with
  | some k =>
    if s.boot.straps = 0 then
      let r := bootRec s
      writeBootRec ⟨k, false, if r.reached then 0 else min (r.fails + 1) 255, r.seqs.set k (imgSeq s (slotBase s k))⟩ s
    else s
  | none => s

/-- The LCT section of the image booted (R454). -/
def lctSection (s : State) (b : Nat) : Option (Nat × Nat × Word) :=
  ((sections s b).find? (fun x => x.typ = 2)).map (fun x => (b + x.off, x.len, w32 x.crc))

/-- The slot chosen is the source of boot values from now on. -/
def takeSlot (c : Choice) (s : State) : State :=
  match c.slot with
  | none => { s with boot := { s.boot with slot := 0, defaults := true, lct := none } }
  | some k => { s with boot := { s.boot with slot := k, defaults := false, lct := lctSection s (slotBase s k) } }

def chooseSlot (s : State) : State :=
  let c := choose s
  raise 1 (bootDetail c) (takeSlot c (recordChoice c s))

/-! ### The sequence of R457 -/

/-- One REGDEF pair: the boot value of a shadowed register in both its images, and an M1 write (R454) (log entry 40, DEDUCED). -/
def applyPair (q : Nat × Word) (s : State) : State :=
  let both := match activeOf q.1 with
    | some (_, r) => r.sh
    | none => false
  writeReg m1 q.1 q.2 (if both then bootStore q s else s)

/-- Bytes of the image's CALFB section (R454); none where nothing was booted. -/
def calfbBytes (s : State) : List Byte :=
  if s.boot.defaults then []
  else
    let b := slotBase s s.boot.slot
    match (sections s b).find? (fun x => x.typ = 4) with
    | none => []
    | some x => sectionBytes s b x

/-- Every point of a domain's set is the image's 55 °C value (R374). -/
def fallbackSet (s : State) (d : Nat) : Sparse (Option DWord) :=
  (List.range (4 * domainUnits d)).map (fun i =>
    (setKey d 0 i, some (Config.calFallback (calfbBytes s) (unitKey d (i / 4)))))

/-- The domains whose P1 set failed start from the image's 55 °C values (R374). -/
def applyFallback (s : State) : State :=
  if s.thm.setBad then
    setThm { s.thm with sets := (List.range 4).flatMap (fun d =>
      if p1Ok s (2 + d) then p1Set s d else fallbackSet s d) } s
  else s

/-- The image permits hard repair (R332). -/
def hardPermitted (s : State) : Bool := !s.boot.defaults && imgFlag s (slotBase s s.boot.slot) 0

/-- Entry `i` of the repair table is reapplied: hard where permitted, and marked so (R332). -/
def reapply (s : State) (i : Nat) : State :=
  let e := ozWord s (repairWord s i)
  if !e.getLsbD 63 || e.getLsbD 61 || !hardPermitted s then s
  else
    logRepair (if e.getLsbD 62 then .scene else .frame) true false (lo32 e)
      (ozRecord (.hard i) s)

/-- Every recorded repair. A soft one leaves nothing to see (log entry 45, DEDUCED). -/
def applyRepairs (s : State) : State := (List.range 64).foldl reapply s

/-- One entry of the configuration copy as an M1 write; one that would be a violation is skipped and counted (R396). -/
def applyEntry (s : State) (e : DWord) : State :=
  let s1 := writeReg m1 (lo32 e).toNat (hi32 e) s
  match s1.lastAccess with
  | .violation _ => setRegN Reg.OZD_N_CFG_SKIP (regN s Reg.OZD_N_CFG_SKIP + 1) s
  | _ => s1

def applyConfig (s : State) : State :=
  let s0 := setRegN Reg.OZD_N_CFG_SKIP 0 s
  if s.ozd.cfg = 0 then s0
  else ((cfgUsed s (cfgWord s (s.ozd.cfg = 2))).drop 2).foldl applyEntry s0

/-- Scan-out's mode of line timing, in gate idle until a frame is complete (R414) (log entry 39, DEDUCED). -/
def startScan (s : State) : State := setScanState scIDLE (setRegFld Reg.SCN_STAT 0 3 (modeSet s) s)

/-- The boot record says that host access was reached (R456). -/
def recordReached (s : State) : State :=
  if s.boot.straps = 0 && !s.boot.defaults then writeBootRec { bootRec s with reached := true, fails := 0 } s else s

/-- Host access begins. -/
def openHost (s : State) : State := recordReached { s with boot := { s.boot with hostOpen := true } }

/-- AUTO_LCT: an LCT load from the image is armed (R457, step 5). -/
def autoLct (s : State) : State :=
  if s.boot.defaults || !imgFlag s (slotBase s s.boot.slot) 1 then s
  else
    let s1 := match s.boot.lct with
      | some (_, _, crc) => setReg Reg.LCT_LOAD_CRC crc s
      | none => s
    effLctCtl (getReg s Reg.LCT_CTL ||| 3) s1

/-- A power state requested before or during the reset is carried out at its end (R416) (log entry 38, DEDUCED). -/
def carryOut (s : State) : State :=
  if s.pwr.dip.isSome then s
  else match s.pwr.req with
  | none => s
  | some .evening => changeState .evening 0 (setPwr { s.pwr with req := none } s)
  | some .noon => setPwr { s.pwr with req := none } s
  | some p => setPwr { s.pwr with req := none, due := some p } s

/-- The steps of R457 after the scan. -/
def bootSteps (s : State) : State :=
  let s1 := chooseSlot s
  let s2 := loadNrr (applyFallback (applyLedset ((regdef s1).foldl (fun s q => applyPair q s) s1)))
  let s3 := startScan (assignShadows (applyConfig (applyRepairs s2)))
  carryOut (autoLct (openHost (auditRestart s3)))

def execBootSequence (s : State) : Host.Outcome State Fault Refusal :=
  done (if live s && !s.boot.hostOpen then bootSteps (bootScan (ozErrors s)) else s)

end Sys2Proof.Machine
end

