-- ==== Sys2Proof/Machine/Ports.lean ====
section
/-!
DEFINITION. The management port and the test port (17_pins_electrical.md, R448–R450, R461).
-/
namespace Sys2Proof.Machine

/-! ### Management port (R448, R449) -/

/-- The port listens: not after a trip (R370). -/
def portOn (s : State) : Bool := !s.pwr.tripped

/-- An access of M0 in Midnight outside page 0x3B starts a wake where the source is enabled (R449). -/
def wakeByPort (a : Nat) (s : State) : State :=
  if s.pwr.st = .midnight && a / 4096 ≠ 0x3B then wake 0 s else s

/-- A transaction addressed to the 7216 in Night ends it where the source is enabled (R420). -/
def nightAddressed (s : State) : State := if s.pwr.st = .night then wake 0 s else s

/-- A Block Write: the command, the PEC where one was sent, then one access (log entry 42, DEDUCED). -/
def smbusWrite (cmd : Byte) (a : Nat) (v : Word) (pec : Option Bool) (s : State) : State :=
  if !portOn s then s
  else
    let s1 := nightAddressed s
    if cmd ≠ 1 then answer .nacked 0 s1
    else if pec = some false then noteM0 0 (answer .pecFailed 0 s1)
    else wakeByPort a (writeReg 0 a v s1)

/-- A Block Write–Block Read Process Call. -/
def smbusRead (cmd : Byte) (a : Nat) (pec : Option Bool) (s : State) : State :=
  if !portOn s then s
  else
    let s1 := nightAddressed s
    if cmd ≠ 2 then answer .nacked 0 s1
    else if pec = some false then answer .pecFailed 0 s1
    else wakeByPort a (readReg 0 a s1)

/-- The status byte of a read (log entry 42, DEDUCED). -/
def smbusStatus : AccessResult → Option Nat := wstatOf

def execSmbusWrite (cmd : Byte) (a : BitVec 24) (v : Word) (pec : Option Bool) (s : State) :
    Host.Outcome State Fault Refusal :=
  done (smbusWrite cmd a.toNat v pec s)

def execSmbusRead (cmd : Byte) (a : BitVec 24) (pec : Option Bool) (s : State) : Host.Outcome State Fault Refusal :=
  done (smbusRead cmd a.toNat pec s)

/-! ### JTAG (R450) -/

/-- The device identification register. -/
abbrev idCode : Word := 0x17216B47

/-- An instruction: its code, the data register that it selects and what it does to the pins. -/
def jtagSelect (ir : Byte) (dr : JtagDr) (pins : PinMode) (s : State) : State :=
  { s with jtag := { s.jtag with ir := ir, dr := dr, pins := pins } }

/-- What the selected data register captures: the identification register its constant. -/
def jtagCapture (s : State) : Option Word := if s.jtag.dr = .idcode then some idCode else none

def execExtest (s : State) : Host.Outcome State Fault Refusal := done (jtagSelect 0x00 .boundary .chain s)

def execIdcode (s : State) : Host.Outcome State Fault Refusal := done (jtagSelect 0x01 .idcode .functional s)

/-- The boundary-scan chain takes the bits sampled or shifted in; the pins stay functional. -/
def execSamplePreload (chain : List Bool) (s : State) : Host.Outcome State Fault Refusal :=
  let s1 := jtagSelect 0x02 .boundary .functional s
  done { s1 with jtag := { s1.jtag with chain := chain } }

def execHighz (s : State) : Host.Outcome State Fault Refusal := done (jtagSelect 0x04 .bypass .highZ s)

def execClamp (s : State) : Host.Outcome State Fault Refusal := done (jtagSelect 0x05 .bypass .chain s)

def execExtestPulse (s : State) : Host.Outcome State Fault Refusal := done (jtagSelect 0x0A .boundary .pulse s)

def execExtestTrain (s : State) : Host.Outcome State Fault Refusal := done (jtagSelect 0x0B .boundary .train s)

def execBypass (s : State) : Host.Outcome State Fault Refusal := done (jtagSelect 0xFF .bypass .functional s)

end Sys2Proof.Machine
end

