-- ==== Sys2Proof/Machine/Dispatch.lean ====
section
/-!
DEFINITION. Dispatch: one arm per command, each one direct call of its meaning.
-/
namespace Sys2Proof.Machine

def exec (i : Instr) (s : State) : Host.Outcome State Fault Refusal :=
  match i with
  | .registerWrite m a v => Sys2Proof.Machine.execRegisterWrite m a v s
  | .holdingRead m a => Sys2Proof.Machine.execHoldingRead m a s
  | .shadowWrite m a v => Sys2Proof.Machine.execShadowWrite m a v s
  | .mstThaw m v => Sys2Proof.Machine.execMstThaw m v s
  | .owner m page v => Sys2Proof.Machine.execOwner m page v s
  | .cmtReq m v => Sys2Proof.Machine.execCmtReq m v s
  | .cmtReady m v => Sys2Proof.Machine.execCmtReady m v s
  | .cmtCancel m v => Sys2Proof.Machine.execCmtCancel m v s
  | .lfTick => Sys2Proof.Machine.execLfTick s
  | .heldAccessExecute => Sys2Proof.Machine.execHeldAccessExecute s
  | .blockResetApply => Sys2Proof.Machine.execBlockResetApply s
  | .dayStart => Sys2Proof.Machine.execDayStart s
  | .sunset => Sys2Proof.Machine.execSunset s
  | .twilightWindowOpen => Sys2Proof.Machine.execTwilightWindowOpen s
  | .slotTick => Sys2Proof.Machine.execSlotTick s
  | .lineStart fill shownMissing refMissing => Sys2Proof.Machine.execLineStart fill shownMissing refMissing s
  | .chainResponse t p words => Sys2Proof.Machine.execChainResponse t p words s
  | .alertN t => Sys2Proof.Machine.execAlertN t s
  | .pathVerifyTimer t p => Sys2Proof.Machine.execPathVerifyTimer t p s
  | .lifeRecordWrite t => Sys2Proof.Machine.execLifeRecordWrite t s
  | .bklRestore m t p => Sys2Proof.Machine.execBklRestore m t p s
  | .bklVerify m t p => Sys2Proof.Machine.execBklVerify m t p s
  | .bklFail m t p => Sys2Proof.Machine.execBklFail m t p s
  | .clearOpen m t => Sys2Proof.Machine.execClearOpen m t s
  | .reinit m t => Sys2Proof.Machine.execReinit m t s
  | .bklTcData m x => Sys2Proof.Machine.execBklTcData m x s
  | .lctLoadArm m v => Sys2Proof.Machine.execLctLoadArm m v s
  | .lctLoadBegin => Sys2Proof.Machine.execLctLoadBegin s
  | .lctLoadComplete => Sys2Proof.Machine.execLctLoadComplete s
  | .lctLoadReadError written => Sys2Proof.Machine.execLctLoadReadError written s
  | .lctRdataLo m => Sys2Proof.Machine.execLctRdataLo m s
  | .lctRdataHi m => Sys2Proof.Machine.execLctRdataHi m s
  | .lctWdataHi m v => Sys2Proof.Machine.execLctWdataHi m v s
  | .lctCrcExp m v => Sys2Proof.Machine.execLctCrcExp m v s
  | .lctAudit m v => Sys2Proof.Machine.execLctAudit m v s
  | .auditRead => Sys2Proof.Machine.execAuditRead s
  | .contextWrite m n w v => Sys2Proof.Machine.execContextWrite m n w v s
  | .arm m n v => Sys2Proof.Machine.execArm m n v s
  | .define m h => Sys2Proof.Machine.execDefine m h s
  | .seal m h => Sys2Proof.Machine.execSeal m h s
  | .refill m h => Sys2Proof.Machine.execRefill m h s
  | .release m h => Sys2Proof.Machine.execRelease m h s
  | .query m h => Sys2Proof.Machine.execQuery m h s
  | .lyrCmxData m x => Sys2Proof.Machine.execLyrCmxData m x s
  | .lyrEotfData m x => Sys2Proof.Machine.execLyrEotfData m x s
  | .scalerStart => Sys2Proof.Machine.execScalerStart s
  | .scalerDone => Sys2Proof.Machine.execScalerDone s
  | .flitReceive bytes => Sys2Proof.Machine.execFlitReceive bytes s
  | .retry ack => Sys2Proof.Machine.execRetry ack s
  | .replayTimeout => Sys2Proof.Machine.execReplayTimeout s
  | .retryStorm => Sys2Proof.Machine.execRetryStorm s
  | .linkRetrain => Sys2Proof.Machine.execLinkRetrain s
  | .linkUp => Sys2Proof.Machine.execLinkUp s
  | .rd r => Sys2Proof.Machine.execRd r s
  | .wr r => Sys2Proof.Machine.execWr r s
  | .bput r => Sys2Proof.Machine.execBput r s
  | .bget r => Sys2Proof.Machine.execBget r s
  | .crd m vc counts init => Sys2Proof.Machine.execCrd m vc counts init s
  | .creditReturnTimer m vc => Sys2Proof.Machine.execCreditReturnTimer m vc s
  | .completionSend m vc => Sys2Proof.Machine.execCompletionSend m vc s
  | .bputCompletion m => Sys2Proof.Machine.execBputCompletion m s
  | .evtTimer m => Sys2Proof.Machine.execEvtTimer m s
  | .evt m => Sys2Proof.Machine.execEvt m s
  | .openCtx m owner ctx => Sys2Proof.Machine.execOpenCtx m owner ctx s
  | .closeCtx m ctx => Sys2Proof.Machine.execCloseCtx m ctx s
  | .abortCtx m ctx => Sys2Proof.Machine.execAbortCtx m ctx s
  | .ctxQuery m ctx => Sys2Proof.Machine.execCtxQuery m ctx s
  | .contextLoad ctx engine stateOk => Sys2Proof.Machine.execContextLoad ctx engine stateOk s
  | .contextPark ctx => Sys2Proof.Machine.execContextPark ctx s
  | .tokenDecode ctx => Sys2Proof.Machine.execTokenDecode ctx s
  | .streamDone ctx => Sys2Proof.Machine.execStreamDone ctx s
  | .writeCapGrant => Sys2Proof.Machine.execWriteCapGrant s
  | .marker l got => Sys2Proof.Machine.execMarker l got s
  | .laneEnable l => Sys2Proof.Machine.execLaneEnable l s
  | .detectRetry l seen ms => Sys2Proof.Machine.execDetectRetry l seen ms s
  | .trainDone l => Sys2Proof.Machine.execTrainDone l s
  | .laneStateTimeout l => Sys2Proof.Machine.execLaneStateTimeout l s
  | .laneFail l cause => Sys2Proof.Machine.execLaneFail l cause s
  | .copyStart l => Sys2Proof.Machine.execCopyStart l s
  | .copyMissingTimer l => Sys2Proof.Machine.execCopyMissingTimer l s
  | .laneVerifyTimer l => Sys2Proof.Machine.execLaneVerifyTimer l s
  | .restore m l => Sys2Proof.Machine.execRestore m l s
  | .forceFail m l => Sys2Proof.Machine.execForceFail m l s
  | .verify m l => Sys2Proof.Machine.execVerify m l s
  | .prbsClr m l => Sys2Proof.Machine.execPrbsClr m l s
  | .psbFrame attention reply => Sys2Proof.Machine.execPsbFrame attention reply s
  | .lnpPsbSel m v => Sys2Proof.Machine.execLnpPsbSel m v s
  | .lnpDrvreg m v => Sys2Proof.Machine.execLnpDrvreg m v s
  | .workItemStart e => Sys2Proof.Machine.execWorkItemStart e s
  | .workItemDone w => Sys2Proof.Machine.execWorkItemDone w s
  | .residueFault e => Sys2Proof.Machine.execResidueFault e s
  | .zoneAnalysisDone => Sys2Proof.Machine.execZoneAnalysisDone s
  | .compositionComplete => Sys2Proof.Machine.execCompositionComplete s
  | .engineVerifyTimer e => Sys2Proof.Machine.execEngineVerifyTimer e s
  | .cmpVerify m e => Sys2Proof.Machine.execCmpVerify m e s
  | .cmpAdmit m e => Sys2Proof.Machine.execCmpAdmit m e s
  | .retire m e => Sys2Proof.Machine.execRetire m e s
  | .lineTransaction => Sys2Proof.Machine.execLineTransaction s
  | .finZdata m => Sys2Proof.Machine.execFinZdata m s
  | .finSprData m x => Sys2Proof.Machine.execFinSprData m x s
  | .finXfrData m x => Sys2Proof.Machine.execFinXfrData m x s
  | .finMtbData m x => Sys2Proof.Machine.execFinMtbData m x s
  | .scnOdData m x => Sys2Proof.Machine.execScnOdData m x s
  | .pnlNsbData m x => Sys2Proof.Machine.execPnlNsbData m x s
  | .scnFifoMin m => Sys2Proof.Machine.execScnFifoMin m s
  | .tickSeed => Sys2Proof.Machine.execTickSeed s
  | .refreshUrgent u => Sys2Proof.Machine.execRefreshUrgent u s
  | .refreshDue u early => Sys2Proof.Machine.execRefreshDue u early s
  | .memoryRequestIssue u arrivals errs => Sys2Proof.Machine.execMemoryRequestIssue u arrivals errs s
  | .neighbourRefresh u => Sys2Proof.Machine.execNeighbourRefresh u s
  | .refreshWindowClear stack => Sys2Proof.Machine.execRefreshWindowClear stack s
  | .memoryTempRead u t code => Sys2Proof.Machine.execMemoryTempRead u t code s
  | .powerDownEntry u => Sys2Proof.Machine.execPowerDownEntry u s
  | .scrubRead sys errs writeArrived => Sys2Proof.Machine.execScrubRead sys errs writeArrived s
  | .scrubRewrite sys => Sys2Proof.Machine.execScrubRewrite sys s
  | .soft m sys entry => Sys2Proof.Machine.execSoft m sys entry s
  | .drop m sys entry => Sys2Proof.Machine.execDrop m sys entry s
  | .sync p h origin twoStep => Sys2Proof.Machine.execSync p h origin twoStep s
  | .followUp p h origin => Sys2Proof.Machine.execFollowUp p h origin s
  | .delayResp p h receipt => Sys2Proof.Machine.execDelayResp p h receipt s
  | .pdelayReq p h => Sys2Proof.Machine.execPdelayReq p h s
  | .pdelayResp p h t2 t3 => Sys2Proof.Machine.execPdelayResp p h t2 t3 s
  | .announce p a => Sys2Proof.Machine.execAnnounce p a s
  | .ptpDiscard p => Sys2Proof.Machine.execPtpDiscard p s
  | .delayReq k => Sys2Proof.Machine.execDelayReq k s
  | .pdelayReqSend p => Sys2Proof.Machine.execPdelayReqSend p s
  | .delayAnswerTimeout who => Sys2Proof.Machine.execDelayAnswerTimeout who s
  | .foreignMasterExpire p entry => Sys2Proof.Machine.execForeignMasterExpire p entry s
  | .sourceLoss k => Sys2Proof.Machine.execSourceLoss k s
  | .ppsEdge k => Sys2Proof.Machine.execPpsEdge k s
  | .ethLinkChange p up speed => Sys2Proof.Machine.execEthLinkChange p up speed s
  | .tbSet m k => Sys2Proof.Machine.execTbSet m k s
  | .tbStep m k => Sys2Proof.Machine.execTbStep m k s
  | .tbSwitch m k => Sys2Proof.Machine.execTbSwitch m k s
  | .reservo m k => Sys2Proof.Machine.execReservo m k s
  | .timTbPri m k v => Sys2Proof.Machine.execTimTbPri m k v s
  | .timTbNs m k => Sys2Proof.Machine.execTimTbNs m k s
  | .timEthTxqW0 m p => Sys2Proof.Machine.execTimEthTxqW0 m p s
  | .triggerFire k => Sys2Proof.Machine.execTriggerFire k s
  | .ppsOut k => Sys2Proof.Machine.execPpsOut k s
  | .reseedPending => Sys2Proof.Machine.execReseedPending s
  | .timeclkChange present => Sys2Proof.Machine.execTimeclkChange present s
  | .thermalSample codes refDeviation => Sys2Proof.Machine.execThermalSample codes refDeviation s
  | .shutdownRecords => Sys2Proof.Machine.execShutdownRecords s
  | .sensorCrossCheck => Sys2Proof.Machine.execSensorCrossCheck s
  | .thmZcmdRestore m z => Sys2Proof.Machine.execThmZcmdRestore m z s
  | .shutdown m => Sys2Proof.Machine.execShutdown m s
  | .thmMax m => Sys2Proof.Machine.execThmMax m s
  | .calReq m v => Sys2Proof.Machine.execCalReq m v s
  | .calRetryTimer domain => Sys2Proof.Machine.execCalRetryTimer domain s
  | .calRunDone domain unit ok => Sys2Proof.Machine.execCalRunDone domain unit ok s
  | .calLedsetData m x => Sys2Proof.Machine.execCalLedsetData m x s
  | .ozdLowWrite m word v => Sys2Proof.Machine.execOzdLowWrite m word v s
  | .ozdHighWrite m word v => Sys2Proof.Machine.execOzdHighWrite m word v s
  | .ozdUnlKey m v => Sys2Proof.Machine.execOzdUnlKey m v s
  | .ozdRelock m v => Sys2Proof.Machine.execOzdRelock m v s
  | .inc m ctr => Sys2Proof.Machine.execInc m ctr s
  | .ozdRecordFlush => Sys2Proof.Machine.execOzdRecordFlush s
  | .bootSequence => Sys2Proof.Machine.execBootSequence s
  | .por => Sys2Proof.Machine.execPor s
  | .pin cause => Sys2Proof.Machine.execPin cause s
  | .wdg m2 => Sys2Proof.Machine.execWdg m2 s
  | .chip m key => Sys2Proof.Machine.execChip m key s
  | .masterReset m target => Sys2Proof.Machine.execMasterReset m target s
  | .srst m page => Sys2Proof.Machine.execSrst m page s
  | .pwrReq m v => Sys2Proof.Machine.execPwrReq m v s
  | .powerStateChange => Sys2Proof.Machine.execPowerStateChange s
  | .wake src => Sys2Proof.Machine.execWake src s
  | .supplyWarning rail below mv => Sys2Proof.Machine.execSupplyWarning rail below mv s
  | .dipRecovery minMv durUs => Sys2Proof.Machine.execDipRecovery minMv durUs s
  | .dipShutdownTimer => Sys2Proof.Machine.execDipShutdownTimer s
  | .mntActivityStart => Sys2Proof.Machine.execMntActivityStart s
  | .mntActivityDone act unit pass => Sys2Proof.Machine.execMntActivityDone act unit pass s
  | .mntRequestAged entry => Sys2Proof.Machine.execMntRequestAged entry s
  | .dcxEngineFault e => Sys2Proof.Machine.execDcxEngineFault e s
  | .mntDecmdVerify m e => Sys2Proof.Machine.execMntDecmdVerify m e s
  | .mntDecmdAdmit m e => Sys2Proof.Machine.execMntDecmdAdmit m e s
  | .mntDecmdRetire m e => Sys2Proof.Machine.execMntDecmdRetire m e s
  | .smbusWrite cmd a v pec => Sys2Proof.Machine.execSmbusWrite cmd a v pec s
  | .smbusRead cmd a pec => Sys2Proof.Machine.execSmbusRead cmd a pec s
  | .extest => Sys2Proof.Machine.execExtest s
  | .idcode => Sys2Proof.Machine.execIdcode s
  | .samplePreload chain => Sys2Proof.Machine.execSamplePreload chain s
  | .highz => Sys2Proof.Machine.execHighz s
  | .clamp => Sys2Proof.Machine.execClamp s
  | .extestPulse => Sys2Proof.Machine.execExtestPulse s
  | .extestTrain => Sys2Proof.Machine.execExtestTrain s
  | .bypass => Sys2Proof.Machine.execBypass s
  | .slewEnd => Sys2Proof.Machine.execSlewEnd s
  | .dcxVerifyTimer e => Sys2Proof.Machine.execDcxVerifyTimer e s
  | .secondsOutsideMidnight => Sys2Proof.Machine.execSecondsOutsideMidnight s
  | .mntRequeueRetry => Sys2Proof.Machine.execMntRequeueRetry s
  | .prbsCheckerReseed rx => Sys2Proof.Machine.execPrbsCheckerReseed rx s

end Sys2Proof.Machine
end

