-- ==== Sys2Proof/Machine/Idle.lean ====
section
/-!
DEFINITION. What an idle step does: one CLK_TIM cycle passes (log entry 5, DESIGN CHOICE).
-/
namespace Sys2Proof.Machine

/-- One cycle of 4 ns on an empty queue. -/
def idleTick (s : State) : State := passTime 1 s

end Sys2Proof.Machine
end

