-- ==== Sys2Proof/Safety.lean ====
section
/-!
DEFINITION. What claims say of a state: when a master's access goes through, what an access leaves alone, the bounds
that the buffers keep, and the bytes of a host request as the link carries them.
-/
namespace Sys2Proof.Machine

/-! ### Accesses -/

/-- A write of page register `a` by master `m` goes through: nothing refuses or holds it, and `m` has the right (R45). -/
abbrev CanWrite (s : State) (m : Master) (a : Nat) : Prop :=
  gate s m.val a true = none ∧ frozen s m.val = false ∧ mustHold s m.val a = none ∧ mayWrite s m.val a = true

/-- A read of address `a` by master `m` goes through. -/
abbrev CanRead (s : State) (m : Master) (a : Nat) : Prop :=
  gate s m.val a false = none ∧ frozen s m.val = false ∧ mustHold s m.val a = none

/-- The bits that a plain write of `v` leaves in a register that held `old` (R17). -/
def written (r : RegRow) (old v : Word) : Word :=
  ((old &&& ~~~w32 r.rw) ||| (v &&& w32 r.rw)) &&& ~~~(v &&& w32 r.w1c)

/-- The write of page address `a` has an effect of its own beside storing: a command of the opcode table, EVT_EN,
CMP_SEED, a threshold, PPR_AUTO, a source of a time base, or a flag kept with its unit. -/
def ownEffect (a : Nat) : Bool :=
  let p := a / 4096
  let o := a % 4096
  o = 0x08 || o = 0x14 || o = 0x20 || a = Reg.SYS_RST || a = Reg.MST_THAW || a = Reg.CMT_REQ || a = Reg.CMT_READY ||
  a = Reg.CMT_CANCEL || a = Reg.ING_CTX_CMD || a = Reg.LYR_BUF_CMD || a = Reg.LYR_CMX_DATA || a = Reg.LYR_EOTF_DATA ||
  a = Reg.LCT_CTL || a = Reg.LCT_WDATA_HI || a = Reg.LCT_AUDIT || a = Reg.LCT_CRC_EXP || a = Reg.CMP_SEED ||
  a = Reg.FIN_SPR_DATA || a = Reg.FIN_XFR_DATA || a = Reg.FIN_MTB_DATA || a = Reg.SCN_OD_DATA || a = Reg.PNL_NSB_DATA ||
  a = Reg.BKL_TC_DATA || a = Reg.LNP_PSB_SEL || a = Reg.LNP_DRVREG || a = Reg.THM_CMD || a = Reg.THM_ZCMD ||
  a = Reg.CAL_REQ || a = Reg.CAL_LEDSET_DATA || a = Reg.PWR_REQ || a = Reg.OZD_UNL_KEY || a = Reg.OZD_RELOCK ||
  a = Reg.OZD_CTR_CMD || a = Reg.MNT_DECMD ||
  (p = 0x36 && (o = 0x44 || o = 0x48 || o = 0x4C)) ||
  ((p = 0x2E || p = 0x30) && (o = 0x40 || o = 0x44 || o = 0xA0)) || ((p = 0x32 || p = 0x33) && o = 0x90) ||
  (p = 0x34 && 0x100 ≤ o && (arrOff 128 o = 0x10 || arrOff 128 o = 0x14 || arrOff 128 o = 0x18 || arrOff 128 o = 0x1C ||
    arrOff 128 o = 0x40 || arrOff 128 o = 0x44 || arrOff 128 o = 0x48 || arrOff 128 o = 0x4C || arrOff 128 o = 0x50 ||
    arrOff 128 o = 0x54)) ||
  ((4 = p || (6 ≤ p && p ≤ 0x0B) || (0x21 ≤ p && p ≤ 0x25)) && 0x100 ≤ o && o < 0x800 && arrOff 16 o = 0) ||
  (0x2B ≤ p && p ≤ 0x2D && 0x100 ≤ o && o < 0x800 && arrOff 64 o = 0)

/-- Only registers, the access's answer and its data differ. -/
abbrev RegsOnly (s t : State) : Prop := t = { s with regs := t.regs, lastAccess := t.lastAccess, readData := t.readData }

/-- Only registers, what events leave (their records, the masters' queues, held status pages, free values drawn), the
access's answer and its data differ. -/
abbrev EventsOnly (s t : State) : Prop :=
  t = { s with regs := t.regs, evRecs := t.evRecs, msgq := t.msgq, captured := t.captured, freeCtr := t.freeCtr,
               lastAccess := t.lastAccess, readData := t.readData }

/-- Every register outside `l` reads as before. -/
abbrev RegsBut (l : List Nat) (s t : State) : Prop := ∀ a, a ∉ l → getReg t a = getReg s a

/-- The registers that an event of page `p` may change: its flag and the page's held status, and where a master's queue
is full the lost counts and the event that reports them (R43, R61–R63). -/
def evRegs (p : Nat) : List Nat :=
  [Reg.EVT_RAW p, Reg.PAGE_STAT p, Reg.EVT_RAW 0, Reg.PAGE_STAT 0] ++ (List.range 8).map Reg.EVT_LOST

/-- Every byte of the frame store and of scene memory reads as before. -/
abbrev MemSame (s t : State) : Prop :=
  (∀ off, sGet zeroB off t.fs = sGet zeroB off s.fs) ∧ ∀ off, sGet zeroB off t.scene = sGet zeroB off s.scene

/-- Every word of the Ozide store reads as before. -/
abbrev StoreSame (s t : State) : Prop := ∀ w, ozWord t w = ozWord s w

/-- The event at bit `b` of page `p` is raised in `t` (R61). -/
abbrev Raised (t : State) (p b : Nat) : Prop := regBit t (Reg.EVT_RAW p) b = true

/-- What a saturating 32-bit counter holds after one more count; it stands still while its page's status is held (R13, R43). -/
def counted (s : State) (a : Nat) : Nat :=
  if s.captured.contains (a / 4096) then regN s a else min (regN s a + 1) 0xFFFFFFFF

/-- A request for an activity of a unit stands in the maintenance queue (R432). -/
abbrev Requested (s : State) (act unit : Nat) : Prop := ∃ q ∈ s.mnt.queue, q.act = act ∧ q.unit = unit

/-- A request for an activity finds room: the queue is not full, or holds the same request already (R432). -/
abbrev MntRoom (s : State) (act unit : Nat) : Prop := s.mnt.queue.length < 16 ∨ Requested s act unit

/-- What becomes of a request for an activity: with room it stands in the queue once, behind those that stood there; a full
queue refuses it, which is shown (R432). -/
abbrev Asked (s t : State) (act unit : Nat) : Prop :=
  (MntRoom s act unit → Requested t act unit ∧
    (Requested s act unit → t.mnt = s.mnt) ∧
    (¬ Requested s act unit → ∃ q : MntReq, q.running = false ∧ q.act = act ∧ q.unit = unit ∧
      t.mnt = { s.mnt with queue := s.mnt.queue ++ [q] })) ∧
  (¬ MntRoom s act unit → t.mnt = { s.mnt with lastErr := 1 } ∧ Raised t 0x3A 1)

/-! ### Tables behind an index and a data register (R459) -/

/-- A table: its access command, its registers, its number, its entries, and the bits an entry keeps. -/
structure DataTable where
  cmd  : Master → Acc → Instr
  data : Nat
  idx  : Nat
  tab  : Nat
  size : Nat
  mask : Nat → Word
  page : Nat

/-- The tables whose shadow copy a data register writes (R112, R244, R261, R274, R288). -/
def dataTables : List DataTable :=
  [⟨.lyrCmxData, Reg.LYR_CMX_DATA, Reg.LYR_CMX_IDX, tabCMX, 1024, cmxMask, 0x1E⟩,
   ⟨.lyrEotfData, Reg.LYR_EOTF_DATA, Reg.LYR_EOTF_IDX, tabEOTF, 4100, fun _ => 0x3FFFF, 0x1E⟩,
   ⟨.finSprData, Reg.FIN_SPR_DATA, Reg.FIN_SPR_IDX, tabSPR, 12288, fun _ => 0xFFFF, 0x26⟩,
   ⟨.finXfrData, Reg.FIN_XFR_DATA, Reg.FIN_XFR_IDX, tabXFR, 12288, fun _ => 0xFFFF, 0x26⟩,
   ⟨.finMtbData, Reg.FIN_MTB_DATA, Reg.FIN_MTB_IDX, tabMTB, 3075, fun _ => 0xFFFF, 0x26⟩,
   ⟨.scnOdData, Reg.SCN_OD_DATA, Reg.SCN_OD_IDX, tabOD, 19602, fun _ => 0xFFFF, 0x28⟩,
   ⟨.pnlNsbData, Reg.PNL_NSB_DATA, Reg.PNL_NSB_IDX, tabNSB, 184320, fun _ => 0xFFFFFFFF, 0x29⟩,
   ⟨.bklTcData, Reg.BKL_TC_DATA, Reg.BKL_TC_IDX, tabTC, 27, fun _ => 0xFFFF, 0x2A⟩]

/-! ### Bounds (R63, R85, R171, R432) -/

/-- A memory is in its canonical form. -/
def Memory.wf (l : List Host.Cell) : Bool := sOk zeroB l

/-- No master's event queue holds more than 64 records (R63). -/
def MsgqOk (q : Sparse MsgQ) : Prop := ∀ k, (sGet (fun _ => ({} : MsgQ)) k q).recs.length ≤ 64

/-- The maintenance queue holds at most 16 requests (R432). -/
def MntOk (m : Mnt) : Prop := m.queue.length ≤ 16

/-- The indirect LCT write queue holds at most 64 items (R85). -/
def LctqOk (l : LctCtl) : Prop := l.queue.length ≤ 64

/-- The bucket of the ingest write cap holds at most 65,536 tokens (R171). -/
def WcapOk (n : Nat) : Prop := n ≤ 65536

/-- Both memories are canonical, and every bounded buffer is within its bound. -/
def Inv (s : State) : Prop :=
  Memory.wf s.fs = true ∧ Memory.wf s.scene = true ∧ MsgqOk s.msgq ∧ MntOk s.mnt ∧ LctqOk s.lctc ∧ WcapOk s.wcapLevel

/-! ### Time, store and resets -/

/-- Only tracker `x` of the four accepts a message of port `p`. -/
abbrev OnlyTracker (s : State) (x p : Nat) (h : PtpHdr) : Prop := x < 4 ∧ accepts s x p h = true ∧
  ∀ y, y < 4 → y ≠ x → accepts s y p h = false

/-- What TIM_TB_OFS shows of an offset in 2^-16 ns: nanoseconds, held within 32 bits (R342). -/
abbrev ofsShown (o : Int) : Nat := tc 32 (clampI (-(2 ^ 31)) (2 ^ 31 - 1) (divFloor o 65536))

/-- A write of half a store word through the window goes on to the checks of its right (R381, R389, R405). -/
abbrev WindowOpen (s : State) (m : Master) (word : Nat) (high : Bool) : Prop :=
  gate s m.val (windowAddr word high) true = none ∧ frozen s m.val = false ∧ windowHold s m.val (windowAddr word high) = none

/-- Registers in which a reset of the whole device leaves a value of its own. -/
def resetWrites : List Nat :=
  [Reg.SYS_RESET_CAUSE, Reg.SYS_M0_STAT, Reg.AON_STAT, Reg.MFS_STAT, Reg.MSC_STAT] ++ (List.range 17).map Reg.DCX_STAT

/-- A reset other than power-on: VOLATILE registers take their reset values, STICKY and AON registers stay, and host
access waits for the boot sequence (R407, R408, R413). -/
abbrev WarmReset (s t : State) (cause : Nat) : Prop :=
  regBit t Reg.SYS_RESET_CAUSE cause = true ∧ t.boot.hostOpen = false ∧ t.pwr = { req := powerAsked s } ∧ t.handles = [] ∧ t.dcx = [] ∧
  t.link = {} ∧ t.heldQ = [] ∧ t.lct = s.lct ∧ StoreSame s t ∧
  ∀ a, a ∉ resetWrites → getReg t a = (if regClass a = .volatile then regReset a else getReg s a)

/-! ### A request as one flit (R132–R134, R143) -/

/-- The bytes of a host request: 16 of header, then its data (R143). -/
def reqBytes (typ : Nat) (r : Req) : List Byte :=
  [BitVec.ofNat 8 (typ + 16 * r.ackreq.toNat), r.tag] ++ leBytes 2 r.rseq.toNat ++ leBytes 4 r.len ++
  leBytes 6 r.addr.toNat ++ leBytes 2 r.arg.toNat ++ r.data

/-- The header word of a FIRST and LAST flit with `len` payload bytes (R132). -/
def flitHeader (seq ack : Byte) (vc mst len : Nat) : Nat :=
  len + 2 ^ 8 + 2 ^ 9 + 2 ^ 11 * mst + 2 ^ 14 * vc + 2 ^ 16 * ack.toNat + 2 ^ 24 * seq.toNat

/-- The 128 bytes of a flit that a host sends: header, payload filled up with zeros, CRC-32C over both (R131, R132). -/
def hostFlit (hdr : Nat) (payload : List Byte) : List Byte :=
  let body := leBytes 4 hdr ++ payload ++ List.replicate (120 - payload.length) 0
  body ++ leBytes 4 (crc32c body)

end Sys2Proof.Machine
end

