-- ==== Sys2Proof/Certificates/Slice0/Obligations.lean ====
section
/-!
DEFINITION. The statements for the provers, one def per obligation. A completion statement gives the condition on the
state and the operands alone, and concludes that the command answers a next state that holds its effect and its frame.
-/
open Sys2Proof Sys2Proof.Machine

/-! ### The machine -/

/-- A step runs the command at the front of the queue, on the state with the queue's rest. -/
def Obligations.StepRunsFrontCommand : Prop :=
  ∀ (c : Instr) (rest : List Instr) (s : State),
    step { s with pending := c :: rest } = exec c { s with pending := rest }

/-- On an empty queue one cycle of CLK_TIM passes and nothing but the time moves: registers and memories stay
(log entry 5, the model's choice). -/
def Obligations.EmptyQueueIdles : Prop :=
  ∀ (s : State), s.pending = [] →
    ∃ t, step s = .next t ∧ t.pending = [] ∧ t.now = s.now + 1 ∧ t.regs = s.regs ∧ MemSame s t ∧
      t.handles = s.handles ∧ t.dcx = s.dcx ∧ t.tiles = s.tiles ∧ StoreSame s t ∧ t.lct = s.lct

/-- Every command ends in a next state and leaves the queue alone: nothing faults and nothing is refused (log entry 11). -/
def Obligations.EveryCommandCompletes : Prop :=
  ∀ (c : Instr) (s : State), ∃ t, exec c s = .next t ∧ t.pending = s.pending

/-- What reset leaves where the spec gives the value: page status, masters, scan FIFO, lens table, memories. -/
def Obligations.ResetState : Prop :=
  State.reset.pending = [] ∧ (∀ p : Fin 60, getReg State.reset (Reg.EVT_RAW p.val) = 0 ∧ getReg State.reset (Reg.EVT_EN p.val) = 0) ∧
  getReg State.reset Reg.MST_FROZEN = 0 ∧ getReg State.reset Reg.MST_PRIV = regReset Reg.MST_PRIV ∧
  State.reset.lctc.loaded = false ∧ State.reset.lctc.auditOk = false ∧ (∀ h, (getHandle State.reset h).st = .free) ∧
  (∀ n, (getDcx State.reset n).st = .closed) ∧ State.reset.period.phase = .off ∧ linkUpNow State.reset = false

/-- The bounds hold right after reset. -/
def Obligations.ResetMeetsInv : Prop := Inv State.reset

/-- Every step keeps the bounds: canonical memories, event queues of 64 (R63), 16 maintenance requests (R432), 64 queued
table writes (R85), 65,536 tokens of the ingest write cap (R171). -/
def Obligations.StepKeepsInv : Prop :=
  ∀ (s t : State), Inv s → step s = .next t → Inv t

/-! ### Control plane -/

/-- A write of a register with no effect of its own stores the writable bits and clears the bits cleared by 1 (R17);
nothing else changes, SYS_M0_STAT apart for M0 (R448). -/
def Obligations.RegisterWriteStores : Prop :=
  ∀ (m : Master) (a : BitVec 24) (v : Word) (s : State) (r : RegRow),
    a.toNat % 4 = 0 → a.toNat < 0x3C000 → regAt a.toNat = .active r → r.sh = false → writable r = true →
    ownEffect a.toNat = false → CanWrite s m a.toNat →
    ∃ t, exec (.registerWrite m a v) s = .next t ∧ t.lastAccess = .done ∧
      getReg t a.toNat = written r (getReg s a.toNat) v ∧
      RegsBut [a.toNat, Reg.SYS_M0_STAT] s t ∧ RegsOnly s t

/-- A write to the active offset of a shadowed register changes nothing and is not a violation, whichever master makes it; a write of the
shadow image stores its writable bits and sets DIRTY of the page, and the active register stays (R19). -/
def Obligations.ShadowWriteSetsDirty : Prop :=
  (∀ (m : Master) (a : BitVec 24) (v : Word) (s : State) (r : RegRow),
    a.toNat % 4 = 0 → a.toNat < 0x3C000 → regAt a.toNat = .active r → r.sh = true →
    gate s m.val a.toNat true = none → frozen s m.val = false → mustHold s m.val a.toNat = none →
    ∃ t, exec (.registerWrite m a v) s = .next t ∧ t.lastAccess = .done ∧ RegsBut [Reg.SYS_M0_STAT] s t ∧ RegsOnly s t) ∧
  (∀ (m : Master) (a : BitVec 24) (v : Word) (s : State) (r : RegRow),
    a.toNat % 4 = 0 → a.toNat < 0x3C000 → regAt a.toNat = .shadow r → CanWrite s m a.toNat →
    ∃ t, exec (.shadowWrite m a v) s = .next t ∧ t.lastAccess = .done ∧
      getReg t a.toNat = (getReg s a.toNat &&& ~~~w32 r.rw) ||| (v &&& w32 r.rw) ∧
      regBit t (Reg.SHADOW_STAT (a.toNat / 4096)) 31 = true ∧
      RegsBut [a.toNat, Reg.SHADOW_STAT (a.toNat / 4096), Reg.SYS_M0_STAT] s t ∧ RegsOnly s t)

/-- A read of the low word of a 64-bit quantity returns it and holds the high word for the reading master; that master's next read of the
high word returns the held copy, whatever changed in between. With no held copy a read of the high word returns the live one (R16). -/
def Obligations.LowReadHoldsHighWord : Prop :=
  ∀ (m : Master) (a b : BitVec 24) (s u : State), a.toNat % 4 = 0 → pairLow (activeAddr a.toNat) = true →
    b.toNat = a.toNat + 4 →
    (CanRead s m a.toNat → ∃ t, exec (.holdingRead m a) s = .next t ∧ t.lastAccess = .done ∧
      t.readData = regNow s m.val a.toNat ∧ (∀ c, getReg t c = getReg s c) ∧ MemSame s t ∧
      (CanRead u m b.toNat → u.holds = t.holds →
        ∃ w, exec (.holdingRead m b) u = .next w ∧ w.lastAccess = .done ∧ w.readData = regNow s m.val (a.toNat + 4))) ∧
    (CanRead u m b.toNat → (∀ h ∈ u.holds, ¬ (h.m = m.val ∧ h.a = b.toNat)) →
      ∃ w, exec (.holdingRead m b) u = .next w ∧ w.lastAccess = .done ∧ w.readData = regNow u m.val b.toNat)

/-- MST_THAW with the freeze number recorded for a frozen master thaws it and raises MST_EV_THAWED; with any other number
the master stays frozen (R52). -/
def Obligations.ThawNeedsFreezeNumber : Prop :=
  ∀ (m : Master) (v : Word) (s : State), CanWrite s m Reg.MST_THAW →
    1 ≤ fld v 0 4 → fld v 0 4 ≤ 10 → frozen s (fld v 0 4) = true →
    ∃ t, exec (.mstThaw m v) s = .next t ∧ MemSame s t ∧
      (violFseq s (fld v 0 4) = fld v 16 16 → frozen t (fld v 0 4) = false ∧ Raised t 1 2) ∧
      (violFseq s (fld v 0 4) ≠ fld v 16 16 → frozen t (fld v 0 4) = true ∧ RegsBut [Reg.SYS_M0_STAT] s t ∧ RegsOnly s t)

/-- OWNER stores the master number; 11 to 14 store 15, no owner (R43). -/
def Obligations.OwnerStoresMaster : Prop :=
  ∀ (m : Master) (p : Fin 60) (v : Word) (s : State), CanWrite s m (Reg.OWNER p.val) →
    ∃ t, exec (.owner m p v) s = .next t ∧
      ownerOf t p.val = (if 11 ≤ fld v 0 4 ∧ fld v 0 4 ≤ 14 then 15 else fld v 0 4) ∧
      RegsBut [Reg.OWNER p.val, Reg.SYS_M0_STAT] s t ∧ RegsOnly s t

/-- CMT_REQ makes a request pending under its sequence number and clears STALLED; WAITED is cleared unless a request was pending.
CMT_READY stores the writer's ready bit. CMT_CANCEL with 1, like the orderly shutdown, ends a pending request as CANCELLED: no shadow or
active value changes and no commit event is raised (R54). -/
def Obligations.CommitRequestRegisters : Prop :=
  ∀ (m : Master) (v : Word) (s : State),
    (CanWrite s m Reg.CMT_REQ → ∃ t, exec (.cmtReq m v) s = .next t ∧ cmtState t = cmtPENDING ∧
      getReg t Reg.CMT_PEND_SEQ = v ∧ regBit t Reg.CMT_STAT 3 = false ∧
      regFld t Reg.CMT_STAT 16 8 = (if cmtPending s then regFld s Reg.CMT_STAT 16 8 else 0) ∧
      RegsBut [Reg.CMT_STAT, Reg.CMT_PEND_SEQ, Reg.SYS_M0_STAT] s t ∧ RegsOnly s t) ∧
    (CanWrite s m Reg.CMT_READY → ∃ t, exec (.cmtReady m v) s = .next t ∧
      regBit t Reg.CMT_RDY_STAT m.val = bit v 0 ∧
      (∀ k : Fin 32, k.val ≠ m.val → regBit t Reg.CMT_RDY_STAT k.val = regBit s Reg.CMT_RDY_STAT k.val) ∧
      RegsBut [Reg.CMT_RDY_STAT, Reg.SYS_M0_STAT] s t ∧ RegsOnly s t) ∧
    (CanWrite s m Reg.CMT_CANCEL → bit v 0 = true → cmtPending s = true → ∃ t, exec (.cmtCancel m v) s = .next t ∧
      cmtState t = cmtCANCELLED ∧ RegsBut [Reg.CMT_STAT, Reg.SYS_M0_STAT] s t ∧ RegsOnly s t) ∧
    (live s = true → s.pwr.shut = false → cmtPending s = true → s.pwr.dip.isSome = true → ∃ t,
      exec .dipShutdownTimer s = .next t ∧ cmtState t = cmtCANCELLED ∧
      (∀ b : Fin 8, regBit t (Reg.EVT_RAW 3) b.val = regBit s (Reg.EVT_RAW 3) b.val) ∧
      ∀ a r, regAt a = .active r → r.sh = true → getReg t a = getReg s a ∧ getShd t a = getShd s a) ∧
    ∀ cause : Fin 4, live s = true → s.pwr.shut = false → cmtPending s = true →
      let t := orderlyShutdown cause.val s
      cmtState t = cmtCANCELLED ∧ (∀ b : Fin 8, regBit t (Reg.EVT_RAW 3) b.val = regBit s (Reg.EVT_RAW 3) b.val) ∧
      (∀ a r, regAt a = .active r → r.sh = true → getReg t a = getReg s a ∧ getShd t a = getShd s a) ∧
      t.ctxShadow = s.ctxShadow ∧ t.ctxActive = s.ctxActive ∧ t.tabs = s.tabs

/-- A write without the right to it freezes the master with reason 1, records the address and raises MST_EV_FROZEN; M0 is
recorded and not frozen (R45, R49, R50, R53). A register write of a frozen master changes nothing (R51). -/
def Obligations.WriteWithoutRightFreezes : Prop :=
  (∀ (m : Master) (a : BitVec 24) (v : Word) (s : State), m.val ≠ 0 → gate s m.val a.toNat true = none →
    frozen s m.val = true → a.toNat % 4 = 0 → a.toNat < 0x3C000 →
    ∃ t, exec (.registerWrite m a v) s = .next t ∧ t.lastAccess = .frozen ∧ t = { s with lastAccess := .frozen, readData := 0 }) ∧
  ∀ (m : Master) (p : Fin 60) (v : Word) (s : State),
    gate s m.val (Reg.OWNER p.val) true = none → frozen s m.val = false → mustHold s m.val (Reg.OWNER p.val) = none →
    privileged s m.val = false →
    ∃ t, exec (.owner m p v) s = .next t ∧ t.lastAccess = .violation 1 ∧
      getReg t (Reg.OWNER p.val) = getReg s (Reg.OWNER p.val) ∧ regN t (Reg.MST_VIOL_ADDR_LO m.val) = Reg.OWNER p.val ∧
      regFld t (Reg.MST_VIOL_INFO m.val) 8 4 = 1 ∧ (m.val ≠ 0 → frozen t m.val = true ∧ Raised t 1 0) ∧
      (m.val = 0 → frozen t 0 = false ∧ Raised t 1 1) ∧ MemSame s t

/-! ### The light-field period -/

/-- At a pending commit with no stalled buffer and no participant missing: where every check passes every shadowed register, table
and the layer context table take their shadow values, the request is APPLIED under its sequence number and the ready bits
clear. Else it is REFUSED with every failing check in FAILMASK and in the detail of CMT_EV_REFUSED; every active and shadow
value, every DIRTY bit and the ready bits stay, and the request is pending no more (R56–R59). -/
def Obligations.CommitAppliesOrRefuses : Prop :=
  ∀ (s : State), cmtPending s = true → enabled s 0x03 = true → stalled s = [] → partsMissing (reportNotReady (notReady s) [] s) = false →
    let s1 := reportNotReady (notReady s) [] s
    let mask := failMask s1 (notReady s)
    let t := decideCommit s
    (mask = 0 → cmtState t = cmtAPPLIED ∧ getReg t Reg.CMT_RDY_STAT = 0 ∧
      getReg t Reg.CMT_LAST_SEQ = getReg s Reg.CMT_PEND_SEQ ∧ Raised t 3 0 ∧
      t.ctxActive = s.ctxShadow ∧ t.ctxShadow = s.ctxShadow ∧
      (∀ k ∈ [tabCMX, tabEOTF, tabSPR, tabXFR, tabMTB, tabOD, tabTC], ∀ i, i < 2 ^ 18 → getTab t k true i = getTab s k false i) ∧
      (∀ p : Fin 60, regN t (Reg.SHADOW_STAT p.val) = regN s Reg.CMT_PEND_SEQ % 2 ^ 31) ∧
      (regBit s (Reg.EVT_RAW 3) 0 = false → (sGet (fun _ => {}) 48 t.evRecs).detail = w64 (regN s Reg.CMT_PEND_SEQ)) ∧
      ∀ a r, regAt a = .active r → r.sh = true → getReg t a = getShd s a ∧ getShd t a = getShd s a) ∧
    (mask ≠ 0 → cmtState t = cmtREFUSED ∧ regFld t Reg.CMT_STAT 8 7 = mask ∧
      Raised t 3 1 ∧
      (regBit s (Reg.EVT_RAW 3) 1 = false →
        (sGet (fun _ => {}) 49 t.evRecs).detail = w64 (regN s Reg.CMT_PEND_SEQ + 2 ^ 32 * mask)) ∧
      cmtPending t = false ∧ getReg t Reg.CMT_RDY_STAT = getReg s Reg.CMT_RDY_STAT ∧
      (∀ p : Fin 60, getReg t (Reg.SHADOW_STAT p.val) = getReg s (Reg.SHADOW_STAT p.val)) ∧
      t.ctxActive = s.ctxActive ∧ t.ctxShadow = s.ctxShadow ∧ t.tabs = s.tabs ∧
      ∀ a r, regAt a = .active r → r.sh = true → getReg t a = getReg s a ∧ getShd t a = getShd s a)

/-- After the decision of a boundary the held accesses execute in arrival order (R60): with one register write held, that
write takes place as a write does. BLOCK_RESET_APPLY carries out every reset that waits for the boundary and is not held by a dip (R412, R422). -/
def Obligations.HeldAccessesAndBlockResets : Prop :=
  (∀ (s : State) (m : Master) (a : Nat) (v : Word), live s = true → s.heldQ = [⟨.commit, .write m a v⟩] →
    exec .heldAccessExecute s = .next (writeReg m a v { s with holdOpen := false, heldQ := [] })) ∧
  (∀ (s : State), live s = true → s.period.resetDue = true →
    ∃ t, exec .blockResetApply s = .next t ∧ t.period.resetDue = false ∧
      (∀ p, p ∈ t.resetPending ↔ p ∈ s.resetPending ∧ p ∉ boundaryResets s) ∧ MemSame s t)

/-- A light-field boundary comes when ψ reaches its instant: Sunrise begins and slot tick 1 is the next. DAY_START ends Sunrise and
SUNSET ends Day. A slot tick starts the next slot and shows it in SCN_STAT; a line start moves to the next line, and SCN_FIFO_MIN keeps the
lowest fill; the blanking of an active panel frame opens a twilight window (R25–R27, R252, R256, R351). -/
def Obligations.PeriodRuns : Prop :=
  (∀ (s : State), unitOn s 0x35 = true → s.gl.seeded = true → (reachPsi (gridAt (tickMode s) (4 * s.gl.k)) s).isSome = true →
    ∃ t, exec .lfTick s = .next t ∧ t.period.phase = .sunrise ∧ t.period.seen = true ∧ t.scan.nextSlot = 1 ∧
      regFld t Reg.SCN_STAT 8 2 = 0) ∧
  (∀ (s : State), live s = true → s.period.phase = .sunrise →
    ∃ t, exec .dayStart s = .next t ∧ t.period = { s.period with phase := .day } ∧ t.regs = s.regs ∧ MemSame s t) ∧
  (∀ (s : State), live s = true → s.period.phase = .day →
    ∃ t, exec .sunset s = .next t ∧ t.period = { s.period with phase := .sunset } ∧ t.tiles = s.tiles ∧ t.scan = s.scan) ∧
  (∀ (s : State), unitOn s 0x35 = true → s.gl.seeded = true → s.scan.nextSlot < 4 →
    (reachPsi (slotAt s s.scan.nextSlot) s).isSome = true →
    ∃ t, exec .slotTick s = .next t ∧ t.scan.nextSlot = s.scan.nextSlot + 1 ∧
      regFld t Reg.SCN_STAT 8 2 = s.scan.nextSlot ∧ t.period = { s.period with twilight := false, opening := false }) ∧
  (∀ (s : State) (fill : Fin 49) (a b : Bool), unitOn s 0x28 = true → s.scan.active = true → s.scan.line < 8736 →
    ∃ t, exec (.lineStart fill a b) s = .next t ∧ t.scan.line = s.scan.line + 1 ∧
      regN t Reg.SCN_FIFO_MIN = min (regN s Reg.SCN_FIFO_MIN) fill.val ∧ t.period = { s.period with opening := false }) ∧
  (∀ (s : State), unitOn s 0x28 = true → s.scan.active = true → 8640 ≤ s.scan.line →
    exec .twilightWindowOpen s = .next { s with period := { s.period with twilight := true, opening := true } })

/-! ### Backlight -/

/-- A good response to the oldest frame of the SELECTED path of a tile that is ON takes it off the path's frames and
clears the count of bad ones; a second bad response in a row, the other path on STANDBY, makes the path FAILED and
the other SELECTED, with BKL_EV_PATH (R289, R295). -/
def Obligations.ChainResponses : Prop :=
  ∀ (t : Fin 24) (p : Path) (words : Vector ChainWord 8) (s : State) (f : SentFrame) (rest : List SentFrame),
    live s = true → tileMay s t.val = true → (getTile s t.val).st = .on →
    (getPath (getTile s t.val) p).role = .selected → (getPath (getTile s t.val) p).pend = f :: rest →
    (goodResponse f words.toList = true → f.kind = 1 ∨ f.kind = 2 →
      ∃ u, exec (.chainResponse t p words) s = .next u ∧ (getPath (getTile u t.val) p).pend = rest ∧
        (getPath (getTile u t.val) p).bad = 0 ∧ (getTile u t.val).f1 = (decide (f.kind = 1) || (getTile s t.val).f1) ∧
        (getTile u t.val).f2 = (decide (f.kind = 2) || (getTile s t.val).f2) ∧
        (∀ k, k ≠ t.val → getTile u k = getTile s k) ∧ u = { s with tiles := u.tiles }) ∧
    (goodResponse f words.toList = false → f.kind ≠ 5 → (getPath (getTile s t.val) p).bad = 1 →
      (getPath (getTile s t.val) (otherPath p)).role = .standby →
      ∃ u, exec (.chainResponse t p words) s = .next u ∧ (getPath (getTile u t.val) p).role = .failed ∧
        (getPath (getTile u t.val) (otherPath p)).role = .selected ∧ (getTile u t.val).sel = otherPath p ∧ Raised u 0x2A 2 ∧
        (∀ k, k ≠ t.val → getTile u k = getTile s k) ∧ EventsOnly { s with tiles := u.tiles } u)

/-- The path verify timer and the command VERIFY ask for a verification of a QUARANTINED path, the timer only while none has failed;
RESTORE marks a STANDBY path to be selected; FAIL makes a path FAILED, and where it is the SELECTED one with the other on STANDBY the other
SELECTED. CLEAR_OPEN forgets the open and short zones of a tile; REINIT begins the initialisation of a tile that answers; the life records of a
tile that is ON enter their rings, or wait while a dip lasts; ALERT_N raises its event and changes nothing else (R295–R298, R301–R304, R307, R399, R405, R429). -/
def Obligations.PathAndTileCommands : Prop :=
  (∀ (t : Fin 24) (p : Path) (s : State), live s = true →
    (∃ u, exec (.alertN t) s = .next u ∧ Raised u 0x2A 5 ∧ RegsBut (evRegs 0x2A) s u ∧ EventsOnly s u) ∧
    ((getPath (getTile s t.val) p).role = .quarantined → (getPath (getTile s t.val) p).barred = false →
      ∃ u, exec (.pathVerifyTimer t p) s = .next u ∧ Asked s u actBVER (2 * t.val + pathNum p) ∧
        EventsOnly { s with mnt := u.mnt } u) ∧
    (∀ blk, (getTile s t.val).st = .on → (getTile s t.val).lifeBlk = some blk →
      ∃ u, exec (.lifeRecordWrite t) s = .next u ∧ u.tiles = s.tiles ∧ MemSame s u ∧
        (deferring s = true → StoreSame s u) ∧
        (deferring s = false → ∀ c < 3, ∃ i seq,
          ringSlot u (lifePage s blk + 2 + 2 * c) (lifeKey blk c) i = some ⟨i, seq, w64 (hwMillis (getTile s t.val) c)⟩))) ∧
  ∀ (m : Master) (t : Fin 24) (p : Path) (s : State), CanWrite s m (Reg.BKL_TCTL t.val) →
    let a := getPath (getTile s t.val) p
    let b := getPath (getTile s t.val) (otherPath p)
    (a.role = .standby → ∃ u, exec (.bklRestore m t p) s = .next u ∧
      getTile u t.val = { getTile s t.val with restoreTo := some p } ∧ (∀ k, k ≠ t.val → getTile u k = getTile s k) ∧
      RegsBut [Reg.SYS_M0_STAT] s u ∧ RegsOnly { s with tiles := u.tiles } u) ∧
    (a.role = .quarantined → ∃ u, exec (.bklVerify m t p) s = .next u ∧ Asked s u actBVER (2 * t.val + pathNum p) ∧
      EventsOnly { s with mnt := u.mnt } u) ∧
    (a.role ≠ .failed → (a.role = .selected → b.role = .standby) →
      ∃ u, exec (.bklFail m t p) s = .next u ∧ (getPath (getTile u t.val) p).role = .failed ∧
        (getPath (getTile u t.val) (otherPath p)).role = (if a.role = .selected then .selected else b.role) ∧ Raised u 0x2A 2 ∧
        (∀ k, k ≠ t.val → getTile u k = getTile s k) ∧ (a.role ≠ .verify → u.mnt = s.mnt) ∧
        RegsBut (evRegs 0x2A ++ [Reg.BKL_N_PATHFAIL, Reg.SYS_M0_STAT]) s u ∧
        EventsOnly { s with tiles := u.tiles, mnt := u.mnt } u) ∧
    (∃ u, exec (.clearOpen m t) s = .next u ∧
      getTile u t.val = { getTile s t.val with openSet := [], shortSet := [], opens := [], shorts := [] } ∧
      (∀ k, k ≠ t.val → getTile u k = getTile s k) ∧ RegsBut [Reg.SYS_M0_STAT] s u ∧ RegsOnly { s with tiles := u.tiles } u) ∧
    ((getTile s t.val).st ≠ .absent → ∃ u, exec (.reinit m t) s = .next u ∧
      (getTile u t.val).st = .init ∧ Raised u 0x2A 4 ∧ (∀ k, k ≠ t.val → getTile u k = getTile s k) ∧
      EventsOnly { s with tiles := u.tiles } u)

/-- A read of a table's data register returns the entry that the index selects, 0 beyond the table; a write stores the
entry's bits in the shadow copy; both move the index on, from the last entry to 0 (R112, R244, R261, R274, R288, R459). -/
def Obligations.TableReadsAndWrites : Prop :=
  ∀ d ∈ dataTables, ∀ (m : Master) (s : State),
    (CanRead s m d.data → ∃ t, exec (d.cmd m .read) s = .next t ∧ t.lastAccess = .done ∧
      t.readData = (if regN s d.idx < d.size then getTab s d.tab false (regN s d.idx) else 0) ∧
      regN t d.idx = nextIdx d.size (regN s d.idx) ∧ RegsBut [d.idx] s t ∧ RegsOnly s t) ∧
    (∀ v, CanWrite s m d.data → ∃ t, exec (d.cmd m (.write v)) s = .next t ∧ t.lastAccess = .done ∧
      (regN s d.idx < d.size → getTab t d.tab false (regN s d.idx) = v &&& d.mask (regN s d.idx)) ∧
      (∀ k c i, k < 9 → i < d.size → (k, c, i) ≠ (d.tab, false, regN s d.idx) → getTab t k c i = getTab s k c i) ∧
      regN t d.idx = nextIdx d.size (regN s d.idx) ∧
      RegsBut [d.idx, Reg.SHADOW_STAT d.page, Reg.SYS_M0_STAT] s t ∧ RegsOnly { s with tabs := t.tabs } t)

/-! ### Lens calibration table -/

/-- The check bits of an entry correct any one of its 63 bits other than the index parity, and show any two of them as
uncorrectable (R74, R75). -/
def Obligations.EntryCheckBits : Prop :=
  ∀ (i d : Nat), d < 2 ^ 56 →
    let e := w64 (d + 2 ^ 56 * eccOf i d)
    lctDecode i e = (d, .good) ∧
    (∀ b, b < 63 → lctDecode i (e ^^^ w64 (2 ^ b)) = (d, .corrected)) ∧
    (∀ b c, b < c → c < 63 → (lctDecode i (e ^^^ w64 (2 ^ b) ^^^ w64 (2 ^ c))).2 = .bad)

/-- A write of LCT_CTL with START arms a load and discards the queue, and is ignored while a load is armed or runs; at its boundary the load begins, or ends at once with
the code of the failed check; a read error ends it with LOAD_ERR 3. No entry changes while it has written none (R79–R82). -/
def Obligations.TableLoadRuns : Prop :=
  (∀ (m : Master) (v : Word) (s : State), CanWrite s m Reg.LCT_CTL → bit v 0 = true → s.lctc.loading = false →
    ∃ t, exec (.lctLoadArm m v) s = .next t ∧ t.lctc.loading = true ∧ t.lctc.begun = false ∧ t.lctc.src = bit v 1 ∧
      t.lctc.loadErr = 0 ∧ t.lctc.queue = [] ∧ t.lctc.qdiscard = !s.lctc.queue.isEmpty ∧ t.lct = s.lct ∧
      RegsBut [Reg.LCT_CTL, Reg.SYS_M0_STAT] s t ∧ RegsOnly { s with lctc := t.lctc } t) ∧
  (∀ (m : Master) (v : Word) (s : State), CanWrite s m Reg.LCT_CTL → s.lctc.loading = true →
    ∃ t, exec (.lctLoadArm m v) s = .next t ∧ t.lctc = s.lctc ∧
      RegsBut [Reg.LCT_CTL, Reg.SYS_M0_STAT] s t ∧ RegsOnly s t) ∧
  (∀ (code : Nat) (s : State), unitOn s 0x1F = true → loadCanBegin s = true → s.period.loadDue = some code →
    ∃ t, exec .lctLoadBegin s = .next t ∧ t.period = { s.period with loadDue := none } ∧ t.lct = s.lct ∧
      (code = 0 → t.lctc.begun = true ∧ t.lctc.loading = true ∧ t.lctc.put = 0) ∧
      (code ≠ 0 → t.lctc.loading = false ∧ t.lctc.begun = false ∧ t.lctc.loadErr = BitVec.ofNat 4 code ∧
        t.lctc.loaded = s.lctc.loaded ∧ Raised t 0x1F 1)) ∧
  (∀ (written : Nat) (s : State), unitOn s 0x1F = true → s.lctc.begun = true → s.lctc.src = true →
    ∃ t, exec (.lctLoadReadError written) s = .next t ∧ t.lctc.loading = false ∧ t.lctc.begun = false ∧
      t.lctc.loadErr = 3 ∧ Raised t 0x1F 1 ∧ (written = 0 → s.lctc.put = 0 → t.lct = s.lct ∧ t.lctc.loaded = s.lctc.loaded) ∧
      (written ≠ 0 → t.lctc.loaded = false) ∧ MemSame s t)

/-- When the last entry is written, every entry that was still to come is as the source gave it, with its check bits, and those written
before stay. A load whose CRC is LCT_LOAD_CRC leaves LOADED and AUDIT_OK set; any other CRC ends it with LOAD_ERR 1 and the table not
loaded (R74, R78, R82). -/
def Obligations.TableLoadCompletes : Prop :=
  ∀ (s : State), unitOn s 0x1F = true → s.lctc.begun = true →
    ∃ t, exec .lctLoadComplete s = .next t ∧ t.lctc.loading = false ∧ t.lctc.begun = false ∧ MemSame s t ∧
      (∀ i, s.lctc.put ≤ i → i < lctSize → lctEntry t i =
        w64 (ofLe (loadBytes s (8 * i) 7) + 2 ^ 56 * eccOf i (ofLe (loadBytes s (8 * i) 7)))) ∧
      (∀ i, i < s.lctc.put → lctEntry t i = lctEntry s i) ∧
      (let crc := (loadTo lctSize s).lctc.crc ^^^ 0xFFFFFFFF
       (crc = getReg s Reg.LCT_LOAD_CRC → t.lctc.loaded = true ∧ t.lctc.auditOk = true ∧ Raised t 0x1F 0) ∧
       (crc ≠ getReg s Reg.LCT_LOAD_CRC → t.lctc.loaded = false ∧ t.lctc.loadErr = 1 ∧ Raised t 0x1F 1))

/-- LCT_RDATA_LO returns the low half of the indexed entry with its data corrected and holds the high half; LCT_RDATA_HI returns what is
held and moves the index on; while a load runs a read meets it at an entry that is a free value (R84, log entry 16). A read of an LCT data
register, or a write of LCT_WDATA_HI, with an index beyond the table is a violation with reason 2 (R87). -/
def Obligations.TableEntryReads : Prop :=
  ∀ (m : Master) (s : State),
    (CanRead s m Reg.LCT_RDATA_LO → regN s Reg.LCT_IDX < lctSize →
      let i := regN s Reg.LCT_IDX
      let e := lctEntry (loadMove s) i
      let v := w64 ((lctDecode i e).1 + 2 ^ 56 * dfld e 56 8)
      (s.lctc.begun = false → loadMove s = s) ∧
      ∃ t, exec (.lctRdataLo m) s = .next t ∧ t.lastAccess = .done ∧ t.readData = lo32 v ∧ t.lct = (loadMove s).lct ∧
        regN t Reg.LCT_IDX = i ∧ MemSame s t ∧
        (CanRead t m Reg.LCT_RDATA_HI → ∃ u, exec (.lctRdataHi m) t = .next u ∧ u.lastAccess = .done ∧
          u.readData = hi32 v ∧ u.lct = (loadMove t).lct ∧
          regN u Reg.LCT_IDX = (if regBit t Reg.LCT_CTL 2 then nextIdx lctSize i else i))) ∧
    (lctSize ≤ regN s Reg.LCT_IDX →
      let refused := fun (c : Instr) => ∃ t, exec c s = .next t ∧ t.lastAccess = .violation 2 ∧ t.lct = s.lct ∧ t.lctc = s.lctc ∧
        (m.val ≠ 0 → frozen t m.val = true ∧ regFld t (Reg.MST_VIOL_INFO m.val) 8 4 = 2)
      (CanRead s m Reg.LCT_RDATA_LO → refused (.lctRdataLo m)) ∧ (CanRead s m Reg.LCT_RDATA_HI → refused (.lctRdataHi m)) ∧
      (∀ v, CanWrite s m Reg.LCT_WDATA_HI → refused (.lctWdataHi m v)) ∧
      ∀ (a : BitVec 24), a.toNat ∈ [Reg.LCT_RDATA_LO, Reg.LCT_RDATA_HI, Reg.LCT_WDATA_HI] →
        (CanRead s m a.toNat → refused (.holdingRead m a)) ∧
        (∀ v, CanWrite s m a.toNat → a.toNat = Reg.LCT_WDATA_HI → refused (.registerWrite m a v)))

/-- A write of LCT_WDATA_HI or LCT_CRC_EXP with room in the queue appends an item; the table does not change until the
application point. With 64 items queued the write of any master but M0 is held, and M0 is answered busy (R85, R86). -/
def Obligations.TableWritesQueue : Prop :=
  ∀ (m : Master) (v : Word) (s : State),
    (CanWrite s m Reg.LCT_WDATA_HI → regN s Reg.LCT_IDX < lctSize → s.lctc.queue.length < 64 →
      ∃ t, exec (.lctWdataHi m v) s = .next t ∧ t.lastAccess = .done ∧ t.lct = s.lct ∧
        t.lctc.queue = s.lctc.queue ++ [.entry (regN s Reg.LCT_IDX) (mk64 v (getReg s Reg.LCT_WDATA_LO))] ∧
        RegsBut [Reg.LCT_IDX, Reg.SYS_M0_STAT] s t ∧ RegsOnly { s with lctc := t.lctc } t) ∧
    (CanWrite s m Reg.LCT_CRC_EXP → s.lctc.queue.length < 64 →
      ∃ t, exec (.lctCrcExp m v) s = .next t ∧ t.lastAccess = .done ∧ t.lct = s.lct ∧
        t.lctc.queue = s.lctc.queue ++ [.crc v] ∧ RegsBut [Reg.SYS_M0_STAT] s t ∧ RegsOnly { s with lctc := t.lctc } t) ∧
    (CanWrite s m Reg.LCT_CRC_EXP → 64 ≤ s.lctc.queue.length →
      ∃ t, exec (.lctCrcExp m v) s = .next t ∧ t.lctc = s.lctc ∧
        (m.val ≠ 0 → t.lastAccess = .held ∧ t.heldQ = s.heldQ ++ [⟨.lctQueue, .write m Reg.LCT_CRC_EXP v⟩]) ∧
        (m.val = 0 → t.lastAccess = .busy ∧ t.heldQ = s.heldQ))

/-- A write of LCT_AUDIT stores its bits and starts the pass again where one may run; the audit reads one entry after
another, counts the dead ones, and writes back the data of an entry with one wrong bit (R75, R88–R90). -/
def Obligations.AuditReadsInOrder : Prop :=
  (∀ (m : Master) (v : Word) (s : State), CanWrite s m Reg.LCT_AUDIT →
    ∃ t, exec (.lctAudit m v) s = .next t ∧ getReg t Reg.LCT_AUDIT = v &&& 0x1F ∧
      t.lctc.pass = (if auditMay t then some 0 else none) ∧ t.lct = s.lct ∧
      RegsBut [Reg.LCT_AUDIT, Reg.SYS_M0_STAT] s t ∧ RegsOnly { s with lctc := t.lctc } t) ∧
  (∀ (i : Nat) (s : State), unitOn s 0x1F = true → auditMay s = true → s.lctc.pass = some i → i + 1 < lctSize →
    ∃ t, exec .auditRead s = .next t ∧ t.lctc.pass = some (i + 1) ∧
      t.lctc.dead = s.lctc.dead + (lctDead (lctDecode i (lctEntry s i)).1).toNat ∧
      (∀ j, j ≠ i → lctEntry t j = lctEntry s j) ∧
      lctEntry t i = (if (lctDecode i (lctEntry s i)).2 = .corrected then
        w64 (dfld (w64 (lctDecode i (lctEntry s i)).1) 0 56 + 2 ^ 56 * eccOf i (dfld (w64 (lctDecode i (lctEntry s i)).1) 0 56))
        else lctEntry s i) ∧ MemSame s t)

/-! ### Layers and buffers -/

/-- A write of word 10 to 31 of a context entry is ignored, whichever master makes it. An executed write of word 1 to 9 stores the writable
bits in the shadow copy; every executed write of words 0 to 9 clears ARMED and sets DIRTY, one of word 0 also by a master that may write
OWNER only. With ARM = 1 the other fields are stored first, and then the entry is armed if every check passes (R101). -/
def Obligations.ContextEntryWrites : Prop :=
  ∀ (m : Master) (n : Fin 3072) (w : Fin 32) (v : Word) (s : State),
    gate s m.val (ctxAddr n.val w.val) true = none → frozen s m.val = false → mustHold s m.val (ctxAddr n.val w.val) = none →
    (10 ≤ w.val → ∃ t, exec (.contextWrite m n w v) s = .next t ∧ t.lastAccess = .done ∧ RegsBut [Reg.SYS_M0_STAT] s t ∧
      RegsOnly s t) ∧
    (w.val < 10 → entryRight s m.val n.val = true ∨ (w.val = 0 ∧ ownerRight s m.val = true) →
      ∃ t, exec (.contextWrite m n w v) s = .next t ∧ t.lastAccess = .done ∧ t.ctxForce = s.ctxForce ∧
        (∀ k x : Nat, x < 32 → k ≠ n.val → shadowWord t k x = shadowWord s k x) ∧ regBit t (Reg.SHADOW_STAT 0x1E) 31 = true ∧
        (1 ≤ w.val → shadowWord t n.val w.val = v &&& ctxMask w.val ∧
          shadowWord t n.val 0 = setBit (shadowWord s n.val 0) 31 false) ∧
        (w.val = 0 → (∀ i : Fin 31, bit (shadowWord t n.val 0) i.val = bit (word0After s m.val n.val v) i.val) ∧
          bit (shadowWord t n.val 0) 31 = (entryRight s m.val n.val && bit v 31 &&
            decide (armCode (setShadowWord n.val 0 (word0After s m.val n.val v) s) n.val = 0))))

/-- A write of word 0 with ARM = 1 checks the entry as written: it is ARMED exactly when every check of R102 passes, word 15
shows the code of the first that fails, and a failure raises LYR_EV_ARM_FAIL. -/
def Obligations.ArmChecksEntry : Prop :=
  ∀ (m : Master) (n : Fin 3072) (v : Word) (s : State),
    gate s m.val (ctxAddr n.val 0) true = none → frozen s m.val = false → mustHold s m.val (ctxAddr n.val 0) = none →
    entryRight s m.val n.val = true →
    let code := armCode (setShadowWord n.val 0 (word0After s m.val n.val (setBit v 31 true)) s) n.val
    ∃ t, exec (.arm m n v) s = .next t ∧ t.lastAccess = .done ∧ bit (shadowWord t n.val 0) 31 = decide (code = 0) ∧
      fld (shadowWord t n.val 15) 0 4 = code ∧ (code ≠ 0 → Raised t 0x1E 4 ∧ t.handles = s.handles) ∧
      t.ctxForce = s.ctxForce ∧ MemSame s t

/-- The handle commands: the state of the handle, the result in LYR_BUF_RES, and LYR_EV_CMD_FAIL for a failure; no other
handle changes (R113–R116). -/
def Obligations.BufferHandleCommands : Prop :=
  ∀ (m : Master) (h : Fin 8192) (s : State), CanWrite s m Reg.LYR_BUF_CMD →
    let r := getHandle s h.val
    (∃ t, exec (.define m h) s = .next t ∧ regN t Reg.LYR_BUF_RES = defineCode s h.val + 2 ^ 16 * h.val ∧
      (∀ k, k ≠ h.val → getHandle t k = getHandle s k) ∧
      (defineCode s h.val = 0 → getHandle t h.val = { st := .filling, base := BitVec.ofNat 28 (regN s Reg.LYR_BUF_BASE), size := BitVec.ofNat 28 (regN s Reg.LYR_BUF_SIZE), pitch := BitVec.ofNat 10 (regN s Reg.LYR_BUF_PITCH) }) ∧
      (defineCode s h.val ≠ 0 → t.handles = s.handles ∧ Raised t 0x1E 6)) ∧
    (r.st = .filling → r.bad = false → targeted s h.val = false →
      ∃ t, exec (.seal m h) s = .next t ∧ regN t Reg.LYR_BUF_RES = 2 ^ 16 * h.val ∧
        getHandle t h.val = { r with st := .ready } ∧ (∀ k, k ≠ h.val → getHandle t k = getHandle s k) ∧ Raised t 0x1E 2) ∧
    (r.st = .ready ∨ r.st = .filling → targeted s h.val = false →
      ∃ t, exec (.refill m h) s = .next t ∧ regN t Reg.LYR_BUF_RES = 2 ^ 16 * h.val ∧
        getHandle t h.val = { r with st := .filling, bad := false, redDone := false } ∧
        (∀ k, k ≠ h.val → getHandle t k = getHandle s k) ∧ RegsBut [Reg.LYR_BUF_RES, Reg.SYS_M0_STAT] s t) ∧
    (r.st ≠ .free → r.st ≠ .releasePending → pinnedState r.st = true ∨ targeted s h.val = false →
      ∃ t, exec (.release m h) s = .next t ∧ regN t Reg.LYR_BUF_RES = 2 ^ 16 * h.val ∧
        (getHandle t h.val).st = (if pinnedState r.st then .releasePending else .free) ∧
        (∀ k, k ≠ h.val → getHandle t k = getHandle s k) ∧ RegsBut [Reg.LYR_BUF_RES, Reg.SYS_M0_STAT] s t) ∧
    (∃ t, exec (.query m h) s = .next t ∧ regN t Reg.LYR_BUF_RES = 2 ^ 16 * h.val ∧ regN t Reg.LYR_BUF_BASE = r.base.toNat ∧
      regN t Reg.LYR_BUF_SIZE = r.size.toNat ∧ regN t Reg.LYR_BUF_PITCH = r.pitch.toNat ∧
      regN t Reg.LYR_BUF_STAT = bufStat s h.val ∧ RegsOnly s t ∧
      RegsBut [Reg.LYR_BUF_RES, Reg.LYR_BUF_BASE, Reg.LYR_BUF_SIZE, Reg.LYR_BUF_PITCH, Reg.LYR_BUF_STAT, Reg.SYS_M0_STAT] s t)

/-- The scaler takes the buffer at the head of its queue while it is enabled and its clocks run; when it is done the buffer's
reductions are there, with LYR_EV_SCL_DONE (R125, R126). -/
def Obligations.ScalerWorksOffQueue : Prop :=
  (∀ (h : Nat) (rest : List Nat) (s : State), s.sclQueue = h :: rest → s.sclCur = none → fabricOn s = true →
    regBit s Reg.LYR_SCL_CTL 0 = true → enabled s 0x1E = true →
    exec .scalerStart s = .next { s with sclQueue := rest, sclCur := some h, sclTouched := [] }) ∧
  (∀ (h : Nat) (d : RedDesc) (s : State), s.sclCur = some h → fabricOn s = true → (getHandle s h).rdesc = some d →
    ∃ t, exec .scalerDone s = .next t ∧ t.sclCur = none ∧ (getHandle t h).redDone = true ∧ Raised t 0x1E 5 ∧
      (∀ k, k ≠ h → getHandle t k = getHandle s k) ∧ ∀ off, sGet zeroB off t.fs = sGet zeroB off s.fs)

/-! ### Host link -/

/-- A flit with a good CRC in sequence that carries a whole request queues exactly that request, holds its read tag and
uses one credit of its pool; its SEQ is the last accepted (R132–R136, R143, R148). -/
def Obligations.FlitCarriesRequest : Prop :=
  ∀ (ty : Fin 4) (r : Req) (ack : Byte) (bytes : Vector Byte 128) (s : State),
    r.vc.val < 2 → r.len < 2 ^ 32 → r.data.length ≤ 104 →
    joinLanes (linkLanes s) bytes.toList = hostFlit (flitHeader (s.link.rxSeq + 1) ack r.vc.val r.m.val (16 + r.data.length)) (reqBytes ty.val r) →
    unitOn s 0x05 = true → linkUpNow s = true → (∀ x ∈ s.link.asm, ¬ (x.m = r.m ∧ x.vc = r.vc)) → 0 < hostCredit s r.m.val r.vc.val →
    ∃ t, exec (.flitReceive bytes) s = .next t ∧
      t.link.reqs = s.link.reqs ++ [⟨BitVec.ofNat 3 ty.val, r, 1, tagHeld s ty.val r⟩] ∧
      t.link.rxSeq = s.link.rxSeq + 1 ∧ t.link.retried = false ∧ t.link.replay = afterAck ack s.link.replay ∧
      hostCredit t r.m.val r.vc.val + 1 = hostCredit s r.m.val r.vc.val ∧
      (takesTag ty.val = true → t.link.tags.contains (r.m.val, r.tag.toNat) = true) ∧
      t = { s with link := t.link }

/-- A flit with a bad CRC is counted and discarded, and the first one asks for a replay; a RETRY flit frees what it
acknowledges and has the rest sent again in order, as 1 µs without an ACK does; the fourth replay in a row raises its
event and has the lanes checked, which changes none of them where no receiver has evidence against its lane (R139–R141). -/
def Obligations.FlitsAreReplayed : Prop :=
  (∀ (bytes : Vector Byte 128) (s : State), unitOn s 0x05 = true → linkUpNow s = true →
    let l := joinLanes (linkLanes s) bytes.toList
    crc32c (l.take 124) ≠ leAt l 124 4 →
    ∃ t, exec (.flitReceive bytes) s = .next t ∧ regN t Reg.LNH_N_CRC = counted s Reg.LNH_N_CRC ∧
      t.link.sent = (if s.link.retried then s.link.sent else (s.link.rxSeq, bareFlit 3) :: s.link.sent) ∧
      t.link = { s.link with retried := true, sent := t.link.sent, wire := t.link.wire } ∧
      RegsBut [Reg.LNH_N_CRC] s t ∧ RegsOnly { s with link := t.link, lanes := t.lanes } t) ∧
  (∀ (ack : Byte) (s : State), unitOn s 0x05 = true → linkUpNow s = true →
    ∃ t, exec (.retry ack) s = .next t ∧ t.link.replay = afterAck ack s.link.replay ∧
      t.link.sent = (t.link.replay.map (fun f => (s.link.rxSeq, f))).reverse ++ s.link.sent ∧
      regN t Reg.LNH_N_RETRY = (if t.link.replay = [] then regN s Reg.LNH_N_RETRY else counted s Reg.LNH_N_RETRY) ∧
      RegsBut [Reg.LNH_N_RETRY] s t ∧ RegsOnly { s with link := t.link, lanes := t.lanes } t) ∧
  (∀ (s : State), unitOn s 0x05 = true → linkUpNow s = true → s.link.replay ≠ [] →
    ∃ t, exec .replayTimeout s = .next t ∧ t.link.replays = s.link.replays + 1 ∧ t.link.replay = s.link.replay ∧
      t.link.sent = (s.link.replay.map (fun f => (s.link.rxSeq, f))).reverse ++ s.link.sent ∧
      regN t Reg.LNH_N_RETRY = counted s Reg.LNH_N_RETRY ∧ RegsBut [Reg.LNH_N_RETRY] s t ∧
      RegsOnly { s with link := t.link, lanes := t.lanes } t) ∧
  (∀ (s : State), unitOn s 0x05 = true → linkUpNow s = true → 4 ≤ s.link.replays →
    ∃ t, exec .retryStorm s = .next t ∧ Raised t 5 0 ∧ t.link = { s.link with check := true } ∧ MemSame s t ∧
      ((∀ l ∈ hostLanes, failEvidence s l 1 = false ∧ failEvidence s l 3 = false) → RegsBut (evRegs 5) s t ∧
        EventsOnly { s with link := t.link } t))

/-- The link comes UP at the width of its healthy lanes, with a new link layer: their transmitters are numbered from 0 in order, the next two
are the spares 16 and 17, others DARK, and a lane keeps the number that its markers gave where that is one of the link's. With too few it
raises the width event. 1 ms without an ACK takes it down, and its lanes train again (R139, R141, R142, R176, R179). -/
def Obligations.LinkUpAndRetrain : Prop :=
  (∀ (s : State), unitOn s 0x05 = true → linkUpNow s = false → linkWidth (healthy s).length ≠ 0 →
    let w := linkWidth (healthy s).length
    ∃ t, exec .linkUp s = .next t ∧ regN t Reg.LNH_LINK_STAT = 1 + 2 ^ 8 * w ∧ t.link = {} ∧ Raised t 5 2 ∧ MemSame s t ∧
      ∀ i l, (inOrder s)[i]? = some l →
        (i < w → laneRole t l = lrACTIVE ∧ (getAux t l).txNum = some i) ∧
        (w ≤ i → i < w + 2 → laneRole t l = lrSPARE ∧ (getAux t l).txNum = some (i - w + 16)) ∧
        (i < w + 2 → (∀ n, (getAux s l).logical = some n → n < w ∨ n = 16 ∨ n = 17 → (getAux t l).logical = some n) ∧
          ((getAux s l).logical = none → (getAux t l).logical = (getAux t l).txNum)) ∧
        (w + 2 ≤ i → laneState t l = lsDARK)) ∧
  (∀ (s : State), unitOn s 0x05 = true → linkUpNow s = false → linkWidth (healthy s).length = 0 →
    ∃ t, exec .linkUp s = .next t ∧ Raised t 4 4 ∧ t.link = s.link ∧ t.lanes = s.lanes ∧ EventsOnly s t) ∧
  (∀ (s : State), unitOn s 0x05 = true → linkUpNow s = true → s.link.replay ≠ [] →
    ∃ t, exec .linkRetrain s = .next t ∧ regN t Reg.LNH_LINK_STAT = 0 ∧ t.link = {} ∧ Raised t 5 1 ∧ MemSame s t ∧
      (∀ h ∈ t.heldQ, heldMaster h.op < 3) ∧
      ∀ n : Fin 18, laneRole s (.host n) < 3 → laneState s (.host n) ≠ lsDARK → laneState t (.host n) = lsTRAIN)

/-- Requests execute: RD completes with the bytes of memory; WR to scene memory within the write cap stores its data
and leaves every other byte; RD and WR of one register word access it as a master does; BPUT data joins its context's input; BGET completes
with the bytes of its buffer (R144, R146, R150, R154, R171). -/
def Obligations.HostRequestsExecute : Prop :=
  ∀ (r : Req) (q : RxTxn) (s : State),
    (mayRun s tyRD r = some q → frozen s (3 + r.m.val) = false → malformed s tyRD q = false →
      (∀ off, targetOf r.addr.toNat = .scene off → off + r.len ≤ installedEnd → ueIn s .scene off r.len = [] →
        ∃ t, exec (.rd r) s = .next t ∧ t.link.reqs = s.link.reqs.erase q ∧ MemSame s t ∧
          (∀ a, getReg t a = getReg s a) ∧
          ∃ c ∈ t.link.out, c.m = r.m.val ∧ c.rsp = true ∧ c.typ = 0 ∧ c.tag = r.tag ∧ c.rseq = r.rseq ∧
            c.data = memBytes s .scene off r.len) ∧
      (∀ a, targetOf r.addr.toNat = .regs a → r.len = 4 →
        let s1 := noteRseq r (takeReq q s)
        let x := readReg (Fin.ofNat 11 (3 + r.m.val)) (accessOf r s1 0) s1
        x.lastAccess = .done → ∃ t, exec (.rd r) s = .next t ∧ t = { x with link := t.link } ∧
          ∃ c ∈ t.link.out, c.m = r.m.val ∧ c.rsp = true ∧ c.typ = 0 ∧ c.tag = r.tag ∧ c.data = leBytes 4 x.readData.toNat)) ∧
    (mayRun s tyWR r = some q → frozen s (3 + r.m.val) = false → malformed s tyWR q = false →
      (∀ off, targetOf r.addr.toNat = .scene off → off + r.len ≤ installedEnd → ueIn s .scene off r.len = [] →
        hitsPinned s off r.len = false → s.wcapQ = [] → r.len ≤ s.wcapLevel →
        ∃ t, exec (.wr r) s = .next t ∧ t.link.reqs = s.link.reqs.erase q ∧ t.wcapLevel = s.wcapLevel - r.len ∧
          (∀ a, a < off ∨ off + r.len ≤ a → sGet zeroB a t.scene = sGet zeroB a s.scene) ∧
          (∀ i, i < r.len → sGet zeroB (off + i) t.scene = r.data.getD i 0) ∧ t.fs = s.fs ∧
          (∀ a, getReg t a = getReg s a) ∧
          (r.ackreq = true → ∃ c ∈ t.link.out, c.m = r.m.val ∧ c.rsp = true ∧ c.typ = 1 ∧ c.tag = r.tag)) ∧
      (∀ a, targetOf r.addr.toNat = .regs a → r.len = 4 →
        let s1 := noteRseq r (takeReq q s)
        let x := writeReg (Fin.ofNat 11 (3 + r.m.val)) (accessOf r s1 0) (w32 (ofLe r.data)) s1
        x.lastAccess = .done → ∃ t, exec (.wr r) s = .next t ∧ t = { x with link := t.link } ∧
          (r.ackreq = true → ∃ c ∈ t.link.out, c.m = r.m.val ∧ c.rsp = true ∧ c.typ = 1 ∧ c.tag = r.tag))) ∧
    (mayRun s tyBPUT r = some q → frozen s (3 + r.m.val) = false → malformed s tyBPUT q = false →
      let n := r.arg.toNat % 4096
      let c := getDcx s n
      c.st = .opened → c.owner.toNat = 3 + r.m.val → pinnedState (getHandle s c.handle.toNat).st = false → c.ended = false →
      c.ending = none →
      ∃ t, exec (.bput r) s = .next t ∧ t.link.reqs = s.link.reqs.erase q ∧ MemSame s t ∧ (∀ a, getReg t a = getReg s a) ∧
        getDcx t n = { c with input := c.input ++ r.data, inCnt := c.inCnt + r.len,
                              acks := if r.ackreq then c.acks ++ [(8 * (c.inCnt + r.len), r)] else c.acks,
                              waitAt := if c.input.isEmpty then s.now else c.waitAt } ∧
        ∀ k, k ≠ n → getDcx t k = getDcx s k) ∧
    (mayRun s tyBGET r = some q → frozen s (3 + r.m.val) = false → malformed s tyBGET q = false →
      let h := getHandle s (r.arg.toNat % 8192)
      let off := baseBytes h + r.addr.toNat
      h.st ≠ .free → r.addr.toNat + r.len ≤ sizeBytes h → ueIn s .scene off r.len = [] →
      ∃ t, exec (.bget r) s = .next t ∧ t.link.reqs = s.link.reqs.erase q ∧ MemSame s t ∧ (∀ a, getReg t a = getReg s a) ∧
        ∃ c ∈ t.link.out, c.m = r.m.val ∧ c.rsp = true ∧ c.typ = 3 ∧ c.tag = r.tag ∧ c.data = memBytes s .scene off r.len)

/-- CRD sets a master's credits on its INIT and adds them later; the first INIT is answered with the receive pools in
full; freed credits go back at their time; a flit takes the next SEQ and a credit, and is kept until it is acknowledged; with nothing to
send on any channel a NULL flit goes out (R133, R136–R138, R140). -/
def Obligations.CreditsAndSending : Prop :=
  (∀ (m : HostMaster) (counts : Vector (BitVec 16) 4) (init : Bool) (s : State), unitOn s 0x05 = true → linkUpNow s = true →
    ∃ t, exec (.crd m 0 counts init) s = .next t ∧
      (∀ k : Fin 4, devCredit t m.val k.val = counts[k].toNat + (if init then 0 else devCredit s m.val k.val)) ∧
      (∀ j, j ≠ m.val → ∀ k : Fin 4, devCredit t j k.val = devCredit s j k.val) ∧
      (init = true → linkInit t m.val = true) ∧
      t.link.out = s.link.out ++ (if init && !linkInit s m.val then [crdTxn m.val 16 64 0 0 true] else []) ∧
      RegsBut [Reg.LNH_LINK_STAT] s t ∧ RegsOnly { s with link := t.link } t) ∧
  (∀ (m : HostMaster) (vc : Fin 2) (s : State), unitOn s 0x05 = true → linkUpNow s = true →
    let f := sGet zeroN (2 * m.val + vc.val) s.link.freed
    f ≠ 0 → f ≤ sGet zeroN (2 * m.val + vc.val) s.link.used →
    ∃ t, exec (.creditReturnTimer m vc) s = .next t ∧ sGet zeroN (2 * m.val + vc.val) t.link.freed = 0 ∧
      sGet zeroN (2 * m.val + vc.val) t.link.used + f = sGet zeroN (2 * m.val + vc.val) s.link.used ∧
      t.link.out = s.link.out ++ [crdTxn m.val (if vc = 0 then f else 0) (if vc = 0 then 0 else f) 0 0 false] ∧
      t = { s with link := t.link }) ∧
  (∀ (m : HostMaster) (vc : Fin 2) (x : OutTxn) (s : State), unitOn s 0x05 = true → linkUpNow s = true →
    nextOut s m.val vc.val = some x → outReady s x = true → vcTurn s vc.val = true →
    let f : Flit := ⟨s.link.txSeq, BitVec.ofNat 2 vc.val, BitVec.ofNat 3 m.val, if x.gone = 0 then 1 else 2,
      decide (x.gone + 1 = (txnPayloads x).length), (txnPayloads x).getD x.gone []⟩
    ∃ t, exec (.completionSend m vc) s = .next t ∧ t.link.txSeq = s.link.txSeq + 1 ∧ t.link.replay = s.link.replay ++ [f] ∧
      t.link.sent = (s.link.rxSeq, f) :: s.link.sent ∧
      devCredit t m.val vc.val = devCredit s m.val vc.val - (if creditFree x then 0 else 1) ∧
      t = { s with link := t.link, lanes := t.lanes }) ∧
  (∀ (m : HostMaster) (vc : Fin 2) (s : State), unitOn s 0x05 = true → linkUpNow s = true → nothingToSend s = true →
    ∃ t, exec (.completionSend m vc) s = .next t ∧ t.link.sent = (s.link.rxSeq, bareFlit 0) :: s.link.sent ∧
      t.link = { s.link with sent := t.link.sent, wire := t.link.wire } ∧ t = { s with link := t.link, lanes := t.lanes })

/-- A BPUT whose output is written is completed; 2 µs after its oldest record a master's records form transactions; an EVT
transaction sent carries the header and the oldest records in flits of consecutive SEQ, and takes them off the queue (R63, R64, R138, R144). -/
def Obligations.EventTransactions : Prop :=
  (∀ (m : HostMaster) (n bits : Nat) (r : Req) (s : State), dueAck s m.val = some (n, bits, r) →
    ∃ t c, exec (.bputCompletion m) s = .next t ∧ t.link.out = s.link.out ++ [c] ∧ c.m = r.m.val ∧ c.typ = 2 ∧
      c.rsp = true ∧ c.tag = r.tag ∧ c.rseq = r.rseq ∧ getDcx t n = { getDcx s n with acks := (getDcx s n).acks.tail } ∧
      (∀ k, k ≠ n → getDcx t k = getDcx s k) ∧ t = { s with link := t.link, dcx := t.dcx }) ∧
  (∀ (m : HostMaster) (s : State), unitOn s 0x02 = true → (getMsgq s m.val).formed.sum ≤ (getMsgq s m.val).recs.length →
    ∃ t, exec (.evtTimer m) s = .next t ∧ (getMsgq t m.val).formed.sum = (getMsgq s m.val).recs.length ∧
      (getMsgq t m.val).recs = (getMsgq s m.val).recs ∧ (∀ k, k ≠ m.val → getMsgq t k = getMsgq s k) ∧
      t = { s with msgq := t.msgq }) ∧
  (∀ (m : HostMaster) (n : Nat) (rest : List Nat) (s : State), unitOn s 0x05 = true → linkUpNow s = true →
    (formFives (getMsgq s m.val)).formed = n :: rest → wholeReady s (evtTxn m.val n (getMsgq s m.val)) = true →
    vc0Ready s = false →
    ∃ t fl, exec (.evt m) s = .next t ∧ t.link.replay = s.link.replay ++ fl ∧
      fl.flatMap Flit.payload = hdrBytes (evtTxn m.val n (getMsgq s m.val)) ++ ((getMsgq s m.val).recs.take n).flatMap recBytes ∧
      (∀ i f, fl[i]? = some f → f.seq = s.link.txSeq + BitVec.ofNat 8 i ∧ f.vc = 3 ∧ f.payload.length ≤ 120) ∧
      (getMsgq t m.val).recs = (getMsgq s m.val).recs.drop n ∧ (getMsgq t m.val).formed = rest ∧
      devCredit t m.val 3 + fl.length = devCredit s m.val 3 ∧ t = { s with link := t.link, lanes := t.lanes, msgq := t.msgq })

/-! ### Decompression -/

/-- OPEN of a CLOSED context on a buffer that is being filled; CLOSE of an ended one, and of an open one before its end, which makes it ERROR
and its buffer BAD; ABORT of one with no output waiting; QUERY reports it. Each shows its result in ING_CTX_RES (R151–R153, R170). -/
def Obligations.ContextCommands : Prop :=
  ∀ (m : Master) (n : BitVec 12) (s : State), n.toNat < 3072 → CanWrite s m Reg.ING_CTX_CMD →
    let c := getDcx s n.toNat
    (∀ o : BitVec 4, 3 ≤ o.toNat → o.toNat ≤ 10 → c.st = .closed →
      let h := regFld s Reg.ING_CTX_HANDLE 0 13
      (getHandle s h).st = .filling → (getHandle s h).bad = false → targeted s h = false →
      ctxOffset s < sizeBytes (getHandle s h) →
      ∃ t, exec (.openCtx m o n) s = .next t ∧ regN t Reg.ING_CTX_RES = 2 ^ 16 * n.toNat ∧
        getDcx t n.toNat =
          { st := .opened, owner := o, handle := BitVec.ofNat 13 h, offset := ctxOffset s,
            acks := c.acks.map (fun a => (0, a.2)), idleAt := s.now } ∧
        (∀ k, k ≠ n.toNat → getDcx t k = getDcx s k) ∧ RegsBut [Reg.ING_CTX_RES, Reg.SYS_M0_STAT] s t ∧
        RegsOnly { s with dcx := t.dcx } t) ∧
    (∀ o : BitVec 4, openCode s o.toNat n.toNat ≠ 0 →
      ∃ t, exec (.openCtx m o n) s = .next t ∧ regN t Reg.ING_CTX_RES = openCode s o.toNat n.toNat + 2 ^ 16 * n.toNat ∧
        Raised t 0xC 0 ∧ t.dcx = s.dcx ∧ EventsOnly s t) ∧
    (c.st = .done ∨ c.st = .error → ∃ t, exec (.closeCtx m n) s = .next t ∧ regN t Reg.ING_CTX_RES = 2 ^ 16 * n.toNat ∧
      (getDcx t n.toNat).st = .closed ∧ (∀ k, k ≠ n.toNat → getDcx t k = getDcx s k) ∧ RegsOnly { s with dcx := t.dcx } t) ∧
    (c.st = .opened → c.ended = false → c.ending = none → c.aborting = false → outWaiting s n.toNat = false →
      ∃ t, exec (.closeCtx m n) s = .next t ∧ regN t Reg.ING_CTX_RES = 2 ^ 16 * n.toNat ∧ (getDcx t n.toNat).st = .error ∧
        (getDcx t n.toNat).err = 6 ∧ (getHandle t c.handle.toNat).bad = true ∧ Raised t 0x1E 3 ∧
        (∀ k, k ≠ n.toNat → getDcx t k = getDcx s k) ∧ MemSame s t) ∧
    (c.st = .opened → c.ending = none → outWaiting s n.toNat = false → ∃ t, exec (.abortCtx m n) s = .next t ∧
      regN t Reg.ING_CTX_RES = 2 ^ 16 * n.toNat ∧ (getDcx t n.toNat).st = .closed ∧
      (∀ k, k ≠ n.toNat → getDcx t k = getDcx s k) ∧ RegsOnly { s with dcx := t.dcx } t) ∧
    (∃ t, exec (.ctxQuery m n) s = .next t ∧ regN t Reg.ING_CTX_RES = 2 ^ 16 * n.toNat ∧
      regFld t Reg.ING_CTX_STAT 30 2 = dcxStateCode c.st ∧ regFld t Reg.ING_CTX_STAT 26 4 = c.owner.toNat ∧
      regFld t Reg.ING_CTX_STAT 0 13 = c.handle.toNat ∧ regN t Reg.ING_CTX_IN_LO = c.inCnt % 2 ^ 32 ∧
      regN t Reg.ING_CTX_OUT_LO = c.outCnt % 2 ^ 32 ∧ t.dcx = s.dcx ∧ RegsOnly s t)

/-- The context that has waited longest takes a slot of an engine and gives it up when parked; a token's output reaches the buffer through
the write cap; when all is written the context is DONE; the cap serves its oldest write once it holds its
size (R152, R157, R159, R169–R171). -/
def Obligations.StreamsAreDecoded : Prop :=
  (∀ (n : Fin 3072) (e : Fin 17) (s : State), wantsSlot (getDcx s n.val) = true → waitsLongest s n.val = true → fabricOn s = true →
    deEligible s e.val = true → deResident s e.val < 7 →
    ∃ t, exec (.contextLoad n e true) s = .next t ∧
      getDcx t n.val = { getDcx s n.val with resident := some e.val, ran := some e.val, loadAt := s.now } ∧
      (∀ k, k ≠ n.val → getDcx t k = getDcx s k) ∧ deResident t e.val = deResident s e.val + 1 ∧ deRole t e.val = 0 ∧
      RegsBut [Reg.DCX_STAT e.val, Reg.DCX_N_LOAD e.val] s t ∧ RegsOnly { s with dcx := t.dcx } t) ∧
  (∀ (n : Fin 3072) (s : State), fabricOn s = true → parkMay s n.val = true →
    ∃ t, exec (.contextPark n) s = .next t ∧ getDcx t n.val = { getDcx s n.val with resident := none, waitAt := s.now } ∧
      (∀ k, k ≠ n.val → getDcx t k = getDcx s k) ∧ MemSame s t) ∧
  (∀ (n : Fin 3072) (e : Nat) (c1 : Dcx) (out : List Byte) (s : State), fabricOn s = true →
    let c := getDcx s n.val
    let h := getHandle s c.handle.toNat
    let off := baseBytes h + c.offset + c.decoded
    c.resident = some e → c.st = .opened → c.ended = false → c.ending = none → c.aborting = false →
    deRole s e = 0 → enabled s (0x0D + e) = true → fdcStep (sizeBytes h) c = .ok (c1, out) → c1.ended = false →
    h.st = .filling → s.wcapQ = [] → out.length ≤ s.wcapLevel → out.length ≤ 4096 → ueIn s .scene off out.length = [] →
    ∃ t, exec (.tokenDecode n) s = .next t ∧
      getDcx t n.val = { c1 with outCnt := c1.outCnt + out.length, idleAt := if c1.input.isEmpty then s.now else c1.idleAt } ∧
      t.wcapLevel = s.wcapLevel - out.length ∧ t.wcapQ = [] ∧
      (∀ i, i < out.length → sGet zeroB (off + i) t.scene = out.getD i 0) ∧
      (∀ a, a < off ∨ off + out.length ≤ a → sGet zeroB a t.scene = sGet zeroB a s.scene) ∧ t.fs = s.fs ∧
      RegsBut [Reg.DCX_N_OUT_LO e, Reg.DCX_N_OUT_HI e] s t) ∧
  (∀ (n : Fin 3072) (s : State), fabricOn s = true → enabled s 0x0C = true →
    let c := getDcx s n.val
    c.st = .opened → c.ended = true → c.ending = none → c.aborting = false → outWaiting s n.val = false →
    ∃ t, exec (.streamDone n) s = .next t ∧ (getDcx t n.val).st = .done ∧ (getDcx t n.val).resident = none ∧
      Raised t 0xC 1 ∧
      ((getHandle s c.handle.toNat).st = .filling → (getHandle t c.handle.toNat).st = .ready ∧ Raised t 0x1E 2) ∧
      ((getHandle s c.handle.toNat).st ≠ .filling → t.handles = s.handles) ∧ (∀ k, k ≠ n.val → getDcx t k = getDcx s k) ∧ MemSame s t) ∧
  (∀ (r : Req) (off : Nat) (data : List Byte) (rest : List CapWrite) (s : State), fabricOn s = true → enabled s 0x0C = true →
    s.wcapQ = ⟨.wr r, off, data⟩ :: rest → data.length ≤ s.wcapLevel → hitsPinned s off data.length = false →
    ueIn s .scene off data.length = [] →
    ∃ t, exec .writeCapGrant s = .next t ∧ t.wcapQ = rest ∧ t.wcapLevel = s.wcapLevel - data.length ∧
      (∀ i, i < data.length → sGet zeroB (off + i) t.scene = data.getD i 0) ∧
      (∀ a, a < off ∨ off + data.length ≤ a → sGet zeroB a t.scene = sGet zeroB a s.scene) ∧ t.fs = s.fs ∧
      (∀ a, getReg t a = getReg s a))

/-! ### Lanes -/

/-- A lane comes up: enabled, DETECT; the partner seen, TRAIN; trained, MARK; two valid markers, ORIENT, with the polarity; a marker of the
right link, DESKEW, with its number, and one of another link MISWIRE with CAUSE 4; all aligned within 1,024 bits, UP together. The
timeouts step back, and the third in a row fails a host lane with CAUSE 5 (R175, R176, R178). -/
def Obligations.LaneBringUp : Prop :=
  ∀ (l : Lane) (n : Fin 18) (s : State), live s = true →
    (laneState s l = lsDARK → (isHost l = true → s.pwr.st ≠ .night) → enabled s (lanePage l) = true → laneRole s l < 3 →
      ∃ t, exec (.laneEnable l) s = .next t ∧ laneState t l = lsDETECT ∧
        laneRole t l = (if isHost l = false ∧ ownNumber s l % 3 = 2 ∧ laneRole s l = lrACTIVE then lrSPARE else laneRole s l) ∧
        RegsBut [lstatA l] s t ∧ RegsOnly s t) ∧
    (laneState s l = lsDETECT → laneRole s l < 3 → ∀ ms,
      (∃ t, exec (.detectRetry l true ms) s = .next t ∧ laneState t l = lsTRAIN ∧ (getAux t l).rate = cfgRate s l ∧
        RegsBut [lstatA l] s t ∧ RegsOnly { s with lanes := t.lanes } t) ∧
      (100 ≤ ms → ∃ t, exec (.detectRetry l false ms) s = .next t ∧ laneState t l = lsDETECT ∧ Raised t (lanePage l) 4 ∧
        EventsOnly s t)) ∧
    (laneState s l = lsTRAIN → laneRole s l < 3 → ∃ t, exec (.trainDone l) s = .next t ∧ laneState t l = lsMARK ∧
      (getAux t l).timeouts = 0 ∧ RegsBut [lstatA l] s t ∧ RegsOnly { s with lanes := t.lanes } t) ∧
    (laneState s l = lsMARK ∨ laneState s l = lsORIENT ∨ laneState s l = lsDESKEW →
      ∃ t, exec (.laneStateTimeout l) s = .next t ∧ laneState t l = lsTRAIN ∧ RegsBut [lstatA l] s t ∧
        RegsOnly { s with lanes := t.lanes } t) ∧
    (laneState s (.host n) = lsTRAIN → ∃ t, exec (.laneStateTimeout (.host n)) s = .next t ∧
      laneState t (.host n) = lsDETECT ∧ (getAux t (.host n)).timeouts = (getAux s (.host n)).timeouts + 1 ∧
      ((getAux s (.host n)).timeouts = 2 → laneRole t (.host n) = lrFAILED ∧
        regFld t (Reg.LNH_LSTAT n.val) 16 4 = 5 ∧ Raised t 4 0)) ∧
    (∀ b c inv line pos, markerRead b = some (c, inv) → laneRole s (.host n) < 3 →
      (laneState s (.host n) = lsMARK → 1 ≤ (getAux s (.host n)).goods →
        ∃ t, exec (.marker n ⟨b, line, pos⟩) s = .next t ∧ laneState t (.host n) = lsORIENT ∧
          regBit t (Reg.LNH_LSTAT n.val) 3 = inv ∧ RegsBut [Reg.LNH_LSTAT n.val] s t ∧ RegsOnly { s with lanes := t.lanes } t) ∧
      (laneState s (.host n) = lsORIENT → dfld c 40 8 = regFld s Reg.LNH_CFG 8 8 →
        ∃ t, exec (.marker n ⟨b, line, pos⟩) s = .next t ∧ laneState t (.host n) = lsDESKEW ∧
          (getAux t (.host n)).logical = some (dfld c 32 7) ∧ RegsBut [Reg.LNH_LSTAT n.val] s t) ∧
      (laneState s (.host n) = lsORIENT → dfld c 40 8 ≠ regFld s Reg.LNH_CFG 8 8 →
        ∃ t, exec (.marker n ⟨b, line, pos⟩) s = .next t ∧ laneRole t (.host n) = lrFAILED ∧
          regFld t (Reg.LNH_LSTAT n.val) 16 4 = 4 ∧ Raised t 4 3) ∧
      (laneState s (.host n) = lsDESKEW → (∀ k ∈ risingLanes s, laneState s k = lsDESKEW) →
        (∀ j ∈ risingLanes s, ∀ k ∈ risingLanes s, (if j = .host n then pos else (getAux s j).pos) ≤
          (if k = .host n then pos else (getAux s k).pos) + 1024) →
        ∃ t, exec (.marker n ⟨b, line, pos⟩) s = .next t ∧ (∀ k ∈ risingLanes s, laneState t k = lsUP) ∧
          RegsBut ((List.range 18).map Reg.LNH_LSTAT) s t)) ∧
    (∀ b line pos, markerRead b = none → ∃ t, exec (.marker n ⟨b, line, pos⟩) s = .next t ∧
      (getAux t (.host n)).misses = (getAux s (.host n)).misses + 1 ∧ (getAux t (.host n)).goods = 0 ∧ t = { s with lanes := t.lanes })

/-- A failed panel lane passes its number to the idle spare of its driver, which becomes COVER and copies it from the number's next
marker; a failed host lane asks for a copy with RQ, and says so when there is no spare; asked so, the lowest idle spare is to carry the
number. A quarantined lane asks for its verification (R181–R186, R189, R429). -/
def Obligations.LanesFailOver : Prop :=
  (∀ (n : Fin 108) (x : Lane) (cause : Fin 8) (s : State), live s = true → laneState s (.panel n) = lsUP →
    laneRole s (.panel n) = lrACTIVE → failEvidence s (.panel n) cause.val = true → idleSpare s (.panel n) = some x →
    ∃ t, exec (.laneFail (.panel n) cause) s = .next t ∧ laneRole t (.panel n) = lrFAILED ∧
      regFld t (lstatA (.panel n)) 16 4 = cause.val ∧ laneRole t x = lrCOVER ∧ laneCopy t x = n.val ∧
      (getAux t x).copyNext = some n.val ∧ Raised t (lanePage (.panel n)) 0 ∧ Raised t (lanePage (.panel n)) 1 ∧ MemSame s t ∧
      ∀ y, y ≠ .panel n → y ≠ x → laneRole t y = laneRole s y ∧ laneState t y = laneState s y) ∧
  (∀ (n : Fin 18) (cause : Fin 8) (s : State), live s = true → laneState s (.host n) = lsUP →
    laneRole s (.host n) = lrACTIVE → failEvidence s (.host n) cause.val = true →
    (∀ y ∈ hostLanes, ownNumber s y = ownNumber s (.host n) → y = .host n) →
    (idleSpare s (.host n)).isSome = true ∨ lentSpare s (.host n) = none →
    ∃ t, exec (.laneFail (.host n) cause) s = .next t ∧ laneRole t (.host n) = lrFAILED ∧
      regFld t (Reg.LNH_LSTAT n.val) 16 4 = cause.val ∧ (getAux t (.host n)).rqOut = true ∧ Raised t 4 0 ∧
      (idleSpare s (.host n) = none → Raised t 4 5) ∧ EventsOnly { s with lanes := t.lanes } t ∧
      ∀ y, y ≠ .host n → laneRole t y = laneRole s y ∧ laneState t y = laneState s y) ∧
  (∀ (n x : Fin 18) (s : State), live s = true →
    hostLanes.any (fun y => copies (carried s (.host n)) (getAux s y)) = false →
    hostLanes.find? (fun y => (laneRole s y = lrSPARE || laneRole s y = lrCOVER) && (getAux s y).txCopy.isNone &&
      (getAux s y).copyNext.isNone && laneState s y = lsUP) = some (.host x) →
    (2 ≤ (getAux s (.host n)).rqIn → ∃ t, exec (.copyStart n) s = .next t ∧
      (getAux t (.host x)).copyNext = some (carried s (.host n)) ∧
      t = { s with lanes := t.lanes } ∧ ∀ y, y ≠ .host x → getAux t y = getAux s y) ∧
    (laneRole s (.host n) = lrFAILED → (getAux s (.host n)).rqOut = true →
      hostLanes.any (fun z => laneRole s z = lrCOVER && laneCopy s z = ownNumber s (.host n)) = false →
      ∃ t, exec (.copyMissingTimer n) s = .next t ∧ (getAux t (.host x)).copyNext = some (carried s (.host n)) ∧
        t = { s with lanes := t.lanes } ∧ ∀ y, y ≠ .host x → getAux t y = getAux s y)) ∧
  (∀ (n : Fin 108) (k : Fin 18) (s : State), live s = true →
    (laneRole s (.panel n) = lrQUARANTINED → ∃ t, exec (.laneVerifyTimer (.panel n)) s = .next t ∧
      Asked s t actPVER n.val ∧ EventsOnly { s with mnt := t.mnt } t) ∧
    (laneRole s (.host k) = lrQUARANTINED → ∃ t, exec (.laneVerifyTimer (.host k)) s = .next t ∧
      (getAux t (.host k)).verifyAt = true ∧ t = { s with lanes := t.lanes }))

/-- RESTORE gives a spare a copy of its number, whose cover it replaces after two checked marker periods; FORCE_FAIL fails a lane with
CAUSE 6; VERIFY asks for a verification; PRBS_CLR clears the error counter; the bits that a checker receives give LOCK, errors and
re-seeds (R177, R189, R190). -/
def Obligations.LaneCommands : Prop :=
  ∀ (m : Master) (l : Lane) (s : State), (CanWrite s m (lctlA l) →
    (laneRole s l = lrSPARE → (groupOf l).any (fun y => laneRole s y = lrCOVER && laneCopy s y = ownNumber s l) = true →
      ∃ t, exec (.restore m l) s = .next t ∧ laneRole t l = lrSPARE ∧ laneCopy t l = ownNumber s l % 256 ∧
        (getAux t l).phase = .restoring 0 ∧ (isHost l = false → (getAux t l).copyNext = some (ownNumber s l)) ∧
        RegsBut [lstatA l, lctlA l, Reg.SYS_M0_STAT] s t ∧ RegsOnly { s with lanes := t.lanes } t) ∧
    (laneRole s l = lrACTIVE ∨ laneRole s l = lrSPARE ∨ laneRole s l = lrCOVER →
      ∃ t, exec (.forceFail m l) s = .next t ∧ laneRole t l = lrFAILED ∧ regFld t (lstatA l) 16 4 = 6 ∧
        Raised t (lanePage l) 0 ∧ MemSame s t) ∧
    (∀ n, l = .panel n → laneRole s l = lrQUARANTINED → ∃ t, exec (.verify m l) s = .next t ∧ Asked s t actPVER n.val ∧
      t.lanes = s.lanes ∧ MemSame s t) ∧
    (∀ n, l = .host n → laneRole s l = lrQUARANTINED → ∃ t, exec (.verify m l) s = .next t ∧ (getAux t l).verifyAt = true ∧
      RegsBut [lctlA l, Reg.SYS_M0_STAT] s t ∧ RegsOnly { s with lanes := t.lanes } t) ∧
    (∃ t, exec (.prbsClr m l) s = .next t ∧ getReg t (prbsErrA l) = 0 ∧
      RegsBut [prbsErrA l, lctlA l, Reg.SYS_M0_STAT] s t ∧ RegsOnly s t)) ∧
  (∀ (n : Fin 18) (y : Lane) (b c : DWord) (inv : Bool) (line : List Bool) (pos : Nat), live s = true → laneState s (.host n) = lsUP →
    laneRole s (.host n) = lrSPARE → (getAux s (.host n)).phase = .restoring 1 → markerRead b = some (c, inv) →
    dfld c 32 7 = ownNumber s (.host n) →
    hostLanes.find? (fun y => laneRole s y = lrCOVER && laneCopy s y = ownNumber s (.host n)) = some y →
    ∃ t, exec (.marker n ⟨b, line, pos⟩) s = .next t ∧ laneRole t (.host n) = lrACTIVE ∧ laneRole t y = lrSPARE ∧
      laneCopy t (.host n) = 0xFF ∧ laneCopy t y = 0xFF ∧ (getAux t (.host n)).rqOut = false ∧
      RegsBut [Reg.LNH_LSTAT n.val, lstatA y] s t) ∧
  ∀ (n : Fin 18) (taps : Nat × Nat) (bits : List Bool), live s = true → prbsTaps (checkerSel s (.host n)) = some taps →
    let r := checkBits taps (getAux s (.host n)).ck (regBit s (Reg.LNH_LSTAT n.val) 4) bits
    ∃ t, exec (.prbsCheckerReseed ⟨n, bits⟩) s = .next t ∧ regBit t (Reg.LNH_LSTAT n.val) 4 = r.lock ∧
      (getAux t (.host n)).ck = r.ck ∧
      (s.captured.contains 4 = false →
        regN t (Reg.LNH_PRBS_ERR n.val) = min (regN s (Reg.LNH_PRBS_ERR n.val) + r.errors) 0xFFFFFFFF ∧
        regN t (Reg.LNH_PRBS_RESEED n.val) = min (regN s (Reg.LNH_PRBS_RESEED n.val) + r.reseeds) 0xFFFF) ∧
      RegsBut [Reg.LNH_LSTAT n.val, Reg.LNH_PRBS_ERR n.val, Reg.LNH_PRBS_RESEED n.val] s t ∧ RegsOnly { s with lanes := t.lanes } t

/-- A panel status frame polls its driver: a good reply of PRBS errors is stored, a STATUS word gives LOCK, a reply that is missing
counts, the third in a row with an event; an attention bit fails the lane that carries the position. LNP_PSB_SEL asks for one poll, and
LNP_DRVREG queues a write for a driver, held while 16 wait (R186, R198, R199). -/
def Obligations.PanelStatusBus : Prop :=
  (∀ (d : Word) (s : State), live s = true →
    let k := (psbAddress s 0).1
    let i := (psbAddress s 0).2
    k < 36 → i < 4 →
    (i ≠ 0 → ∃ t, exec (.psbFrame 0 (some (d, BitVec.ofNat 8 (crc8 d)))) s = .next t ∧
      getReg t (Reg.LNP_PRBS_ERR (3 * k + (i - 1))) = d ∧ (s.psb.sel.isSome = true → getReg t Reg.LNP_PSB_DATA = d) ∧
      t.psb.frame = s.psb.frame + 1 ∧ t.psb.sel = none ∧ sGet zeroN k t.psb.bad = 0 ∧
      RegsBut [Reg.LNP_PRBS_ERR (3 * k + (i - 1)), Reg.LNP_PSB_DATA] s t ∧ RegsOnly { s with psb := t.psb } t) ∧
    (i = 0 → ∃ t, exec (.psbFrame 0 (some (d, BitVec.ofNat 8 (crc8 d)))) s = .next t ∧
      (∀ j : Fin 3, regBit t (lstatA (panelLane (3 * k + j.val))) 4 = bit d (13 + j.val)) ∧
      t.psb.frame = s.psb.frame + 1 ∧ t.psb.sel = none ∧ MemSame s t) ∧
    (∃ t, exec (.psbFrame 0 none) s = .next t ∧ sGet zeroN k t.psb.bad = sGet zeroN k s.psb.bad + 1 ∧
      regN t Reg.LNP_N_PSB_ERR = counted s Reg.LNP_N_PSB_ERR ∧
      (sGet zeroN k s.psb.bad = 2 → Raised t (lanePage (panelLane (3 * k))) 7) ∧ EventsOnly { s with psb := t.psb } t)) ∧
  (∀ (k : Fin 36) (l : Lane) (s : State), live s = true → carrierOf s (3 * k.val) = some l →
    ∃ t, exec (.psbFrame (1#72 <<< (2 * k.val)) none) s = .next t ∧ laneRole t l = lrFAILED ∧
      regFld t (lstatA l) 16 4 = 7) ∧
  (∀ (m : Master) (v : Word) (s : State),
    (CanWrite s m Reg.LNP_PSB_SEL → fld v 0 6 < 36 → ∃ t, exec (.lnpPsbSel m v) s = .next t ∧
      t.psb = { s.psb with sel := some (fld v 0 6, fld v 6 4 % 4) } ∧ RegsBut [Reg.SYS_M0_STAT] s t ∧
      RegsOnly { s with psb := t.psb } t) ∧
    (CanWrite s m Reg.LNP_DRVREG → fld v 24 6 < 36 ∨ fld v 24 6 = 63 →
      (s.psb.drvq.length < 16 → ∃ t, exec (.lnpDrvreg m v) s = .next t ∧ t.psb = { s.psb with drvq := s.psb.drvq ++ [v] } ∧
        RegsBut [Reg.SYS_M0_STAT] s t ∧ RegsOnly { s with psb := t.psb } t) ∧
      (16 ≤ s.psb.drvq.length → m.val ≠ 0 → ∃ t, exec (.lnpDrvreg m v) s = .next t ∧ t.psb = s.psb ∧
        t.lastAccess = .held ∧ t.heldQ = s.heldQ ++ [⟨.drvQueue, .write m Reg.LNP_DRVREG v⟩])))

/-! ### Composer and finishing -/

/-- A free engine takes its next work and is free again when it is done: a coarse item counts, a full item is kept with its engine,
a verification's result waits; zone analysis lets the waiting items go on (R202, R219, R221, R228, R242). -/
def Obligations.WorkItemsRun : Prop :=
  (∀ (e : Fin 68) (w : Work) (c : Comp) (s : State), engineClock s e.val = true → composing s = true →
    s.comp.day = true → engineFree s e.val = true → nextWork s e.val = some (w, c) →
    ∃ t, exec (.workItemStart e) s = .next t ∧ t.comp = { c with running := c.running ++ [⟨e.val, w⟩] } ∧ MemSame s t ∧
      t.tiles = s.tiles ∧ t.scan = s.scan ∧ t.handles = s.handles) ∧
  (∀ (e : Fin 68) (r : Running) (upset : List (Nat × BitVec 18)) (s : State), engineClock s e.val = true → composing s = true →
    s.comp.running.find? (fun r => r.e = e.val) = some r →
    (∀ i, r.w = .coarse i → ∃ t, exec (.workItemDone ⟨e, upset⟩) s = .next t ∧ t.comp.coarse = s.comp.coarse + 1 ∧
      engineFree t e.val = true ∧ t.comp.done = s.comp.done) ∧
    (∀ i, r.w = .full i → ∃ t, exec (.workItemDone ⟨e, upset⟩) s = .next t ∧ engineFree t e.val = true ∧
      (doneItem t i).map ItemSig.e = some e.val ∧ ∀ j, j ≠ i → doneItem t j = doneItem s j) ∧
    (∀ i, r.w = .verify i → ∃ t a, exec (.workItemDone ⟨e, upset⟩) s = .next t ∧ engineFree t e.val = true ∧
      t.comp.verSigs = s.comp.verSigs ++ [a] ∧ a.item = i ∧ a.e = e.val ∧ t.comp.done = s.comp.done)) ∧
  (∀ (s : State), unitOn s 0x26 = true → composing s = true → s.comp.coarse = 510 → s.comp.zoned = false →
    ∃ t, exec .zoneAnalysisDone s = .next t ∧ t.comp.zoned = true ∧ t.comp.finQ = [] ∧ t.comp.done = s.comp.done ∧
      t.scene = s.scene)

/-- When every item is complete, those of the engines in VERIFY included, the frame is COMPLETE: SIG_RSTAT shows how each region compares, SIG_EV_MISS reports a miss, and
FIN_FCRC holds the CRC of each slot frame (R222, R230, R241). -/
def Obligations.CompositionCompletes : Prop :=
  ∀ (s : State), compClock s = true → composing s = true → allComplete s = true →
    ∃ t, exec .compositionComplete s = .next t ∧ t.comp.st = .complete ∧ t.comp.running = [] ∧
      t.comp.stale = !s.comp.replaced.isEmpty ∧ MemSame s t ∧
      (enabled s 0x27 = true → (∀ n, n < 128 → sGet zeroW n t.sigStat = w32 (sigOutcome s n)) ∧
        ((∃ n, n < 128 ∧ sigOutcome s n = 2) → Raised t 0x27 0)) ∧
      (∀ sl : Fin 4, getReg t (Reg.FIN_FCRC sl.val) = w32 (crc32 (slotBytes s sl.val)))

/-- A residue fault takes its engine out of service with CAUSE 2 and gives its item back; RETIRE does so with CAUSE 3; the
verify timer and VERIFY ask for a verification, ADMIT for the role SPARE (R224, R225, R228, R429). -/
def Obligations.EnginesLeaveAndReturn : Prop :=
  ∀ (m : Master) (e : Fin 68) (s : State),
    (engineClock s e.val = true → inRole s e.val = true → ∃ t, exec (.residueFault e) s = .next t ∧ ceRole t e.val = roQUARANTINED ∧
      regFld t (Reg.CMP_ESTAT e.val) 8 4 = 2 ∧ engineFree t e.val = true ∧ Raised t (0x21 + e.val / 16) 0 ∧
      Raised t (0x21 + e.val / 16) 1 ∧ MemSame s t ∧
      (∀ i, s.comp.running.find? (fun r => r.e = e.val) = some ⟨e.val, .full i⟩ → t.comp.fullQ = i :: s.comp.fullQ) ∧
      (∀ i, s.comp.running.find? (fun r => r.e = e.val) = some ⟨e.val, .coarse i⟩ → t.comp.coarseQ = i :: s.comp.coarseQ)) ∧
    (live s = true → ceRole s e.val = roQUARANTINED → ∃ t, exec (.engineVerifyTimer e) s = .next t ∧
      Asked s t actEVER e.val ∧ t.comp = s.comp ∧ MemSame s t) ∧
    (CanWrite s m (Reg.CMP_ECTL e.val) → ceRole s e.val = roQUARANTINED → ∃ t, exec (.cmpVerify m e) s = .next t ∧
      Asked s t actEVER e.val ∧ t.comp = s.comp ∧ MemSame s t) ∧
    (CanWrite s m (Reg.CMP_ECTL e.val) → inRole s e.val = false → ∃ t, exec (.cmpAdmit m e) s = .next t ∧
      t.comp = { s.comp with roleReq := s.comp.roleReq.filter (fun q => q.1 ≠ e.val) ++ [(e.val, BitVec.ofNat 3 roSPARE)] } ∧
      RegsBut [Reg.SYS_M0_STAT] s t ∧ RegsOnly { s with comp := t.comp } t) ∧
    (CanWrite s m (Reg.CMP_ECTL e.val) → ceRole s e.val ≠ roRETIRED → ∃ t, exec (.retire m e) s = .next t ∧
      ceRole t e.val = roRETIRED ∧ regFld t (Reg.CMP_ESTAT e.val) 8 4 = 3 ∧ engineFree t e.val = true ∧
      Raised t (0x21 + e.val / 16) 1 ∧ (∀ k, k ≠ e.val → k < 68 → ceRole t k = ceRole s k) ∧ MemSame s t)

/-- A LINE of a mirror frame goes out whole where credit and buffer allow: header and 3,840 bytes of pixels of its line. A
read of FIN_ZDATA returns the selected zone and moves on; a read of SCN_FIFO_MIN returns it and sets it to 48; after a reset the first tick
seeds the generator (R234, R248, R249, R256, R352). -/
def Obligations.LinesZonesAndSeed : Prop :=
  (∀ (f : MirFrame) (s : State), s.mirror.find? (mirMay s) = some f → unitOn s 0x05 = true → linkUpNow s = true → vc0Ready s = false →
    vc3Ready s = false → (∀ x ∈ s.link.out, x.vc = 1 → outReady s x = false) → nextOut s f.m 2 = none → f.next < 2160 →
    f.lost = false → wholeReady s (lineTxn s f f.next) = true →
    ∃ t fl, exec .lineTransaction s = .next t ∧ t.link.replay = s.link.replay ++ fl ∧ fl.length = 33 ∧
      fl.flatMap Flit.payload = hdrBytes (lineTxn s f f.next) ++ (lineTxn s f f.next).data ∧
      (lineTxn s f f.next).data.drop 16 = memBytes s .frame (stagingBase f.buf + 3840 * f.next) 3840 ∧
      t.mirror = s.mirror.map (fun g => if g.frame = f.frame then { f with next := f.next + 1, out := false } else g) ∧
      devCredit t f.m 2 + 33 = devCredit s f.m 2 ∧ MemSame s t) ∧
  (∀ (m : Master) (s : State), CanRead s m Reg.FIN_ZDATA →
    let z := regFld s Reg.FIN_ZSEL 0 14
    ∃ t, exec (.finZdata m) s = .next t ∧ t.lastAccess = .done ∧
      t.readData = (if z < 12288 then zoneWord s (zselRegion s) (regFld s Reg.FIN_ZSEL 16 2) z else 0) ∧
      regFld t Reg.FIN_ZSEL 0 14 = nextIdx 12288 z ∧ regFld t Reg.FIN_ZSEL 16 2 = regFld s Reg.FIN_ZSEL 16 2 ∧
      RegsBut [Reg.FIN_ZSEL] s t ∧ RegsOnly s t) ∧
  (∀ (m : Master) (s : State), CanRead s m Reg.SCN_FIFO_MIN →
    ∃ t, exec (.scnFifoMin m) s = .next t ∧ t.lastAccess = .done ∧ t.readData = getReg s Reg.SCN_FIFO_MIN ∧
      regN t Reg.SCN_FIFO_MIN = 48 ∧ RegsBut [Reg.SCN_FIFO_MIN] s t ∧ RegsOnly s t) ∧
  (∀ (s : State), unitOn s 0x35 = true → s.gl.seeded = false →
    ∃ t, exec .tickSeed s = .next t ∧ t.gl.seeded = true ∧ MemSame s t ∧ t.tb = s.tb)

/-! ### Memory -/

/-- A refresh takes one tREFI from its unit's debt; above 8 tREFI it is urgent, counted, and the first of a burst has
its event. A due refresh, or one pulled in in an idle unit, takes a slot that nothing before it wants, at most 4 at a time in a stack. A unit
idle for its time powers down (R309, R317, R320, R321, R325, R416). -/
def Obligations.RefreshesPayDebt : Prop :=
  ∀ (u : DramUnit) (s : State), unitRuns s u = true →
    (refreshUrgent s u = true → ∃ t, exec (.refreshUrgent u) s = .next t ∧ debt t u = debt s u - trefi s u ∧
      regN t (memBase (sysOf u) + 0x58) = counted s (memBase (sysOf u) + 0x58) ∧ (getDram t (dramKey u)).pd = false ∧
      (getDram t (dramKey u)).rows = [] ∧ (∀ k, k ≠ dramKey u → getDram t k = getDram s k) ∧ MemSame s t ∧
      ((getDram s (dramKey u)).urgent = 0 → Raised t (memBase (sysOf u) / 4096) 3)) ∧
    (urgentFirst s u = false → staggerOk s u = true → pressing s u = false → (getDram s (queueKey u)).refresh = [] →
      ∀ early, 0 ≤ debt s u ∨ (early = true ∧ -(4 * trefi s u) ≤ debt s u ∧ idleFor s u 200 = true) →
      ∃ t, exec (.refreshDue u early) s = .next t ∧ debt t u = debt s u - trefi s u ∧ (getDram t (dramKey u)).pd = false ∧
        (getDram t (dramKey u)).rows = [] ∧ (getDram t (dramKey u)).refAt = some (4 * (s.now : Int)) ∧
        (∀ k, k ≠ dramKey u → getDram t k = getDram s k) ∧ RegsOnly { s with dram := t.dram } t) ∧
    (∀ n, pdTime s (sysOf u) = some n → idleFor s u n = true → ∃ t, exec (.powerDownEntry u) s = .next t ∧
      getDram t (dramKey u) = { getDram s (dramKey u) with pd := true, rows := [] } ∧
      (∀ k, k ≠ dramKey u → getDram t k = getDram s k) ∧ t = { s with dram := t.dram })

/-- A unit turns hot at 85 °C and cool after 8 readings below 83 °C, each with its event; the oldest neighbour refresh of a
queue is issued and closes its bank; the activate tables of a stack clear at their time (R322–R324). -/
def Obligations.HeatAndNeighbours : Prop :=
  (∀ (n : Fin 32) (t : BitVec 16) (code : Byte) (s : State), unitOn s 0x2F = true →
    let hot := regBit s Reg.MFS_STAT (n.val / 16)
    let cool := (getDram s (16 * (n.val / 16))).cool
    ∃ u, exec (.memoryTempRead (.pc n) t code) s = .next u ∧ regFld u Reg.MFS_TEMP (16 * (n.val / 16)) 16 = t.toNat ∧ MemSame s u ∧
      (1360 ≤ t.toInt → regBit u Reg.MFS_STAT (n.val / 16) = true ∧ (hot = false → Raised u 0x2E 2)) ∧
      (t.toInt < 1328 → hot = true → (7 ≤ cool → regBit u Reg.MFS_STAT (n.val / 16) = false ∧ Raised u 0x2E 2) ∧
        (cool < 7 → regBit u Reg.MFS_STAT (n.val / 16) = true ∧ (getDram u (16 * (n.val / 16))).cool = cool + 1)) ∧
      (1328 ≤ t.toInt → t.toInt < 1360 → regBit u Reg.MFS_STAT (n.val / 16) = hot)) ∧
  (∀ (ch : Fin 4) (k : Fin 2) (t : BitVec 16) (code : Byte) (s : State), unitOn s 0x31 = true →
    let d := getDram s (dramKey (.rank ch k))
    ∃ u, exec (.memoryTempRead (.rank ch k) t code) s = .next u ∧ MemSame s u ∧
      getDram u (dramKey (.rank ch k)) = { d with hot := (hotNext d.hot d.cool t).1, cool := (hotNext d.hot d.cool t).2, code := code } ∧
      (1360 ≤ t.toInt → regBit u Reg.MSC_STAT ch.val = true ∧ (d.hot = false → Raised u 0x30 2))) ∧
  (∀ (u : DramUnit) (bank row : Nat) (rest : List (Nat × Nat)) (s : State), unitRuns s u = true → urgentFirst s u = false →
    pick3 s u = none → (getDram s (queueKey u)).refresh = (bank, row) :: rest →
    ∃ t l, exec (.neighbourRefresh u) s = .next t ∧ (getDram t (queueKey u)).refresh = rest ++ l ∧ l.length ≤ 2 ∧ MemSame s t ∧
      (sysOf u = .scene → l = []) ∧ (getDram t (queueKey u)).q = (getDram s (queueKey u)).q ∧
      (sysOf u = .frame → sGet zeroN bank (getDram t (queueKey u)).rows = 0) ∧
      (sysOf u = .scene → sGet zeroN (bank % 32) (getDram t (queueKey u + bank / 32)).rows = 0) ∧
      (∀ k, k ≠ queueKey u → k ≠ queueKey u + bank / 32 → getDram t k = getDram s k)) ∧
  (∀ (k : Fin 2) (s : State), unitOn s 0x2E = true → ∃ t, exec (.refreshWindowClear k) s = .next t ∧
    (∀ b, b / 256 = k.val → actTab t b = List.replicate 16 (0, 0)) ∧ (∀ b, b / 256 ≠ k.val → sGet (fun _ => []) b t.acts = sGet (fun _ => []) b s.acts) ∧
    t = { s with acts := t.acts })

/-- The controller issues the request of its choice: its row's data is read or corrected, a correctable error counts and waits for
its rewrite, an uncorrectable one is reported; the patrol scrub goes through the codewords in order and rewrites those that wait; SOFT asks for
a repair and DROP frees an entry (R316, R317, R327–R331). -/
def Obligations.RequestsScrubAndRepair : Prop :=
  (∀ (u : DramUnit) (arrivals : List MemReq) (errs : SymErrs) (w : Waiting) (s : State), unitRuns s u = true →
    let s1 := (arrivals.filter (reqOk u)).foldl (arrive u) s
    let c := w.req.offset / cwSize (sysOf u)
    pickReq s1 u = some w → (ueOf s (sysOf u)).contains c = false →
    (readEcc (sysOf u) errs = .clean → ∃ t, exec (.memoryRequestIssue u arrivals errs) s = .next t ∧ MemSame s t ∧
      rowOpen t u w.req = true ∧ (rowOpen s1 u w.req = true → t = { s with dram := t.dram })) ∧
    (readEcc (sysOf u) errs = .corrected → ∃ t, exec (.memoryRequestIssue u arrivals errs) s = .next t ∧
      (getMem t (sysOf u)).rewrite = (getMem s (sysOf u)).rewrite.filter (· ≠ c) ++ [c] ∧
      regN t (memBase (sysOf u) + 0x50) = counted s (memBase (sysOf u) + 0x50) ∧ MemSame s t) ∧
    (readEcc (sysOf u) errs = .uncorrectable → ∃ t, exec (.memoryRequestIssue u arrivals errs) s = .next t ∧
      (w.req.write = false ∨ sysOf u = .scene → (ueOf t (sysOf u)).contains c = true) ∧
      (w.req.write = true → sysOf u = .frame → t.fsUE.contains c = false ∧ Raised t 0x2E 7))) ∧
  (∀ (sys : MemSys) (errs : SymErrs) (wa : Bool) (s : State), scrubRuns s sys = true →
    (ueOf s sys).contains (getMem s sys).scrub = false → readEcc sys errs = .clean →
    ∃ t, exec (.scrubRead sys errs wa) s = .next t ∧ MemSame s t ∧
      ((getMem s sys).scrub + 1 < scrubEnd sys → (getMem t sys).scrub = (getMem s sys).scrub + 1 ∧ (∀ a, getReg t a = getReg s a)) ∧
      (scrubEnd sys ≤ (getMem s sys).scrub + 1 → (getMem t sys).scrub = 0 ∧ (getMem t sys).corr = 0 ∧
        Raised t (memBase sys / 4096) 6)) ∧
  (∀ (sys : MemSys) (c : Nat) (rest : List Nat) (s : State), scrubPort s sys = true → (getMem s sys).rewrite = c :: rest →
    (ueOf s sys).contains c = false →
    ∃ t, exec (.scrubRewrite sys) s = .next t ∧ (getMem t sys).rewrite = rest ∧ MemSame s t ∧ (∀ a, getReg t a = getReg s a)) ∧
  (∀ (m : Master) (sys : MemSys) (e : Fin 16) (s : State), CanWrite s m (memBase sys + 0xA0) →
    (fld (rplGet s sys e.val) 30 2 ≠ 0 → ∃ t, exec (.soft m sys e) s = .next t ∧ Asked s t (pprAct sys) e.val ∧ MemSame s t) ∧
    (∃ t, exec (.drop m sys e) s = .next t ∧ rplGet t sys e.val = 0 ∧ (∀ k, k ≠ e.val → rplGet t sys k = rplGet s sys k) ∧
      MemSame s t ∧ RegsBut [Reg.SYS_M0_STAT] s t))

/-! ### Time -/

/-- A Sync, or the Follow_Up of a two-step one, gives the steering tracker its offset: an UNSET time base steps by it and is ACQUIRE, one
below Θ is slewed by the servo; Delay_Resp and Pdelay_Resp give the filtered delays (R339, R340, R342, R343). -/
def Obligations.PtpMessagesMeasure : Prop :=
  (∀ (x k : Nat) (p : Fin 2) (h : PtpHdr) (org d : Int) (s : State), portUp s p.val = true → h.via = portVia s p.val →
    OnlyTracker s x p.val h → trackerUse s x = some (k, true) → pathDelay s x p.val = some d →
    let o := rxTime s p.val k - (org + h.corr) - d - asymOf s p.val
    let b := getTb s k
    let os := clampI (-(2 ^ 47)) (2 ^ 47) o
    let i := satF (b.i - divFloor (os * regN s (Reg.TIM_TB_KI k) + 32768) 65536)
    ∃ t, exec (.sync p h org false) s = .next t ∧ regN t (Reg.TIM_TB_OFS k) = ofsShown o ∧ MemSame s t ∧
      (b.st = .unset → (getTb t k).value = tbAdd b.value (-(o * 2 ^ 32)) ∧ (getTb t k).st = .acquire ∧ Raised t 0x34 0 ∧
        Raised t 0x34 1) ∧
      (b.st = .acquire ∨ b.st = .locked → o.natAbs < tbTheta s k → (getTb t k).i = i ∧ (getTb t k).value = b.value ∧
        (getTb t k).f = satF (i - divFloor (os * regN s (Reg.TIM_TB_KP k) + 32768) 65536))) ∧
  (∀ (x k : Nat) (p : Fin 2) (h : PtpHdr) (org d : Int) (w : SyncWait) (s : State), portUp s p.val = true →
    h.via = portVia s p.val → OnlyTracker s x p.val h → trackerUse s x = some (k, true) →
    (∃ t, exec (.sync p h org true) s = .next t ∧ (getTrk t x).wait = some ⟨h.seq, rxTime s p.val k, h.corr⟩ ∧
      (∀ y, y ≠ x → getTrk t y = getTrk s y) ∧ t.tb = s.tb) ∧
    ((getTrk s x).wait = some w → w.seq = h.seq → pathDelay s x p.val = some d →
      ∃ t, exec (.followUp p h org) s = .next t ∧ (getTrk t x).wait = none ∧
        regN t (Reg.TIM_TB_OFS k) = ofsShown (w.rx - (org + w.corr + h.corr) - d - asymOf s p.val) ∧ MemSame s t)) ∧
  (∀ (x : Nat) (p : Fin 2) (h : PtpHdr) (rec t1 t2 t3 : Int) (s : State), portUp s p.val = true → h.via = portVia s p.val →
    OnlyTracker s x p.val h → portP2p s p.val = false → (getTrk s x).dseq = h.seq → (getTrk s x).t3 = some t3 → (getTrk s x).sync = some (t1, t2) →
    ∃ t, exec (.delayResp p h rec) s = .next t ∧ (getTrk t x).t3 = none ∧ t.tb = s.tb ∧
      (getTrk t x).df = some (filterDelay (getTrk s x).df (divFloor (t2 - t1 + (rec + h.corr) - t3 + 1) 2)) ∧
      (∀ y, y ≠ x → getTrk t y = getTrk s y) ∧ RegsBut [Reg.TIM_ETH_LDLY p.val, Reg.TIM_ETH_N_RX p.val] s t) ∧
  (∀ (p : Fin 2) (h : PtpHdr) (t1 t2 t3 : Int) (s : State), portUp s p.val = true → h.via = portVia s p.val →
    portP2p s p.val = true → (getEth s p.val).t1 = some t1 → (getEth s p.val).pseq = h.seq →
    ∃ t, exec (.pdelayResp p h t2 t3) s = .next t ∧ (getEth t p.val).t1 = none ∧ t.tb = s.tb ∧
      (getEth t p.val).dlf = some (filterDelay (getEth s p.val).dlf
        (divFloor ((rxTime s p.val (pdlyTb s p.val) - t1) - (t3 + h.corr - t2) + 1) 2)) ∧
      RegsBut [Reg.TIM_ETH_LDLY p.val, Reg.TIM_ETH_N_RX p.val] s t ∧ RegsOnly { s with eth := t.eth } t)

/-- The messages that a port sends, with their timestamps queued, the foreign master table, and the counts of messages
received and discarded; one on another transport than the port's is discarded (R338–R341, R349). -/
def Obligations.PortsExchangeMessages : Prop :=
  ∀ (p : Fin 2) (s : State), portUp s p.val = true → (getEth s p.val).txq.length < 16 →
    (∀ h : PtpHdr, portP2p s p.val = true → h.via = portVia s p.val →
      let k := pdlyTb s p.val
      ∃ t, exec (.pdelayReq p h) s = .next t ∧
        (getEth t p.val).sent = (if regBit s (Reg.TIM_ETH_CFG p.val) 26
          then [⟨3, h.domain, h.seq, h.corr + (txTime s p.val k - rxTime s p.val k), 0, carrier s p.val⟩]
          else [⟨10, h.domain, h.seq, h.corr, txTime s p.val k, carrier s p.val⟩,
                ⟨3, h.domain, h.seq, 0, rxTime s p.val k, carrier s p.val⟩]) ++ (getEth s p.val).sent ∧
        (getEth t p.val).txq = (getEth s p.val).txq ++ [txEntry k 3 h.domain h.seq (txTime s p.val k)] ∧
        RegsBut [Reg.TIM_ETH_N_RX p.val] s t ∧ RegsOnly { s with eth := t.eth } t) ∧
    (∀ (h : PtpHdr) (org : Int) (two : Bool), h.via ≠ portVia s p.val → ∃ t, exec (.sync p h org two) s = .next t ∧
      exec (.pdelayReq p h) s = .next t ∧ regN t (Reg.TIM_ETH_N_DROP p.val) = counted s (Reg.TIM_ETH_N_DROP p.val) ∧
      RegsBut [Reg.TIM_ETH_N_DROP p.val] s t ∧ RegsOnly s t) ∧
    (∀ (k : Fin 4) (b : Nat) (r : Bool), trackerUse s k.val = some (b, r) → trackerPort s k.val = some p.val →
      portP2p s p.val = false →
      let dom := BitVec.ofNat 8 (fld (srcReg s b r) 16 8)
      ∃ t, exec (.delayReq k) s = .next t ∧ (getTrk t k.val).t3 = some (txTime s p.val b) ∧
        (getTrk t k.val).dseq = (getTrk s k.val).dseq + 1 ∧
        (getEth t p.val).sent = ⟨1, dom, (getTrk s k.val).dseq + 1, 0, 0, carrier s p.val⟩ :: (getEth s p.val).sent ∧
        (getEth t p.val).txq = (getEth s p.val).txq ++ [txEntry b 1 dom ((getTrk s k.val).dseq + 1) (txTime s p.val b)] ∧
        t = { s with trk := t.trk, eth := t.eth }) ∧
    (portP2p s p.val = true → ∃ t dom, exec (.pdelayReqSend p) s = .next t ∧
      (getEth t p.val).t1 = some (txTime s p.val (pdlyTb s p.val)) ∧ (getEth t p.val).pseq = (getEth s p.val).pseq + 1 ∧
      (getEth t p.val).sent = ⟨2, dom, (getEth s p.val).pseq + 1, 0, 0, carrier s p.val⟩ :: (getEth s p.val).sent ∧
      t = { s with eth := t.eth, freeCtr := t.freeCtr }) ∧
    (∀ a : AnnounceMsg, a.hdr.via = portVia s p.val → ∃ t i, exec (.announce p a) s = .next t ∧ i < 8 ∧
      sGet fmNone i (getEth t p.val).fm = some ⟨a, s.now⟩ ∧
      (∀ j, j ≠ i → sGet fmNone j (getEth t p.val).fm = sGet fmNone j (getEth s p.val).fm) ∧
      RegsBut [Reg.TIM_ETH_N_RX p.val] s t) ∧
    (∃ t, exec (.ptpDiscard p) s = .next t ∧ regN t (Reg.TIM_ETH_N_DROP p.val) = counted s (Reg.TIM_ETH_N_DROP p.val) ∧
      RegsBut [Reg.TIM_ETH_N_DROP p.val] s t ∧ RegsOnly s t) ∧
    (∀ k : Fin 4, ∃ t, exec (.delayAnswerTimeout (.tracker k)) s = .next t ∧
      getTrk t k.val = { getTrk s k.val with t3 := none } ∧ t = { s with trk := t.trk }) ∧
    (∃ t, exec (.delayAnswerTimeout (.port p)) s = .next t ∧ getEth t p.val = { getEth s p.val with t1 := none } ∧
      t = { s with eth := t.eth }) ∧
    (∀ i : Fin 8, ∃ t, exec (.foreignMasterExpire p i) s = .next t ∧ sGet fmNone i.val (getEth t p.val).fm = none ∧
      (∀ j, j ≠ i.val → sGet fmNone j (getEth t p.val).fm = sGet fmNone j (getEth s p.val).fm) ∧ t = { s with eth := t.eth })

/-- A time base that loses its steering source goes to HOLDOVER with F = i, or the ready shadow takes over; so does a
change of the primary source; SWITCH, RESERVO, an edge of PPS, a change of the link and TIMECLK (R24, R343–R348). -/
def Obligations.SourcesChange : Prop :=
  (∀ (x : Fin 4) (k : Nat) (s : State), unitOn s 0x34 = true → trackerUse s x.val = some (k, true) →
    (shadowReady s k = true → ∃ t, exec (.sourceLoss x) s = .next t ∧ (getTb t k).swapped = !(getTb s k).swapped ∧
      Raised t 0x34 2 ∧ (getTb t k).st = (getTb s k).st ∧ MemSame s t) ∧
    (shadowReady s k = false → (getTb s k).st = .locked ∨ (getTb s k).st = .acquire →
      ∃ t, exec (.sourceLoss x) s = .next t ∧ (getTb t k).st = .holdover ∧ (getTb t k).f = (getTb s k).i ∧
        (getTb t k).value = (getTb s k).value ∧ Raised t 0x34 1 ∧ (∀ j, j ≠ k → getTb t j = getTb s j) ∧ MemSame s t)) ∧
  (∀ (i : Fin 2) (x k : Nat) (s : State), unitOn s 0x34 = true → x < 4 → trackerUse s x = some (k, true) →
    srcType (srcReg s k true) = 3 + i.val →
    (∀ y j r, y < 4 → y ≠ x → trackerUse s y = some (j, r) → srcType (srcReg s j r) ≠ 3 + i.val) →
    ∃ t, exec (.ppsEdge i) s = .next t ∧ regN t (Reg.TIM_TB_OFS k) = ofsShown (ppsOffset s k i.val) ∧
      (if i = 0 then t.gl.ppsIn0 else t.gl.ppsIn1) = true ∧ MemSame s t) ∧
  (∀ (p : Fin 2) (up speed : Bool) (s : State), unitOn s (0x32 + p.val) = true → regBit s (Reg.TIM_ETH_CFG p.val) 31 = true →
    ∃ t, exec (.ethLinkChange p up speed) s = .next t ∧ getEth t p.val = { getEth s p.val with up := up, speed := speed } ∧
      Raised t (0x32 + p.val) 0 ∧ (up = true → t.tb = s.tb ∧ t.trk = s.trk) ∧ MemSame s t) ∧
  (∀ (b : Bool) (s : State), ∃ t, exec (.timeclkChange b) s = .next t ∧ regBit t Reg.AON_STAT 2 = b ∧
    RegsBut [Reg.AON_STAT] s t ∧ RegsOnly s t) ∧
  (∀ (m : Master) (k : Fin 4) (s : State), CanWrite s m (Reg.TIM_TB_CMD k.val) →
    (shadowReady s k.val = true → ∃ t, exec (.tbSwitch m k) s = .next t ∧ (getTb t k.val).swapped = !(getTb s k.val).swapped ∧
      (getTb t k.val).shdCnt = 0 ∧ Raised t 0x34 2 ∧ (∀ j, j ≠ k.val → getTb t j = getTb s j) ∧
      EventsOnly { s with tb := t.tb } t) ∧
    ((getTb s k.val).st = .acquire ∨ (getTb s k.val).st = .locked ∨ (getTb s k.val).st = .holdover →
      1 ≤ srcType (srcReg s k.val true) → srcType (srcReg s k.val true) ≤ 4 →
      ∃ t, exec (.reservo m k) s = .next t ∧ (getTb t k.val).st = .acquire ∧ (getTb t k.val).i = 0 ∧ (getTb t k.val).f = 0 ∧
        (getTb t k.val).value = (getTb s k.val).value ∧ (∀ j, j ≠ k.val → getTb t j = getTb s j) ∧
        EventsOnly { s with tb := t.tb } t)) ∧
  (∀ (m : Master) (k : Fin 4) (v : Word) (s : State), CanWrite s m (Reg.TIM_TB_PRI k.val) →
    let same := srcType (getReg s (Reg.TIM_TB_PRI k.val)) = srcType v ∧ fld (getReg s (Reg.TIM_TB_PRI k.val)) 16 8 = fld v 16 8
    ∃ t, exec (.timTbPri m k v) s = .next t ∧ getReg t (Reg.TIM_TB_PRI k.val) = v &&& 0xFF0007 ∧
      (same → t.tb = s.tb ∧ RegsBut [Reg.TIM_TB_PRI k.val, Reg.SYS_M0_STAT] s t) ∧
      (¬ same → srcType v ≠ 5 → (getTb s k.val).st = .locked → (getTb t k.val).st = .holdover ∧
        (getTb t k.val).f = (getTb s k.val).i ∧ (getTb t k.val).swapped = false))

/-- SET loads a time base and STEP moves it; a read of TIM_TB_NS holds the other words of the same instant for its master, and without a
held copy they read live (R337); a read of TIM_ETHn_TXQ_W0 takes the oldest timestamp (R344, R349). -/
def Obligations.TimeIsSetAndRead : Prop :=
  (∀ (m : Master) (k : Fin 4) (s : State), CanWrite s m (Reg.TIM_TB_CMD k.val) →
    let b := getTb s k.val
    (∃ t, exec (.tbSet m k) s = .next t ∧ Raised t 0x34 0 ∧ (∀ j, j ≠ k.val → getTb t j = getTb s j) ∧
      (getTb t k.val).value = ((regN s Reg.TIM_TB_SET_SHI * 2 ^ 32 + regN s Reg.TIM_TB_SET_SLO) * 1000000000 +
        regFld s Reg.TIM_TB_SET_NS 0 30) * 2 ^ 48 % tbMod ∧
      (getTb t k.val).st = (if b.st = .locked then .acquire else b.st) ∧ MemSame s t) ∧
    (∃ t, exec (.tbStep m k) s = .next t ∧ Raised t 0x34 0 ∧ (∀ j, j ≠ k.val → getTb t j = getTb s j) ∧
      (getTb t k.val).value = tbAdd b.value (sx 64 (regN s Reg.TIM_TB_ADJ_HI * 2 ^ 32 + regN s Reg.TIM_TB_ADJ_LO) * 2 ^ 48) ∧
      (getTb t k.val).st = (if b.st = .locked then .acquire else b.st) ∧ MemSame s t)) ∧
  (∀ (m : Master) (k : Fin 4) (s u : State), CanRead s m (Reg.TIM_TB_NS k.val) →
    let held := fun (v : Nat) => [(Reg.TIM_TB_SLO k.val, tbSec v), (Reg.TIM_TB_SHI k.val, tbSec v / 2 ^ 32),
      (Reg.TIM_TB_FRAC k.val, tbFrac v)]
    (∃ t, exec (.timTbNs m k) s = .next t ∧ t.lastAccess = .done ∧ t.readData = w32 (tbNs (getTb s k.val).value) ∧
      (∀ b, getReg t b = getReg s b) ∧ t.tb = s.tb ∧
      ∀ q ∈ held (getTb s k.val).value, ∀ a : BitVec 24, a.toNat = q.1 → CanRead u m q.1 →
        u.holds.find? (fun h => h.m = m.val && h.a = q.1) = t.holds.find? (fun h => h.m = m.val && h.a = q.1) →
        ∃ w, exec (.holdingRead m a) u = .next w ∧ w.readData = w32 q.2) ∧
    (∀ q ∈ held (getTb u k.val).value, ∀ a : BitVec 24, a.toNat = q.1 → CanRead u m q.1 →
      (∀ h ∈ u.holds, ¬ (h.m = m.val ∧ h.a = q.1)) → ∃ w, exec (.holdingRead m a) u = .next w ∧ w.readData = w32 q.2)) ∧
  (∀ (m : Master) (p : Fin 2) (s : State), CanRead s m (Reg.TIM_ETH_TXQ_W0 p.val) →
    ∃ t, exec (.timEthTxqW0 m p) s = .next t ∧ t.lastAccess = .done ∧
      t.readData = (((getEth s p.val).txq.head?).map TxTs.w0).getD 0 ∧
      getEth t p.val = { getEth s p.val with txq := (getEth s p.val).txq.tail } ∧ (∀ b, getReg t b = getReg s b))

/-- A one-shot trigger fires at its time, once; a periodic one fires its next instance; PPS_OUT rises as its time base
passes a second; an error above four periods waits for a re-seed; a slew ends with no error left (R351, R353–R355). -/
def Obligations.OutputsFollowTime : Prop :=
  (∀ (k : Fin 4) (s u : State), unitOn s 0x35 = true → s.captured = [] →
    (trigMode s k.val = 2 → (getTrig s k.val).armed = true → trigTime s k.val - tbStepLen s (glTb s) ≤ trigAbs s k.val →
      trigReach k.val (trigAbs s k.val) s = some u →
      ∃ t, exec (.triggerFire k) s = .next t ∧ (getTrig t k.val).armed = false ∧ t.now = u.now ∧
        (getTrig t k.val).high = u.now + divCeil (10 * max 1 (regFld u (Reg.TIM_TRIG_CTL k.val) 0 16)) 4 ∧
        getReg t (Reg.TIM_TRIG_N k.val) = getReg s (Reg.TIM_TRIG_N k.val) + 1 ∧ MemSame s t) ∧
    (trigMode s k.val = 1 → trigFirst s k.val (trigTime s k.val - tbStepLen s (glTb s)) ≤ trigNext s k.val →
      trigReach k.val (trigAt s k.val (trigNext s k.val)) s = some u →
      ∃ t, exec (.triggerFire k) s = .next t ∧ (getTrig t k.val).next = trigNext s k.val + 1 ∧ t.now = u.now ∧
        getReg t (Reg.TIM_TRIG_N k.val) = getReg s (Reg.TIM_TRIG_N k.val) + 1 ∧
        RegsBut [Reg.TIM_TRIG_N k.val] s t ∧ MemSame s t)) ∧
  (∀ (i : Fin 2) (s : State),
    let k := regFld s Reg.TIM_GL_OUT (8 + 2 * i.val) 2
    unitOn s 0x35 = true → regBit s Reg.TIM_GL_OUT (2 + i.val) = true → 0 < tbStepLen s k →
    ∃ t, exec (.ppsOut i) s = .next t ∧ (((getTb t k).value % sec48 : Nat) : Int) < tbStepLen s k ∧ s.now ≤ t.now ∧
      (if i = 0 then t.gl.pps0 else t.gl.pps1) = t.now + 250 * max 1 (regFld s Reg.TIM_GL_OUT 24 8) ∧ t.regs = s.regs) ∧
  (∀ (s : State), unitOn s 0x35 = true → s.gl.seeded = true → ((gridAt (tickMode s) 16).toNat < (glErr s).natAbs) →
    exec .reseedPending s = .next { s with gl := { s.gl with reseed := true } }) ∧
  (∀ (s : State), unitOn s 0x35 = true → s.gl.seeded = true → s.gl.slewing = true → 0 < slewMax s →
    let n := divCeil (glErr s).natAbs (slewMax s)
    ((getTb s (glTb s)).value : Int) + n * tbStepLen s (glTb s) < tbMod →
    ∃ t, exec .slewEnd s = .next t ∧ t.gl.slewing = false ∧ Raised t 0x35 3 ∧ t.now = s.now + n ∧ glErr t = 0 ∧ MemSame s t)

/-! ### Temperature and calibration -/

/-- A sample of healthy zones gives each its temperature, the average of its last four; one at 125 °C or above trips. The
cross-check finds a deviating zone, RESTORE brings a zone back, THM_MAX restarts when read, and the orderly shutdown begins and ends in
Midnight with THERM_TRIP_N (R357–R362, R367–R370). -/
def Obligations.TemperaturesAndShutdown : Prop :=
  (∀ (codes : Vector (BitVec 12) 12) (dev : Nat) (s : State), unitOn s 0x36 = true →
    (∀ z : Fin 12, zoneFaulty s z.val = false ∧ codes[z] ≠ 0 ∧ codes[z] ≠ 4095) →
    let new := fun z : Fin 12 => sampleTemp (zoneTrim s z.val).1 (zoneTrim s z.val).2 codes[z].toNat
    (3 ≤ s.thm.n → (∀ z, new z < 2000) → ∃ t, exec (.thermalSample codes dev) s = .next t ∧
      (∀ z : Fin 12, regFld t (Reg.THM_ZT z.val) 0 16 =
        tc 16 (divFloor ((new z :: (zoneSamples s z.val).take 3).sum + 2) 4)) ∧ MemSame s t) ∧
    ((∃ z, 2000 ≤ new z) → ∃ t, exec (.thermalSample codes dev) s = .next t ∧ t.pwr.tripped = true ∧ t.pwr.trip = true ∧
      regBit t Reg.SYS_RESET_CAUSE 8 = true ∧ live t = false ∧ (∀ l, laneState t l = lsDARK) ∧ MemSame s t)) ∧
  (∀ (s : State), unitOn s 0x36 = true → 4 ≤ s.thm.n →
    let due := fun z => zoneFaulty s z = false ∧ 2 ≤ sGet zeroN z s.thm.dev ∧ 2 ≤ (zoneDiff s z).2 ∧
      128 * (zoneDiff s z).2 < (zoneDiff s z).1.natAbs
    ∃ t, exec .sensorCrossCheck s = .next t ∧ MemSame s t ∧
      ((∃ z, z < 12 ∧ due z) → ∃ z, z < 12 ∧ zoneFaulty s z = false ∧ zoneFaulty t z = true ∧ Raised t 0x36 3) ∧
      ((∀ z, z < 12 → zoneFaulty s z = false ∧ sGet zeroN z s.thm.dev < 2) → t = { s with thm := t.thm })) ∧
  (∀ (m : Master) (z : BitVec 4) (s : State), CanWrite s m Reg.THM_ZCMD → z.toNat < 12 → zoneFaulty s z.toNat = true →
    (sGet (fun _ => []) z.toNat s.thm.checks = [true, true, true] → ∃ t, exec (.thmZcmdRestore m z) s = .next t ∧
      zoneFaulty t z.toNat = false ∧ Raised t 0x36 4 ∧ (∀ y, y ≠ z.toNat → y < 12 → zoneFaulty t y = zoneFaulty s y) ∧
      EventsOnly { s with thm := t.thm } t) ∧
    (sGet (fun _ => []) z.toNat s.thm.checks ≠ [true, true, true] → ∃ t, exec (.thmZcmdRestore m z) s = .next t ∧
      zoneFaulty t z.toNat = true ∧ RegsBut [Reg.SYS_M0_STAT] s t)) ∧
  (∀ (m : Master) (s : State), CanRead s m Reg.THM_MAX → ∃ t, exec (.thmMax m) s = .next t ∧ t.lastAccess = .done ∧
    t.readData = getReg s Reg.THM_MAX ∧ regN t Reg.THM_MAX = regFld s Reg.THM_HOT 0 16 ∧ RegsBut [Reg.THM_MAX] s t ∧ RegsOnly s t) ∧
  (∀ (m : Master) (s : State), gate s m.val Reg.THM_CMD true = none → frozen s m.val = false →
    mustHold s m.val Reg.THM_CMD = none → privileged s m.val = true → live s = true → s.pwr.shut = false →
    ∃ t, exec (.shutdown m) s = .next t ∧ t.pwr.shut = true ∧ t.pwr.req = none ∧ regFld t Reg.THM_STAT 12 2 = 3 ∧
      (s.scan.mode = none → regFld t Reg.THM_STAT 14 2 = 1) ∧ Raised t 0x36 2 ∧ t.comp.running = [] ∧ MemSame s t) ∧
  (∀ (s : State), live s = true → s.pwr.shut = true → regFld s Reg.THM_STAT 14 2 = 2 → shutdownMayWrite s = true →
    ∃ t, exec .shutdownRecords s = .next t ∧ t.pwr.st = .midnight ∧ t.pwr.trip = true ∧ t.fs = [] ∧ t.scene = [] ∧
      t.lct = [] ∧ t.ozd.queue = [] ∧ t.ozd.wip = [])

/-- A calibration request starts a run of its domain, one unit at a time in each link, driver, channel or stack; a retry asks again; a run
that ends sets T_ref and the setting in use, or counts its failure and leaves both. The trims of the 7048 drivers are read and written through
their index (R374, R376–R379, R459). -/
def Obligations.CalibrationRuns : Prop :=
  (∀ (m : Master) (d : Fin 4) (s : State), CanWrite s m Reg.CAL_REQ → s.thm.runs.contains d.val = false →
    (∀ q ∈ s.thm.units, q.1 ≠ d.val) → s.thm.retry.contains d.val = false → (∀ u, calAsked s d.val u = false) →
    ∃ t, exec (.calReq m (1#32 <<< d.val)) s = .next t ∧ t.thm.runs.contains d.val = true ∧
      (s.mnt.queue.length < 16 → Requested t (d.val + 1) 0) ∧
      (s.mnt.queue.length < 13 → d.val ≠ 1 → ∀ u, u < domainUnits d.val → (∀ v, v < u → calGroup d.val v ≠ calGroup d.val u) →
        Requested t (d.val + 1) u) ∧
      (16 ≤ s.mnt.queue.length → t.thm.retry.contains d.val = true ∧ Raised t 0x3A 1) ∧
      (∀ u, u < domainUnits d.val → (d.val, u) ∈ t.thm.units) ∧ MemSame s t) ∧
  (∀ (d : Fin 5) (u : Nat) (s : State), unitOn s 0x37 = true → s.thm.retry.contains d.val = true →
    (calHeads s d.val).head? = some u → calAsked s d.val u = false →
    ∃ t, exec (.calRetryTimer d) s = .next t ∧ MemSame s t ∧ (s.mnt.queue.length < 16 → Requested t (d.val + 1) u) ∧
      (16 ≤ s.mnt.queue.length → t.thm.retry.contains d.val = true ∧ Raised t 0x3A 1)) ∧
  (∀ (d : Fin 4) (u : BitVec 7) (x : Int) (w : DWord) (s : State), unitOn s 0x37 = true → mntRunning s (d.val + 1) u.toNat = true →
    calReady s d.val u.toNat = true → sGet noRun (unitKey d.val u.toNat) s.thm.started = some (x, w) →
    (∃ t, exec (.calRunDone (Fin.castSucc d) u true) s = .next t ∧ unitTref t d.val u.toNat = x ∧
      unitSetting t d.val u.toNat = some (Config.calResult s.freeCtr w) ∧
      sGet noRun (unitKey d.val u.toNat) t.thm.started = none ∧
      RegsBut [Reg.CAL_N_RUN, Reg.CAL_TREF d.val] s t ∧ RegsOnly { s with thm := t.thm, freeCtr := t.freeCtr } t) ∧
    (∃ t, exec (.calRunDone (Fin.castSucc d) u false) s = .next t ∧ t.thm.tref = s.thm.tref ∧ t.thm.use = s.thm.use ∧
      sGet noRun (unitKey d.val u.toNat) t.thm.started = none ∧ Raised t 0x37 1 ∧
      regN t Reg.CAL_N_FAIL = counted s Reg.CAL_N_FAIL ∧ EventsOnly { s with thm := t.thm } t)) ∧
  (∀ (m : Master) (s : State),
    (CanRead s m Reg.CAL_LEDSET_DATA → ∃ t, exec (.calLedsetData m .read) s = .next t ∧
      t.readData = (if ledIndex s < 12 then getTab s tabLEDSET true (ledIndex s) else 0) ∧
      ledIndex t = (if ledIndex s < 11 then ledIndex s + 1 else 0) ∧ RegsBut [Reg.CAL_LEDSET_IDX] s t ∧ RegsOnly s t) ∧
    (∀ v, CanWrite s m Reg.CAL_LEDSET_DATA → ledIndex s < 12 → ∃ t, exec (.calLedsetData m (.write v)) s = .next t ∧
      getTab t tabLEDSET true (ledIndex s) = v &&& 0xFFF ∧ ledIndex t = (if ledIndex s < 11 then ledIndex s + 1 else 0) ∧
      RegsBut [Reg.CAL_LEDSET_IDX, Reg.SYS_M0_STAT] s t ∧ RegsOnly { s with tabs := t.tabs } t))

/-! ### Ozide store -/

/-- A low half waits for its high half, and the two make one word; a right refused is a violation; the right key grants access, the third
wrong one in a row locks the partition out; RELOCK ends grants; counters rise in their rings; the queue of a dip is written (R384, R389,
R391–R393, R397, R398, R405). -/
def Obligations.StoreAccess : Prop :=
  (∀ (m : Master) (word : BitVec 16) (v : Word) (s : State), WindowOpen s m word.toNat false →
    (windowDenies s m.val (word.toNat / 8) = none → ∃ t, exec (.ozdLowWrite m word v) s = .next t ∧ t.lastAccess = .done ∧
      (m.val, word.toNat, v) ∈ t.ozd.low ∧ StoreSame s t ∧ RegsBut [Reg.SYS_M0_STAT] s t) ∧
    (∀ r, windowDenies s m.val (word.toNat / 8) = some r → ∃ t, exec (.ozdLowWrite m word v) s = .next t ∧
      t.lastAccess = .violation r ∧ (m.val ≠ 0 → frozen t m.val = true) ∧
      ∀ w, w < 8 * ctrPage s 8 ∨ 8 * ctrPage s 8 + 128 ≤ w → ozWord t w = ozWord s w)) ∧
  (∀ (m : Master) (word : BitVec 16) (v low : Word) (s : State), WindowOpen s m word.toNat true →
    windowDenies s m.val (word.toNat / 8) = none →
    (s.ozd.low.find? (fun e => e.1 = m.val && e.2.1 = word.toNat) = some (m.val, word.toNat, low) →
      ∃ t, exec (.ozdHighWrite m word v) s = .next t ∧ t.lastAccess = .done ∧
        (8 ≤ word.toNat → ozWord t word.toNat = mk64 v low) ∧
        (word.toNat < 8 → ozWord t word.toNat = mk64 v low ||| (ozWord s word.toNat &&& 0x4000000040000000)) ∧
        (∀ w, w ≠ word.toNat → ozWord t w = ozWord s w) ∧ RegsBut [Reg.SYS_M0_STAT] s t) ∧
    (s.ozd.low.any (fun e => e.1 = m.val && e.2.1 = word.toNat) = false →
      ∃ t, exec (.ozdHighWrite m word v) s = .next t ∧ t.lastAccess = .violation 4 ∧
        ∀ w, w < 8 * ctrPage s 8 ∨ 8 * ctrPage s 8 + 128 ≤ w → ozWord t w = ozWord s w)) ∧
  (∀ (m : Master) (v : Word) (s : State), CanWrite s m Reg.OZD_UNL_KEY →
    let p := regFld s Reg.OZD_UNL_SEL 0 4
    let write := regBit s Reg.OZD_UNL_SEL 8
    (partKey s p write = v → lockedOut s p = false → ∃ t, exec (.ozdUnlKey m v) s = .next t ∧
      (m.val, p) ∈ (if write then t.ozd.wr else t.ozd.rd) ∧ sGet zeroN p t.ozd.wrong = 0 ∧ StoreSame s t) ∧
    (partKey s p write ≠ v → lockedOut s p = false → 2 ≤ sGet zeroN p s.ozd.wrong → ∃ t, exec (.ozdUnlKey m v) s = .next t ∧
      lockedOut t p = true ∧ Raised t 0x39 1 ∧ (∀ k, (k, p) ∉ t.ozd.rd ∧ (k, p) ∉ t.ozd.wr))) ∧
  (∀ (m : Master) (v : Word) (s : State), CanWrite s m Reg.OZD_RELOCK →
    ∃ t, exec (.ozdRelock m v) s = .next t ∧ StoreSame s t ∧ RegsBut [Reg.SYS_M0_STAT] s t ∧
      ∀ k p, p < 16 → ((k, p) ∈ t.ozd.rd ↔ (k, p) ∈ s.ozd.rd ∧ ¬ (k = m.val ∧ bit v p = true)) ∧
        ((k, p) ∈ t.ozd.wr ↔ (k, p) ∈ s.ozd.wr ∧ ¬ (k = m.val ∧ bit v p = true))) ∧
  (∀ (m : Master) (k : BitVec 6) (s : State), CanWrite s m Reg.OZD_CTR_CMD → 32 ≤ k.toNat → deferring s = false →
    ∃ t i seq, exec (.inc m k) s = .next t ∧ MemSame s t ∧
      ringSlot t (ctrPage s k.toNat) k.toNat i =
        some ⟨i, seq, w64 (min ((counterVal s k.toNat).toNat + 1) (2 ^ 64 - 1))⟩) ∧
  (∀ (s : State), live s = true →
    (deferring s = false → ∃ t i seq, exec .secondsOutsideMidnight s = .next t ∧ ringSlot t (ctrPage s 1) 1 i =
      some ⟨i, seq, w64 (min ((counterVal s 1).toNat + 60) (2 ^ 64 - 1))⟩ ∧ MemSame s t) ∧
    (deferring s = true → s.ozd.queue.length < 16 → ∃ t, exec .secondsOutsideMidnight s = .next t ∧
      counterVal t 1 = w64 (min ((counterVal s 1).toNat + 60) (2 ^ 64 - 1)) ∧ StoreSame s t)) ∧
  (∀ (page slots k : Nat) (v : DWord) (s : State), live s = true → deferring s = false → s.heldQ = [] → s.ozd.lost = 0 →
    s.ozd.queue = [.ring page slots k v] →
    ∃ t i seq, exec .ozdRecordFlush s = .next t ∧ t.ozd.queue = [] ∧ ringSlot t page k i = some ⟨i, seq, v⟩ ∧ MemSame s t)

/-! ### Resets and power -/

/-- The resets: a power-on reset keeps the Ozide store alone, with the word in progress completed; PIN, WDG and CHIP name their cause; MASTER clears what the master had
under way; SRST resets a page at once or at the next boundary; the boot sequence opens host access (R407–R413, R457). -/
def Obligations.ResetsAndBoot : Prop :=
  (∀ (s : State), ∃ t, exec .por s = .next t ∧ t.regs = [] ∧ t.tabs = [] ∧ t.fs = [] ∧ t.scene = [] ∧ t.lct = [] ∧ t.tb = [] ∧
    t.boot.hostOpen = false ∧ t.pwr = {} ∧ t.boot.flash = s.boot.flash ∧ (∀ w, (∀ e ∈ s.ozd.wip, e.1 ≠ w) → ozWord t w = ozWord s w) ∧
    ∀ e rest, s.ozd.wip = e :: rest → ozWord t e.1 = e.2) ∧
  (∀ (s : State), ∃ t, exec (.pin .resetN) s = .next t ∧ WarmReset s t 2) ∧
  (∀ (r : Fin 8) (s : State), r.val ≠ 2 → s.pwr.st ≠ .midnight →
    ∃ t, exec (.pin (.supply r)) s = .next t ∧ WarmReset s t 6 ∧ regFld t Reg.SYS_RESET_CAUSE 28 4 = r.val) ∧
  (∀ (s : State), live s = true → s.pwr.shut = false → (∃ t, exec (.wdg false) s = .next t ∧ WarmReset s t 3) ∧
    (s.mnt.queue.any MntReq.running = true → ∃ t, exec (.wdg true) s = .next t ∧ WarmReset s t 4)) ∧
  (∀ (m : Master) (key : BitVec 16) (s : State), gate s m.val Reg.SYS_RST true = none → frozen s m.val = false →
    mustHold s m.val Reg.SYS_RST = none → privileged s m.val = true →
    (key = 0xC41F → s.pwr.dip = none → s.pwr.shut = false → ∃ t, exec (.chip m key) s = .next t ∧ WarmReset s t 5 ∧
      regFld t Reg.SYS_RESET_CAUSE 24 4 = m.val) ∧
    (key ≠ 0xC41F → ∃ t, exec (.chip m key) s = .next t ∧ RegsBut [Reg.SYS_M0_STAT] s t ∧ RegsOnly s t) ∧
    (∀ k : Fin 8, ∃ t, exec (.masterReset m (BitVec.ofNat 4 (3 + k.val))) s = .next t ∧
      regBit t Reg.CMT_RDY_STAT (3 + k.val) = false ∧ (∀ q ∈ t.link.reqs, q.req.m ≠ k) ∧ (∀ q ∈ t.link.out, q.m ≠ k.val) ∧
      linkInit t k.val = false ∧ (getMsgq t k.val).recs = [] ∧ (∀ p, (3 + k.val, p) ∉ t.ozd.rd ∧ (3 + k.val, p) ∉ t.ozd.wr))) ∧
  (∀ (m : Master) (p : Fin 60) (s : State), CanWrite s m (Reg.PAGE_CTL p.val) → s.pwr.dip = none →
    ∃ t, exec (.srst m p) s = .next t ∧ (p.val ∈ t.resetPending ↔ atBoundary p.val = true) ∧
      (p.val = 0x0C → t.dcx = []) ∧ (p.val = 0x3A → t.mnt = {}) ∧ (p.val = 0x39 → t.ozd.rd = [] ∧ t.ozd.wr = [])) ∧
  (∀ (s : State), live s = true → s.boot.hostOpen = false →
    ∃ t, exec .bootSequence s = .next t ∧ t.boot.hostOpen = true ∧ scanState t = scIDLE)

/-- A power request waits for its boundary; Night and Midnight are entered when scan-out rests, and left by an enabled
wake source; a supply below its warning level has its event, or begins a dip, which ends with its record or in a shutdown (R416–R422). -/
def Obligations.PowerStates : Prop :=
  (∀ (m : Master) (v : Word) (s : State), CanWrite s m Reg.PWR_REQ →
    ∃ t, exec (.pwrReq m v) s = .next t ∧ getReg t Reg.PWR_REQ = v &&& 3 ∧
      t.pwr = (if s.pwr.shut then s.pwr else { s.pwr with req := some (stateOf (fld v 0 2)) }) ∧
      RegsBut [Reg.PWR_REQ, Reg.SYS_M0_STAT] s t ∧ RegsOnly { s with pwr := t.pwr } t) ∧
  (∀ (s : State), live s = true → s.pwr.dip = none → s.pwr.shut = false → scanResting s = true →
    (s.pwr.due = some .night → ∃ t, exec .powerStateChange s = .next t ∧ t.pwr.st = .night ∧ t.pwr.due = none ∧
      regN t Reg.LNH_LINK_STAT = 0 ∧ Raised t 0x38 1 ∧ t.gl.seeded = true ∧
      (∀ k, k < 40 → (getDram t k).sr = true) ∧ MemSame s t) ∧
    (s.pwr.due = some .midnight → ∃ t, exec .powerStateChange s = .next t ∧ t.pwr.st = .midnight ∧ t.pwr.due = none ∧
      regBit t Reg.AON_STAT 0 = true ∧ t.fs = [] ∧ t.scene = [] ∧ t.lct = []) ∧
    (s.pwr.due = none → s.pwr.st = .night → s.pwr.leaving.isSome = true → ∃ t, exec .powerStateChange s = .next t ∧
      t.pwr.st = .noon ∧ t.pwr.leaving = none ∧ Raised t 0x38 1 ∧ (∀ k, k < 40 → (getDram t k).sr = false) ∧ MemSame s t)) ∧
  (∀ (src : Fin 3) (s : State), wakeEnabled s src.val = true → s.pwr.tripped = false →
    (s.pwr.st = .night → s.pwr.shut = false → ∃ t, exec (.wake src) s = .next t ∧ t.pwr = { s.pwr with leaving := some src } ∧
      regFld t Reg.AON_WAKE_CTL 8 3 = 2 ^ src.val ∧ RegsBut [Reg.AON_WAKE_CTL] s t) ∧
    (s.pwr.st = .midnight → src.val ≠ 2 → regBit s Reg.AON_STAT 1 = false → ∃ t, exec (.wake src) s = .next t ∧
      t.pwr.st = .noon ∧ regBit t Reg.SYS_RESET_CAUSE 7 = true ∧ t.boot.hostOpen = false ∧ StoreSame s t)) ∧
  (∀ (r : Fin 8) (b : Bool) (mv : Nat) (s : State), live s = true → decide (10 * mv < warnLevel r.val) = b →
    regBit s Reg.PWR_SUP_STAT r.val ≠ b →
    ∃ t, exec (.supplyWarning r b mv) s = .next t ∧ regBit t Reg.PWR_SUP_STAT r.val = b ∧ MemSame s t ∧
      (2 ≤ r.val → Raised t 0x38 2 ∧ t.pwr = s.pwr) ∧
      (r.val < 2 → b = true → s.pwr.dip = none → t.pwr = { s.pwr with dip := some ⟨r.val⟩ })) ∧
  (∀ (d : Dip) (mv us : Nat) (s : State), live s = true → s.pwr.dip = some d → suppliesGood s = true → s.pwr.blocks = [] →
    s.pwr.chip = none →
    ∃ t, exec (.dipRecovery mv us) s = .next t ∧ t.pwr = { s.pwr with dip := none } ∧ Raised t 0x38 0 ∧
      regN t Reg.PWR_BROWN_MIN = mv % 2 ^ 16 ∧ regN t Reg.PWR_BROWN_DUR = min us 0xFFFFFFFF ∧
      regN t Reg.PWR_N_BROWN = counted s Reg.PWR_N_BROWN ∧ t.ozd.queue = [] ∧ MemSame s t) ∧
  (∀ (s : State), live s = true → s.pwr.dip.isSome = true → s.pwr.shut = false →
    ∃ t, exec .dipShutdownTimer s = .next t ∧ t.pwr.shut = true ∧ regFld t Reg.THM_STAT 12 2 = 2 ∧ Raised t 0x36 2 ∧ MemSame s t)

/-! ### Maintenance and ports -/

/-- The scheduler starts its oldest request that may start, on a spare where it needs one; a finished activity leaves the queue with its
event and outcome; engines leave service and return (R426–R434). -/
def Obligations.MaintenanceRuns : Prop :=
  (∀ (q : MntReq) (s : State), unitOn s 0x3A = true → nextActivity s = some q →
    (needsSpare s q.act q.unit = false → ∃ t, exec .mntActivityStart s = .next t ∧ mntRunning t q.act q.unit = true ∧
      MemSame s t) ∧
    (∀ x, needsSpare s q.act q.unit = true → idleSpare s (calLane q.act q.unit) = some x →
      ∃ t, exec .mntActivityStart s = .next t ∧ mntRunning t q.act q.unit = true ∧ (getAux t x).calib = true ∧
        laneCopy t x = carried s (calLane q.act q.unit) % 256 ∧ (getAux t (calLane q.act q.unit)).phase = .asked ∧ MemSame s t)) ∧
  (∀ (act : BitVec 4) (unit : BitVec 16) (pass : Bool) (s : State), live s = true →
    (mntRunning s act.toNat unit.toNat = true → (1 ≤ act.toNat ∧ act.toNat ≤ 5) ∨ (9 ≤ act.toNat ∧ act.toNat ≤ 11) →
      ∃ t, exec (.mntActivityDone act unit pass) s = .next t ∧ mntRunning t act.toNat unit.toNat = false ∧
        Raised t 0x3A 0 ∧ MemSame s t ∧
        (∀ n : Fin 108, act.toNat = actPVER → unit.toNat = n.val → laneRole s (.panel n) = lrVERIFY →
          laneRole t (.panel n) = if pass then lrSPARE else lrQUARANTINED) ∧
        (∀ e : Fin 17, act.toNat = actDVER → unit.toNat = e.val → deRole s e.val = 3 →
          deRole t e.val = if pass then 1 else 3))) ∧
  (∀ (i : Fin 16) (q : MntReq) (s : State), unitOn s 0x3A = true → s.mnt.queue[i.val]? = some q →
    ∃ t, exec (.mntRequestAged i) s = .next t ∧ t.mnt.queue[i.val]? = some { q with aged := q.aged || !q.running } ∧
      (∀ j : Nat, j ≠ i.val → t.mnt.queue[j]? = s.mnt.queue[j]?) ∧ t = { s with mnt := t.mnt }) ∧
  (∀ (q : MntReq) (rest : List MntReq) (s : State), unitOn s 0x3A = true → s.mnt.queue.length < 16 → s.mnt.requeue = q :: rest →
    s.mnt.queue.any (fun r => r.act = q.act && r.unit = q.unit) = false →
    exec .mntRequeueRetry s = .next { s with mnt := { s.mnt with queue := s.mnt.queue ++ [q], requeue := rest } }) ∧
  (∀ (m : Master) (e : Fin 17) (s : State),
    (fabricOn s = true → enabled s (0x0D + e.val) = true → deRole s e.val ≤ 1 → ∃ t, exec (.dcxEngineFault e) s = .next t ∧ deRole t e.val = 3 ∧
      Raised t (0x0D + e.val) 1 ∧ MemSame s t) ∧
    (live s = true → deRole s e.val = 3 → ∃ t, exec (.dcxVerifyTimer e) s = .next t ∧ Asked s t actDVER e.val ∧ t.dcx = s.dcx ∧
      MemSame s t) ∧
    (CanWrite s m Reg.MNT_DECMD →
      (deRole s e.val = 3 → ∃ t, exec (.mntDecmdVerify m (BitVec.ofNat 5 e.val)) s = .next t ∧ Asked s t actDVER e.val ∧
        MemSame s t) ∧
      (2 ≤ deRole s e.val → ∃ t, exec (.mntDecmdAdmit m (BitVec.ofNat 5 e.val)) s = .next t ∧ deRole t e.val = 1 ∧
        RegsBut [Reg.DCX_STAT e.val, Reg.SYS_M0_STAT] s t ∧ RegsOnly { s with mnt := t.mnt } t) ∧
      (∃ t, exec (.mntDecmdRetire m (BitVec.ofNat 5 e.val)) s = .next t ∧ deRole t e.val = 2 ∧ MemSame s t)))

/-- The management port's accesses are those of M0; a bad PEC or an unknown command changes nothing; a transaction in Night (R420), or an access in
Midnight, wakes the device where the source is enabled. Each instruction of the test port selects its data register and what the pins do (R448–R450). -/
def Obligations.PortsServe : Prop :=
  (∀ (s : State), (s.pwr.st ≠ .night ∨ wakeEnabled s 0 = false → nightAddressed s = s) ∧
    (s.pwr.st = .night → s.pwr.tripped = false → s.pwr.shut = false → wakeEnabled s 0 = true →
      (nightAddressed s).pwr.leaving = some 0)) ∧
  (∀ (a : BitVec 24) (v : Word) (pec : Option Bool) (s : State), s.pwr.tripped = false → pec ≠ some false →
    (s.pwr.st ≠ .midnight → exec (.smbusWrite 1 a v pec) s = exec (.registerWrite 0 a v) (nightAddressed s) ∧
      exec (.smbusRead 2 a pec) s = exec (.holdingRead 0 a) (nightAddressed s)) ∧
    (s.pwr.st = .midnight → a.toNat / 4096 ≠ 0x3B → a.toNat % 4 = 0 → wakeEnabled s 0 = true → regBit s Reg.AON_STAT 1 = false →
      ∃ t u, exec (.smbusWrite 1 a v pec) s = .next t ∧ t.pwr.st = .noon ∧ exec (.smbusRead 2 a pec) s = .next u ∧
        u.pwr.st = .noon)) ∧
  (∀ (cmd : Byte) (a : BitVec 24) (v : Word) (pec : Option Bool) (s : State), s.pwr.tripped = false →
    (cmd ≠ 1 → ∃ t, exec (.smbusWrite cmd a v pec) s = .next t ∧
      t = { nightAddressed s with lastAccess := .nacked, readData := 0 }) ∧
    (cmd ≠ 2 → ∃ t, exec (.smbusRead cmd a pec) s = .next t ∧
      t = { nightAddressed s with lastAccess := .nacked, readData := 0 }) ∧
    (∃ t, exec (.smbusWrite 1 a v (some false)) s = .next t ∧ t.lastAccess = .pecFailed ∧
      RegsBut [Reg.SYS_M0_STAT] (nightAddressed s) t ∧ RegsOnly (nightAddressed s) t)) ∧
  (∀ (chain : List Bool) (s : State),
    let sel := fun (ir : Byte) (dr : JtagDr) (pins : PinMode) (c : List Bool) =>
      Host.Outcome.next { s with jtag := { ir := ir, dr := dr, pins := pins, chain := c } }
    exec .extest s = sel 0x00 .boundary .chain s.jtag.chain ∧ exec .idcode s = sel 0x01 .idcode .functional s.jtag.chain ∧
    exec (.samplePreload chain) s = sel 0x02 .boundary .functional chain ∧ exec .highz s = sel 0x04 .bypass .highZ s.jtag.chain ∧
    exec .clamp s = sel 0x05 .bypass .chain s.jtag.chain ∧ exec .extestPulse s = sel 0x0A .boundary .pulse s.jtag.chain ∧
    exec .extestTrain s = sel 0x0B .boundary .train s.jtag.chain ∧
    exec .bypass s = sel 0xFF .bypass .functional s.jtag.chain ∧ idCode = 0x17216B47)
end

