-- ==== Sys2Proof/Laws/Bits.lean ====
section
/-!
SUPPORT. Bits and fields of a word after one of them was set.
-/
namespace Sys2Proof.Machine

theorem bit_fmask (l w m : Nat) (h : m < 32) : bit (fmask l w) m = (decide (l ≤ m) && decide (m < l + w)) := by
  simp only [bit, fmask, BitVec.getLsbD_ofNat, h, decide_true, Bool.true_and, Nat.testBit_shiftLeft]
  by_cases hl : l ≤ m
  · simp only [ge_iff_le, hl, decide_true, Bool.true_and, Nat.testBit_two_pow_sub_one]
    congr 1
    exact propext ⟨fun _ => by omega, fun _ => by omega⟩
  · simp [hl]

/-- A bit of a word whose field was set. -/
theorem bit_setFld (v : Word) (l w x m : Nat) (h : m < 32) :
    bit (setFld v l w x) m = if l ≤ m ∧ m < l + w then x.testBit (m - l) else bit v m := by
  have hm := bit_fmask l w m h
  simp only [bit] at hm
  simp only [bit, setFld, BitVec.getLsbD_or, BitVec.getLsbD_and, BitVec.getLsbD_not, hm, BitVec.getLsbD_ofNat, h,
    decide_true, Bool.true_and, Nat.testBit_shiftLeft]
  by_cases hl : l ≤ m <;> by_cases hw : m < l + w <;> simp [hl, hw]

theorem bit_setBit (v : Word) (n m : Nat) (b : Bool) (h : m < 32) :
    bit (setBit v n b) m = if m = n then b else bit v m := by
  rw [setBit, bit_setFld _ _ _ _ _ h]
  by_cases e : m = n
  · subst e
    cases b <;> simp
  · rw [if_neg (by omega), if_neg e]

@[simp] theorem bit_setBit_same (v : Word) (n : Nat) (b : Bool) (h : n < 32) : bit (setBit v n b) n = b := by
  rw [bit_setBit _ _ _ _ h, if_pos rfl]

theorem testBit_fld (v : Word) (l w i : Nat) : (fld v l w).testBit i = (decide (i < w) && bit v (l + i)) := by
  simp only [fld, nfld, Nat.testBit_mod_two_pow, Nat.testBit_shiftRight, bit, BitVec.testBit_toNat]

/-- A field reads what was set in it. -/
theorem fld_setFld_same (v : Word) (l w x : Nat) (h : l + w ≤ 32) : fld (setFld v l w x) l w = x % 2 ^ w := by
  apply Nat.eq_of_testBit_eq
  intro i
  rw [testBit_fld, Nat.testBit_mod_two_pow]
  by_cases hi : i < w
  · rw [bit_setFld _ _ _ _ _ (by omega), if_pos (by omega)]
    simp [hi]
  · simp [hi]

/-- A field reads as before where another was set. -/
theorem fld_setFld_ne (v : Word) (l w x l' w' : Nat) (h : l' + w' ≤ 32) (hd : l' + w' ≤ l ∨ l + w ≤ l') :
    fld (setFld v l w x) l' w' = fld v l' w' := by
  apply Nat.eq_of_testBit_eq
  intro i
  rw [testBit_fld, testBit_fld]
  by_cases hi : i < w'
  · rw [bit_setFld _ _ _ _ _ (by omega), if_neg (by omega)]
  · simp [hi]

theorem fld_setBit_ne (v : Word) (n : Nat) (b : Bool) (l w : Nat) (h : l + w ≤ 32) (hd : l + w ≤ n ∨ n < l) :
    fld (setBit v n b) l w = fld v l w := fld_setFld_ne _ _ _ _ _ _ h (by omega)

theorem bit_setFld_ne (v : Word) (l w x m : Nat) (h : m < 32) (hd : m < l ∨ l + w ≤ m) :
    bit (setFld v l w x) m = bit v m := by
  rw [bit_setFld _ _ _ _ _ h, if_neg (by omega)]

end Sys2Proof.Machine
end

