-- ==== Sys2Proof/Laws/Keep.lean ====
section
/-!
SUPPORT. Fields of the state that a fold, a choice or an optional state leaves unchanged.
-/
namespace Sys2Proof.Machine

@[simp] theorem foldl_pending {α : Type} (g : State → α → State) (h : ∀ s x, (g s x).pending = s.pending) (l : List α) (s : State) :
    (l.foldl g s).pending = s.pending := by
  induction l generalizing s with
  | nil => rfl
  | cons x t ih => simp [ih, h]

@[simp] theorem ite_pending (c : Prop) [Decidable c] (s t : State) : (if c then s else t).pending = if c then s.pending else t.pending := by
  split <;> rfl

@[simp] theorem foldl_fs {α : Type} (g : State → α → State) (h : ∀ s x, (g s x).fs = s.fs) (l : List α) (s : State) :
    (l.foldl g s).fs = s.fs := by
  induction l generalizing s with
  | nil => rfl
  | cons x t ih => simp [ih, h]

@[simp] theorem ite_fs (c : Prop) [Decidable c] (s t : State) : (if c then s else t).fs = if c then s.fs else t.fs := by
  split <;> rfl

@[simp] theorem foldl_scene {α : Type} (g : State → α → State) (h : ∀ s x, (g s x).scene = s.scene) (l : List α) (s : State) :
    (l.foldl g s).scene = s.scene := by
  induction l generalizing s with
  | nil => rfl
  | cons x t ih => simp [ih, h]

@[simp] theorem ite_scene (c : Prop) [Decidable c] (s t : State) : (if c then s else t).scene = if c then s.scene else t.scene := by
  split <;> rfl

@[simp] theorem foldl_jtag {α : Type} (g : State → α → State) (h : ∀ s x, (g s x).jtag = s.jtag) (l : List α) (s : State) :
    (l.foldl g s).jtag = s.jtag := by
  induction l generalizing s with
  | nil => rfl
  | cons x t ih => simp [ih, h]

@[simp] theorem ite_jtag (c : Prop) [Decidable c] (s t : State) : (if c then s else t).jtag = if c then s.jtag else t.jtag := by
  split <;> rfl

@[simp] theorem foldl_boot {α : Type} (g : State → α → State) (h : ∀ s x, (g s x).boot = s.boot) (l : List α) (s : State) :
    (l.foldl g s).boot = s.boot := by
  induction l generalizing s with
  | nil => rfl
  | cons x t ih => simp [ih, h]

@[simp] theorem ite_boot (c : Prop) [Decidable c] (s t : State) : (if c then s else t).boot = if c then s.boot else t.boot := by
  split <;> rfl

@[simp] theorem foldl_period {α : Type} (g : State → α → State) (h : ∀ s x, (g s x).period = s.period) (l : List α) (s : State) :
    (l.foldl g s).period = s.period := by
  induction l generalizing s with
  | nil => rfl
  | cons x t ih => simp [ih, h]

@[simp] theorem ite_period (c : Prop) [Decidable c] (s t : State) : (if c then s else t).period = if c then s.period else t.period := by
  split <;> rfl

@[simp] theorem foldl_pwr {α : Type} (g : State → α → State) (h : ∀ s x, (g s x).pwr = s.pwr) (l : List α) (s : State) :
    (l.foldl g s).pwr = s.pwr := by
  induction l generalizing s with
  | nil => rfl
  | cons x t ih => simp [ih, h]

@[simp] theorem ite_pwr (c : Prop) [Decidable c] (s t : State) : (if c then s else t).pwr = if c then s.pwr else t.pwr := by
  split <;> rfl

@[simp] theorem foldl_scan {α : Type} (g : State → α → State) (h : ∀ s x, (g s x).scan = s.scan) (l : List α) (s : State) :
    (l.foldl g s).scan = s.scan := by
  induction l generalizing s with
  | nil => rfl
  | cons x t ih => simp [ih, h]

@[simp] theorem ite_scan (c : Prop) [Decidable c] (s t : State) : (if c then s else t).scan = if c then s.scan else t.scan := by
  split <;> rfl

@[simp] theorem foldl_lct {α : Type} (g : State → α → State) (h : ∀ s x, (g s x).lct = s.lct) (l : List α) (s : State) :
    (l.foldl g s).lct = s.lct := by
  induction l generalizing s with
  | nil => rfl
  | cons x t ih => simp [ih, h]

@[simp] theorem ite_lct (c : Prop) [Decidable c] (s t : State) : (if c then s else t).lct = if c then s.lct else t.lct := by
  split <;> rfl

@[simp] theorem foldl_tb {α : Type} (g : State → α → State) (h : ∀ s x, (g s x).tb = s.tb) (l : List α) (s : State) :
    (l.foldl g s).tb = s.tb := by
  induction l generalizing s with
  | nil => rfl
  | cons x t ih => simp [ih, h]

@[simp] theorem ite_tb (c : Prop) [Decidable c] (s t : State) : (if c then s else t).tb = if c then s.tb else t.tb := by
  split <;> rfl

@[simp] theorem foldl_tiles {α : Type} (g : State → α → State) (h : ∀ s x, (g s x).tiles = s.tiles) (l : List α) (s : State) :
    (l.foldl g s).tiles = s.tiles := by
  induction l generalizing s with
  | nil => rfl
  | cons x t ih => simp [ih, h]

@[simp] theorem ite_tiles (c : Prop) [Decidable c] (s t : State) : (if c then s else t).tiles = if c then s.tiles else t.tiles := by
  split <;> rfl

@[simp] theorem foldl_handles {α : Type} (g : State → α → State) (h : ∀ s x, (g s x).handles = s.handles) (l : List α) (s : State) :
    (l.foldl g s).handles = s.handles := by
  induction l generalizing s with
  | nil => rfl
  | cons x t ih => simp [ih, h]

@[simp] theorem ite_handles (c : Prop) [Decidable c] (s t : State) : (if c then s else t).handles = if c then s.handles else t.handles := by
  split <;> rfl

@[simp] theorem foldl_dcx {α : Type} (g : State → α → State) (h : ∀ s x, (g s x).dcx = s.dcx) (l : List α) (s : State) :
    (l.foldl g s).dcx = s.dcx := by
  induction l generalizing s with
  | nil => rfl
  | cons x t ih => simp [ih, h]

@[simp] theorem ite_dcx (c : Prop) [Decidable c] (s t : State) : (if c then s else t).dcx = if c then s.dcx else t.dcx := by
  split <;> rfl

@[simp] theorem foldl_mnt {α : Type} (g : State → α → State) (h : ∀ s x, (g s x).mnt = s.mnt) (l : List α) (s : State) :
    (l.foldl g s).mnt = s.mnt := by
  induction l generalizing s with
  | nil => rfl
  | cons x t ih => simp [ih, h]

@[simp] theorem ite_mnt (c : Prop) [Decidable c] (s t : State) : (if c then s else t).mnt = if c then s.mnt else t.mnt := by
  split <;> rfl

@[simp] theorem foldl_comp {α : Type} (g : State → α → State) (h : ∀ s x, (g s x).comp = s.comp) (l : List α) (s : State) :
    (l.foldl g s).comp = s.comp := by
  induction l generalizing s with
  | nil => rfl
  | cons x t ih => simp [ih, h]

@[simp] theorem ite_comp (c : Prop) [Decidable c] (s t : State) : (if c then s else t).comp = if c then s.comp else t.comp := by
  split <;> rfl

@[simp] theorem foldl_thm {α : Type} (g : State → α → State) (h : ∀ s x, (g s x).thm = s.thm) (l : List α) (s : State) :
    (l.foldl g s).thm = s.thm := by
  induction l generalizing s with
  | nil => rfl
  | cons x t ih => simp [ih, h]

@[simp] theorem ite_thm (c : Prop) [Decidable c] (s t : State) : (if c then s else t).thm = if c then s.thm else t.thm := by
  split <;> rfl

@[simp] theorem foldl_gl {α : Type} (g : State → α → State) (h : ∀ s x, (g s x).gl = s.gl) (l : List α) (s : State) :
    (l.foldl g s).gl = s.gl := by
  induction l generalizing s with
  | nil => rfl
  | cons x t ih => simp [ih, h]

@[simp] theorem ite_gl (c : Prop) [Decidable c] (s t : State) : (if c then s else t).gl = if c then s.gl else t.gl := by
  split <;> rfl

@[simp] theorem foldl_link {α : Type} (g : State → α → State) (h : ∀ s x, (g s x).link = s.link) (l : List α) (s : State) :
    (l.foldl g s).link = s.link := by
  induction l generalizing s with
  | nil => rfl
  | cons x t ih => simp [ih, h]

@[simp] theorem ite_link (c : Prop) [Decidable c] (s t : State) : (if c then s else t).link = if c then s.link else t.link := by
  split <;> rfl

@[simp] theorem foldl_ozd {α : Type} (g : State → α → State) (h : ∀ s x, (g s x).ozd = s.ozd) (l : List α) (s : State) :
    (l.foldl g s).ozd = s.ozd := by
  induction l generalizing s with
  | nil => rfl
  | cons x t ih => simp [ih, h]

@[simp] theorem ite_ozd (c : Prop) [Decidable c] (s t : State) : (if c then s else t).ozd = if c then s.ozd else t.ozd := by
  split <;> rfl

@[simp] theorem foldl_lctc {α : Type} (g : State → α → State) (h : ∀ s x, (g s x).lctc = s.lctc) (l : List α) (s : State) :
    (l.foldl g s).lctc = s.lctc := by
  induction l generalizing s with
  | nil => rfl
  | cons x t ih => simp [ih, h]

@[simp] theorem ite_lctc (c : Prop) [Decidable c] (s t : State) : (if c then s else t).lctc = if c then s.lctc else t.lctc := by
  split <;> rfl

@[simp] theorem foldl_msgq {α : Type} (g : State → α → State) (h : ∀ s x, (g s x).msgq = s.msgq) (l : List α) (s : State) :
    (l.foldl g s).msgq = s.msgq := by
  induction l generalizing s with
  | nil => rfl
  | cons x t ih => simp [ih, h]

@[simp] theorem ite_msgq (c : Prop) [Decidable c] (s t : State) : (if c then s else t).msgq = if c then s.msgq else t.msgq := by
  split <;> rfl

@[simp] theorem foldl_wcapLevel {α : Type} (g : State → α → State) (h : ∀ s x, (g s x).wcapLevel = s.wcapLevel) (l : List α) (s : State) :
    (l.foldl g s).wcapLevel = s.wcapLevel := by
  induction l generalizing s with
  | nil => rfl
  | cons x t ih => simp [ih, h]

@[simp] theorem ite_wcapLevel (c : Prop) [Decidable c] (s t : State) : (if c then s else t).wcapLevel = if c then s.wcapLevel else t.wcapLevel := by
  split <;> rfl

theorem foldl_inv {α : Type} (P : State → Prop) (g : State → α → State) (h : ∀ s x, P s → P (g s x)) (l : List α)
    (s : State) (hs : P s) : P (l.foldl g s) := by
  induction l generalizing s with
  | nil => exact hs
  | cons x t ih => exact ih _ (h _ _ hs)

theorem foldl_fst_inv {α β : Type} (P : State → Prop) (g : State × β → α → State × β) (h : ∀ a x, P a.1 → P (g a x).1)
    (l : List α) (a : State × β) (ha : P a.1) : P (l.foldl g a).1 := by
  induction l generalizing a with
  | nil => exact ha
  | cons x t ih => exact ih _ (h _ _ ha)

end Sys2Proof.Machine
end

