-- ==== Sys2Proof/Laws/Sparse.lean ====
section
/-!
SUPPORT. Laws of sparse stores: a read after a write, and the canonical form.
-/
namespace Sys2Proof.Machine

variable {α : Type}

theorem sFind_sIns_same (k : Nat) (v : α) (l : List (Nat × α)) : sFind k (sIns k v l) = some v := by
  induction l with
  | nil => simp [sIns, sFind]
  | cons e t ih =>
    unfold sIns
    split
    · simp [sFind]
    · split
      · simp [sFind]
      · rename_i h1 h2
        simp [sFind, ih, Ne.symm h2]

theorem sFind_sIns_ne {k j : Nat} (h : j ≠ k) (v : α) (l : List (Nat × α)) : sFind j (sIns k v l) = sFind j l := by
  induction l with
  | nil => simp [sIns, sFind, Ne.symm h]
  | cons e t ih =>
    unfold sIns
    split
    · simp [sFind, Ne.symm h]
    · split
      · rename_i h1 h2
        subst h2
        simp [sFind, Ne.symm h]
      · simp only [sFind, ih]

theorem sFind_sDel_same (k : Nat) (l : List (Nat × α)) : sFind k (sDel k l) = none := by
  induction l with
  | nil => rfl
  | cons e t ih =>
    unfold sDel
    split
    · exact ih
    · rename_i h
      simp [sFind, h, ih]

theorem sFind_sDel_ne {k j : Nat} (h : j ≠ k) (l : List (Nat × α)) : sFind j (sDel k l) = sFind j l := by
  induction l with
  | nil => rfl
  | cons e t ih =>
    unfold sDel
    split
    · rename_i h1
      rw [ih, sFind, if_neg (by rw [h1]; exact Ne.symm h)]
    · simp [sFind, ih]

variable [DecidableEq α]

/-- A read after a write to the same key gives the value written. -/
@[simp] theorem sGet_sPut_same (d : Nat → α) (k : Nat) (v : α) (l : List (Nat × α)) : sGet d k (sPut d k v l) = v := by
  unfold sGet sPut
  split
  · rename_i h
    simp [sFind_sDel_same, h]
  · simp [sFind_sIns_same]

/-- A write leaves every other key alone. -/
theorem sGet_sPut_ne {k j : Nat} (h : j ≠ k) (d : Nat → α) (v : α) (l : List (Nat × α)) :
    sGet d j (sPut d k v l) = sGet d j l := by
  unfold sGet sPut
  split
  · rw [sFind_sDel_ne h]
  · rw [sFind_sIns_ne h]

/-- A read after a write, whatever the keys. -/
theorem sGet_sPut (d : Nat → α) (k j : Nat) (v : α) (l : List (Nat × α)) :
    sGet d j (sPut d k v l) = if j = k then v else sGet d j l := by
  split
  · rename_i h
    rw [h, sGet_sPut_same]
  · rename_i h
    exact sGet_sPut_ne h d v l

omit [DecidableEq α] in
@[simp] theorem sGet_nil (d : Nat → α) (k : Nat) : sGet d k [] = d k := rfl

/-! ### The canonical form -/

theorem sOkFrom_mono {d : Nat → α} {n m : Nat} (h : n ≤ m) {l : List (Nat × α)} (hl : sOkFrom d m l = true) :
    sOkFrom d n l = true := by
  cases l with
  | nil => rfl
  | cons e t =>
    simp only [sOkFrom, Bool.and_eq_true, decide_eq_true_eq] at hl ⊢
    exact ⟨⟨Nat.le_trans h hl.1.1, hl.1.2⟩, hl.2⟩

theorem sOkFrom_sIns {d : Nat → α} {n k : Nat} {v : α} (hv : v ≠ d k) (hn : n ≤ k) {l : List (Nat × α)}
    (hl : sOkFrom d n l = true) : sOkFrom d n (sIns k v l) = true := by
  induction l generalizing n with
  | nil => simp [sIns, sOkFrom, hv, hn]
  | cons e t ih =>
    simp only [sOkFrom, Bool.and_eq_true, decide_eq_true_eq] at hl
    unfold sIns
    split
    · rename_i h1
      simp only [sOkFrom, Bool.and_eq_true, decide_eq_true_eq]
      exact ⟨⟨hn, hv⟩, ⟨h1, hl.1.2⟩, hl.2⟩
    · split
      · rename_i h1 h2
        simp only [sOkFrom, Bool.and_eq_true, decide_eq_true_eq]
        exact ⟨⟨hn, hv⟩, h2 ▸ hl.2⟩
      · rename_i h1 h2
        simp only [sOkFrom, Bool.and_eq_true, decide_eq_true_eq]
        exact ⟨hl.1, ih (by omega) hl.2⟩

theorem sOkFrom_sDel {d : Nat → α} {n k : Nat} {l : List (Nat × α)} (hl : sOkFrom d n l = true) :
    sOkFrom d n (sDel k l) = true := by
  induction l generalizing n with
  | nil => rfl
  | cons e t ih =>
    simp only [sOkFrom, Bool.and_eq_true, decide_eq_true_eq] at hl
    unfold sDel
    split
    · exact sOkFrom_mono (by omega) (ih hl.2)
    · simp only [sOkFrom, Bool.and_eq_true, decide_eq_true_eq]
      exact ⟨hl.1, ih hl.2⟩

/-- A write keeps the canonical form. -/
theorem sOk_sPut {d : Nat → α} (k : Nat) (v : α) {l : List (Nat × α)} (hl : sOk d l = true) :
    sOk d (sPut d k v l) = true := by
  unfold sOk at *
  unfold sPut
  split
  · exact sOkFrom_sDel hl
  · rename_i h
    exact sOkFrom_sIns h (Nat.zero_le k) hl

end Sys2Proof.Machine
end

