-- ==== Sys2Proof/Laws/State.lean ====
section
/-!
SUPPORT. What one register, table word or unit reads as after another was stored.
-/
namespace Sys2Proof.Machine

/-! ### Registers and tables -/

@[simp] theorem getReg_setReg_same (a : Nat) (v : Word) (s : State) : getReg (setReg a v s) a = v := by
  simp [getReg, setReg]

theorem getReg_setReg_ne {a b : Nat} (h : b ≠ a) (v : Word) (s : State) : getReg (setReg a v s) b = getReg s b := by
  simp [getReg, setReg, sGet_sPut_ne h]

theorem getReg_setReg (a b : Nat) (v : Word) (s : State) :
    getReg (setReg a v s) b = if b = a then v else getReg s b := by
  split
  · next h => rw [h, getReg_setReg_same]
  · next h => rw [getReg_setReg_ne h]

@[simp] theorem getReg_setRegN_same (a n : Nat) (s : State) : getReg (setRegN a n s) a = w32 n := getReg_setReg_same _ _ _

theorem getReg_setRegN_ne {a b : Nat} (h : b ≠ a) (n : Nat) (s : State) : getReg (setRegN a n s) b = getReg s b :=
  getReg_setReg_ne h _ _

@[simp] theorem getReg_setRegFld_same (a l w x : Nat) (s : State) :
    getReg (setRegFld a l w x s) a = setFld (getReg s a) l w x := getReg_setReg_same _ _ _

theorem getReg_setRegFld_ne {a b : Nat} (h : b ≠ a) (l w x : Nat) (s : State) :
    getReg (setRegFld a l w x s) b = getReg s b := getReg_setReg_ne h _ _

@[simp] theorem getReg_setRegBit_same (a n : Nat) (v : Bool) (s : State) :
    getReg (setRegBit a n v s) a = setBit (getReg s a) n v := getReg_setReg_same _ _ _

theorem getReg_setRegBit_ne {a b : Nat} (h : b ≠ a) (n : Nat) (v : Bool) (s : State) :
    getReg (setRegBit a n v s) b = getReg s b := getReg_setReg_ne h _ _

@[simp] theorem getTab_setTab_same (t : Nat) (c : Bool) (i : Nat) (v : Word) (s : State) :
    getTab (setTab t c i v s) t c i = v := by
  simp [getTab, setTab]

theorem getTab_setTab_ne {t u i j : Nat} {c d : Bool} (h : tabKey u d j ≠ tabKey t c i) (v : Word) (s : State) :
    getTab (setTab t c i v s) u d j = getTab s u d j := by
  simp [getTab, setTab, sGet_sPut_ne h]

/-! ### Units -/

@[simp] theorem getTb_putTb_same (k : Nat) (v : Tb) (s : State) : getTb (putTb k v s) k = v := sGet_sPut_same _ _ _ _

theorem getTb_putTb_ne {k j : Nat} (h : j ≠ k) (v : Tb) (s : State) : getTb (putTb k v s) j = getTb s j :=
  sGet_sPut_ne h _ _ _

@[simp] theorem getReg_putTb (k : Nat) (v : Tb) (s : State) (a : Nat) : getReg (putTb k v s) a = getReg s a := rfl

@[simp] theorem getMsgq_putMsgq_same (k : Nat) (v : MsgQ) (s : State) : getMsgq (putMsgq k v s) k = v := sGet_sPut_same _ _ _ _

theorem getMsgq_putMsgq_ne {k j : Nat} (h : j ≠ k) (v : MsgQ) (s : State) : getMsgq (putMsgq k v s) j = getMsgq s j :=
  sGet_sPut_ne h _ _ _

@[simp] theorem getReg_putMsgq (k : Nat) (v : MsgQ) (s : State) (a : Nat) : getReg (putMsgq k v s) a = getReg s a := rfl

@[simp] theorem getHandle_putHandle_same (k : Nat) (v : Handle) (s : State) : getHandle (putHandle k v s) k = v := sGet_sPut_same _ _ _ _

theorem getHandle_putHandle_ne {k j : Nat} (h : j ≠ k) (v : Handle) (s : State) : getHandle (putHandle k v s) j = getHandle s j :=
  sGet_sPut_ne h _ _ _

@[simp] theorem getReg_putHandle (k : Nat) (v : Handle) (s : State) (a : Nat) : getReg (putHandle k v s) a = getReg s a := rfl

@[simp] theorem getDcx_putDcx_same (k : Nat) (v : Dcx) (s : State) : getDcx (putDcx k v s) k = v := sGet_sPut_same _ _ _ _

theorem getDcx_putDcx_ne {k j : Nat} (h : j ≠ k) (v : Dcx) (s : State) : getDcx (putDcx k v s) j = getDcx s j :=
  sGet_sPut_ne h _ _ _

@[simp] theorem getReg_putDcx (k : Nat) (v : Dcx) (s : State) (a : Nat) : getReg (putDcx k v s) a = getReg s a := rfl

@[simp] theorem getLane_putLane_same (k : Nat) (v : LaneAux) (s : State) : getLane (putLane k v s) k = v := sGet_sPut_same _ _ _ _

theorem getLane_putLane_ne {k j : Nat} (h : j ≠ k) (v : LaneAux) (s : State) : getLane (putLane k v s) j = getLane s j :=
  sGet_sPut_ne h _ _ _

@[simp] theorem getReg_putLane (k : Nat) (v : LaneAux) (s : State) (a : Nat) : getReg (putLane k v s) a = getReg s a := rfl

@[simp] theorem getTile_putTile_same (k : Nat) (v : Tile) (s : State) : getTile (putTile k v s) k = v := sGet_sPut_same _ _ _ _

theorem getTile_putTile_ne {k j : Nat} (h : j ≠ k) (v : Tile) (s : State) : getTile (putTile k v s) j = getTile s j :=
  sGet_sPut_ne h _ _ _

@[simp] theorem getReg_putTile (k : Nat) (v : Tile) (s : State) (a : Nat) : getReg (putTile k v s) a = getReg s a := rfl

@[simp] theorem getDram_putDram_same (k : Nat) (v : DramAux) (s : State) : getDram (putDram k v s) k = v := sGet_sPut_same _ _ _ _

theorem getDram_putDram_ne {k j : Nat} (h : j ≠ k) (v : DramAux) (s : State) : getDram (putDram k v s) j = getDram s j :=
  sGet_sPut_ne h _ _ _

@[simp] theorem getReg_putDram (k : Nat) (v : DramAux) (s : State) (a : Nat) : getReg (putDram k v s) a = getReg s a := rfl

@[simp] theorem getTrk_putTrk_same (k : Nat) (v : Tracker) (s : State) : getTrk (putTrk k v s) k = v := sGet_sPut_same _ _ _ _

theorem getTrk_putTrk_ne {k j : Nat} (h : j ≠ k) (v : Tracker) (s : State) : getTrk (putTrk k v s) j = getTrk s j :=
  sGet_sPut_ne h _ _ _

@[simp] theorem getReg_putTrk (k : Nat) (v : Tracker) (s : State) (a : Nat) : getReg (putTrk k v s) a = getReg s a := rfl

@[simp] theorem getEth_putEth_same (k : Nat) (v : Eth) (s : State) : getEth (putEth k v s) k = v := sGet_sPut_same _ _ _ _

theorem getEth_putEth_ne {k j : Nat} (h : j ≠ k) (v : Eth) (s : State) : getEth (putEth k v s) j = getEth s j :=
  sGet_sPut_ne h _ _ _

@[simp] theorem getReg_putEth (k : Nat) (v : Eth) (s : State) (a : Nat) : getReg (putEth k v s) a = getReg s a := rfl

@[simp] theorem getTrig_putTrig_same (k : Nat) (v : Trig) (s : State) : getTrig (putTrig k v s) k = v := sGet_sPut_same _ _ _ _

theorem getTrig_putTrig_ne {k j : Nat} (h : j ≠ k) (v : Trig) (s : State) : getTrig (putTrig k v s) j = getTrig s j :=
  sGet_sPut_ne h _ _ _

@[simp] theorem getReg_putTrig (k : Nat) (v : Trig) (s : State) (a : Nat) : getReg (putTrig k v s) a = getReg s a := rfl

end Sys2Proof.Machine
end

