-- ==== Sys2Proof/Laws/Access.lean ====
section
/-!
SUPPORT. What an event and a register access can do, said once.
-/
namespace Sys2Proof.Machine

/-! ### Changes that leave the units alone -/

theorem EventsOnly.refl (s : State) : EventsOnly s s := rfl

theorem EventsOnly.trans {s t u : State} (h : EventsOnly s t) (k : EventsOnly t u) : EventsOnly s u := by
  unfold EventsOnly at *
  rw [k, h]

theorem RegsOnly.events {s t : State} (h : RegsOnly s t) : EventsOnly s t := by
  unfold RegsOnly at h
  unfold EventsOnly
  rw [h]

theorem setReg_events (a : Nat) (v : Word) (s : State) : EventsOnly s (setReg a v s) := rfl

theorem answer_events (r : AccessResult) (v : Word) (s : State) : EventsOnly s (answer r v s) := rfl

theorem putMsgq_events (k : Nat) (v : MsgQ) (s : State) : EventsOnly s (putMsgq k v s) := rfl

theorem noteM0_regs (m : Master) (s : State) : RegsOnly s (noteM0 m s) := by
  unfold noteM0
  repeat' split
  all_goals rfl

theorem noteM0_events (m : Master) (s : State) : EventsOnly s (noteM0 m s) := (noteM0_regs m s).events

theorem foldl_events {α : Type} (g : State → α → State) (h : ∀ s x, EventsOnly s (g s x)) (l : List α) (s : State) :
    EventsOnly s (l.foldl g s) :=
  foldl_inv (fun q => EventsOnly s q) g (fun q x hq => hq.trans (h q x)) l s (EventsOnly.refl s)

theorem queueRec_events (k : Nat) (r : EvtRec) (s : State) : EventsOnly s (queueRec k r s) := by
  unfold queueRec bumpLost
  dsimp only
  split <;> rfl

theorem captureOnFault_events (p ev : Nat) (s : State) : EventsOnly s (captureOnFault p ev s) := by
  unfold captureOnFault
  dsimp only
  split <;> rfl

theorem fireAt_events (p b ev detail : Nat) (s : State) : EventsOnly s (fireAt p b ev detail s) := by
  unfold fireAt
  dsimp only
  split
  · exact EventsOnly.refl s
  · refine EventsOnly.trans ?_ (captureOnFault_events _ _ _)
    split
    · exact EventsOnly.trans rfl (foldl_events _ (fun q k => queueRec_events k _ q) _ _)
    · rfl

/-- An event changes only registers and what events leave. -/
theorem raise_events (ev detail : Nat) (s : State) : EventsOnly s (raise ev detail s) := by
  unfold raise
  split
  · exact EventsOnly.refl s
  · exact (fireAt_events _ _ _ _ _).trans (foldl_events _ (fun q k => fireAt_events _ _ _ _ q) _ _)

theorem bumpSatW_regs (w a : Nat) (s : State) : RegsOnly s (bumpSatW w a s) := by
  unfold bumpSatW
  split <;> rfl

theorem bumpWrap_regs (a : Nat) (s : State) : RegsOnly s (bumpWrap a s) := by
  unfold bumpWrap
  split <;> rfl

/-! ### The registers an event changes -/

theorem mem_evRegs_raw (p : Nat) : Reg.EVT_RAW p ∈ evRegs p := by simp [evRegs]

theorem evRegs_zero {p a : Nat} (h : a ∉ evRegs p) : a ∉ evRegs 0 := by
  simp only [evRegs, List.mem_append, List.mem_cons, not_or] at *
  exact ⟨⟨h.1.2.2.1, h.1.2.2.2.1, h.1.2.2.1, h.1.2.2.2.1, List.not_mem_nil⟩, h.2⟩

theorem subscribers_lt {s : State} {p k : Nat} (h : k ∈ subscribers s p) : k < 8 := by
  simp only [subscribers, List.mem_filter, List.mem_range] at h
  exact h.1

theorem queueRec_getReg (k : Nat) (r : EvtRec) (s : State) (a : Nat) (h : a ≠ Reg.EVT_LOST k) :
    getReg (queueRec k r s) a = getReg s a := by
  unfold queueRec bumpLost
  dsimp only
  split
  · rfl
  · rw [getReg_putMsgq, getReg_setRegN_ne h]

theorem captureOnFault_getReg (p ev : Nat) (s : State) (a : Nat) (h : a ≠ Reg.PAGE_STAT p) :
    getReg (captureOnFault p ev s) a = getReg s a := by
  unfold captureOnFault
  dsimp only
  split
  · exact getReg_setReg_ne h _ _
  · rfl

theorem queueAll_getReg (p : Nat) (r : EvtRec) (s : State) (a : Nat) (h : ∀ k < 8, a ≠ Reg.EVT_LOST k) :
    getReg (queueAll p r s) a = getReg s a := by
  unfold queueAll
  have hl : ∀ k ∈ subscribers s p, k < 8 := fun k => subscribers_lt
  generalize subscribers s p = l at hl
  clear * - h hl
  induction l generalizing s with
  | nil => rfl
  | cons k t ih =>
    rw [List.foldl_cons, ih _ (fun j hj => hl j (List.mem_cons_of_mem _ hj)),
      queueRec_getReg _ _ _ _ (h k (hl k List.mem_cons_self))]

theorem ne_of_not_mem_evRegs {p a : Nat} (h : a ∉ evRegs p) :
    a ≠ Reg.EVT_RAW p ∧ a ≠ Reg.PAGE_STAT p ∧ ∀ k < 8, a ≠ Reg.EVT_LOST k := by
  simp only [evRegs, List.mem_append, List.mem_cons, not_or, List.mem_map, List.mem_range, not_exists, not_and] at h
  exact ⟨h.1.1, h.1.2.1, fun k hk e => h.2 k hk e.symm⟩

theorem fireAt_getReg (p b ev detail : Nat) (s : State) : RegsBut (evRegs p) s (fireAt p b ev detail s) := by
  intro a ha
  obtain ⟨h1, h2, h3⟩ := ne_of_not_mem_evRegs ha
  unfold fireAt
  dsimp only
  split
  · rfl
  · rw [captureOnFault_getReg _ _ _ _ h2]
    split
    · rw [queueAll_getReg _ _ _ _ h3, getReg_setRegBit_ne h1]
      rfl
    · rw [getReg_setRegBit_ne h1]
      rfl

theorem RegsBut.trans {l : List Nat} {s t u : State} (h : RegsBut l s t) (k : RegsBut l t u) : RegsBut l s u :=
  fun a ha => (k a ha).trans (h a ha)

theorem msgLost_getReg (p : Nat) (ks : List Nat) (s : State) : RegsBut (evRegs p) s (msgLost ks s) := by
  unfold msgLost
  refine foldl_inv (fun q => RegsBut (evRegs p) s q) _ (fun q k hq => hq.trans ?_) ks s (fun _ _ => rfl)
  intro a ha
  exact fireAt_getReg _ _ _ _ _ a (evRegs_zero ha)

/-- An event changes no register but those of its page's event block. -/
theorem raise_getReg {ev p b : Nat} (h : evLoc ev = some (p, b)) (detail : Nat) (s : State) :
    RegsBut (evRegs p) s (raise ev detail s) := by
  unfold raise
  rw [h]
  exact (fireAt_getReg _ _ _ _ _).trans (msgLost_getReg _ _ _)

/-! ### The flag of an event stays -/

theorem queueAll_raw (p : Nat) (r : EvtRec) (s : State) (q : Nat) :
    getReg (queueAll p r s) (Reg.EVT_RAW q) = getReg s (Reg.EVT_RAW q) :=
  queueAll_getReg _ _ _ _ (by intro k hk; simp only [Reg.EVT_RAW, Reg.EVT_LOST]; omega)

theorem fireAt_raw (p b ev detail : Nat) (s : State) :
    getReg (fireAt p b ev detail s) (Reg.EVT_RAW p) = setBit (getReg s (Reg.EVT_RAW p)) b true ∨
    getReg (fireAt p b ev detail s) (Reg.EVT_RAW p) = getReg s (Reg.EVT_RAW p) ∧ regBit s (Reg.EVT_RAW p) b = true := by
  unfold fireAt
  dsimp only
  split
  · next h => exact .inr ⟨rfl, h⟩
  · refine .inl ?_
    rw [captureOnFault_getReg _ _ _ _ (by simp only [Reg.EVT_RAW, Reg.PAGE_STAT]; omega)]
    split
    · rw [queueAll_raw, getReg_setRegBit_same]
      rfl
    · rw [getReg_setRegBit_same]
      rfl

theorem fireAt_raises (p b ev detail : Nat) (s : State) (h : b < 32) :
    regBit (fireAt p b ev detail s) (Reg.EVT_RAW p) b = true := by
  unfold regBit
  rcases fireAt_raw p b ev detail s with e | ⟨e, k⟩
  · rw [e, bit_setBit_same _ _ _ h]
  · rw [e]
    exact k

theorem fireAt_keeps (p b ev detail q c : Nat) (s : State) (h : c < 32) (hs : regBit s (Reg.EVT_RAW q) c = true) :
    regBit (fireAt p b ev detail s) (Reg.EVT_RAW q) c = true := by
  by_cases hq : q = p
  · subst hq
    unfold regBit at *
    rcases fireAt_raw q b ev detail s with e | ⟨e, _⟩
    · rw [e, bit_setBit _ _ _ _ h]
      split
      · rfl
      · exact hs
    · rw [e]
      exact hs
  · unfold regBit at *
    have : getReg (fireAt p b ev detail s) (Reg.EVT_RAW q) = getReg s (Reg.EVT_RAW q) := by
      unfold fireAt
      dsimp only
      split
      · rfl
      · rw [captureOnFault_getReg _ _ _ _ (by simp only [Reg.EVT_RAW, Reg.PAGE_STAT]; omega)]
        have hne : Reg.EVT_RAW q ≠ Reg.EVT_RAW p := by simp only [Reg.EVT_RAW]; omega
        split
        · rw [queueAll_raw, getReg_setRegBit_ne hne]
          rfl
        · rw [getReg_setRegBit_ne hne]
          rfl
    rw [this]
    exact hs

theorem raise_keeps (ev detail q c : Nat) (s : State) (h : c < 32) (hs : regBit s (Reg.EVT_RAW q) c = true) :
    regBit (raise ev detail s) (Reg.EVT_RAW q) c = true := by
  unfold raise
  split
  · exact hs
  · exact foldl_inv (fun t => regBit t (Reg.EVT_RAW q) c = true) _ (fun t k ht => fireAt_keeps _ _ _ _ _ _ _ h ht) _ _
      (fireAt_keeps _ _ _ _ _ _ _ h hs)

/-- An event sets its flag (R61). -/
theorem raise_raises {ev p b : Nat} (h : evLoc ev = some (p, b)) (hb : b < 32) (detail : Nat) (s : State) :
    Raised (raise ev detail s) p b := by
  unfold Raised raise
  rw [h]
  exact foldl_inv (fun t => regBit t (Reg.EVT_RAW p) b = true) _ (fun t k ht => fireAt_keeps _ _ _ _ _ _ _ hb ht) _ _
    (fireAt_raises _ _ _ _ _ hb)

/-! ### Register accesses -/

/-- A write that goes through has its effect on the state that answers done, and for M0 leaves its outcome. -/
theorem writeWith_ok {s : State} {m : Master} {a : Nat} (h : CanWrite s m a) (ha : writeActs a = true) (v : Word)
    (eff : State → State) : writeWith m a v eff s = noteM0 m (eff (answer .done 0 s)) := by
  obtain ⟨h1, h2, h3, h4⟩ := h
  simp [writeWith, writeRight, h1, h2, h3, h4, ha]

/-- A write that acts on nothing does nothing (R45). -/
theorem writeWith_idle {s : State} {m : Master} {a : Nat} (h : CanRead s m a)
    (hg : gate s m.val a true = none) (ha : writeActs a = false) (v : Word) (eff : State → State) :
    writeWith m a v eff s = noteM0 m (answer .done 0 s) := by
  obtain ⟨_, h2, h3⟩ := h
  simp [writeWith, writeRight, hg, h2, h3, ha]

theorem noteM0_getReg (m : Master) (s : State) (a : Nat) (h : a ≠ Reg.SYS_M0_STAT) :
    getReg (noteM0 m s) a = getReg s a := by
  unfold noteM0
  split
  · split
    · exact getReg_setRegN_ne h _ _
    · rfl
  · rfl

/-- The registers a write changes: those its effect changes, and SYS_M0_STAT. -/
theorem writeWith_but {s : State} {m : Master} {a : Nat} (h : CanWrite s m a) (ha : writeActs a = true) (v : Word)
    (eff : State → State) (l : List Nat) (he : RegsBut l (answer .done 0 s) (eff (answer .done 0 s))) :
    RegsBut (l ++ [Reg.SYS_M0_STAT]) s (writeWith m a v eff s) := by
  intro b hb
  simp only [List.mem_append, List.mem_singleton, not_or] at hb
  rw [writeWith_ok h ha, noteM0_getReg _ _ _ hb.2, he b hb.1]
  rfl

theorem writeWith_regs {s : State} {m : Master} {a : Nat} (h : CanWrite s m a) (ha : writeActs a = true) (v : Word)
    (eff : State → State) (he : RegsOnly (answer .done 0 s) (eff (answer .done 0 s))) :
    RegsOnly s (writeWith m a v eff s) := by
  rw [writeWith_ok h ha]
  have := noteM0_regs m (eff (answer .done 0 s))
  unfold RegsOnly at *
  rw [this, he]
  rfl

theorem readWith_ok {s : State} {m : Master} {a : Nat} (h : CanRead s m a) (eff : State → Word × State) :
    readWith m a eff s = answer .done (eff s).1 (eff s).2 := by
  obtain ⟨h1, h2, h3⟩ := h
  simp [readWith, h1, h2, h3]

@[simp] theorem getReg_answer (r : AccessResult) (v : Word) (s : State) (a : Nat) : getReg (answer r v s) a = getReg s a :=
  rfl

end Sys2Proof.Machine
end

