-- ==== Sys2Proof/Laws/Bounds.lean ====
section
/-!
SUPPORT. The bounds of Inv under the elementary updates, folds and choices.
-/
namespace Sys2Proof.Machine

@[simp] theorem wf_nil : Memory.wf [] = true := rfl

@[simp] theorem wf_sPut (k : Nat) (b : Byte) (l : List Host.Cell) (h : Memory.wf l = true) :
    Memory.wf (sPut zeroB k b l) = true := sOk_sPut k b h

@[simp] theorem wf_writeCells (a : Nat) (bs : List Byte) (l : List Host.Cell) (h : Memory.wf l = true) :
    Memory.wf (writeCells a bs l) = true := by
  induction bs generalizing a l with
  | nil => exact h
  | cons b t ih => exact ih _ _ (wf_sPut _ _ _ h)

@[simp] theorem msgqOk_nil : MsgqOk [] := by
  intro k
  simp

@[simp] theorem msgqOk_sPut (k : Nat) (v : MsgQ) (q : Sparse MsgQ) (hv : v.recs.length ≤ 64) (h : MsgqOk q) :
    MsgqOk (sPut (fun _ => {}) k v q) := by
  intro j
  rw [sGet_sPut]
  split
  · exact hv
  · exact h j

@[simp] theorem msgqOk_get (q : Sparse MsgQ) (k : Nat) (h : MsgqOk q) :
    (sGet (fun _ => ({} : MsgQ)) k q).recs.length ≤ 64 := h k

@[simp] theorem getMsgq_ok (s : State) (k : Nat) (h : MsgqOk s.msgq) : (getMsgq s k).recs.length ≤ 64 := h k

@[simp] theorem filter_le {α : Type} (p : α → Bool) (l : List α) (n : Nat) (h : l.length ≤ n) : (l.filter p).length ≤ n :=
  le_trans (List.length_filter_le p l) h

theorem mntOk_mk (q r : List MntReq) (e : BitVec 4) (h : q.length ≤ 16) :
    MntOk { queue := q, requeue := r, lastErr := e } := h

@[simp] theorem mntOk_lit (q r : List MntReq) (e : BitVec 4) :
    MntOk { queue := q, requeue := r, lastErr := e } = (q.length ≤ 16) := rfl

@[simp] theorem mntOk_len (m : Mnt) (h : MntOk m) : m.queue.length ≤ 16 := h

@[simp] theorem lctqOk_lit (a b c d e f g h i j k l m n o p q r) :
    LctqOk (LctCtl.mk a b c d e f g h i j k l m n o p q r) = (j.length ≤ 64) := rfl

@[simp] theorem lctqOk_len (l : LctCtl) (h : LctqOk l) : l.queue.length ≤ 64 := h

@[simp] theorem wcapOk_sub (n d : Nat) (h : WcapOk n) : WcapOk (n - d) := le_trans (Nat.sub_le n d) h

@[simp] theorem wcapOk_min (n : Nat) : WcapOk (min 65536 n) := Nat.min_le_left _ _

@[simp] theorem wcapOk_full : WcapOk 65536 := le_refl _

@[simp] theorem mntOk_empty : MntOk {} := by simp [MntOk]

@[simp] theorem lctqOk_empty : LctqOk {} := by simp [LctqOk]

theorem foldl_keeps {α : Type} {P : State → Prop} {g : State → α → State} (h : ∀ s x, P s → P (g s x)) (l : List α)
    {s : State} (hs : P s) : P (l.foldl g s) := foldl_inv P g h l s hs

theorem ite_ok {P : State → Prop} {c : Prop} [Decidable c] {a b : State} (ha : c → P a) (hb : ¬c → P b) :
    P (if c then a else b) := by split <;> simp_all

section
variable {α : Type} {g : State → α → State} {l : List α} {s : State}

@[simp] theorem foldl_fsOk (h : ∀ s x, Memory.wf s.fs = true → Memory.wf (g s x).fs = true) (hs : Memory.wf s.fs = true) :
    Memory.wf (l.foldl g s).fs = true := foldl_inv (fun s => Memory.wf s.fs = true) g h l s hs

@[simp] theorem foldl_sceneOk (h : ∀ s x, Memory.wf s.scene = true → Memory.wf (g s x).scene = true)
    (hs : Memory.wf s.scene = true) : Memory.wf (l.foldl g s).scene = true :=
  foldl_inv (fun s => Memory.wf s.scene = true) g h l s hs

@[simp] theorem foldl_msgqOk (h : ∀ s x, MsgqOk s.msgq → MsgqOk (g s x).msgq) (hs : MsgqOk s.msgq) :
    MsgqOk (l.foldl g s).msgq := foldl_inv (fun s => MsgqOk s.msgq) g h l s hs

@[simp] theorem foldl_mntOk (h : ∀ s x, MntOk s.mnt → MntOk (g s x).mnt) (hs : MntOk s.mnt) :
    MntOk (l.foldl g s).mnt := foldl_inv (fun s => MntOk s.mnt) g h l s hs

@[simp] theorem foldl_lctqOk (h : ∀ s x, LctqOk s.lctc → LctqOk (g s x).lctc) (hs : LctqOk s.lctc) :
    LctqOk (l.foldl g s).lctc := foldl_inv (fun s => LctqOk s.lctc) g h l s hs

@[simp] theorem foldl_wcapOk (h : ∀ s x, WcapOk s.wcapLevel → WcapOk (g s x).wcapLevel) (hs : WcapOk s.wcapLevel) :
    WcapOk (l.foldl g s).wcapLevel := foldl_inv (fun s => WcapOk s.wcapLevel) g h l s hs
end

section
variable {c : Prop} [Decidable c]

@[simp] theorem wf_ite (a b : List Host.Cell) (ha : Memory.wf a = true) (hb : Memory.wf b = true) :
    Memory.wf (if c then a else b) = true := by split <;> assumption

@[simp] theorem msgqOk_ite (a b : Sparse MsgQ) (ha : MsgqOk a) (hb : MsgqOk b) : MsgqOk (if c then a else b) := by
  split <;> assumption

@[simp] theorem mntOk_ite (a b : Mnt) (ha : MntOk a) (hb : MntOk b) : MntOk (if c then a else b) := by split <;> assumption

@[simp] theorem lctqOk_ite (a b : LctCtl) (ha : LctqOk a) (hb : LctqOk b) : LctqOk (if c then a else b) := by
  split <;> assumption

@[simp] theorem wcapOk_ite (a b : Nat) (ha : WcapOk a) (hb : WcapOk b) : WcapOk (if c then a else b) := by
  split <;> assumption
end

end Sys2Proof.Machine
end

