-- ==== Sys2Proof/Laws/FrameOps.lean ====
section
/-!
SUPPORT. What each operation of Ops.lean leaves unchanged.
-/
set_option linter.unusedSimpArgs false
namespace Sys2Proof.Machine

theorem setReg_frame (a : Nat) (v : Word) (s : State) :
    (setReg a v s).pending = s.pending ∧
    (setReg a v s).fs = s.fs ∧
    (setReg a v s).scene = s.scene ∧
    (setReg a v s).jtag = s.jtag ∧
    (setReg a v s).boot = s.boot ∧
    (setReg a v s).period = s.period ∧
    (setReg a v s).pwr = s.pwr ∧
    (setReg a v s).scan = s.scan ∧
    (setReg a v s).lct = s.lct ∧
    (setReg a v s).tb = s.tb ∧
    (setReg a v s).tiles = s.tiles ∧
    (setReg a v s).handles = s.handles ∧
    (setReg a v s).dcx = s.dcx ∧
    (setReg a v s).mnt = s.mnt ∧
    (setReg a v s).comp = s.comp ∧
    (setReg a v s).thm = s.thm ∧
    (setReg a v s).gl = s.gl ∧
    (setReg a v s).link = s.link ∧
    (setReg a v s).ozd = s.ozd ∧
    (setReg a v s).lctc = s.lctc ∧
    (setReg a v s).msgq = s.msgq ∧
    (setReg a v s).wcapLevel = s.wcapLevel := by simp [setReg]

theorem setRegN_frame (a n : Nat) (s : State) :
    (setRegN a n s).pending = s.pending ∧
    (setRegN a n s).fs = s.fs ∧
    (setRegN a n s).scene = s.scene ∧
    (setRegN a n s).jtag = s.jtag ∧
    (setRegN a n s).boot = s.boot ∧
    (setRegN a n s).period = s.period ∧
    (setRegN a n s).pwr = s.pwr ∧
    (setRegN a n s).scan = s.scan ∧
    (setRegN a n s).lct = s.lct ∧
    (setRegN a n s).tb = s.tb ∧
    (setRegN a n s).tiles = s.tiles ∧
    (setRegN a n s).handles = s.handles ∧
    (setRegN a n s).dcx = s.dcx ∧
    (setRegN a n s).mnt = s.mnt ∧
    (setRegN a n s).comp = s.comp ∧
    (setRegN a n s).thm = s.thm ∧
    (setRegN a n s).gl = s.gl ∧
    (setRegN a n s).link = s.link ∧
    (setRegN a n s).ozd = s.ozd ∧
    (setRegN a n s).lctc = s.lctc ∧
    (setRegN a n s).msgq = s.msgq ∧
    (setRegN a n s).wcapLevel = s.wcapLevel := by simp [setReg_frame .., setRegN]

theorem setRegFld_frame (a lsb w x : Nat) (s : State) :
    (setRegFld a lsb w x s).pending = s.pending ∧
    (setRegFld a lsb w x s).fs = s.fs ∧
    (setRegFld a lsb w x s).scene = s.scene ∧
    (setRegFld a lsb w x s).jtag = s.jtag ∧
    (setRegFld a lsb w x s).boot = s.boot ∧
    (setRegFld a lsb w x s).period = s.period ∧
    (setRegFld a lsb w x s).pwr = s.pwr ∧
    (setRegFld a lsb w x s).scan = s.scan ∧
    (setRegFld a lsb w x s).lct = s.lct ∧
    (setRegFld a lsb w x s).tb = s.tb ∧
    (setRegFld a lsb w x s).tiles = s.tiles ∧
    (setRegFld a lsb w x s).handles = s.handles ∧
    (setRegFld a lsb w x s).dcx = s.dcx ∧
    (setRegFld a lsb w x s).mnt = s.mnt ∧
    (setRegFld a lsb w x s).comp = s.comp ∧
    (setRegFld a lsb w x s).thm = s.thm ∧
    (setRegFld a lsb w x s).gl = s.gl ∧
    (setRegFld a lsb w x s).link = s.link ∧
    (setRegFld a lsb w x s).ozd = s.ozd ∧
    (setRegFld a lsb w x s).lctc = s.lctc ∧
    (setRegFld a lsb w x s).msgq = s.msgq ∧
    (setRegFld a lsb w x s).wcapLevel = s.wcapLevel := by simp [setReg_frame .., setRegFld]

theorem setRegBit_frame (a n : Nat) (b : Bool) (s : State) :
    (setRegBit a n b s).pending = s.pending ∧
    (setRegBit a n b s).fs = s.fs ∧
    (setRegBit a n b s).scene = s.scene ∧
    (setRegBit a n b s).jtag = s.jtag ∧
    (setRegBit a n b s).boot = s.boot ∧
    (setRegBit a n b s).period = s.period ∧
    (setRegBit a n b s).pwr = s.pwr ∧
    (setRegBit a n b s).scan = s.scan ∧
    (setRegBit a n b s).lct = s.lct ∧
    (setRegBit a n b s).tb = s.tb ∧
    (setRegBit a n b s).tiles = s.tiles ∧
    (setRegBit a n b s).handles = s.handles ∧
    (setRegBit a n b s).dcx = s.dcx ∧
    (setRegBit a n b s).mnt = s.mnt ∧
    (setRegBit a n b s).comp = s.comp ∧
    (setRegBit a n b s).thm = s.thm ∧
    (setRegBit a n b s).gl = s.gl ∧
    (setRegBit a n b s).link = s.link ∧
    (setRegBit a n b s).ozd = s.ozd ∧
    (setRegBit a n b s).lctc = s.lctc ∧
    (setRegBit a n b s).msgq = s.msgq ∧
    (setRegBit a n b s).wcapLevel = s.wcapLevel := by simp [setReg_frame .., setRegBit]

theorem setTab_frame (t : Nat) (active : Bool) (i : Nat) (v : Word) (s : State) :
    (setTab t active i v s).pending = s.pending ∧
    (setTab t active i v s).fs = s.fs ∧
    (setTab t active i v s).scene = s.scene ∧
    (setTab t active i v s).jtag = s.jtag ∧
    (setTab t active i v s).boot = s.boot ∧
    (setTab t active i v s).period = s.period ∧
    (setTab t active i v s).pwr = s.pwr ∧
    (setTab t active i v s).scan = s.scan ∧
    (setTab t active i v s).lct = s.lct ∧
    (setTab t active i v s).tb = s.tb ∧
    (setTab t active i v s).tiles = s.tiles ∧
    (setTab t active i v s).handles = s.handles ∧
    (setTab t active i v s).dcx = s.dcx ∧
    (setTab t active i v s).mnt = s.mnt ∧
    (setTab t active i v s).comp = s.comp ∧
    (setTab t active i v s).thm = s.thm ∧
    (setTab t active i v s).gl = s.gl ∧
    (setTab t active i v s).link = s.link ∧
    (setTab t active i v s).ozd = s.ozd ∧
    (setTab t active i v s).lctc = s.lctc ∧
    (setTab t active i v s).msgq = s.msgq ∧
    (setTab t active i v s).wcapLevel = s.wcapLevel := by simp [setTab]

theorem putTb_frame (k : Nat) (v : Tb) (s : State) :
    (putTb k v s).pending = s.pending ∧
    (putTb k v s).fs = s.fs ∧
    (putTb k v s).scene = s.scene ∧
    (putTb k v s).jtag = s.jtag ∧
    (putTb k v s).boot = s.boot ∧
    (putTb k v s).period = s.period ∧
    (putTb k v s).pwr = s.pwr ∧
    (putTb k v s).scan = s.scan ∧
    (putTb k v s).lct = s.lct ∧
    (putTb k v s).tiles = s.tiles ∧
    (putTb k v s).handles = s.handles ∧
    (putTb k v s).dcx = s.dcx ∧
    (putTb k v s).mnt = s.mnt ∧
    (putTb k v s).comp = s.comp ∧
    (putTb k v s).thm = s.thm ∧
    (putTb k v s).gl = s.gl ∧
    (putTb k v s).link = s.link ∧
    (putTb k v s).ozd = s.ozd ∧
    (putTb k v s).lctc = s.lctc ∧
    (putTb k v s).msgq = s.msgq ∧
    (putTb k v s).wcapLevel = s.wcapLevel := by simp [putTb]

theorem putMsgq_frame (k : Nat) (v : MsgQ) (s : State) :
    (putMsgq k v s).pending = s.pending ∧
    (putMsgq k v s).fs = s.fs ∧
    (putMsgq k v s).scene = s.scene ∧
    (putMsgq k v s).jtag = s.jtag ∧
    (putMsgq k v s).boot = s.boot ∧
    (putMsgq k v s).period = s.period ∧
    (putMsgq k v s).pwr = s.pwr ∧
    (putMsgq k v s).scan = s.scan ∧
    (putMsgq k v s).lct = s.lct ∧
    (putMsgq k v s).tb = s.tb ∧
    (putMsgq k v s).tiles = s.tiles ∧
    (putMsgq k v s).handles = s.handles ∧
    (putMsgq k v s).dcx = s.dcx ∧
    (putMsgq k v s).mnt = s.mnt ∧
    (putMsgq k v s).comp = s.comp ∧
    (putMsgq k v s).thm = s.thm ∧
    (putMsgq k v s).gl = s.gl ∧
    (putMsgq k v s).link = s.link ∧
    (putMsgq k v s).ozd = s.ozd ∧
    (putMsgq k v s).lctc = s.lctc ∧
    (putMsgq k v s).wcapLevel = s.wcapLevel := by simp [putMsgq]

theorem putHandle_frame (h : Nat) (v : Handle) (s : State) :
    (putHandle h v s).pending = s.pending ∧
    (putHandle h v s).fs = s.fs ∧
    (putHandle h v s).scene = s.scene ∧
    (putHandle h v s).jtag = s.jtag ∧
    (putHandle h v s).boot = s.boot ∧
    (putHandle h v s).period = s.period ∧
    (putHandle h v s).pwr = s.pwr ∧
    (putHandle h v s).scan = s.scan ∧
    (putHandle h v s).lct = s.lct ∧
    (putHandle h v s).tb = s.tb ∧
    (putHandle h v s).tiles = s.tiles ∧
    (putHandle h v s).dcx = s.dcx ∧
    (putHandle h v s).mnt = s.mnt ∧
    (putHandle h v s).comp = s.comp ∧
    (putHandle h v s).thm = s.thm ∧
    (putHandle h v s).gl = s.gl ∧
    (putHandle h v s).link = s.link ∧
    (putHandle h v s).ozd = s.ozd ∧
    (putHandle h v s).lctc = s.lctc ∧
    (putHandle h v s).msgq = s.msgq ∧
    (putHandle h v s).wcapLevel = s.wcapLevel := by simp [putHandle]

theorem putDcx_frame (n : Nat) (v : Dcx) (s : State) :
    (putDcx n v s).pending = s.pending ∧
    (putDcx n v s).fs = s.fs ∧
    (putDcx n v s).scene = s.scene ∧
    (putDcx n v s).jtag = s.jtag ∧
    (putDcx n v s).boot = s.boot ∧
    (putDcx n v s).period = s.period ∧
    (putDcx n v s).pwr = s.pwr ∧
    (putDcx n v s).scan = s.scan ∧
    (putDcx n v s).lct = s.lct ∧
    (putDcx n v s).tb = s.tb ∧
    (putDcx n v s).tiles = s.tiles ∧
    (putDcx n v s).handles = s.handles ∧
    (putDcx n v s).mnt = s.mnt ∧
    (putDcx n v s).comp = s.comp ∧
    (putDcx n v s).thm = s.thm ∧
    (putDcx n v s).gl = s.gl ∧
    (putDcx n v s).link = s.link ∧
    (putDcx n v s).ozd = s.ozd ∧
    (putDcx n v s).lctc = s.lctc ∧
    (putDcx n v s).msgq = s.msgq ∧
    (putDcx n v s).wcapLevel = s.wcapLevel := by simp [putDcx]

theorem putLane_frame (n : Nat) (v : LaneAux) (s : State) :
    (putLane n v s).pending = s.pending ∧
    (putLane n v s).fs = s.fs ∧
    (putLane n v s).scene = s.scene ∧
    (putLane n v s).jtag = s.jtag ∧
    (putLane n v s).boot = s.boot ∧
    (putLane n v s).period = s.period ∧
    (putLane n v s).pwr = s.pwr ∧
    (putLane n v s).scan = s.scan ∧
    (putLane n v s).lct = s.lct ∧
    (putLane n v s).tb = s.tb ∧
    (putLane n v s).tiles = s.tiles ∧
    (putLane n v s).handles = s.handles ∧
    (putLane n v s).dcx = s.dcx ∧
    (putLane n v s).mnt = s.mnt ∧
    (putLane n v s).comp = s.comp ∧
    (putLane n v s).thm = s.thm ∧
    (putLane n v s).gl = s.gl ∧
    (putLane n v s).link = s.link ∧
    (putLane n v s).ozd = s.ozd ∧
    (putLane n v s).lctc = s.lctc ∧
    (putLane n v s).msgq = s.msgq ∧
    (putLane n v s).wcapLevel = s.wcapLevel := by simp [putLane]

theorem putTile_frame (t : Nat) (v : Tile) (s : State) :
    (putTile t v s).pending = s.pending ∧
    (putTile t v s).fs = s.fs ∧
    (putTile t v s).scene = s.scene ∧
    (putTile t v s).jtag = s.jtag ∧
    (putTile t v s).boot = s.boot ∧
    (putTile t v s).period = s.period ∧
    (putTile t v s).pwr = s.pwr ∧
    (putTile t v s).scan = s.scan ∧
    (putTile t v s).lct = s.lct ∧
    (putTile t v s).tb = s.tb ∧
    (putTile t v s).handles = s.handles ∧
    (putTile t v s).dcx = s.dcx ∧
    (putTile t v s).mnt = s.mnt ∧
    (putTile t v s).comp = s.comp ∧
    (putTile t v s).thm = s.thm ∧
    (putTile t v s).gl = s.gl ∧
    (putTile t v s).link = s.link ∧
    (putTile t v s).ozd = s.ozd ∧
    (putTile t v s).lctc = s.lctc ∧
    (putTile t v s).msgq = s.msgq ∧
    (putTile t v s).wcapLevel = s.wcapLevel := by simp [putTile]

theorem putDram_frame (n : Nat) (v : DramAux) (s : State) :
    (putDram n v s).pending = s.pending ∧
    (putDram n v s).fs = s.fs ∧
    (putDram n v s).scene = s.scene ∧
    (putDram n v s).jtag = s.jtag ∧
    (putDram n v s).boot = s.boot ∧
    (putDram n v s).period = s.period ∧
    (putDram n v s).pwr = s.pwr ∧
    (putDram n v s).scan = s.scan ∧
    (putDram n v s).lct = s.lct ∧
    (putDram n v s).tb = s.tb ∧
    (putDram n v s).tiles = s.tiles ∧
    (putDram n v s).handles = s.handles ∧
    (putDram n v s).dcx = s.dcx ∧
    (putDram n v s).mnt = s.mnt ∧
    (putDram n v s).comp = s.comp ∧
    (putDram n v s).thm = s.thm ∧
    (putDram n v s).gl = s.gl ∧
    (putDram n v s).link = s.link ∧
    (putDram n v s).ozd = s.ozd ∧
    (putDram n v s).lctc = s.lctc ∧
    (putDram n v s).msgq = s.msgq ∧
    (putDram n v s).wcapLevel = s.wcapLevel := by simp [putDram]

theorem putTrk_frame (k : Nat) (v : Tracker) (s : State) :
    (putTrk k v s).pending = s.pending ∧
    (putTrk k v s).fs = s.fs ∧
    (putTrk k v s).scene = s.scene ∧
    (putTrk k v s).jtag = s.jtag ∧
    (putTrk k v s).boot = s.boot ∧
    (putTrk k v s).period = s.period ∧
    (putTrk k v s).pwr = s.pwr ∧
    (putTrk k v s).scan = s.scan ∧
    (putTrk k v s).lct = s.lct ∧
    (putTrk k v s).tb = s.tb ∧
    (putTrk k v s).tiles = s.tiles ∧
    (putTrk k v s).handles = s.handles ∧
    (putTrk k v s).dcx = s.dcx ∧
    (putTrk k v s).mnt = s.mnt ∧
    (putTrk k v s).comp = s.comp ∧
    (putTrk k v s).thm = s.thm ∧
    (putTrk k v s).gl = s.gl ∧
    (putTrk k v s).link = s.link ∧
    (putTrk k v s).ozd = s.ozd ∧
    (putTrk k v s).lctc = s.lctc ∧
    (putTrk k v s).msgq = s.msgq ∧
    (putTrk k v s).wcapLevel = s.wcapLevel := by simp [putTrk]

theorem putEth_frame (p : Nat) (v : Eth) (s : State) :
    (putEth p v s).pending = s.pending ∧
    (putEth p v s).fs = s.fs ∧
    (putEth p v s).scene = s.scene ∧
    (putEth p v s).jtag = s.jtag ∧
    (putEth p v s).boot = s.boot ∧
    (putEth p v s).period = s.period ∧
    (putEth p v s).pwr = s.pwr ∧
    (putEth p v s).scan = s.scan ∧
    (putEth p v s).lct = s.lct ∧
    (putEth p v s).tb = s.tb ∧
    (putEth p v s).tiles = s.tiles ∧
    (putEth p v s).handles = s.handles ∧
    (putEth p v s).dcx = s.dcx ∧
    (putEth p v s).mnt = s.mnt ∧
    (putEth p v s).comp = s.comp ∧
    (putEth p v s).thm = s.thm ∧
    (putEth p v s).gl = s.gl ∧
    (putEth p v s).link = s.link ∧
    (putEth p v s).ozd = s.ozd ∧
    (putEth p v s).lctc = s.lctc ∧
    (putEth p v s).msgq = s.msgq ∧
    (putEth p v s).wcapLevel = s.wcapLevel := by simp [putEth]

theorem putTrig_frame (k : Nat) (v : Trig) (s : State) :
    (putTrig k v s).pending = s.pending ∧
    (putTrig k v s).fs = s.fs ∧
    (putTrig k v s).scene = s.scene ∧
    (putTrig k v s).jtag = s.jtag ∧
    (putTrig k v s).boot = s.boot ∧
    (putTrig k v s).period = s.period ∧
    (putTrig k v s).pwr = s.pwr ∧
    (putTrig k v s).scan = s.scan ∧
    (putTrig k v s).lct = s.lct ∧
    (putTrig k v s).tb = s.tb ∧
    (putTrig k v s).tiles = s.tiles ∧
    (putTrig k v s).handles = s.handles ∧
    (putTrig k v s).dcx = s.dcx ∧
    (putTrig k v s).mnt = s.mnt ∧
    (putTrig k v s).comp = s.comp ∧
    (putTrig k v s).thm = s.thm ∧
    (putTrig k v s).gl = s.gl ∧
    (putTrig k v s).link = s.link ∧
    (putTrig k v s).ozd = s.ozd ∧
    (putTrig k v s).lctc = s.lctc ∧
    (putTrig k v s).msgq = s.msgq ∧
    (putTrig k v s).wcapLevel = s.wcapLevel := by simp [putTrig]

theorem tickFree_frame (s : State) :
    (tickFree s).pending = s.pending ∧
    (tickFree s).fs = s.fs ∧
    (tickFree s).scene = s.scene ∧
    (tickFree s).jtag = s.jtag ∧
    (tickFree s).boot = s.boot ∧
    (tickFree s).period = s.period ∧
    (tickFree s).pwr = s.pwr ∧
    (tickFree s).scan = s.scan ∧
    (tickFree s).lct = s.lct ∧
    (tickFree s).tb = s.tb ∧
    (tickFree s).tiles = s.tiles ∧
    (tickFree s).handles = s.handles ∧
    (tickFree s).dcx = s.dcx ∧
    (tickFree s).mnt = s.mnt ∧
    (tickFree s).comp = s.comp ∧
    (tickFree s).thm = s.thm ∧
    (tickFree s).gl = s.gl ∧
    (tickFree s).link = s.link ∧
    (tickFree s).ozd = s.ozd ∧
    (tickFree s).lctc = s.lctc ∧
    (tickFree s).msgq = s.msgq ∧
    (tickFree s).wcapLevel = s.wcapLevel := by simp [tickFree]

theorem bumpLost_frame (k : Nat) (s : State) :
    (bumpLost k s).pending = s.pending ∧
    (bumpLost k s).fs = s.fs ∧
    (bumpLost k s).scene = s.scene ∧
    (bumpLost k s).jtag = s.jtag ∧
    (bumpLost k s).boot = s.boot ∧
    (bumpLost k s).period = s.period ∧
    (bumpLost k s).pwr = s.pwr ∧
    (bumpLost k s).scan = s.scan ∧
    (bumpLost k s).lct = s.lct ∧
    (bumpLost k s).tb = s.tb ∧
    (bumpLost k s).tiles = s.tiles ∧
    (bumpLost k s).handles = s.handles ∧
    (bumpLost k s).dcx = s.dcx ∧
    (bumpLost k s).mnt = s.mnt ∧
    (bumpLost k s).comp = s.comp ∧
    (bumpLost k s).thm = s.thm ∧
    (bumpLost k s).gl = s.gl ∧
    (bumpLost k s).link = s.link ∧
    (bumpLost k s).ozd = s.ozd ∧
    (bumpLost k s).lctc = s.lctc ∧
    (bumpLost k s).msgq = s.msgq ∧
    (bumpLost k s).wcapLevel = s.wcapLevel := by simp [setRegN_frame .., bumpLost]

theorem queueRec_frame (k : Nat) (r : EvtRec) (s : State) :
    (queueRec k r s).pending = s.pending ∧
    (queueRec k r s).fs = s.fs ∧
    (queueRec k r s).scene = s.scene ∧
    (queueRec k r s).jtag = s.jtag ∧
    (queueRec k r s).boot = s.boot ∧
    (queueRec k r s).period = s.period ∧
    (queueRec k r s).pwr = s.pwr ∧
    (queueRec k r s).scan = s.scan ∧
    (queueRec k r s).lct = s.lct ∧
    (queueRec k r s).tb = s.tb ∧
    (queueRec k r s).tiles = s.tiles ∧
    (queueRec k r s).handles = s.handles ∧
    (queueRec k r s).dcx = s.dcx ∧
    (queueRec k r s).mnt = s.mnt ∧
    (queueRec k r s).comp = s.comp ∧
    (queueRec k r s).thm = s.thm ∧
    (queueRec k r s).gl = s.gl ∧
    (queueRec k r s).link = s.link ∧
    (queueRec k r s).ozd = s.ozd ∧
    (queueRec k r s).lctc = s.lctc ∧
    (queueRec k r s).wcapLevel = s.wcapLevel := by simp [bumpLost_frame .., putMsgq_frame .., queueRec]

theorem queueAll_frame (p : Nat) (r : EvtRec) (s : State) :
    (queueAll p r s).pending = s.pending ∧
    (queueAll p r s).fs = s.fs ∧
    (queueAll p r s).scene = s.scene ∧
    (queueAll p r s).jtag = s.jtag ∧
    (queueAll p r s).boot = s.boot ∧
    (queueAll p r s).period = s.period ∧
    (queueAll p r s).pwr = s.pwr ∧
    (queueAll p r s).scan = s.scan ∧
    (queueAll p r s).lct = s.lct ∧
    (queueAll p r s).tb = s.tb ∧
    (queueAll p r s).tiles = s.tiles ∧
    (queueAll p r s).handles = s.handles ∧
    (queueAll p r s).dcx = s.dcx ∧
    (queueAll p r s).mnt = s.mnt ∧
    (queueAll p r s).comp = s.comp ∧
    (queueAll p r s).thm = s.thm ∧
    (queueAll p r s).gl = s.gl ∧
    (queueAll p r s).link = s.link ∧
    (queueAll p r s).ozd = s.ozd ∧
    (queueAll p r s).lctc = s.lctc ∧
    (queueAll p r s).wcapLevel = s.wcapLevel := by simp [queueRec_frame .., queueAll]

theorem captureOnFault_frame (p ev : Nat) (s : State) :
    (captureOnFault p ev s).pending = s.pending ∧
    (captureOnFault p ev s).fs = s.fs ∧
    (captureOnFault p ev s).scene = s.scene ∧
    (captureOnFault p ev s).jtag = s.jtag ∧
    (captureOnFault p ev s).boot = s.boot ∧
    (captureOnFault p ev s).period = s.period ∧
    (captureOnFault p ev s).pwr = s.pwr ∧
    (captureOnFault p ev s).scan = s.scan ∧
    (captureOnFault p ev s).lct = s.lct ∧
    (captureOnFault p ev s).tb = s.tb ∧
    (captureOnFault p ev s).tiles = s.tiles ∧
    (captureOnFault p ev s).handles = s.handles ∧
    (captureOnFault p ev s).dcx = s.dcx ∧
    (captureOnFault p ev s).mnt = s.mnt ∧
    (captureOnFault p ev s).comp = s.comp ∧
    (captureOnFault p ev s).thm = s.thm ∧
    (captureOnFault p ev s).gl = s.gl ∧
    (captureOnFault p ev s).link = s.link ∧
    (captureOnFault p ev s).ozd = s.ozd ∧
    (captureOnFault p ev s).lctc = s.lctc ∧
    (captureOnFault p ev s).msgq = s.msgq ∧
    (captureOnFault p ev s).wcapLevel = s.wcapLevel := by simp [setReg_frame .., tickFree_frame .., captureOnFault]

theorem fireAt_frame (p b ev detail : Nat) (s : State) :
    (fireAt p b ev detail s).pending = s.pending ∧
    (fireAt p b ev detail s).fs = s.fs ∧
    (fireAt p b ev detail s).scene = s.scene ∧
    (fireAt p b ev detail s).jtag = s.jtag ∧
    (fireAt p b ev detail s).boot = s.boot ∧
    (fireAt p b ev detail s).period = s.period ∧
    (fireAt p b ev detail s).pwr = s.pwr ∧
    (fireAt p b ev detail s).scan = s.scan ∧
    (fireAt p b ev detail s).lct = s.lct ∧
    (fireAt p b ev detail s).tb = s.tb ∧
    (fireAt p b ev detail s).tiles = s.tiles ∧
    (fireAt p b ev detail s).handles = s.handles ∧
    (fireAt p b ev detail s).dcx = s.dcx ∧
    (fireAt p b ev detail s).mnt = s.mnt ∧
    (fireAt p b ev detail s).comp = s.comp ∧
    (fireAt p b ev detail s).thm = s.thm ∧
    (fireAt p b ev detail s).gl = s.gl ∧
    (fireAt p b ev detail s).link = s.link ∧
    (fireAt p b ev detail s).ozd = s.ozd ∧
    (fireAt p b ev detail s).lctc = s.lctc ∧
    (fireAt p b ev detail s).wcapLevel = s.wcapLevel := by simp [captureOnFault_frame .., queueAll_frame .., setRegBit_frame .., fireAt]

theorem msgLost_frame (ks : List Nat) (s : State) :
    (msgLost ks s).pending = s.pending ∧
    (msgLost ks s).fs = s.fs ∧
    (msgLost ks s).scene = s.scene ∧
    (msgLost ks s).jtag = s.jtag ∧
    (msgLost ks s).boot = s.boot ∧
    (msgLost ks s).period = s.period ∧
    (msgLost ks s).pwr = s.pwr ∧
    (msgLost ks s).scan = s.scan ∧
    (msgLost ks s).lct = s.lct ∧
    (msgLost ks s).tb = s.tb ∧
    (msgLost ks s).tiles = s.tiles ∧
    (msgLost ks s).handles = s.handles ∧
    (msgLost ks s).dcx = s.dcx ∧
    (msgLost ks s).mnt = s.mnt ∧
    (msgLost ks s).comp = s.comp ∧
    (msgLost ks s).thm = s.thm ∧
    (msgLost ks s).gl = s.gl ∧
    (msgLost ks s).link = s.link ∧
    (msgLost ks s).ozd = s.ozd ∧
    (msgLost ks s).lctc = s.lctc ∧
    (msgLost ks s).wcapLevel = s.wcapLevel := by simp [fireAt_frame .., msgLost]

theorem raise_frame (ev detail : Nat) (s : State) :
    (raise ev detail s).pending = s.pending ∧
    (raise ev detail s).fs = s.fs ∧
    (raise ev detail s).scene = s.scene ∧
    (raise ev detail s).jtag = s.jtag ∧
    (raise ev detail s).boot = s.boot ∧
    (raise ev detail s).period = s.period ∧
    (raise ev detail s).pwr = s.pwr ∧
    (raise ev detail s).scan = s.scan ∧
    (raise ev detail s).lct = s.lct ∧
    (raise ev detail s).tb = s.tb ∧
    (raise ev detail s).tiles = s.tiles ∧
    (raise ev detail s).handles = s.handles ∧
    (raise ev detail s).dcx = s.dcx ∧
    (raise ev detail s).mnt = s.mnt ∧
    (raise ev detail s).comp = s.comp ∧
    (raise ev detail s).thm = s.thm ∧
    (raise ev detail s).gl = s.gl ∧
    (raise ev detail s).link = s.link ∧
    (raise ev detail s).ozd = s.ozd ∧
    (raise ev detail s).lctc = s.lctc ∧
    (raise ev detail s).wcapLevel = s.wcapLevel := by simp only [raise]; (repeat' split) <;> simp [fireAt_frame .., msgLost_frame ..]

theorem queuePending_frame (p : Nat) (before : Word) (s : State) :
    (queuePending p before s).pending = s.pending ∧
    (queuePending p before s).fs = s.fs ∧
    (queuePending p before s).scene = s.scene ∧
    (queuePending p before s).jtag = s.jtag ∧
    (queuePending p before s).boot = s.boot ∧
    (queuePending p before s).period = s.period ∧
    (queuePending p before s).pwr = s.pwr ∧
    (queuePending p before s).scan = s.scan ∧
    (queuePending p before s).lct = s.lct ∧
    (queuePending p before s).tb = s.tb ∧
    (queuePending p before s).tiles = s.tiles ∧
    (queuePending p before s).handles = s.handles ∧
    (queuePending p before s).dcx = s.dcx ∧
    (queuePending p before s).mnt = s.mnt ∧
    (queuePending p before s).comp = s.comp ∧
    (queuePending p before s).thm = s.thm ∧
    (queuePending p before s).gl = s.gl ∧
    (queuePending p before s).link = s.link ∧
    (queuePending p before s).ozd = s.ozd ∧
    (queuePending p before s).lctc = s.lctc ∧
    (queuePending p before s).wcapLevel = s.wcapLevel := by
  unfold queuePending
  exact foldl_inv (fun q => q.pending = s.pending ∧ q.fs = s.fs ∧ q.scene = s.scene ∧ q.jtag = s.jtag ∧ q.boot = s.boot ∧ q.period = s.period ∧ q.pwr = s.pwr ∧ q.scan = s.scan ∧ q.lct = s.lct ∧ q.tb = s.tb ∧ q.tiles = s.tiles ∧ q.handles = s.handles ∧ q.dcx = s.dcx ∧ q.mnt = s.mnt ∧ q.comp = s.comp ∧ q.thm = s.thm ∧ q.gl = s.gl ∧ q.link = s.link ∧ q.ozd = s.ozd ∧ q.lctc = s.lctc ∧ q.wcapLevel = s.wcapLevel) _
    (by intro q x h; (repeat' split) <;> simp_all [msgLost_frame .., queueAll_frame ..]) _ _ (by simp [msgLost_frame .., queueAll_frame ..])

theorem bumpSatW_frame (w a : Nat) (s : State) :
    (bumpSatW w a s).pending = s.pending ∧
    (bumpSatW w a s).fs = s.fs ∧
    (bumpSatW w a s).scene = s.scene ∧
    (bumpSatW w a s).jtag = s.jtag ∧
    (bumpSatW w a s).boot = s.boot ∧
    (bumpSatW w a s).period = s.period ∧
    (bumpSatW w a s).pwr = s.pwr ∧
    (bumpSatW w a s).scan = s.scan ∧
    (bumpSatW w a s).lct = s.lct ∧
    (bumpSatW w a s).tb = s.tb ∧
    (bumpSatW w a s).tiles = s.tiles ∧
    (bumpSatW w a s).handles = s.handles ∧
    (bumpSatW w a s).dcx = s.dcx ∧
    (bumpSatW w a s).mnt = s.mnt ∧
    (bumpSatW w a s).comp = s.comp ∧
    (bumpSatW w a s).thm = s.thm ∧
    (bumpSatW w a s).gl = s.gl ∧
    (bumpSatW w a s).link = s.link ∧
    (bumpSatW w a s).ozd = s.ozd ∧
    (bumpSatW w a s).lctc = s.lctc ∧
    (bumpSatW w a s).msgq = s.msgq ∧
    (bumpSatW w a s).wcapLevel = s.wcapLevel := by simp [setRegN_frame .., bumpSatW]

theorem bumpSat_frame (a : Nat) (s : State) :
    (bumpSat a s).pending = s.pending ∧
    (bumpSat a s).fs = s.fs ∧
    (bumpSat a s).scene = s.scene ∧
    (bumpSat a s).jtag = s.jtag ∧
    (bumpSat a s).boot = s.boot ∧
    (bumpSat a s).period = s.period ∧
    (bumpSat a s).pwr = s.pwr ∧
    (bumpSat a s).scan = s.scan ∧
    (bumpSat a s).lct = s.lct ∧
    (bumpSat a s).tb = s.tb ∧
    (bumpSat a s).tiles = s.tiles ∧
    (bumpSat a s).handles = s.handles ∧
    (bumpSat a s).dcx = s.dcx ∧
    (bumpSat a s).mnt = s.mnt ∧
    (bumpSat a s).comp = s.comp ∧
    (bumpSat a s).thm = s.thm ∧
    (bumpSat a s).gl = s.gl ∧
    (bumpSat a s).link = s.link ∧
    (bumpSat a s).ozd = s.ozd ∧
    (bumpSat a s).lctc = s.lctc ∧
    (bumpSat a s).msgq = s.msgq ∧
    (bumpSat a s).wcapLevel = s.wcapLevel := by simp [bumpSatW_frame .., bumpSat]

theorem bumpWrap_frame (a : Nat) (s : State) :
    (bumpWrap a s).pending = s.pending ∧
    (bumpWrap a s).fs = s.fs ∧
    (bumpWrap a s).scene = s.scene ∧
    (bumpWrap a s).jtag = s.jtag ∧
    (bumpWrap a s).boot = s.boot ∧
    (bumpWrap a s).period = s.period ∧
    (bumpWrap a s).pwr = s.pwr ∧
    (bumpWrap a s).scan = s.scan ∧
    (bumpWrap a s).lct = s.lct ∧
    (bumpWrap a s).tb = s.tb ∧
    (bumpWrap a s).tiles = s.tiles ∧
    (bumpWrap a s).handles = s.handles ∧
    (bumpWrap a s).dcx = s.dcx ∧
    (bumpWrap a s).mnt = s.mnt ∧
    (bumpWrap a s).comp = s.comp ∧
    (bumpWrap a s).thm = s.thm ∧
    (bumpWrap a s).gl = s.gl ∧
    (bumpWrap a s).link = s.link ∧
    (bumpWrap a s).ozd = s.ozd ∧
    (bumpWrap a s).lctc = s.lctc ∧
    (bumpWrap a s).msgq = s.msgq ∧
    (bumpWrap a s).wcapLevel = s.wcapLevel := by simp [setReg_frame .., bumpWrap]

theorem bumpByWrap_frame (a n : Nat) (s : State) :
    (bumpByWrap a n s).pending = s.pending ∧
    (bumpByWrap a n s).fs = s.fs ∧
    (bumpByWrap a n s).scene = s.scene ∧
    (bumpByWrap a n s).jtag = s.jtag ∧
    (bumpByWrap a n s).boot = s.boot ∧
    (bumpByWrap a n s).period = s.period ∧
    (bumpByWrap a n s).pwr = s.pwr ∧
    (bumpByWrap a n s).scan = s.scan ∧
    (bumpByWrap a n s).lct = s.lct ∧
    (bumpByWrap a n s).tb = s.tb ∧
    (bumpByWrap a n s).tiles = s.tiles ∧
    (bumpByWrap a n s).handles = s.handles ∧
    (bumpByWrap a n s).dcx = s.dcx ∧
    (bumpByWrap a n s).mnt = s.mnt ∧
    (bumpByWrap a n s).comp = s.comp ∧
    (bumpByWrap a n s).thm = s.thm ∧
    (bumpByWrap a n s).gl = s.gl ∧
    (bumpByWrap a n s).link = s.link ∧
    (bumpByWrap a n s).ozd = s.ozd ∧
    (bumpByWrap a n s).lctc = s.lctc ∧
    (bumpByWrap a n s).msgq = s.msgq ∧
    (bumpByWrap a n s).wcapLevel = s.wcapLevel := by simp [setReg_frame .., bumpByWrap]

theorem bumpBySat_frame (a n : Nat) (s : State) :
    (bumpBySat a n s).pending = s.pending ∧
    (bumpBySat a n s).fs = s.fs ∧
    (bumpBySat a n s).scene = s.scene ∧
    (bumpBySat a n s).jtag = s.jtag ∧
    (bumpBySat a n s).boot = s.boot ∧
    (bumpBySat a n s).period = s.period ∧
    (bumpBySat a n s).pwr = s.pwr ∧
    (bumpBySat a n s).scan = s.scan ∧
    (bumpBySat a n s).lct = s.lct ∧
    (bumpBySat a n s).tb = s.tb ∧
    (bumpBySat a n s).tiles = s.tiles ∧
    (bumpBySat a n s).handles = s.handles ∧
    (bumpBySat a n s).dcx = s.dcx ∧
    (bumpBySat a n s).mnt = s.mnt ∧
    (bumpBySat a n s).comp = s.comp ∧
    (bumpBySat a n s).thm = s.thm ∧
    (bumpBySat a n s).gl = s.gl ∧
    (bumpBySat a n s).link = s.link ∧
    (bumpBySat a n s).ozd = s.ozd ∧
    (bumpBySat a n s).lctc = s.lctc ∧
    (bumpBySat a n s).msgq = s.msgq ∧
    (bumpBySat a n s).wcapLevel = s.wcapLevel := by simp [setRegN_frame .., bumpBySat]

theorem mntPush_frame (act unit : Nat) (host : Bool) (s : State) :
    (mntPush act unit host s).pending = s.pending ∧
    (mntPush act unit host s).fs = s.fs ∧
    (mntPush act unit host s).scene = s.scene ∧
    (mntPush act unit host s).jtag = s.jtag ∧
    (mntPush act unit host s).boot = s.boot ∧
    (mntPush act unit host s).period = s.period ∧
    (mntPush act unit host s).pwr = s.pwr ∧
    (mntPush act unit host s).scan = s.scan ∧
    (mntPush act unit host s).lct = s.lct ∧
    (mntPush act unit host s).tb = s.tb ∧
    (mntPush act unit host s).tiles = s.tiles ∧
    (mntPush act unit host s).handles = s.handles ∧
    (mntPush act unit host s).dcx = s.dcx ∧
    (mntPush act unit host s).comp = s.comp ∧
    (mntPush act unit host s).thm = s.thm ∧
    (mntPush act unit host s).gl = s.gl ∧
    (mntPush act unit host s).link = s.link ∧
    (mntPush act unit host s).ozd = s.ozd ∧
    (mntPush act unit host s).lctc = s.lctc ∧
    (mntPush act unit host s).wcapLevel = s.wcapLevel := by simp [bumpSat_frame .., raise_frame .., mntPush]

theorem dropRun_frame (act unit : Nat) (s : State) :
    (dropRun act unit s).pending = s.pending ∧
    (dropRun act unit s).fs = s.fs ∧
    (dropRun act unit s).scene = s.scene ∧
    (dropRun act unit s).jtag = s.jtag ∧
    (dropRun act unit s).boot = s.boot ∧
    (dropRun act unit s).period = s.period ∧
    (dropRun act unit s).pwr = s.pwr ∧
    (dropRun act unit s).scan = s.scan ∧
    (dropRun act unit s).lct = s.lct ∧
    (dropRun act unit s).tb = s.tb ∧
    (dropRun act unit s).tiles = s.tiles ∧
    (dropRun act unit s).handles = s.handles ∧
    (dropRun act unit s).dcx = s.dcx ∧
    (dropRun act unit s).mnt = s.mnt ∧
    (dropRun act unit s).comp = s.comp ∧
    (dropRun act unit s).gl = s.gl ∧
    (dropRun act unit s).link = s.link ∧
    (dropRun act unit s).ozd = s.ozd ∧
    (dropRun act unit s).lctc = s.lctc ∧
    (dropRun act unit s).msgq = s.msgq ∧
    (dropRun act unit s).wcapLevel = s.wcapLevel := by simp [dropRun]

theorem mntAbort_frame (act unit cause : Nat) (s : State) :
    (mntAbort act unit cause s).pending = s.pending ∧
    (mntAbort act unit cause s).fs = s.fs ∧
    (mntAbort act unit cause s).scene = s.scene ∧
    (mntAbort act unit cause s).jtag = s.jtag ∧
    (mntAbort act unit cause s).boot = s.boot ∧
    (mntAbort act unit cause s).period = s.period ∧
    (mntAbort act unit cause s).pwr = s.pwr ∧
    (mntAbort act unit cause s).scan = s.scan ∧
    (mntAbort act unit cause s).lct = s.lct ∧
    (mntAbort act unit cause s).tb = s.tb ∧
    (mntAbort act unit cause s).tiles = s.tiles ∧
    (mntAbort act unit cause s).handles = s.handles ∧
    (mntAbort act unit cause s).dcx = s.dcx ∧
    (mntAbort act unit cause s).comp = s.comp ∧
    (mntAbort act unit cause s).gl = s.gl ∧
    (mntAbort act unit cause s).link = s.link ∧
    (mntAbort act unit cause s).ozd = s.ozd ∧
    (mntAbort act unit cause s).lctc = s.lctc ∧
    (mntAbort act unit cause s).wcapLevel = s.wcapLevel := by simp only [mntAbort]; (repeat' split) <;> simp [bumpSat_frame .., dropRun_frame .., raise_frame ..]

theorem mntFinish_frame (act unit : Nat) (pass : Bool) (s : State) :
    (mntFinish act unit pass s).pending = s.pending ∧
    (mntFinish act unit pass s).fs = s.fs ∧
    (mntFinish act unit pass s).scene = s.scene ∧
    (mntFinish act unit pass s).jtag = s.jtag ∧
    (mntFinish act unit pass s).boot = s.boot ∧
    (mntFinish act unit pass s).period = s.period ∧
    (mntFinish act unit pass s).pwr = s.pwr ∧
    (mntFinish act unit pass s).scan = s.scan ∧
    (mntFinish act unit pass s).lct = s.lct ∧
    (mntFinish act unit pass s).tb = s.tb ∧
    (mntFinish act unit pass s).tiles = s.tiles ∧
    (mntFinish act unit pass s).handles = s.handles ∧
    (mntFinish act unit pass s).dcx = s.dcx ∧
    (mntFinish act unit pass s).comp = s.comp ∧
    (mntFinish act unit pass s).thm = s.thm ∧
    (mntFinish act unit pass s).gl = s.gl ∧
    (mntFinish act unit pass s).link = s.link ∧
    (mntFinish act unit pass s).ozd = s.ozd ∧
    (mntFinish act unit pass s).lctc = s.lctc ∧
    (mntFinish act unit pass s).wcapLevel = s.wcapLevel := by simp [bumpWrap_frame .., raise_frame .., mntFinish]

theorem mntNoSpare_frame (act unit : Nat) (s : State) :
    (mntNoSpare act unit s).pending = s.pending ∧
    (mntNoSpare act unit s).fs = s.fs ∧
    (mntNoSpare act unit s).scene = s.scene ∧
    (mntNoSpare act unit s).jtag = s.jtag ∧
    (mntNoSpare act unit s).boot = s.boot ∧
    (mntNoSpare act unit s).period = s.period ∧
    (mntNoSpare act unit s).pwr = s.pwr ∧
    (mntNoSpare act unit s).scan = s.scan ∧
    (mntNoSpare act unit s).lct = s.lct ∧
    (mntNoSpare act unit s).tb = s.tb ∧
    (mntNoSpare act unit s).tiles = s.tiles ∧
    (mntNoSpare act unit s).handles = s.handles ∧
    (mntNoSpare act unit s).dcx = s.dcx ∧
    (mntNoSpare act unit s).comp = s.comp ∧
    (mntNoSpare act unit s).thm = s.thm ∧
    (mntNoSpare act unit s).gl = s.gl ∧
    (mntNoSpare act unit s).link = s.link ∧
    (mntNoSpare act unit s).ozd = s.ozd ∧
    (mntNoSpare act unit s).lctc = s.lctc ∧
    (mntNoSpare act unit s).wcapLevel = s.wcapLevel := by simp [bumpSat_frame .., raise_frame .., mntNoSpare]

theorem setUE_frame (sys : MemSys) (l : List Nat) (s : State) :
    (setUE sys l s).pending = s.pending ∧
    (setUE sys l s).fs = s.fs ∧
    (setUE sys l s).scene = s.scene ∧
    (setUE sys l s).jtag = s.jtag ∧
    (setUE sys l s).boot = s.boot ∧
    (setUE sys l s).period = s.period ∧
    (setUE sys l s).pwr = s.pwr ∧
    (setUE sys l s).scan = s.scan ∧
    (setUE sys l s).lct = s.lct ∧
    (setUE sys l s).tb = s.tb ∧
    (setUE sys l s).tiles = s.tiles ∧
    (setUE sys l s).handles = s.handles ∧
    (setUE sys l s).dcx = s.dcx ∧
    (setUE sys l s).mnt = s.mnt ∧
    (setUE sys l s).comp = s.comp ∧
    (setUE sys l s).thm = s.thm ∧
    (setUE sys l s).gl = s.gl ∧
    (setUE sys l s).link = s.link ∧
    (setUE sys l s).ozd = s.ozd ∧
    (setUE sys l s).lctc = s.lctc ∧
    (setUE sys l s).msgq = s.msgq ∧
    (setUE sys l s).wcapLevel = s.wcapLevel := by simp only [setUE]; (repeat' split) <;> simp

theorem setMem_frame (sys : MemSys) (m : MemAux) (s : State) :
    (setMem sys m s).pending = s.pending ∧
    (setMem sys m s).fs = s.fs ∧
    (setMem sys m s).scene = s.scene ∧
    (setMem sys m s).jtag = s.jtag ∧
    (setMem sys m s).boot = s.boot ∧
    (setMem sys m s).period = s.period ∧
    (setMem sys m s).pwr = s.pwr ∧
    (setMem sys m s).scan = s.scan ∧
    (setMem sys m s).lct = s.lct ∧
    (setMem sys m s).tb = s.tb ∧
    (setMem sys m s).tiles = s.tiles ∧
    (setMem sys m s).handles = s.handles ∧
    (setMem sys m s).dcx = s.dcx ∧
    (setMem sys m s).mnt = s.mnt ∧
    (setMem sys m s).comp = s.comp ∧
    (setMem sys m s).thm = s.thm ∧
    (setMem sys m s).gl = s.gl ∧
    (setMem sys m s).link = s.link ∧
    (setMem sys m s).ozd = s.ozd ∧
    (setMem sys m s).lctc = s.lctc ∧
    (setMem sys m s).msgq = s.msgq ∧
    (setMem sys m s).wcapLevel = s.wcapLevel := by simp only [setMem]; (repeat' split) <;> simp

theorem rplSet_frame (sys : MemSys) (i : Nat) (v : Word) (s : State) :
    (rplSet sys i v s).pending = s.pending ∧
    (rplSet sys i v s).fs = s.fs ∧
    (rplSet sys i v s).scene = s.scene ∧
    (rplSet sys i v s).jtag = s.jtag ∧
    (rplSet sys i v s).boot = s.boot ∧
    (rplSet sys i v s).period = s.period ∧
    (rplSet sys i v s).pwr = s.pwr ∧
    (rplSet sys i v s).scan = s.scan ∧
    (rplSet sys i v s).lct = s.lct ∧
    (rplSet sys i v s).tb = s.tb ∧
    (rplSet sys i v s).tiles = s.tiles ∧
    (rplSet sys i v s).handles = s.handles ∧
    (rplSet sys i v s).dcx = s.dcx ∧
    (rplSet sys i v s).mnt = s.mnt ∧
    (rplSet sys i v s).comp = s.comp ∧
    (rplSet sys i v s).thm = s.thm ∧
    (rplSet sys i v s).gl = s.gl ∧
    (rplSet sys i v s).link = s.link ∧
    (rplSet sys i v s).ozd = s.ozd ∧
    (rplSet sys i v s).lctc = s.lctc ∧
    (rplSet sys i v s).msgq = s.msgq ∧
    (rplSet sys i v s).wcapLevel = s.wcapLevel := by simp [setMem_frame .., rplSet]

theorem listRow_frame (sys : MemSys) (off cause : Nat) (s : State) :
    (listRow sys off cause s).pending = s.pending ∧
    (listRow sys off cause s).fs = s.fs ∧
    (listRow sys off cause s).scene = s.scene ∧
    (listRow sys off cause s).jtag = s.jtag ∧
    (listRow sys off cause s).boot = s.boot ∧
    (listRow sys off cause s).period = s.period ∧
    (listRow sys off cause s).pwr = s.pwr ∧
    (listRow sys off cause s).scan = s.scan ∧
    (listRow sys off cause s).lct = s.lct ∧
    (listRow sys off cause s).tb = s.tb ∧
    (listRow sys off cause s).tiles = s.tiles ∧
    (listRow sys off cause s).handles = s.handles ∧
    (listRow sys off cause s).dcx = s.dcx ∧
    (listRow sys off cause s).comp = s.comp ∧
    (listRow sys off cause s).thm = s.thm ∧
    (listRow sys off cause s).gl = s.gl ∧
    (listRow sys off cause s).link = s.link ∧
    (listRow sys off cause s).ozd = s.ozd ∧
    (listRow sys off cause s).lctc = s.lctc ∧
    (listRow sys off cause s).wcapLevel = s.wcapLevel := by simp only [listRow]; (repeat' split) <;> simp [bumpSat_frame .., mntPush_frame .., raise_frame .., rplSet_frame ..]

theorem raiseUncorr_frame (sys : MemSys) (off reader : Nat) (s : State) :
    (raiseUncorr sys off reader s).pending = s.pending ∧
    (raiseUncorr sys off reader s).fs = s.fs ∧
    (raiseUncorr sys off reader s).scene = s.scene ∧
    (raiseUncorr sys off reader s).jtag = s.jtag ∧
    (raiseUncorr sys off reader s).boot = s.boot ∧
    (raiseUncorr sys off reader s).period = s.period ∧
    (raiseUncorr sys off reader s).pwr = s.pwr ∧
    (raiseUncorr sys off reader s).scan = s.scan ∧
    (raiseUncorr sys off reader s).lct = s.lct ∧
    (raiseUncorr sys off reader s).tb = s.tb ∧
    (raiseUncorr sys off reader s).tiles = s.tiles ∧
    (raiseUncorr sys off reader s).handles = s.handles ∧
    (raiseUncorr sys off reader s).dcx = s.dcx ∧
    (raiseUncorr sys off reader s).mnt = s.mnt ∧
    (raiseUncorr sys off reader s).comp = s.comp ∧
    (raiseUncorr sys off reader s).thm = s.thm ∧
    (raiseUncorr sys off reader s).gl = s.gl ∧
    (raiseUncorr sys off reader s).link = s.link ∧
    (raiseUncorr sys off reader s).ozd = s.ozd ∧
    (raiseUncorr sys off reader s).lctc = s.lctc ∧
    (raiseUncorr sys off reader s).wcapLevel = s.wcapLevel := by simp [raise_frame .., setMem_frame .., raiseUncorr]

theorem uncorr_frame (sys : MemSys) (off reader : Nat) (s : State) :
    (uncorr sys off reader s).pending = s.pending ∧
    (uncorr sys off reader s).fs = s.fs ∧
    (uncorr sys off reader s).scene = s.scene ∧
    (uncorr sys off reader s).jtag = s.jtag ∧
    (uncorr sys off reader s).boot = s.boot ∧
    (uncorr sys off reader s).period = s.period ∧
    (uncorr sys off reader s).pwr = s.pwr ∧
    (uncorr sys off reader s).scan = s.scan ∧
    (uncorr sys off reader s).lct = s.lct ∧
    (uncorr sys off reader s).tb = s.tb ∧
    (uncorr sys off reader s).tiles = s.tiles ∧
    (uncorr sys off reader s).handles = s.handles ∧
    (uncorr sys off reader s).dcx = s.dcx ∧
    (uncorr sys off reader s).comp = s.comp ∧
    (uncorr sys off reader s).thm = s.thm ∧
    (uncorr sys off reader s).gl = s.gl ∧
    (uncorr sys off reader s).link = s.link ∧
    (uncorr sys off reader s).ozd = s.ozd ∧
    (uncorr sys off reader s).lctc = s.lctc ∧
    (uncorr sys off reader s).wcapLevel = s.wcapLevel := by simp only [uncorr]; (repeat' split) <;> simp [bumpSat_frame .., listRow_frame .., raiseUncorr_frame .., setRegN_frame ..]

theorem setCells_frame (sys : MemSys) (l : List Host.Cell) (s : State) :
    (setCells sys l s).pending = s.pending ∧
    (setCells sys l s).jtag = s.jtag ∧
    (setCells sys l s).boot = s.boot ∧
    (setCells sys l s).period = s.period ∧
    (setCells sys l s).pwr = s.pwr ∧
    (setCells sys l s).scan = s.scan ∧
    (setCells sys l s).lct = s.lct ∧
    (setCells sys l s).tb = s.tb ∧
    (setCells sys l s).tiles = s.tiles ∧
    (setCells sys l s).handles = s.handles ∧
    (setCells sys l s).dcx = s.dcx ∧
    (setCells sys l s).mnt = s.mnt ∧
    (setCells sys l s).comp = s.comp ∧
    (setCells sys l s).thm = s.thm ∧
    (setCells sys l s).gl = s.gl ∧
    (setCells sys l s).link = s.link ∧
    (setCells sys l s).ozd = s.ozd ∧
    (setCells sys l s).lctc = s.lctc ∧
    (setCells sys l s).msgq = s.msgq ∧
    (setCells sys l s).wcapLevel = s.wcapLevel := by simp only [setCells]; (repeat' split) <;> simp

theorem partialUE_frame (sys : MemSys) (c : Nat) (s : State) :
    (partialUE sys c s).pending = s.pending ∧
    (partialUE sys c s).fs = s.fs ∧
    (partialUE sys c s).scene = s.scene ∧
    (partialUE sys c s).jtag = s.jtag ∧
    (partialUE sys c s).boot = s.boot ∧
    (partialUE sys c s).period = s.period ∧
    (partialUE sys c s).pwr = s.pwr ∧
    (partialUE sys c s).scan = s.scan ∧
    (partialUE sys c s).lct = s.lct ∧
    (partialUE sys c s).tb = s.tb ∧
    (partialUE sys c s).tiles = s.tiles ∧
    (partialUE sys c s).handles = s.handles ∧
    (partialUE sys c s).dcx = s.dcx ∧
    (partialUE sys c s).comp = s.comp ∧
    (partialUE sys c s).thm = s.thm ∧
    (partialUE sys c s).gl = s.gl ∧
    (partialUE sys c s).link = s.link ∧
    (partialUE sys c s).ozd = s.ozd ∧
    (partialUE sys c s).lctc = s.lctc ∧
    (partialUE sys c s).wcapLevel = s.wcapLevel := by simp only [partialUE]; (repeat' split) <;> simp [bumpSat_frame .., raise_frame .., uncorr_frame ..]

theorem memWrite_frame (sys : MemSys) (off : Nat) (data : List Byte) (s : State) :
    (memWrite sys off data s).pending = s.pending ∧
    (memWrite sys off data s).jtag = s.jtag ∧
    (memWrite sys off data s).boot = s.boot ∧
    (memWrite sys off data s).period = s.period ∧
    (memWrite sys off data s).pwr = s.pwr ∧
    (memWrite sys off data s).scan = s.scan ∧
    (memWrite sys off data s).lct = s.lct ∧
    (memWrite sys off data s).tb = s.tb ∧
    (memWrite sys off data s).tiles = s.tiles ∧
    (memWrite sys off data s).handles = s.handles ∧
    (memWrite sys off data s).dcx = s.dcx ∧
    (memWrite sys off data s).comp = s.comp ∧
    (memWrite sys off data s).thm = s.thm ∧
    (memWrite sys off data s).gl = s.gl ∧
    (memWrite sys off data s).link = s.link ∧
    (memWrite sys off data s).ozd = s.ozd ∧
    (memWrite sys off data s).lctc = s.lctc ∧
    (memWrite sys off data s).wcapLevel = s.wcapLevel := by simp [partialUE_frame .., setCells_frame .., setUE_frame .., memWrite]

theorem memRead_frame (sys : MemSys) (off n reader : Nat) (s : State) :
    (memRead sys off n reader s).1.pending = s.pending ∧
    (memRead sys off n reader s).1.fs = s.fs ∧
    (memRead sys off n reader s).1.scene = s.scene ∧
    (memRead sys off n reader s).1.jtag = s.jtag ∧
    (memRead sys off n reader s).1.boot = s.boot ∧
    (memRead sys off n reader s).1.period = s.period ∧
    (memRead sys off n reader s).1.pwr = s.pwr ∧
    (memRead sys off n reader s).1.scan = s.scan ∧
    (memRead sys off n reader s).1.lct = s.lct ∧
    (memRead sys off n reader s).1.tb = s.tb ∧
    (memRead sys off n reader s).1.tiles = s.tiles ∧
    (memRead sys off n reader s).1.handles = s.handles ∧
    (memRead sys off n reader s).1.dcx = s.dcx ∧
    (memRead sys off n reader s).1.comp = s.comp ∧
    (memRead sys off n reader s).1.thm = s.thm ∧
    (memRead sys off n reader s).1.gl = s.gl ∧
    (memRead sys off n reader s).1.link = s.link ∧
    (memRead sys off n reader s).1.ozd = s.ozd ∧
    (memRead sys off n reader s).1.lctc = s.lctc ∧
    (memRead sys off n reader s).1.wcapLevel = s.wcapLevel := by simp [uncorr_frame .., memRead]

end Sys2Proof.Machine
end

