-- ==== Sys2Proof/Laws/FrameStore.lean ====
section
/-!
SUPPORT. What each operation of Store.lean leaves unchanged.
-/
set_option linter.unusedSimpArgs false
namespace Sys2Proof.Machine

theorem ozPut_frame (w : Nat) (v : DWord) (s : State) :
    (ozPut w v s).pending = s.pending ∧
    (ozPut w v s).fs = s.fs ∧
    (ozPut w v s).scene = s.scene ∧
    (ozPut w v s).jtag = s.jtag ∧
    (ozPut w v s).boot = s.boot ∧
    (ozPut w v s).period = s.period ∧
    (ozPut w v s).pwr = s.pwr ∧
    (ozPut w v s).scan = s.scan ∧
    (ozPut w v s).lct = s.lct ∧
    (ozPut w v s).tb = s.tb ∧
    (ozPut w v s).tiles = s.tiles ∧
    (ozPut w v s).handles = s.handles ∧
    (ozPut w v s).dcx = s.dcx ∧
    (ozPut w v s).mnt = s.mnt ∧
    (ozPut w v s).comp = s.comp ∧
    (ozPut w v s).thm = s.thm ∧
    (ozPut w v s).gl = s.gl ∧
    (ozPut w v s).link = s.link ∧
    (ozPut w v s).lctc = s.lctc ∧
    (ozPut w v s).msgq = s.msgq ∧
    (ozPut w v s).wcapLevel = s.wcapLevel := by simp [ozPut]

theorem ozSettle_frame (s : State) :
    (ozSettle s).pending = s.pending ∧
    (ozSettle s).fs = s.fs ∧
    (ozSettle s).scene = s.scene ∧
    (ozSettle s).jtag = s.jtag ∧
    (ozSettle s).boot = s.boot ∧
    (ozSettle s).period = s.period ∧
    (ozSettle s).pwr = s.pwr ∧
    (ozSettle s).scan = s.scan ∧
    (ozSettle s).lct = s.lct ∧
    (ozSettle s).tb = s.tb ∧
    (ozSettle s).tiles = s.tiles ∧
    (ozSettle s).handles = s.handles ∧
    (ozSettle s).dcx = s.dcx ∧
    (ozSettle s).mnt = s.mnt ∧
    (ozSettle s).comp = s.comp ∧
    (ozSettle s).thm = s.thm ∧
    (ozSettle s).gl = s.gl ∧
    (ozSettle s).link = s.link ∧
    (ozSettle s).lctc = s.lctc ∧
    (ozSettle s).msgq = s.msgq ∧
    (ozSettle s).wcapLevel = s.wcapLevel := by simp [ozSettle]

theorem ozFinish_frame (s : State) :
    (ozFinish s).pending = s.pending ∧
    (ozFinish s).fs = s.fs ∧
    (ozFinish s).scene = s.scene ∧
    (ozFinish s).jtag = s.jtag ∧
    (ozFinish s).boot = s.boot ∧
    (ozFinish s).period = s.period ∧
    (ozFinish s).pwr = s.pwr ∧
    (ozFinish s).scan = s.scan ∧
    (ozFinish s).lct = s.lct ∧
    (ozFinish s).tb = s.tb ∧
    (ozFinish s).tiles = s.tiles ∧
    (ozFinish s).handles = s.handles ∧
    (ozFinish s).dcx = s.dcx ∧
    (ozFinish s).mnt = s.mnt ∧
    (ozFinish s).comp = s.comp ∧
    (ozFinish s).thm = s.thm ∧
    (ozFinish s).gl = s.gl ∧
    (ozFinish s).link = s.link ∧
    (ozFinish s).lctc = s.lctc ∧
    (ozFinish s).msgq = s.msgq ∧
    (ozFinish s).wcapLevel = s.wcapLevel := by simp [ozFinish]

theorem ozCut_frame (s : State) :
    (ozCut s).pending = s.pending ∧
    (ozCut s).fs = s.fs ∧
    (ozCut s).scene = s.scene ∧
    (ozCut s).jtag = s.jtag ∧
    (ozCut s).boot = s.boot ∧
    (ozCut s).period = s.period ∧
    (ozCut s).pwr = s.pwr ∧
    (ozCut s).scan = s.scan ∧
    (ozCut s).lct = s.lct ∧
    (ozCut s).tb = s.tb ∧
    (ozCut s).tiles = s.tiles ∧
    (ozCut s).handles = s.handles ∧
    (ozCut s).dcx = s.dcx ∧
    (ozCut s).mnt = s.mnt ∧
    (ozCut s).comp = s.comp ∧
    (ozCut s).thm = s.thm ∧
    (ozCut s).gl = s.gl ∧
    (ozCut s).link = s.link ∧
    (ozCut s).lctc = s.lctc ∧
    (ozCut s).msgq = s.msgq ∧
    (ozCut s).wcapLevel = s.wcapLevel := by simp [ozCut]

theorem ozTouch_frame (w : Nat) (s : State) :
    (ozTouch w s).pending = s.pending ∧
    (ozTouch w s).fs = s.fs ∧
    (ozTouch w s).scene = s.scene ∧
    (ozTouch w s).jtag = s.jtag ∧
    (ozTouch w s).boot = s.boot ∧
    (ozTouch w s).period = s.period ∧
    (ozTouch w s).pwr = s.pwr ∧
    (ozTouch w s).scan = s.scan ∧
    (ozTouch w s).lct = s.lct ∧
    (ozTouch w s).tb = s.tb ∧
    (ozTouch w s).tiles = s.tiles ∧
    (ozTouch w s).handles = s.handles ∧
    (ozTouch w s).dcx = s.dcx ∧
    (ozTouch w s).mnt = s.mnt ∧
    (ozTouch w s).comp = s.comp ∧
    (ozTouch w s).thm = s.thm ∧
    (ozTouch w s).gl = s.gl ∧
    (ozTouch w s).link = s.link ∧
    (ozTouch w s).lctc = s.lctc ∧
    (ozTouch w s).wcapLevel = s.wcapLevel := by simp [bumpSat_frame .., raise_frame .., setRegN_frame .., ozTouch]

theorem ozReads_frame (p : Nat → Bool) (s : State) :
    (ozReads p s).pending = s.pending ∧
    (ozReads p s).fs = s.fs ∧
    (ozReads p s).scene = s.scene ∧
    (ozReads p s).jtag = s.jtag ∧
    (ozReads p s).boot = s.boot ∧
    (ozReads p s).period = s.period ∧
    (ozReads p s).pwr = s.pwr ∧
    (ozReads p s).scan = s.scan ∧
    (ozReads p s).lct = s.lct ∧
    (ozReads p s).tb = s.tb ∧
    (ozReads p s).tiles = s.tiles ∧
    (ozReads p s).handles = s.handles ∧
    (ozReads p s).dcx = s.dcx ∧
    (ozReads p s).mnt = s.mnt ∧
    (ozReads p s).comp = s.comp ∧
    (ozReads p s).thm = s.thm ∧
    (ozReads p s).gl = s.gl ∧
    (ozReads p s).link = s.link ∧
    (ozReads p s).lctc = s.lctc ∧
    (ozReads p s).wcapLevel = s.wcapLevel := by simp [ozTouch_frame .., ozReads]

theorem ozReadAt_frame (lo n : Nat) (s : State) :
    (ozReadAt lo n s).pending = s.pending ∧
    (ozReadAt lo n s).fs = s.fs ∧
    (ozReadAt lo n s).scene = s.scene ∧
    (ozReadAt lo n s).jtag = s.jtag ∧
    (ozReadAt lo n s).boot = s.boot ∧
    (ozReadAt lo n s).period = s.period ∧
    (ozReadAt lo n s).pwr = s.pwr ∧
    (ozReadAt lo n s).scan = s.scan ∧
    (ozReadAt lo n s).lct = s.lct ∧
    (ozReadAt lo n s).tb = s.tb ∧
    (ozReadAt lo n s).tiles = s.tiles ∧
    (ozReadAt lo n s).handles = s.handles ∧
    (ozReadAt lo n s).dcx = s.dcx ∧
    (ozReadAt lo n s).mnt = s.mnt ∧
    (ozReadAt lo n s).comp = s.comp ∧
    (ozReadAt lo n s).thm = s.thm ∧
    (ozReadAt lo n s).gl = s.gl ∧
    (ozReadAt lo n s).link = s.link ∧
    (ozReadAt lo n s).lctc = s.lctc ∧
    (ozReadAt lo n s).wcapLevel = s.wcapLevel := by simp [ozReads_frame .., ozReadAt]

theorem ozPutWords_frame (a : Nat) (l : List DWord) (s : State) :
    (ozPutWords a l s).pending = s.pending ∧
    (ozPutWords a l s).fs = s.fs ∧
    (ozPutWords a l s).scene = s.scene ∧
    (ozPutWords a l s).jtag = s.jtag ∧
    (ozPutWords a l s).boot = s.boot ∧
    (ozPutWords a l s).period = s.period ∧
    (ozPutWords a l s).pwr = s.pwr ∧
    (ozPutWords a l s).scan = s.scan ∧
    (ozPutWords a l s).lct = s.lct ∧
    (ozPutWords a l s).tb = s.tb ∧
    (ozPutWords a l s).tiles = s.tiles ∧
    (ozPutWords a l s).handles = s.handles ∧
    (ozPutWords a l s).dcx = s.dcx ∧
    (ozPutWords a l s).mnt = s.mnt ∧
    (ozPutWords a l s).comp = s.comp ∧
    (ozPutWords a l s).thm = s.thm ∧
    (ozPutWords a l s).gl = s.gl ∧
    (ozPutWords a l s).link = s.link ∧
    (ozPutWords a l s).lctc = s.lctc ∧
    (ozPutWords a l s).msgq = s.msgq ∧
    (ozPutWords a l s).wcapLevel = s.wcapLevel := by
  induction l generalizing a s with
  | nil => simp [ozPut_frame .., ozPutWords]
  | cons x t ih => simp [ozPut_frame .., ozPutWords, ih]

theorem ringWrite_frame (page slots key : Nat) (value : DWord) (s : State) :
    (ringWrite page slots key value s).pending = s.pending ∧
    (ringWrite page slots key value s).fs = s.fs ∧
    (ringWrite page slots key value s).scene = s.scene ∧
    (ringWrite page slots key value s).jtag = s.jtag ∧
    (ringWrite page slots key value s).boot = s.boot ∧
    (ringWrite page slots key value s).period = s.period ∧
    (ringWrite page slots key value s).pwr = s.pwr ∧
    (ringWrite page slots key value s).scan = s.scan ∧
    (ringWrite page slots key value s).lct = s.lct ∧
    (ringWrite page slots key value s).tb = s.tb ∧
    (ringWrite page slots key value s).tiles = s.tiles ∧
    (ringWrite page slots key value s).handles = s.handles ∧
    (ringWrite page slots key value s).dcx = s.dcx ∧
    (ringWrite page slots key value s).mnt = s.mnt ∧
    (ringWrite page slots key value s).comp = s.comp ∧
    (ringWrite page slots key value s).thm = s.thm ∧
    (ringWrite page slots key value s).gl = s.gl ∧
    (ringWrite page slots key value s).link = s.link ∧
    (ringWrite page slots key value s).lctc = s.lctc ∧
    (ringWrite page slots key value s).msgq = s.msgq ∧
    (ringWrite page slots key value s).wcapLevel = s.wcapLevel := by simp [ozPut_frame .., ringWrite]

theorem pageWrite_frame (page magic : Nat) (seq : Word) (content : List DWord) (s : State) :
    (pageWrite page magic seq content s).pending = s.pending ∧
    (pageWrite page magic seq content s).fs = s.fs ∧
    (pageWrite page magic seq content s).scene = s.scene ∧
    (pageWrite page magic seq content s).jtag = s.jtag ∧
    (pageWrite page magic seq content s).boot = s.boot ∧
    (pageWrite page magic seq content s).period = s.period ∧
    (pageWrite page magic seq content s).pwr = s.pwr ∧
    (pageWrite page magic seq content s).scan = s.scan ∧
    (pageWrite page magic seq content s).lct = s.lct ∧
    (pageWrite page magic seq content s).tb = s.tb ∧
    (pageWrite page magic seq content s).tiles = s.tiles ∧
    (pageWrite page magic seq content s).handles = s.handles ∧
    (pageWrite page magic seq content s).dcx = s.dcx ∧
    (pageWrite page magic seq content s).mnt = s.mnt ∧
    (pageWrite page magic seq content s).comp = s.comp ∧
    (pageWrite page magic seq content s).thm = s.thm ∧
    (pageWrite page magic seq content s).gl = s.gl ∧
    (pageWrite page magic seq content s).link = s.link ∧
    (pageWrite page magic seq content s).lctc = s.lctc ∧
    (pageWrite page magic seq content s).msgq = s.msgq ∧
    (pageWrite page magic seq content s).wcapLevel = s.wcapLevel := by simp [ozPutWords_frame .., ozPut_frame .., pageWrite]

theorem twinWrite_frame (page magic : Nat) (content : List DWord) (s : State) :
    (twinWrite page magic content s).pending = s.pending ∧
    (twinWrite page magic content s).fs = s.fs ∧
    (twinWrite page magic content s).scene = s.scene ∧
    (twinWrite page magic content s).jtag = s.jtag ∧
    (twinWrite page magic content s).boot = s.boot ∧
    (twinWrite page magic content s).period = s.period ∧
    (twinWrite page magic content s).pwr = s.pwr ∧
    (twinWrite page magic content s).scan = s.scan ∧
    (twinWrite page magic content s).lct = s.lct ∧
    (twinWrite page magic content s).tb = s.tb ∧
    (twinWrite page magic content s).tiles = s.tiles ∧
    (twinWrite page magic content s).handles = s.handles ∧
    (twinWrite page magic content s).dcx = s.dcx ∧
    (twinWrite page magic content s).mnt = s.mnt ∧
    (twinWrite page magic content s).comp = s.comp ∧
    (twinWrite page magic content s).thm = s.thm ∧
    (twinWrite page magic content s).gl = s.gl ∧
    (twinWrite page magic content s).link = s.link ∧
    (twinWrite page magic content s).lctc = s.lctc ∧
    (twinWrite page magic content s).msgq = s.msgq ∧
    (twinWrite page magic content s).wcapLevel = s.wcapLevel := by simp [pageWrite_frame .., twinWrite]

theorem repairEnter_frame (entry : DWord) (s : State) :
    (repairEnter entry s).pending = s.pending ∧
    (repairEnter entry s).fs = s.fs ∧
    (repairEnter entry s).scene = s.scene ∧
    (repairEnter entry s).jtag = s.jtag ∧
    (repairEnter entry s).boot = s.boot ∧
    (repairEnter entry s).period = s.period ∧
    (repairEnter entry s).pwr = s.pwr ∧
    (repairEnter entry s).scan = s.scan ∧
    (repairEnter entry s).lct = s.lct ∧
    (repairEnter entry s).tb = s.tb ∧
    (repairEnter entry s).tiles = s.tiles ∧
    (repairEnter entry s).handles = s.handles ∧
    (repairEnter entry s).dcx = s.dcx ∧
    (repairEnter entry s).mnt = s.mnt ∧
    (repairEnter entry s).comp = s.comp ∧
    (repairEnter entry s).thm = s.thm ∧
    (repairEnter entry s).gl = s.gl ∧
    (repairEnter entry s).link = s.link ∧
    (repairEnter entry s).lctc = s.lctc ∧
    (repairEnter entry s).msgq = s.msgq ∧
    (repairEnter entry s).wcapLevel = s.wcapLevel := by simp only [repairEnter]; (repeat' split) <;> simp [ozPut_frame ..]

theorem cfgCopy_frame (ontoB : Bool) (s : State) :
    (cfgCopy ontoB s).pending = s.pending ∧
    (cfgCopy ontoB s).fs = s.fs ∧
    (cfgCopy ontoB s).scene = s.scene ∧
    (cfgCopy ontoB s).jtag = s.jtag ∧
    (cfgCopy ontoB s).boot = s.boot ∧
    (cfgCopy ontoB s).period = s.period ∧
    (cfgCopy ontoB s).pwr = s.pwr ∧
    (cfgCopy ontoB s).scan = s.scan ∧
    (cfgCopy ontoB s).lct = s.lct ∧
    (cfgCopy ontoB s).tb = s.tb ∧
    (cfgCopy ontoB s).tiles = s.tiles ∧
    (cfgCopy ontoB s).handles = s.handles ∧
    (cfgCopy ontoB s).dcx = s.dcx ∧
    (cfgCopy ontoB s).mnt = s.mnt ∧
    (cfgCopy ontoB s).comp = s.comp ∧
    (cfgCopy ontoB s).thm = s.thm ∧
    (cfgCopy ontoB s).gl = s.gl ∧
    (cfgCopy ontoB s).link = s.link ∧
    (cfgCopy ontoB s).lctc = s.lctc ∧
    (cfgCopy ontoB s).msgq = s.msgq ∧
    (cfgCopy ontoB s).wcapLevel = s.wcapLevel := by simp [ozPut_frame .., ozPutWords_frame .., cfgCopy]

theorem ozWrite_frame (r : OzRec) (s : State) :
    (ozWrite r s).pending = s.pending ∧
    (ozWrite r s).fs = s.fs ∧
    (ozWrite r s).scene = s.scene ∧
    (ozWrite r s).jtag = s.jtag ∧
    (ozWrite r s).boot = s.boot ∧
    (ozWrite r s).period = s.period ∧
    (ozWrite r s).pwr = s.pwr ∧
    (ozWrite r s).scan = s.scan ∧
    (ozWrite r s).lct = s.lct ∧
    (ozWrite r s).tb = s.tb ∧
    (ozWrite r s).tiles = s.tiles ∧
    (ozWrite r s).handles = s.handles ∧
    (ozWrite r s).dcx = s.dcx ∧
    (ozWrite r s).mnt = s.mnt ∧
    (ozWrite r s).comp = s.comp ∧
    (ozWrite r s).thm = s.thm ∧
    (ozWrite r s).gl = s.gl ∧
    (ozWrite r s).link = s.link ∧
    (ozWrite r s).lctc = s.lctc ∧
    (ozWrite r s).msgq = s.msgq ∧
    (ozWrite r s).wcapLevel = s.wcapLevel := by simp only [ozWrite]; (repeat' split) <;> simp [cfgCopy_frame .., ozPut_frame .., pageWrite_frame .., repairEnter_frame .., ringWrite_frame .., twinWrite_frame ..]

theorem ozQueue_frame (r : OzRec) (s : State) :
    (ozQueue r s).pending = s.pending ∧
    (ozQueue r s).fs = s.fs ∧
    (ozQueue r s).scene = s.scene ∧
    (ozQueue r s).jtag = s.jtag ∧
    (ozQueue r s).boot = s.boot ∧
    (ozQueue r s).period = s.period ∧
    (ozQueue r s).pwr = s.pwr ∧
    (ozQueue r s).scan = s.scan ∧
    (ozQueue r s).lct = s.lct ∧
    (ozQueue r s).tb = s.tb ∧
    (ozQueue r s).tiles = s.tiles ∧
    (ozQueue r s).handles = s.handles ∧
    (ozQueue r s).dcx = s.dcx ∧
    (ozQueue r s).mnt = s.mnt ∧
    (ozQueue r s).comp = s.comp ∧
    (ozQueue r s).thm = s.thm ∧
    (ozQueue r s).gl = s.gl ∧
    (ozQueue r s).link = s.link ∧
    (ozQueue r s).lctc = s.lctc ∧
    (ozQueue r s).msgq = s.msgq ∧
    (ozQueue r s).wcapLevel = s.wcapLevel := by simp only [ozQueue]; (repeat' split) <;> simp [bumpSat_frame ..]

theorem ozRecord_frame (r : OzRec) (s : State) :
    (ozRecord r s).pending = s.pending ∧
    (ozRecord r s).fs = s.fs ∧
    (ozRecord r s).scene = s.scene ∧
    (ozRecord r s).jtag = s.jtag ∧
    (ozRecord r s).boot = s.boot ∧
    (ozRecord r s).period = s.period ∧
    (ozRecord r s).pwr = s.pwr ∧
    (ozRecord r s).scan = s.scan ∧
    (ozRecord r s).lct = s.lct ∧
    (ozRecord r s).tb = s.tb ∧
    (ozRecord r s).tiles = s.tiles ∧
    (ozRecord r s).handles = s.handles ∧
    (ozRecord r s).dcx = s.dcx ∧
    (ozRecord r s).mnt = s.mnt ∧
    (ozRecord r s).comp = s.comp ∧
    (ozRecord r s).thm = s.thm ∧
    (ozRecord r s).gl = s.gl ∧
    (ozRecord r s).link = s.link ∧
    (ozRecord r s).lctc = s.lctc ∧
    (ozRecord r s).msgq = s.msgq ∧
    (ozRecord r s).wcapLevel = s.wcapLevel := by simp [ozQueue_frame .., ozWrite_frame .., ozRecord]

theorem ozFlush_frame (s : State) :
    (ozFlush s).pending = s.pending ∧
    (ozFlush s).fs = s.fs ∧
    (ozFlush s).scene = s.scene ∧
    (ozFlush s).jtag = s.jtag ∧
    (ozFlush s).boot = s.boot ∧
    (ozFlush s).period = s.period ∧
    (ozFlush s).pwr = s.pwr ∧
    (ozFlush s).scan = s.scan ∧
    (ozFlush s).lct = s.lct ∧
    (ozFlush s).tb = s.tb ∧
    (ozFlush s).tiles = s.tiles ∧
    (ozFlush s).handles = s.handles ∧
    (ozFlush s).dcx = s.dcx ∧
    (ozFlush s).mnt = s.mnt ∧
    (ozFlush s).comp = s.comp ∧
    (ozFlush s).thm = s.thm ∧
    (ozFlush s).gl = s.gl ∧
    (ozFlush s).link = s.link ∧
    (ozFlush s).lctc = s.lctc ∧
    (ozFlush s).msgq = s.msgq ∧
    (ozFlush s).wcapLevel = s.wcapLevel := by simp [ozWrite_frame .., ozFlush]

theorem ozLog_frame (typ : Nat) (payload : List DWord) (s : State) :
    (ozLog typ payload s).pending = s.pending ∧
    (ozLog typ payload s).fs = s.fs ∧
    (ozLog typ payload s).scene = s.scene ∧
    (ozLog typ payload s).jtag = s.jtag ∧
    (ozLog typ payload s).boot = s.boot ∧
    (ozLog typ payload s).period = s.period ∧
    (ozLog typ payload s).pwr = s.pwr ∧
    (ozLog typ payload s).scan = s.scan ∧
    (ozLog typ payload s).lct = s.lct ∧
    (ozLog typ payload s).tb = s.tb ∧
    (ozLog typ payload s).tiles = s.tiles ∧
    (ozLog typ payload s).handles = s.handles ∧
    (ozLog typ payload s).dcx = s.dcx ∧
    (ozLog typ payload s).mnt = s.mnt ∧
    (ozLog typ payload s).comp = s.comp ∧
    (ozLog typ payload s).thm = s.thm ∧
    (ozLog typ payload s).gl = s.gl ∧
    (ozLog typ payload s).link = s.link ∧
    (ozLog typ payload s).lctc = s.lctc ∧
    (ozLog typ payload s).msgq = s.msgq ∧
    (ozLog typ payload s).wcapLevel = s.wcapLevel := by simp [ozRecord_frame .., ozLog]

theorem reportStore_frame (found : Bool) (detail : Nat) (s : State) :
    (reportStore found detail s).pending = s.pending ∧
    (reportStore found detail s).fs = s.fs ∧
    (reportStore found detail s).scene = s.scene ∧
    (reportStore found detail s).jtag = s.jtag ∧
    (reportStore found detail s).boot = s.boot ∧
    (reportStore found detail s).period = s.period ∧
    (reportStore found detail s).pwr = s.pwr ∧
    (reportStore found detail s).scan = s.scan ∧
    (reportStore found detail s).lct = s.lct ∧
    (reportStore found detail s).tb = s.tb ∧
    (reportStore found detail s).tiles = s.tiles ∧
    (reportStore found detail s).handles = s.handles ∧
    (reportStore found detail s).dcx = s.dcx ∧
    (reportStore found detail s).mnt = s.mnt ∧
    (reportStore found detail s).comp = s.comp ∧
    (reportStore found detail s).thm = s.thm ∧
    (reportStore found detail s).gl = s.gl ∧
    (reportStore found detail s).link = s.link ∧
    (reportStore found detail s).lctc = s.lctc ∧
    (reportStore found detail s).wcapLevel = s.wcapLevel := by simp [ozLog_frame .., raise_frame .., reportStore]

theorem counterAdd_frame (k n : Nat) (s : State) :
    (counterAdd k n s).pending = s.pending ∧
    (counterAdd k n s).fs = s.fs ∧
    (counterAdd k n s).scene = s.scene ∧
    (counterAdd k n s).jtag = s.jtag ∧
    (counterAdd k n s).boot = s.boot ∧
    (counterAdd k n s).period = s.period ∧
    (counterAdd k n s).pwr = s.pwr ∧
    (counterAdd k n s).scan = s.scan ∧
    (counterAdd k n s).lct = s.lct ∧
    (counterAdd k n s).tb = s.tb ∧
    (counterAdd k n s).tiles = s.tiles ∧
    (counterAdd k n s).handles = s.handles ∧
    (counterAdd k n s).dcx = s.dcx ∧
    (counterAdd k n s).mnt = s.mnt ∧
    (counterAdd k n s).comp = s.comp ∧
    (counterAdd k n s).thm = s.thm ∧
    (counterAdd k n s).gl = s.gl ∧
    (counterAdd k n s).link = s.link ∧
    (counterAdd k n s).lctc = s.lctc ∧
    (counterAdd k n s).wcapLevel = s.wcapLevel := by simp [ozReadAt_frame .., ozRecord_frame .., counterAdd]

end Sys2Proof.Machine
end

