-- ==== Sys2Proof/Laws/FrameLinkOps.lean ====
section
/-!
SUPPORT. What each operation of LinkOps.lean leaves unchanged.
-/
namespace Sys2Proof.Machine

theorem setLink_frame (l : Link) (s : State) :
    (setLink l s).pending = s.pending ∧
    (setLink l s).fs = s.fs ∧
    (setLink l s).scene = s.scene ∧
    (setLink l s).jtag = s.jtag ∧
    (setLink l s).boot = s.boot ∧
    (setLink l s).period = s.period ∧
    (setLink l s).pwr = s.pwr ∧
    (setLink l s).scan = s.scan ∧
    (setLink l s).lct = s.lct ∧
    (setLink l s).tb = s.tb ∧
    (setLink l s).tiles = s.tiles ∧
    (setLink l s).handles = s.handles ∧
    (setLink l s).dcx = s.dcx ∧
    (setLink l s).mnt = s.mnt ∧
    (setLink l s).comp = s.comp ∧
    (setLink l s).thm = s.thm ∧
    (setLink l s).gl = s.gl ∧
    (setLink l s).ozd = s.ozd ∧
    (setLink l s).lctc = s.lctc ∧
    (setLink l s).msgq = s.msgq ∧
    (setLink l s).wcapLevel = s.wcapLevel := by simp [setLink]

theorem setDevCredit_frame (m vc n : Nat) (s : State) :
    (setDevCredit m vc n s).pending = s.pending ∧
    (setDevCredit m vc n s).fs = s.fs ∧
    (setDevCredit m vc n s).scene = s.scene ∧
    (setDevCredit m vc n s).jtag = s.jtag ∧
    (setDevCredit m vc n s).boot = s.boot ∧
    (setDevCredit m vc n s).period = s.period ∧
    (setDevCredit m vc n s).pwr = s.pwr ∧
    (setDevCredit m vc n s).scan = s.scan ∧
    (setDevCredit m vc n s).lct = s.lct ∧
    (setDevCredit m vc n s).tb = s.tb ∧
    (setDevCredit m vc n s).tiles = s.tiles ∧
    (setDevCredit m vc n s).handles = s.handles ∧
    (setDevCredit m vc n s).dcx = s.dcx ∧
    (setDevCredit m vc n s).mnt = s.mnt ∧
    (setDevCredit m vc n s).comp = s.comp ∧
    (setDevCredit m vc n s).thm = s.thm ∧
    (setDevCredit m vc n s).gl = s.gl ∧
    (setDevCredit m vc n s).ozd = s.ozd ∧
    (setDevCredit m vc n s).lctc = s.lctc ∧
    (setDevCredit m vc n s).msgq = s.msgq ∧
    (setDevCredit m vc n s).wcapLevel = s.wcapLevel := by simp [setLink_frame .., setDevCredit]

theorem pushOut_frame (t : OutTxn) (s : State) :
    (pushOut t s).pending = s.pending ∧
    (pushOut t s).fs = s.fs ∧
    (pushOut t s).scene = s.scene ∧
    (pushOut t s).jtag = s.jtag ∧
    (pushOut t s).boot = s.boot ∧
    (pushOut t s).period = s.period ∧
    (pushOut t s).pwr = s.pwr ∧
    (pushOut t s).scan = s.scan ∧
    (pushOut t s).lct = s.lct ∧
    (pushOut t s).tb = s.tb ∧
    (pushOut t s).tiles = s.tiles ∧
    (pushOut t s).handles = s.handles ∧
    (pushOut t s).dcx = s.dcx ∧
    (pushOut t s).mnt = s.mnt ∧
    (pushOut t s).comp = s.comp ∧
    (pushOut t s).thm = s.thm ∧
    (pushOut t s).gl = s.gl ∧
    (pushOut t s).ozd = s.ozd ∧
    (pushOut t s).lctc = s.lctc ∧
    (pushOut t s).msgq = s.msgq ∧
    (pushOut t s).wcapLevel = s.wcapLevel := by simp [setLink_frame .., pushOut]

theorem grantPools_frame (m : Nat) (s : State) :
    (grantPools m s).pending = s.pending ∧
    (grantPools m s).fs = s.fs ∧
    (grantPools m s).scene = s.scene ∧
    (grantPools m s).jtag = s.jtag ∧
    (grantPools m s).boot = s.boot ∧
    (grantPools m s).period = s.period ∧
    (grantPools m s).pwr = s.pwr ∧
    (grantPools m s).scan = s.scan ∧
    (grantPools m s).lct = s.lct ∧
    (grantPools m s).tb = s.tb ∧
    (grantPools m s).tiles = s.tiles ∧
    (grantPools m s).handles = s.handles ∧
    (grantPools m s).dcx = s.dcx ∧
    (grantPools m s).mnt = s.mnt ∧
    (grantPools m s).comp = s.comp ∧
    (grantPools m s).thm = s.thm ∧
    (grantPools m s).gl = s.gl ∧
    (grantPools m s).ozd = s.ozd ∧
    (grantPools m s).lctc = s.lctc ∧
    (grantPools m s).msgq = s.msgq ∧
    (grantPools m s).wcapLevel = s.wcapLevel := by simp [pushOut_frame .., setLink_frame .., grantPools]

theorem returnCredits_frame (m vc : Nat) (s : State) :
    (returnCredits m vc s).pending = s.pending ∧
    (returnCredits m vc s).fs = s.fs ∧
    (returnCredits m vc s).scene = s.scene ∧
    (returnCredits m vc s).jtag = s.jtag ∧
    (returnCredits m vc s).boot = s.boot ∧
    (returnCredits m vc s).period = s.period ∧
    (returnCredits m vc s).pwr = s.pwr ∧
    (returnCredits m vc s).scan = s.scan ∧
    (returnCredits m vc s).lct = s.lct ∧
    (returnCredits m vc s).tb = s.tb ∧
    (returnCredits m vc s).tiles = s.tiles ∧
    (returnCredits m vc s).handles = s.handles ∧
    (returnCredits m vc s).dcx = s.dcx ∧
    (returnCredits m vc s).mnt = s.mnt ∧
    (returnCredits m vc s).comp = s.comp ∧
    (returnCredits m vc s).thm = s.thm ∧
    (returnCredits m vc s).gl = s.gl ∧
    (returnCredits m vc s).ozd = s.ozd ∧
    (returnCredits m vc s).lctc = s.lctc ∧
    (returnCredits m vc s).msgq = s.msgq ∧
    (returnCredits m vc s).wcapLevel = s.wcapLevel := by simp [pushOut_frame .., setLink_frame .., returnCredits]

theorem freeFlits_frame (m vc n : Nat) (s : State) :
    (freeFlits m vc n s).pending = s.pending ∧
    (freeFlits m vc n s).fs = s.fs ∧
    (freeFlits m vc n s).scene = s.scene ∧
    (freeFlits m vc n s).jtag = s.jtag ∧
    (freeFlits m vc n s).boot = s.boot ∧
    (freeFlits m vc n s).period = s.period ∧
    (freeFlits m vc n s).pwr = s.pwr ∧
    (freeFlits m vc n s).scan = s.scan ∧
    (freeFlits m vc n s).lct = s.lct ∧
    (freeFlits m vc n s).tb = s.tb ∧
    (freeFlits m vc n s).tiles = s.tiles ∧
    (freeFlits m vc n s).handles = s.handles ∧
    (freeFlits m vc n s).dcx = s.dcx ∧
    (freeFlits m vc n s).mnt = s.mnt ∧
    (freeFlits m vc n s).comp = s.comp ∧
    (freeFlits m vc n s).thm = s.thm ∧
    (freeFlits m vc n s).gl = s.gl ∧
    (freeFlits m vc n s).ozd = s.ozd ∧
    (freeFlits m vc n s).lctc = s.lctc ∧
    (freeFlits m vc n s).msgq = s.msgq ∧
    (freeFlits m vc n s).wcapLevel = s.wcapLevel := by simp [returnCredits_frame .., setLink_frame .., freeFlits]

theorem nak_frame (typ reason : Nat) (r : Req) (s : State) :
    (nak typ reason r s).pending = s.pending ∧
    (nak typ reason r s).fs = s.fs ∧
    (nak typ reason r s).scene = s.scene ∧
    (nak typ reason r s).jtag = s.jtag ∧
    (nak typ reason r s).boot = s.boot ∧
    (nak typ reason r s).period = s.period ∧
    (nak typ reason r s).pwr = s.pwr ∧
    (nak typ reason r s).scan = s.scan ∧
    (nak typ reason r s).lct = s.lct ∧
    (nak typ reason r s).tb = s.tb ∧
    (nak typ reason r s).tiles = s.tiles ∧
    (nak typ reason r s).handles = s.handles ∧
    (nak typ reason r s).dcx = s.dcx ∧
    (nak typ reason r s).mnt = s.mnt ∧
    (nak typ reason r s).comp = s.comp ∧
    (nak typ reason r s).thm = s.thm ∧
    (nak typ reason r s).gl = s.gl ∧
    (nak typ reason r s).ozd = s.ozd ∧
    (nak typ reason r s).lctc = s.lctc ∧
    (nak typ reason r s).wcapLevel = s.wcapLevel := by simp [bumpSat_frame .., pushOut_frame .., raise_frame .., nak]

theorem complete_frame (typ : Nat) (r : Req) (data : List Byte) (s : State) :
    (complete typ r data s).pending = s.pending ∧
    (complete typ r data s).fs = s.fs ∧
    (complete typ r data s).scene = s.scene ∧
    (complete typ r data s).jtag = s.jtag ∧
    (complete typ r data s).boot = s.boot ∧
    (complete typ r data s).period = s.period ∧
    (complete typ r data s).pwr = s.pwr ∧
    (complete typ r data s).scan = s.scan ∧
    (complete typ r data s).lct = s.lct ∧
    (complete typ r data s).tb = s.tb ∧
    (complete typ r data s).tiles = s.tiles ∧
    (complete typ r data s).handles = s.handles ∧
    (complete typ r data s).dcx = s.dcx ∧
    (complete typ r data s).mnt = s.mnt ∧
    (complete typ r data s).comp = s.comp ∧
    (complete typ r data s).thm = s.thm ∧
    (complete typ r data s).gl = s.gl ∧
    (complete typ r data s).ozd = s.ozd ∧
    (complete typ r data s).lctc = s.lctc ∧
    (complete typ r data s).msgq = s.msgq ∧
    (complete typ r data s).wcapLevel = s.wcapLevel := by simp [pushOut_frame .., complete]

theorem holdTag_frame (m : Nat) (tag : Byte) (s : State) :
    (holdTag m tag s).pending = s.pending ∧
    (holdTag m tag s).fs = s.fs ∧
    (holdTag m tag s).scene = s.scene ∧
    (holdTag m tag s).jtag = s.jtag ∧
    (holdTag m tag s).boot = s.boot ∧
    (holdTag m tag s).period = s.period ∧
    (holdTag m tag s).pwr = s.pwr ∧
    (holdTag m tag s).scan = s.scan ∧
    (holdTag m tag s).lct = s.lct ∧
    (holdTag m tag s).tb = s.tb ∧
    (holdTag m tag s).tiles = s.tiles ∧
    (holdTag m tag s).handles = s.handles ∧
    (holdTag m tag s).dcx = s.dcx ∧
    (holdTag m tag s).mnt = s.mnt ∧
    (holdTag m tag s).comp = s.comp ∧
    (holdTag m tag s).thm = s.thm ∧
    (holdTag m tag s).gl = s.gl ∧
    (holdTag m tag s).ozd = s.ozd ∧
    (holdTag m tag s).lctc = s.lctc ∧
    (holdTag m tag s).msgq = s.msgq ∧
    (holdTag m tag s).wcapLevel = s.wcapLevel := by simp [setLink_frame .., holdTag]

theorem dropTag_frame (m : Nat) (tag : Byte) (s : State) :
    (dropTag m tag s).pending = s.pending ∧
    (dropTag m tag s).fs = s.fs ∧
    (dropTag m tag s).scene = s.scene ∧
    (dropTag m tag s).jtag = s.jtag ∧
    (dropTag m tag s).boot = s.boot ∧
    (dropTag m tag s).period = s.period ∧
    (dropTag m tag s).pwr = s.pwr ∧
    (dropTag m tag s).scan = s.scan ∧
    (dropTag m tag s).lct = s.lct ∧
    (dropTag m tag s).tb = s.tb ∧
    (dropTag m tag s).tiles = s.tiles ∧
    (dropTag m tag s).handles = s.handles ∧
    (dropTag m tag s).dcx = s.dcx ∧
    (dropTag m tag s).mnt = s.mnt ∧
    (dropTag m tag s).comp = s.comp ∧
    (dropTag m tag s).thm = s.thm ∧
    (dropTag m tag s).gl = s.gl ∧
    (dropTag m tag s).ozd = s.ozd ∧
    (dropTag m tag s).lctc = s.lctc ∧
    (dropTag m tag s).msgq = s.msgq ∧
    (dropTag m tag s).wcapLevel = s.wcapLevel := by simp [setLink_frame .., dropTag]

theorem discardReqs_frame (m : Nat) (s : State) :
    (discardReqs m s).pending = s.pending ∧
    (discardReqs m s).fs = s.fs ∧
    (discardReqs m s).scene = s.scene ∧
    (discardReqs m s).jtag = s.jtag ∧
    (discardReqs m s).boot = s.boot ∧
    (discardReqs m s).period = s.period ∧
    (discardReqs m s).pwr = s.pwr ∧
    (discardReqs m s).scan = s.scan ∧
    (discardReqs m s).lct = s.lct ∧
    (discardReqs m s).tb = s.tb ∧
    (discardReqs m s).tiles = s.tiles ∧
    (discardReqs m s).handles = s.handles ∧
    (discardReqs m s).dcx = s.dcx ∧
    (discardReqs m s).mnt = s.mnt ∧
    (discardReqs m s).comp = s.comp ∧
    (discardReqs m s).thm = s.thm ∧
    (discardReqs m s).gl = s.gl ∧
    (discardReqs m s).ozd = s.ozd ∧
    (discardReqs m s).lctc = s.lctc ∧
    (discardReqs m s).wcapLevel = s.wcapLevel := by simp [freeFlits_frame .., nak_frame .., setLink_frame .., discardReqs]

end Sys2Proof.Machine
end

