-- ==== Sys2Proof/Laws/FrameOperands.lean ====
section
/-!
SUPPORT. What each operation of Operands.lean leaves unchanged.
-/
set_option linter.unnecessarySeqFocus false
set_option linter.unusedTactic false
namespace Sys2Proof.Machine

theorem dcxPark_frame (n : Nat) (s : State) :
    (dcxPark n s).pending = s.pending ∧
    (dcxPark n s).fs = s.fs ∧
    (dcxPark n s).scene = s.scene ∧
    (dcxPark n s).jtag = s.jtag ∧
    (dcxPark n s).boot = s.boot ∧
    (dcxPark n s).period = s.period ∧
    (dcxPark n s).pwr = s.pwr ∧
    (dcxPark n s).scan = s.scan ∧
    (dcxPark n s).lct = s.lct ∧
    (dcxPark n s).tb = s.tb ∧
    (dcxPark n s).tiles = s.tiles ∧
    (dcxPark n s).handles = s.handles ∧
    (dcxPark n s).mnt = s.mnt ∧
    (dcxPark n s).comp = s.comp ∧
    (dcxPark n s).thm = s.thm ∧
    (dcxPark n s).gl = s.gl ∧
    (dcxPark n s).link = s.link ∧
    (dcxPark n s).ozd = s.ozd ∧
    (dcxPark n s).lctc = s.lctc ∧
    (dcxPark n s).msgq = s.msgq ∧
    (dcxPark n s).wcapLevel = s.wcapLevel := by simp only [dcxPark]; (repeat' split) <;> simp [bumpWrap_frame .., putDcx_frame .., setRegFld_frame ..]

theorem recordViol_frame (m typ addr reason fseq : Nat) (s : State) :
    (recordViol m typ addr reason fseq s).pending = s.pending ∧
    (recordViol m typ addr reason fseq s).fs = s.fs ∧
    (recordViol m typ addr reason fseq s).scene = s.scene ∧
    (recordViol m typ addr reason fseq s).jtag = s.jtag ∧
    (recordViol m typ addr reason fseq s).boot = s.boot ∧
    (recordViol m typ addr reason fseq s).period = s.period ∧
    (recordViol m typ addr reason fseq s).pwr = s.pwr ∧
    (recordViol m typ addr reason fseq s).scan = s.scan ∧
    (recordViol m typ addr reason fseq s).lct = s.lct ∧
    (recordViol m typ addr reason fseq s).tb = s.tb ∧
    (recordViol m typ addr reason fseq s).tiles = s.tiles ∧
    (recordViol m typ addr reason fseq s).handles = s.handles ∧
    (recordViol m typ addr reason fseq s).dcx = s.dcx ∧
    (recordViol m typ addr reason fseq s).mnt = s.mnt ∧
    (recordViol m typ addr reason fseq s).comp = s.comp ∧
    (recordViol m typ addr reason fseq s).thm = s.thm ∧
    (recordViol m typ addr reason fseq s).gl = s.gl ∧
    (recordViol m typ addr reason fseq s).link = s.link ∧
    (recordViol m typ addr reason fseq s).ozd = s.ozd ∧
    (recordViol m typ addr reason fseq s).lctc = s.lctc ∧
    (recordViol m typ addr reason fseq s).msgq = s.msgq ∧
    (recordViol m typ addr reason fseq s).wcapLevel = s.wcapLevel := by simp [setRegN_frame .., recordViol]

theorem freeze_frame (m typ addr reason : Nat) (s : State) :
    (freeze m typ addr reason s).pending = s.pending ∧
    (freeze m typ addr reason s).fs = s.fs ∧
    (freeze m typ addr reason s).scene = s.scene ∧
    (freeze m typ addr reason s).jtag = s.jtag ∧
    (freeze m typ addr reason s).boot = s.boot ∧
    (freeze m typ addr reason s).period = s.period ∧
    (freeze m typ addr reason s).pwr = s.pwr ∧
    (freeze m typ addr reason s).scan = s.scan ∧
    (freeze m typ addr reason s).lct = s.lct ∧
    (freeze m typ addr reason s).tb = s.tb ∧
    (freeze m typ addr reason s).tiles = s.tiles ∧
    (freeze m typ addr reason s).handles = s.handles ∧
    (freeze m typ addr reason s).mnt = s.mnt ∧
    (freeze m typ addr reason s).comp = s.comp ∧
    (freeze m typ addr reason s).thm = s.thm ∧
    (freeze m typ addr reason s).gl = s.gl ∧
    (freeze m typ addr reason s).lctc = s.lctc ∧
    (freeze m typ addr reason s).wcapLevel = s.wcapLevel := by simp [counterAdd_frame .., dcxPark_frame .., discardReqs_frame .., raise_frame .., recordViol_frame .., setRegBit_frame .., setRegN_frame .., freeze]

theorem violate_frame (m typ addr reason : Nat) (s : State) :
    (violate m typ addr reason s).pending = s.pending ∧
    (violate m typ addr reason s).fs = s.fs ∧
    (violate m typ addr reason s).scene = s.scene ∧
    (violate m typ addr reason s).jtag = s.jtag ∧
    (violate m typ addr reason s).boot = s.boot ∧
    (violate m typ addr reason s).period = s.period ∧
    (violate m typ addr reason s).pwr = s.pwr ∧
    (violate m typ addr reason s).scan = s.scan ∧
    (violate m typ addr reason s).lct = s.lct ∧
    (violate m typ addr reason s).tb = s.tb ∧
    (violate m typ addr reason s).tiles = s.tiles ∧
    (violate m typ addr reason s).handles = s.handles ∧
    (violate m typ addr reason s).mnt = s.mnt ∧
    (violate m typ addr reason s).comp = s.comp ∧
    (violate m typ addr reason s).thm = s.thm ∧
    (violate m typ addr reason s).gl = s.gl ∧
    (violate m typ addr reason s).lctc = s.lctc ∧
    (violate m typ addr reason s).wcapLevel = s.wcapLevel := by simp [freeze_frame .., raise_frame .., recordViol_frame .., violate]

theorem answer_frame (r : AccessResult) (v : Word) (s : State) :
    (answer r v s).pending = s.pending ∧
    (answer r v s).fs = s.fs ∧
    (answer r v s).scene = s.scene ∧
    (answer r v s).jtag = s.jtag ∧
    (answer r v s).boot = s.boot ∧
    (answer r v s).period = s.period ∧
    (answer r v s).pwr = s.pwr ∧
    (answer r v s).scan = s.scan ∧
    (answer r v s).lct = s.lct ∧
    (answer r v s).tb = s.tb ∧
    (answer r v s).tiles = s.tiles ∧
    (answer r v s).handles = s.handles ∧
    (answer r v s).dcx = s.dcx ∧
    (answer r v s).mnt = s.mnt ∧
    (answer r v s).comp = s.comp ∧
    (answer r v s).thm = s.thm ∧
    (answer r v s).gl = s.gl ∧
    (answer r v s).link = s.link ∧
    (answer r v s).ozd = s.ozd ∧
    (answer r v s).lctc = s.lctc ∧
    (answer r v s).msgq = s.msgq ∧
    (answer r v s).wcapLevel = s.wcapLevel := by simp [answer]

theorem holdAccess_frame (w : HoldWhy) (op : HeldOp) (s : State) :
    (holdAccess w op s).pending = s.pending ∧
    (holdAccess w op s).fs = s.fs ∧
    (holdAccess w op s).scene = s.scene ∧
    (holdAccess w op s).jtag = s.jtag ∧
    (holdAccess w op s).boot = s.boot ∧
    (holdAccess w op s).period = s.period ∧
    (holdAccess w op s).pwr = s.pwr ∧
    (holdAccess w op s).scan = s.scan ∧
    (holdAccess w op s).lct = s.lct ∧
    (holdAccess w op s).tb = s.tb ∧
    (holdAccess w op s).tiles = s.tiles ∧
    (holdAccess w op s).handles = s.handles ∧
    (holdAccess w op s).dcx = s.dcx ∧
    (holdAccess w op s).mnt = s.mnt ∧
    (holdAccess w op s).comp = s.comp ∧
    (holdAccess w op s).thm = s.thm ∧
    (holdAccess w op s).gl = s.gl ∧
    (holdAccess w op s).link = s.link ∧
    (holdAccess w op s).ozd = s.ozd ∧
    (holdAccess w op s).lctc = s.lctc ∧
    (holdAccess w op s).msgq = s.msgq ∧
    (holdAccess w op s).wcapLevel = s.wcapLevel := by simp [answer_frame .., holdAccess]

theorem holdOrBusy_frame (m : Master) (w : HoldWhy) (op : HeldOp) (s : State) :
    (holdOrBusy m w op s).pending = s.pending ∧
    (holdOrBusy m w op s).fs = s.fs ∧
    (holdOrBusy m w op s).scene = s.scene ∧
    (holdOrBusy m w op s).jtag = s.jtag ∧
    (holdOrBusy m w op s).boot = s.boot ∧
    (holdOrBusy m w op s).period = s.period ∧
    (holdOrBusy m w op s).pwr = s.pwr ∧
    (holdOrBusy m w op s).scan = s.scan ∧
    (holdOrBusy m w op s).lct = s.lct ∧
    (holdOrBusy m w op s).tb = s.tb ∧
    (holdOrBusy m w op s).tiles = s.tiles ∧
    (holdOrBusy m w op s).handles = s.handles ∧
    (holdOrBusy m w op s).dcx = s.dcx ∧
    (holdOrBusy m w op s).mnt = s.mnt ∧
    (holdOrBusy m w op s).comp = s.comp ∧
    (holdOrBusy m w op s).thm = s.thm ∧
    (holdOrBusy m w op s).gl = s.gl ∧
    (holdOrBusy m w op s).link = s.link ∧
    (holdOrBusy m w op s).ozd = s.ozd ∧
    (holdOrBusy m w op s).lctc = s.lctc ∧
    (holdOrBusy m w op s).msgq = s.msgq ∧
    (holdOrBusy m w op s).wcapLevel = s.wcapLevel := by simp [answer_frame .., holdAccess_frame .., holdOrBusy]

theorem noteM0_frame (m : Master) (s : State) :
    (noteM0 m s).pending = s.pending ∧
    (noteM0 m s).fs = s.fs ∧
    (noteM0 m s).scene = s.scene ∧
    (noteM0 m s).jtag = s.jtag ∧
    (noteM0 m s).boot = s.boot ∧
    (noteM0 m s).period = s.period ∧
    (noteM0 m s).pwr = s.pwr ∧
    (noteM0 m s).scan = s.scan ∧
    (noteM0 m s).lct = s.lct ∧
    (noteM0 m s).tb = s.tb ∧
    (noteM0 m s).tiles = s.tiles ∧
    (noteM0 m s).handles = s.handles ∧
    (noteM0 m s).dcx = s.dcx ∧
    (noteM0 m s).mnt = s.mnt ∧
    (noteM0 m s).comp = s.comp ∧
    (noteM0 m s).thm = s.thm ∧
    (noteM0 m s).gl = s.gl ∧
    (noteM0 m s).link = s.link ∧
    (noteM0 m s).ozd = s.ozd ∧
    (noteM0 m s).lctc = s.lctc ∧
    (noteM0 m s).msgq = s.msgq ∧
    (noteM0 m s).wcapLevel = s.wcapLevel := by simp only [noteM0]; (repeat' split) <;> simp [setRegN_frame ..]

@[simp] theorem writeRight_pending (m : Master) (a : Nat) (v : Word) (right : Bool) (eff : State → State) (s : State) (heff : ∀ x0, (eff x0).pending = x0.pending) :
    (writeRight m a v right eff s).pending = s.pending := by
  unfold writeRight; (repeat' split) <;> simp [answer_frame .., holdOrBusy_frame .., noteM0_frame .., violate_frame .., heff]

@[simp] theorem writeRight_fs (m : Master) (a : Nat) (v : Word) (right : Bool) (eff : State → State) (s : State) (heff : ∀ x0, (eff x0).fs = x0.fs) :
    (writeRight m a v right eff s).fs = s.fs := by
  unfold writeRight; (repeat' split) <;> simp [answer_frame .., holdOrBusy_frame .., noteM0_frame .., violate_frame .., heff]

@[simp] theorem writeRight_scene (m : Master) (a : Nat) (v : Word) (right : Bool) (eff : State → State) (s : State) (heff : ∀ x0, (eff x0).scene = x0.scene) :
    (writeRight m a v right eff s).scene = s.scene := by
  unfold writeRight; (repeat' split) <;> simp [answer_frame .., holdOrBusy_frame .., noteM0_frame .., violate_frame .., heff]

@[simp] theorem writeRight_jtag (m : Master) (a : Nat) (v : Word) (right : Bool) (eff : State → State) (s : State) (heff : ∀ x0, (eff x0).jtag = x0.jtag) :
    (writeRight m a v right eff s).jtag = s.jtag := by
  unfold writeRight; (repeat' split) <;> simp [answer_frame .., holdOrBusy_frame .., noteM0_frame .., violate_frame .., heff]

@[simp] theorem writeRight_boot (m : Master) (a : Nat) (v : Word) (right : Bool) (eff : State → State) (s : State) (heff : ∀ x0, (eff x0).boot = x0.boot) :
    (writeRight m a v right eff s).boot = s.boot := by
  unfold writeRight; (repeat' split) <;> simp [answer_frame .., holdOrBusy_frame .., noteM0_frame .., violate_frame .., heff]

@[simp] theorem writeRight_period (m : Master) (a : Nat) (v : Word) (right : Bool) (eff : State → State) (s : State) (heff : ∀ x0, (eff x0).period = x0.period) :
    (writeRight m a v right eff s).period = s.period := by
  unfold writeRight; (repeat' split) <;> simp [answer_frame .., holdOrBusy_frame .., noteM0_frame .., violate_frame .., heff]

@[simp] theorem writeRight_pwr (m : Master) (a : Nat) (v : Word) (right : Bool) (eff : State → State) (s : State) (heff : ∀ x0, (eff x0).pwr = x0.pwr) :
    (writeRight m a v right eff s).pwr = s.pwr := by
  unfold writeRight; (repeat' split) <;> simp [answer_frame .., holdOrBusy_frame .., noteM0_frame .., violate_frame .., heff]

@[simp] theorem writeRight_scan (m : Master) (a : Nat) (v : Word) (right : Bool) (eff : State → State) (s : State) (heff : ∀ x0, (eff x0).scan = x0.scan) :
    (writeRight m a v right eff s).scan = s.scan := by
  unfold writeRight; (repeat' split) <;> simp [answer_frame .., holdOrBusy_frame .., noteM0_frame .., violate_frame .., heff]

@[simp] theorem writeRight_lct (m : Master) (a : Nat) (v : Word) (right : Bool) (eff : State → State) (s : State) (heff : ∀ x0, (eff x0).lct = x0.lct) :
    (writeRight m a v right eff s).lct = s.lct := by
  unfold writeRight; (repeat' split) <;> simp [answer_frame .., holdOrBusy_frame .., noteM0_frame .., violate_frame .., heff]

@[simp] theorem writeRight_tb (m : Master) (a : Nat) (v : Word) (right : Bool) (eff : State → State) (s : State) (heff : ∀ x0, (eff x0).tb = x0.tb) :
    (writeRight m a v right eff s).tb = s.tb := by
  unfold writeRight; (repeat' split) <;> simp [answer_frame .., holdOrBusy_frame .., noteM0_frame .., violate_frame .., heff]

@[simp] theorem writeRight_tiles (m : Master) (a : Nat) (v : Word) (right : Bool) (eff : State → State) (s : State) (heff : ∀ x0, (eff x0).tiles = x0.tiles) :
    (writeRight m a v right eff s).tiles = s.tiles := by
  unfold writeRight; (repeat' split) <;> simp [answer_frame .., holdOrBusy_frame .., noteM0_frame .., violate_frame .., heff]

@[simp] theorem writeRight_handles (m : Master) (a : Nat) (v : Word) (right : Bool) (eff : State → State) (s : State) (heff : ∀ x0, (eff x0).handles = x0.handles) :
    (writeRight m a v right eff s).handles = s.handles := by
  unfold writeRight; (repeat' split) <;> simp [answer_frame .., holdOrBusy_frame .., noteM0_frame .., violate_frame .., heff]

@[simp] theorem writeRight_mnt (m : Master) (a : Nat) (v : Word) (right : Bool) (eff : State → State) (s : State) (heff : ∀ x0, (eff x0).mnt = x0.mnt) :
    (writeRight m a v right eff s).mnt = s.mnt := by
  unfold writeRight; (repeat' split) <;> simp [answer_frame .., holdOrBusy_frame .., noteM0_frame .., violate_frame .., heff]

@[simp] theorem writeRight_comp (m : Master) (a : Nat) (v : Word) (right : Bool) (eff : State → State) (s : State) (heff : ∀ x0, (eff x0).comp = x0.comp) :
    (writeRight m a v right eff s).comp = s.comp := by
  unfold writeRight; (repeat' split) <;> simp [answer_frame .., holdOrBusy_frame .., noteM0_frame .., violate_frame .., heff]

@[simp] theorem writeRight_thm (m : Master) (a : Nat) (v : Word) (right : Bool) (eff : State → State) (s : State) (heff : ∀ x0, (eff x0).thm = x0.thm) :
    (writeRight m a v right eff s).thm = s.thm := by
  unfold writeRight; (repeat' split) <;> simp [answer_frame .., holdOrBusy_frame .., noteM0_frame .., violate_frame .., heff]

@[simp] theorem writeRight_gl (m : Master) (a : Nat) (v : Word) (right : Bool) (eff : State → State) (s : State) (heff : ∀ x0, (eff x0).gl = x0.gl) :
    (writeRight m a v right eff s).gl = s.gl := by
  unfold writeRight; (repeat' split) <;> simp [answer_frame .., holdOrBusy_frame .., noteM0_frame .., violate_frame .., heff]

@[simp] theorem writeRight_lctc (m : Master) (a : Nat) (v : Word) (right : Bool) (eff : State → State) (s : State) (heff : ∀ x0, (eff x0).lctc = x0.lctc) :
    (writeRight m a v right eff s).lctc = s.lctc := by
  unfold writeRight; (repeat' split) <;> simp [answer_frame .., holdOrBusy_frame .., noteM0_frame .., violate_frame .., heff]

@[simp] theorem writeRight_wcapLevel (m : Master) (a : Nat) (v : Word) (right : Bool) (eff : State → State) (s : State) (heff : ∀ x0, (eff x0).wcapLevel = x0.wcapLevel) :
    (writeRight m a v right eff s).wcapLevel = s.wcapLevel := by
  unfold writeRight; (repeat' split) <;> simp [answer_frame .., holdOrBusy_frame .., noteM0_frame .., violate_frame .., heff]

@[simp] theorem writeWith_pending (m : Master) (a : Nat) (v : Word) (eff : State → State) (s : State) (heff : ∀ x0, (eff x0).pending = x0.pending) :
    (writeWith m a v eff s).pending = s.pending := by
  unfold writeWith; (repeat' split) <;> simp [heff]

@[simp] theorem writeWith_fs (m : Master) (a : Nat) (v : Word) (eff : State → State) (s : State) (heff : ∀ x0, (eff x0).fs = x0.fs) :
    (writeWith m a v eff s).fs = s.fs := by
  unfold writeWith; (repeat' split) <;> simp [heff]

@[simp] theorem writeWith_scene (m : Master) (a : Nat) (v : Word) (eff : State → State) (s : State) (heff : ∀ x0, (eff x0).scene = x0.scene) :
    (writeWith m a v eff s).scene = s.scene := by
  unfold writeWith; (repeat' split) <;> simp [heff]

@[simp] theorem writeWith_jtag (m : Master) (a : Nat) (v : Word) (eff : State → State) (s : State) (heff : ∀ x0, (eff x0).jtag = x0.jtag) :
    (writeWith m a v eff s).jtag = s.jtag := by
  unfold writeWith; (repeat' split) <;> simp [heff]

@[simp] theorem writeWith_boot (m : Master) (a : Nat) (v : Word) (eff : State → State) (s : State) (heff : ∀ x0, (eff x0).boot = x0.boot) :
    (writeWith m a v eff s).boot = s.boot := by
  unfold writeWith; (repeat' split) <;> simp [heff]

@[simp] theorem writeWith_period (m : Master) (a : Nat) (v : Word) (eff : State → State) (s : State) (heff : ∀ x0, (eff x0).period = x0.period) :
    (writeWith m a v eff s).period = s.period := by
  unfold writeWith; (repeat' split) <;> simp [heff]

@[simp] theorem writeWith_pwr (m : Master) (a : Nat) (v : Word) (eff : State → State) (s : State) (heff : ∀ x0, (eff x0).pwr = x0.pwr) :
    (writeWith m a v eff s).pwr = s.pwr := by
  unfold writeWith; (repeat' split) <;> simp [heff]

@[simp] theorem writeWith_scan (m : Master) (a : Nat) (v : Word) (eff : State → State) (s : State) (heff : ∀ x0, (eff x0).scan = x0.scan) :
    (writeWith m a v eff s).scan = s.scan := by
  unfold writeWith; (repeat' split) <;> simp [heff]

@[simp] theorem writeWith_lct (m : Master) (a : Nat) (v : Word) (eff : State → State) (s : State) (heff : ∀ x0, (eff x0).lct = x0.lct) :
    (writeWith m a v eff s).lct = s.lct := by
  unfold writeWith; (repeat' split) <;> simp [heff]

@[simp] theorem writeWith_tb (m : Master) (a : Nat) (v : Word) (eff : State → State) (s : State) (heff : ∀ x0, (eff x0).tb = x0.tb) :
    (writeWith m a v eff s).tb = s.tb := by
  unfold writeWith; (repeat' split) <;> simp [heff]

@[simp] theorem writeWith_tiles (m : Master) (a : Nat) (v : Word) (eff : State → State) (s : State) (heff : ∀ x0, (eff x0).tiles = x0.tiles) :
    (writeWith m a v eff s).tiles = s.tiles := by
  unfold writeWith; (repeat' split) <;> simp [heff]

@[simp] theorem writeWith_handles (m : Master) (a : Nat) (v : Word) (eff : State → State) (s : State) (heff : ∀ x0, (eff x0).handles = x0.handles) :
    (writeWith m a v eff s).handles = s.handles := by
  unfold writeWith; (repeat' split) <;> simp [heff]

@[simp] theorem writeWith_mnt (m : Master) (a : Nat) (v : Word) (eff : State → State) (s : State) (heff : ∀ x0, (eff x0).mnt = x0.mnt) :
    (writeWith m a v eff s).mnt = s.mnt := by
  unfold writeWith; (repeat' split) <;> simp [heff]

@[simp] theorem writeWith_comp (m : Master) (a : Nat) (v : Word) (eff : State → State) (s : State) (heff : ∀ x0, (eff x0).comp = x0.comp) :
    (writeWith m a v eff s).comp = s.comp := by
  unfold writeWith; (repeat' split) <;> simp [heff]

@[simp] theorem writeWith_thm (m : Master) (a : Nat) (v : Word) (eff : State → State) (s : State) (heff : ∀ x0, (eff x0).thm = x0.thm) :
    (writeWith m a v eff s).thm = s.thm := by
  unfold writeWith; (repeat' split) <;> simp [heff]

@[simp] theorem writeWith_gl (m : Master) (a : Nat) (v : Word) (eff : State → State) (s : State) (heff : ∀ x0, (eff x0).gl = x0.gl) :
    (writeWith m a v eff s).gl = s.gl := by
  unfold writeWith; (repeat' split) <;> simp [heff]

@[simp] theorem writeWith_lctc (m : Master) (a : Nat) (v : Word) (eff : State → State) (s : State) (heff : ∀ x0, (eff x0).lctc = x0.lctc) :
    (writeWith m a v eff s).lctc = s.lctc := by
  unfold writeWith; (repeat' split) <;> simp [heff]

@[simp] theorem writeWith_wcapLevel (m : Master) (a : Nat) (v : Word) (eff : State → State) (s : State) (heff : ∀ x0, (eff x0).wcapLevel = x0.wcapLevel) :
    (writeWith m a v eff s).wcapLevel = s.wcapLevel := by
  unfold writeWith; (repeat' split) <;> simp [heff]

@[simp] theorem writePriv_pending (m : Master) (a : Nat) (v : Word) (eff : State → State) (s : State) (heff : ∀ x0, (eff x0).pending = x0.pending) :
    (writePriv m a v eff s).pending = s.pending := by
  unfold writePriv; (repeat' split) <;> simp [heff]

@[simp] theorem writePriv_fs (m : Master) (a : Nat) (v : Word) (eff : State → State) (s : State) (heff : ∀ x0, (eff x0).fs = x0.fs) :
    (writePriv m a v eff s).fs = s.fs := by
  unfold writePriv; (repeat' split) <;> simp [heff]

@[simp] theorem writePriv_scene (m : Master) (a : Nat) (v : Word) (eff : State → State) (s : State) (heff : ∀ x0, (eff x0).scene = x0.scene) :
    (writePriv m a v eff s).scene = s.scene := by
  unfold writePriv; (repeat' split) <;> simp [heff]

@[simp] theorem writePriv_jtag (m : Master) (a : Nat) (v : Word) (eff : State → State) (s : State) (heff : ∀ x0, (eff x0).jtag = x0.jtag) :
    (writePriv m a v eff s).jtag = s.jtag := by
  unfold writePriv; (repeat' split) <;> simp [heff]

@[simp] theorem writePriv_boot (m : Master) (a : Nat) (v : Word) (eff : State → State) (s : State) (heff : ∀ x0, (eff x0).boot = x0.boot) :
    (writePriv m a v eff s).boot = s.boot := by
  unfold writePriv; (repeat' split) <;> simp [heff]

@[simp] theorem writePriv_period (m : Master) (a : Nat) (v : Word) (eff : State → State) (s : State) (heff : ∀ x0, (eff x0).period = x0.period) :
    (writePriv m a v eff s).period = s.period := by
  unfold writePriv; (repeat' split) <;> simp [heff]

@[simp] theorem writePriv_pwr (m : Master) (a : Nat) (v : Word) (eff : State → State) (s : State) (heff : ∀ x0, (eff x0).pwr = x0.pwr) :
    (writePriv m a v eff s).pwr = s.pwr := by
  unfold writePriv; (repeat' split) <;> simp [heff]

@[simp] theorem writePriv_scan (m : Master) (a : Nat) (v : Word) (eff : State → State) (s : State) (heff : ∀ x0, (eff x0).scan = x0.scan) :
    (writePriv m a v eff s).scan = s.scan := by
  unfold writePriv; (repeat' split) <;> simp [heff]

@[simp] theorem writePriv_lct (m : Master) (a : Nat) (v : Word) (eff : State → State) (s : State) (heff : ∀ x0, (eff x0).lct = x0.lct) :
    (writePriv m a v eff s).lct = s.lct := by
  unfold writePriv; (repeat' split) <;> simp [heff]

@[simp] theorem writePriv_tb (m : Master) (a : Nat) (v : Word) (eff : State → State) (s : State) (heff : ∀ x0, (eff x0).tb = x0.tb) :
    (writePriv m a v eff s).tb = s.tb := by
  unfold writePriv; (repeat' split) <;> simp [heff]

@[simp] theorem writePriv_tiles (m : Master) (a : Nat) (v : Word) (eff : State → State) (s : State) (heff : ∀ x0, (eff x0).tiles = x0.tiles) :
    (writePriv m a v eff s).tiles = s.tiles := by
  unfold writePriv; (repeat' split) <;> simp [heff]

@[simp] theorem writePriv_handles (m : Master) (a : Nat) (v : Word) (eff : State → State) (s : State) (heff : ∀ x0, (eff x0).handles = x0.handles) :
    (writePriv m a v eff s).handles = s.handles := by
  unfold writePriv; (repeat' split) <;> simp [heff]

@[simp] theorem writePriv_mnt (m : Master) (a : Nat) (v : Word) (eff : State → State) (s : State) (heff : ∀ x0, (eff x0).mnt = x0.mnt) :
    (writePriv m a v eff s).mnt = s.mnt := by
  unfold writePriv; (repeat' split) <;> simp [heff]

@[simp] theorem writePriv_comp (m : Master) (a : Nat) (v : Word) (eff : State → State) (s : State) (heff : ∀ x0, (eff x0).comp = x0.comp) :
    (writePriv m a v eff s).comp = s.comp := by
  unfold writePriv; (repeat' split) <;> simp [heff]

@[simp] theorem writePriv_thm (m : Master) (a : Nat) (v : Word) (eff : State → State) (s : State) (heff : ∀ x0, (eff x0).thm = x0.thm) :
    (writePriv m a v eff s).thm = s.thm := by
  unfold writePriv; (repeat' split) <;> simp [heff]

@[simp] theorem writePriv_gl (m : Master) (a : Nat) (v : Word) (eff : State → State) (s : State) (heff : ∀ x0, (eff x0).gl = x0.gl) :
    (writePriv m a v eff s).gl = s.gl := by
  unfold writePriv; (repeat' split) <;> simp [heff]

@[simp] theorem writePriv_lctc (m : Master) (a : Nat) (v : Word) (eff : State → State) (s : State) (heff : ∀ x0, (eff x0).lctc = x0.lctc) :
    (writePriv m a v eff s).lctc = s.lctc := by
  unfold writePriv; (repeat' split) <;> simp [heff]

@[simp] theorem writePriv_wcapLevel (m : Master) (a : Nat) (v : Word) (eff : State → State) (s : State) (heff : ∀ x0, (eff x0).wcapLevel = x0.wcapLevel) :
    (writePriv m a v eff s).wcapLevel = s.wcapLevel := by
  unfold writePriv; (repeat' split) <;> simp [heff]

@[simp] theorem readWith_pending (m : Master) (a : Nat) (eff : State → Word × State) (s : State) (heff : ∀ x0, (eff x0).2.pending = x0.pending) :
    (readWith m a eff s).pending = s.pending := by
  unfold readWith; (repeat' split) <;> simp [answer_frame .., holdOrBusy_frame .., heff]

@[simp] theorem readWith_fs (m : Master) (a : Nat) (eff : State → Word × State) (s : State) (heff : ∀ x0, (eff x0).2.fs = x0.fs) :
    (readWith m a eff s).fs = s.fs := by
  unfold readWith; (repeat' split) <;> simp [answer_frame .., holdOrBusy_frame .., heff]

@[simp] theorem readWith_scene (m : Master) (a : Nat) (eff : State → Word × State) (s : State) (heff : ∀ x0, (eff x0).2.scene = x0.scene) :
    (readWith m a eff s).scene = s.scene := by
  unfold readWith; (repeat' split) <;> simp [answer_frame .., holdOrBusy_frame .., heff]

@[simp] theorem readWith_jtag (m : Master) (a : Nat) (eff : State → Word × State) (s : State) (heff : ∀ x0, (eff x0).2.jtag = x0.jtag) :
    (readWith m a eff s).jtag = s.jtag := by
  unfold readWith; (repeat' split) <;> simp [answer_frame .., holdOrBusy_frame .., heff]

@[simp] theorem readWith_boot (m : Master) (a : Nat) (eff : State → Word × State) (s : State) (heff : ∀ x0, (eff x0).2.boot = x0.boot) :
    (readWith m a eff s).boot = s.boot := by
  unfold readWith; (repeat' split) <;> simp [answer_frame .., holdOrBusy_frame .., heff]

@[simp] theorem readWith_period (m : Master) (a : Nat) (eff : State → Word × State) (s : State) (heff : ∀ x0, (eff x0).2.period = x0.period) :
    (readWith m a eff s).period = s.period := by
  unfold readWith; (repeat' split) <;> simp [answer_frame .., holdOrBusy_frame .., heff]

@[simp] theorem readWith_pwr (m : Master) (a : Nat) (eff : State → Word × State) (s : State) (heff : ∀ x0, (eff x0).2.pwr = x0.pwr) :
    (readWith m a eff s).pwr = s.pwr := by
  unfold readWith; (repeat' split) <;> simp [answer_frame .., holdOrBusy_frame .., heff]

@[simp] theorem readWith_scan (m : Master) (a : Nat) (eff : State → Word × State) (s : State) (heff : ∀ x0, (eff x0).2.scan = x0.scan) :
    (readWith m a eff s).scan = s.scan := by
  unfold readWith; (repeat' split) <;> simp [answer_frame .., holdOrBusy_frame .., heff]

@[simp] theorem readWith_lct (m : Master) (a : Nat) (eff : State → Word × State) (s : State) (heff : ∀ x0, (eff x0).2.lct = x0.lct) :
    (readWith m a eff s).lct = s.lct := by
  unfold readWith; (repeat' split) <;> simp [answer_frame .., holdOrBusy_frame .., heff]

@[simp] theorem readWith_tb (m : Master) (a : Nat) (eff : State → Word × State) (s : State) (heff : ∀ x0, (eff x0).2.tb = x0.tb) :
    (readWith m a eff s).tb = s.tb := by
  unfold readWith; (repeat' split) <;> simp [answer_frame .., holdOrBusy_frame .., heff]

@[simp] theorem readWith_tiles (m : Master) (a : Nat) (eff : State → Word × State) (s : State) (heff : ∀ x0, (eff x0).2.tiles = x0.tiles) :
    (readWith m a eff s).tiles = s.tiles := by
  unfold readWith; (repeat' split) <;> simp [answer_frame .., holdOrBusy_frame .., heff]

@[simp] theorem readWith_handles (m : Master) (a : Nat) (eff : State → Word × State) (s : State) (heff : ∀ x0, (eff x0).2.handles = x0.handles) :
    (readWith m a eff s).handles = s.handles := by
  unfold readWith; (repeat' split) <;> simp [answer_frame .., holdOrBusy_frame .., heff]

@[simp] theorem readWith_dcx (m : Master) (a : Nat) (eff : State → Word × State) (s : State) (heff : ∀ x0, (eff x0).2.dcx = x0.dcx) :
    (readWith m a eff s).dcx = s.dcx := by
  unfold readWith; (repeat' split) <;> simp [answer_frame .., holdOrBusy_frame .., heff]

@[simp] theorem readWith_mnt (m : Master) (a : Nat) (eff : State → Word × State) (s : State) (heff : ∀ x0, (eff x0).2.mnt = x0.mnt) :
    (readWith m a eff s).mnt = s.mnt := by
  unfold readWith; (repeat' split) <;> simp [answer_frame .., holdOrBusy_frame .., heff]

@[simp] theorem readWith_comp (m : Master) (a : Nat) (eff : State → Word × State) (s : State) (heff : ∀ x0, (eff x0).2.comp = x0.comp) :
    (readWith m a eff s).comp = s.comp := by
  unfold readWith; (repeat' split) <;> simp [answer_frame .., holdOrBusy_frame .., heff]

@[simp] theorem readWith_thm (m : Master) (a : Nat) (eff : State → Word × State) (s : State) (heff : ∀ x0, (eff x0).2.thm = x0.thm) :
    (readWith m a eff s).thm = s.thm := by
  unfold readWith; (repeat' split) <;> simp [answer_frame .., holdOrBusy_frame .., heff]

@[simp] theorem readWith_gl (m : Master) (a : Nat) (eff : State → Word × State) (s : State) (heff : ∀ x0, (eff x0).2.gl = x0.gl) :
    (readWith m a eff s).gl = s.gl := by
  unfold readWith; (repeat' split) <;> simp [answer_frame .., holdOrBusy_frame .., heff]

@[simp] theorem readWith_link (m : Master) (a : Nat) (eff : State → Word × State) (s : State) (heff : ∀ x0, (eff x0).2.link = x0.link) :
    (readWith m a eff s).link = s.link := by
  unfold readWith; (repeat' split) <;> simp [answer_frame .., holdOrBusy_frame .., heff]

@[simp] theorem readWith_ozd (m : Master) (a : Nat) (eff : State → Word × State) (s : State) (heff : ∀ x0, (eff x0).2.ozd = x0.ozd) :
    (readWith m a eff s).ozd = s.ozd := by
  unfold readWith; (repeat' split) <;> simp [answer_frame .., holdOrBusy_frame .., heff]

@[simp] theorem readWith_lctc (m : Master) (a : Nat) (eff : State → Word × State) (s : State) (heff : ∀ x0, (eff x0).2.lctc = x0.lctc) :
    (readWith m a eff s).lctc = s.lctc := by
  unfold readWith; (repeat' split) <;> simp [answer_frame .., holdOrBusy_frame .., heff]

@[simp] theorem readWith_msgq (m : Master) (a : Nat) (eff : State → Word × State) (s : State) (heff : ∀ x0, (eff x0).2.msgq = x0.msgq) :
    (readWith m a eff s).msgq = s.msgq := by
  unfold readWith; (repeat' split) <;> simp [answer_frame .., holdOrBusy_frame .., heff]

@[simp] theorem readWith_wcapLevel (m : Master) (a : Nat) (eff : State → Word × State) (s : State) (heff : ∀ x0, (eff x0).2.wcapLevel = x0.wcapLevel) :
    (readWith m a eff s).wcapLevel = s.wcapLevel := by
  unfold readWith; (repeat' split) <;> simp [answer_frame .., holdOrBusy_frame .., heff]

@[simp] theorem dataAccess_pending (m : Master) (a : Nat) (x : Acc) (rd : State → Word × State) (wr : Word → State → State) (s : State) (hrd : ∀ x0, (rd x0).2.pending = x0.pending) (hwr : ∀ x0 x1, (wr x0 x1).pending = x1.pending) :
    (dataAccess m a x rd wr s).pending = s.pending := by
  unfold dataAccess; (repeat' split) <;> simp [hrd, hwr]

@[simp] theorem dataAccess_fs (m : Master) (a : Nat) (x : Acc) (rd : State → Word × State) (wr : Word → State → State) (s : State) (hrd : ∀ x0, (rd x0).2.fs = x0.fs) (hwr : ∀ x0 x1, (wr x0 x1).fs = x1.fs) :
    (dataAccess m a x rd wr s).fs = s.fs := by
  unfold dataAccess; (repeat' split) <;> simp [hrd, hwr]

@[simp] theorem dataAccess_scene (m : Master) (a : Nat) (x : Acc) (rd : State → Word × State) (wr : Word → State → State) (s : State) (hrd : ∀ x0, (rd x0).2.scene = x0.scene) (hwr : ∀ x0 x1, (wr x0 x1).scene = x1.scene) :
    (dataAccess m a x rd wr s).scene = s.scene := by
  unfold dataAccess; (repeat' split) <;> simp [hrd, hwr]

@[simp] theorem dataAccess_jtag (m : Master) (a : Nat) (x : Acc) (rd : State → Word × State) (wr : Word → State → State) (s : State) (hrd : ∀ x0, (rd x0).2.jtag = x0.jtag) (hwr : ∀ x0 x1, (wr x0 x1).jtag = x1.jtag) :
    (dataAccess m a x rd wr s).jtag = s.jtag := by
  unfold dataAccess; (repeat' split) <;> simp [hrd, hwr]

@[simp] theorem dataAccess_boot (m : Master) (a : Nat) (x : Acc) (rd : State → Word × State) (wr : Word → State → State) (s : State) (hrd : ∀ x0, (rd x0).2.boot = x0.boot) (hwr : ∀ x0 x1, (wr x0 x1).boot = x1.boot) :
    (dataAccess m a x rd wr s).boot = s.boot := by
  unfold dataAccess; (repeat' split) <;> simp [hrd, hwr]

@[simp] theorem dataAccess_period (m : Master) (a : Nat) (x : Acc) (rd : State → Word × State) (wr : Word → State → State) (s : State) (hrd : ∀ x0, (rd x0).2.period = x0.period) (hwr : ∀ x0 x1, (wr x0 x1).period = x1.period) :
    (dataAccess m a x rd wr s).period = s.period := by
  unfold dataAccess; (repeat' split) <;> simp [hrd, hwr]

@[simp] theorem dataAccess_pwr (m : Master) (a : Nat) (x : Acc) (rd : State → Word × State) (wr : Word → State → State) (s : State) (hrd : ∀ x0, (rd x0).2.pwr = x0.pwr) (hwr : ∀ x0 x1, (wr x0 x1).pwr = x1.pwr) :
    (dataAccess m a x rd wr s).pwr = s.pwr := by
  unfold dataAccess; (repeat' split) <;> simp [hrd, hwr]

@[simp] theorem dataAccess_scan (m : Master) (a : Nat) (x : Acc) (rd : State → Word × State) (wr : Word → State → State) (s : State) (hrd : ∀ x0, (rd x0).2.scan = x0.scan) (hwr : ∀ x0 x1, (wr x0 x1).scan = x1.scan) :
    (dataAccess m a x rd wr s).scan = s.scan := by
  unfold dataAccess; (repeat' split) <;> simp [hrd, hwr]

@[simp] theorem dataAccess_lct (m : Master) (a : Nat) (x : Acc) (rd : State → Word × State) (wr : Word → State → State) (s : State) (hrd : ∀ x0, (rd x0).2.lct = x0.lct) (hwr : ∀ x0 x1, (wr x0 x1).lct = x1.lct) :
    (dataAccess m a x rd wr s).lct = s.lct := by
  unfold dataAccess; (repeat' split) <;> simp [hrd, hwr]

@[simp] theorem dataAccess_tb (m : Master) (a : Nat) (x : Acc) (rd : State → Word × State) (wr : Word → State → State) (s : State) (hrd : ∀ x0, (rd x0).2.tb = x0.tb) (hwr : ∀ x0 x1, (wr x0 x1).tb = x1.tb) :
    (dataAccess m a x rd wr s).tb = s.tb := by
  unfold dataAccess; (repeat' split) <;> simp [hrd, hwr]

@[simp] theorem dataAccess_tiles (m : Master) (a : Nat) (x : Acc) (rd : State → Word × State) (wr : Word → State → State) (s : State) (hrd : ∀ x0, (rd x0).2.tiles = x0.tiles) (hwr : ∀ x0 x1, (wr x0 x1).tiles = x1.tiles) :
    (dataAccess m a x rd wr s).tiles = s.tiles := by
  unfold dataAccess; (repeat' split) <;> simp [hrd, hwr]

@[simp] theorem dataAccess_handles (m : Master) (a : Nat) (x : Acc) (rd : State → Word × State) (wr : Word → State → State) (s : State) (hrd : ∀ x0, (rd x0).2.handles = x0.handles) (hwr : ∀ x0 x1, (wr x0 x1).handles = x1.handles) :
    (dataAccess m a x rd wr s).handles = s.handles := by
  unfold dataAccess; (repeat' split) <;> simp [hrd, hwr]

@[simp] theorem dataAccess_mnt (m : Master) (a : Nat) (x : Acc) (rd : State → Word × State) (wr : Word → State → State) (s : State) (hrd : ∀ x0, (rd x0).2.mnt = x0.mnt) (hwr : ∀ x0 x1, (wr x0 x1).mnt = x1.mnt) :
    (dataAccess m a x rd wr s).mnt = s.mnt := by
  unfold dataAccess; (repeat' split) <;> simp [hrd, hwr]

@[simp] theorem dataAccess_comp (m : Master) (a : Nat) (x : Acc) (rd : State → Word × State) (wr : Word → State → State) (s : State) (hrd : ∀ x0, (rd x0).2.comp = x0.comp) (hwr : ∀ x0 x1, (wr x0 x1).comp = x1.comp) :
    (dataAccess m a x rd wr s).comp = s.comp := by
  unfold dataAccess; (repeat' split) <;> simp [hrd, hwr]

@[simp] theorem dataAccess_thm (m : Master) (a : Nat) (x : Acc) (rd : State → Word × State) (wr : Word → State → State) (s : State) (hrd : ∀ x0, (rd x0).2.thm = x0.thm) (hwr : ∀ x0 x1, (wr x0 x1).thm = x1.thm) :
    (dataAccess m a x rd wr s).thm = s.thm := by
  unfold dataAccess; (repeat' split) <;> simp [hrd, hwr]

@[simp] theorem dataAccess_gl (m : Master) (a : Nat) (x : Acc) (rd : State → Word × State) (wr : Word → State → State) (s : State) (hrd : ∀ x0, (rd x0).2.gl = x0.gl) (hwr : ∀ x0 x1, (wr x0 x1).gl = x1.gl) :
    (dataAccess m a x rd wr s).gl = s.gl := by
  unfold dataAccess; (repeat' split) <;> simp [hrd, hwr]

@[simp] theorem dataAccess_lctc (m : Master) (a : Nat) (x : Acc) (rd : State → Word × State) (wr : Word → State → State) (s : State) (hrd : ∀ x0, (rd x0).2.lctc = x0.lctc) (hwr : ∀ x0 x1, (wr x0 x1).lctc = x1.lctc) :
    (dataAccess m a x rd wr s).lctc = s.lctc := by
  unfold dataAccess; (repeat' split) <;> simp [hrd, hwr]

@[simp] theorem dataAccess_wcapLevel (m : Master) (a : Nat) (x : Acc) (rd : State → Word × State) (wr : Word → State → State) (s : State) (hrd : ∀ x0, (rd x0).2.wcapLevel = x0.wcapLevel) (hwr : ∀ x0 x1, (wr x0 x1).wcapLevel = x1.wcapLevel) :
    (dataAccess m a x rd wr s).wcapLevel = s.wcapLevel := by
  unfold dataAccess; (repeat' split) <;> simp [hrd, hwr]

theorem holdHigh_frame (m a : Nat) (v : Word) (s : State) :
    (holdHigh m a v s).pending = s.pending ∧
    (holdHigh m a v s).fs = s.fs ∧
    (holdHigh m a v s).scene = s.scene ∧
    (holdHigh m a v s).jtag = s.jtag ∧
    (holdHigh m a v s).boot = s.boot ∧
    (holdHigh m a v s).period = s.period ∧
    (holdHigh m a v s).pwr = s.pwr ∧
    (holdHigh m a v s).scan = s.scan ∧
    (holdHigh m a v s).lct = s.lct ∧
    (holdHigh m a v s).tb = s.tb ∧
    (holdHigh m a v s).tiles = s.tiles ∧
    (holdHigh m a v s).handles = s.handles ∧
    (holdHigh m a v s).dcx = s.dcx ∧
    (holdHigh m a v s).mnt = s.mnt ∧
    (holdHigh m a v s).comp = s.comp ∧
    (holdHigh m a v s).thm = s.thm ∧
    (holdHigh m a v s).gl = s.gl ∧
    (holdHigh m a v s).link = s.link ∧
    (holdHigh m a v s).ozd = s.ozd ∧
    (holdHigh m a v s).lctc = s.lctc ∧
    (holdHigh m a v s).msgq = s.msgq ∧
    (holdHigh m a v s).wcapLevel = s.wcapLevel := by simp [holdHigh]

theorem takeHigh_frame (m a : Nat) (live : Word) (s : State) :
    (takeHigh m a live s).2.pending = s.pending ∧
    (takeHigh m a live s).2.fs = s.fs ∧
    (takeHigh m a live s).2.scene = s.scene ∧
    (takeHigh m a live s).2.jtag = s.jtag ∧
    (takeHigh m a live s).2.boot = s.boot ∧
    (takeHigh m a live s).2.period = s.period ∧
    (takeHigh m a live s).2.pwr = s.pwr ∧
    (takeHigh m a live s).2.scan = s.scan ∧
    (takeHigh m a live s).2.lct = s.lct ∧
    (takeHigh m a live s).2.tb = s.tb ∧
    (takeHigh m a live s).2.tiles = s.tiles ∧
    (takeHigh m a live s).2.handles = s.handles ∧
    (takeHigh m a live s).2.dcx = s.dcx ∧
    (takeHigh m a live s).2.mnt = s.mnt ∧
    (takeHigh m a live s).2.comp = s.comp ∧
    (takeHigh m a live s).2.thm = s.thm ∧
    (takeHigh m a live s).2.gl = s.gl ∧
    (takeHigh m a live s).2.link = s.link ∧
    (takeHigh m a live s).2.ozd = s.ozd ∧
    (takeHigh m a live s).2.lctc = s.lctc ∧
    (takeHigh m a live s).2.msgq = s.msgq ∧
    (takeHigh m a live s).2.wcapLevel = s.wcapLevel := by simp only [takeHigh]; (repeat' split) <;> simp

end Sys2Proof.Machine
end

