-- ==== Sys2Proof/Laws/FrameControl.lean ====
section
/-!
SUPPORT. What each operation of Control.lean leaves unchanged.
-/
namespace Sys2Proof.Machine

theorem thawLink_frame (m : Nat) (s : State) :
    (thawLink m s).pending = s.pending ∧
    (thawLink m s).fs = s.fs ∧
    (thawLink m s).scene = s.scene ∧
    (thawLink m s).jtag = s.jtag ∧
    (thawLink m s).boot = s.boot ∧
    (thawLink m s).period = s.period ∧
    (thawLink m s).pwr = s.pwr ∧
    (thawLink m s).scan = s.scan ∧
    (thawLink m s).lct = s.lct ∧
    (thawLink m s).tb = s.tb ∧
    (thawLink m s).tiles = s.tiles ∧
    (thawLink m s).handles = s.handles ∧
    (thawLink m s).dcx = s.dcx ∧
    (thawLink m s).mnt = s.mnt ∧
    (thawLink m s).comp = s.comp ∧
    (thawLink m s).thm = s.thm ∧
    (thawLink m s).gl = s.gl ∧
    (thawLink m s).ozd = s.ozd ∧
    (thawLink m s).lctc = s.lctc ∧
    (thawLink m s).wcapLevel = s.wcapLevel := by simp [discardReqs_frame .., grantPools_frame .., setLink_frame .., thawLink]

theorem effThaw_frame (v : Word) (s : State) :
    (effThaw v s).pending = s.pending ∧
    (effThaw v s).fs = s.fs ∧
    (effThaw v s).scene = s.scene ∧
    (effThaw v s).jtag = s.jtag ∧
    (effThaw v s).boot = s.boot ∧
    (effThaw v s).period = s.period ∧
    (effThaw v s).pwr = s.pwr ∧
    (effThaw v s).scan = s.scan ∧
    (effThaw v s).lct = s.lct ∧
    (effThaw v s).tb = s.tb ∧
    (effThaw v s).tiles = s.tiles ∧
    (effThaw v s).handles = s.handles ∧
    (effThaw v s).dcx = s.dcx ∧
    (effThaw v s).mnt = s.mnt ∧
    (effThaw v s).comp = s.comp ∧
    (effThaw v s).thm = s.thm ∧
    (effThaw v s).gl = s.gl ∧
    (effThaw v s).ozd = s.ozd ∧
    (effThaw v s).lctc = s.lctc ∧
    (effThaw v s).wcapLevel = s.wcapLevel := by simp [raise_frame .., setRegBit_frame .., thawLink_frame .., effThaw]

theorem effOwner_frame (p : Nat) (v : Word) (s : State) :
    (effOwner p v s).pending = s.pending ∧
    (effOwner p v s).fs = s.fs ∧
    (effOwner p v s).scene = s.scene ∧
    (effOwner p v s).jtag = s.jtag ∧
    (effOwner p v s).boot = s.boot ∧
    (effOwner p v s).period = s.period ∧
    (effOwner p v s).pwr = s.pwr ∧
    (effOwner p v s).scan = s.scan ∧
    (effOwner p v s).lct = s.lct ∧
    (effOwner p v s).tb = s.tb ∧
    (effOwner p v s).tiles = s.tiles ∧
    (effOwner p v s).handles = s.handles ∧
    (effOwner p v s).dcx = s.dcx ∧
    (effOwner p v s).mnt = s.mnt ∧
    (effOwner p v s).comp = s.comp ∧
    (effOwner p v s).thm = s.thm ∧
    (effOwner p v s).gl = s.gl ∧
    (effOwner p v s).link = s.link ∧
    (effOwner p v s).ozd = s.ozd ∧
    (effOwner p v s).lctc = s.lctc ∧
    (effOwner p v s).msgq = s.msgq ∧
    (effOwner p v s).wcapLevel = s.wcapLevel := by simp [setRegN_frame .., effOwner]

theorem effCmtReq_frame (v : Word) (s : State) :
    (effCmtReq v s).pending = s.pending ∧
    (effCmtReq v s).fs = s.fs ∧
    (effCmtReq v s).scene = s.scene ∧
    (effCmtReq v s).jtag = s.jtag ∧
    (effCmtReq v s).boot = s.boot ∧
    (effCmtReq v s).period = s.period ∧
    (effCmtReq v s).pwr = s.pwr ∧
    (effCmtReq v s).scan = s.scan ∧
    (effCmtReq v s).lct = s.lct ∧
    (effCmtReq v s).tb = s.tb ∧
    (effCmtReq v s).tiles = s.tiles ∧
    (effCmtReq v s).handles = s.handles ∧
    (effCmtReq v s).dcx = s.dcx ∧
    (effCmtReq v s).mnt = s.mnt ∧
    (effCmtReq v s).comp = s.comp ∧
    (effCmtReq v s).thm = s.thm ∧
    (effCmtReq v s).gl = s.gl ∧
    (effCmtReq v s).link = s.link ∧
    (effCmtReq v s).ozd = s.ozd ∧
    (effCmtReq v s).lctc = s.lctc ∧
    (effCmtReq v s).msgq = s.msgq ∧
    (effCmtReq v s).wcapLevel = s.wcapLevel := by simp [setRegBit_frame .., setRegFld_frame .., setReg_frame .., effCmtReq]

theorem effCmtReady_frame (m : Nat) (v : Word) (s : State) :
    (effCmtReady m v s).pending = s.pending ∧
    (effCmtReady m v s).fs = s.fs ∧
    (effCmtReady m v s).scene = s.scene ∧
    (effCmtReady m v s).jtag = s.jtag ∧
    (effCmtReady m v s).boot = s.boot ∧
    (effCmtReady m v s).period = s.period ∧
    (effCmtReady m v s).pwr = s.pwr ∧
    (effCmtReady m v s).scan = s.scan ∧
    (effCmtReady m v s).lct = s.lct ∧
    (effCmtReady m v s).tb = s.tb ∧
    (effCmtReady m v s).tiles = s.tiles ∧
    (effCmtReady m v s).handles = s.handles ∧
    (effCmtReady m v s).dcx = s.dcx ∧
    (effCmtReady m v s).mnt = s.mnt ∧
    (effCmtReady m v s).comp = s.comp ∧
    (effCmtReady m v s).thm = s.thm ∧
    (effCmtReady m v s).gl = s.gl ∧
    (effCmtReady m v s).link = s.link ∧
    (effCmtReady m v s).ozd = s.ozd ∧
    (effCmtReady m v s).lctc = s.lctc ∧
    (effCmtReady m v s).msgq = s.msgq ∧
    (effCmtReady m v s).wcapLevel = s.wcapLevel := by simp [setRegBit_frame .., effCmtReady]

theorem cancelCommit_frame (s : State) :
    (cancelCommit s).pending = s.pending ∧
    (cancelCommit s).fs = s.fs ∧
    (cancelCommit s).scene = s.scene ∧
    (cancelCommit s).jtag = s.jtag ∧
    (cancelCommit s).boot = s.boot ∧
    (cancelCommit s).period = s.period ∧
    (cancelCommit s).pwr = s.pwr ∧
    (cancelCommit s).scan = s.scan ∧
    (cancelCommit s).lct = s.lct ∧
    (cancelCommit s).tb = s.tb ∧
    (cancelCommit s).tiles = s.tiles ∧
    (cancelCommit s).handles = s.handles ∧
    (cancelCommit s).dcx = s.dcx ∧
    (cancelCommit s).mnt = s.mnt ∧
    (cancelCommit s).comp = s.comp ∧
    (cancelCommit s).thm = s.thm ∧
    (cancelCommit s).gl = s.gl ∧
    (cancelCommit s).link = s.link ∧
    (cancelCommit s).ozd = s.ozd ∧
    (cancelCommit s).lctc = s.lctc ∧
    (cancelCommit s).msgq = s.msgq ∧
    (cancelCommit s).wcapLevel = s.wcapLevel := by simp [setRegFld_frame .., cancelCommit]

theorem effCmtCancel_frame (v : Word) (s : State) :
    (effCmtCancel v s).pending = s.pending ∧
    (effCmtCancel v s).fs = s.fs ∧
    (effCmtCancel v s).scene = s.scene ∧
    (effCmtCancel v s).jtag = s.jtag ∧
    (effCmtCancel v s).boot = s.boot ∧
    (effCmtCancel v s).period = s.period ∧
    (effCmtCancel v s).pwr = s.pwr ∧
    (effCmtCancel v s).scan = s.scan ∧
    (effCmtCancel v s).lct = s.lct ∧
    (effCmtCancel v s).tb = s.tb ∧
    (effCmtCancel v s).tiles = s.tiles ∧
    (effCmtCancel v s).handles = s.handles ∧
    (effCmtCancel v s).dcx = s.dcx ∧
    (effCmtCancel v s).mnt = s.mnt ∧
    (effCmtCancel v s).comp = s.comp ∧
    (effCmtCancel v s).thm = s.thm ∧
    (effCmtCancel v s).gl = s.gl ∧
    (effCmtCancel v s).link = s.link ∧
    (effCmtCancel v s).ozd = s.ozd ∧
    (effCmtCancel v s).lctc = s.lctc ∧
    (effCmtCancel v s).msgq = s.msgq ∧
    (effCmtCancel v s).wcapLevel = s.wcapLevel := by simp [cancelCommit_frame .., effCmtCancel]

end Sys2Proof.Machine
end

