-- ==== Sys2Proof/Laws/FrameLayers.lean ====
section
/-!
SUPPORT. What each operation of Layers.lean leaves unchanged.
-/
namespace Sys2Proof.Machine

theorem setShadowWord_frame (n w : Nat) (v : Word) (s : State) :
    (setShadowWord n w v s).pending = s.pending ∧
    (setShadowWord n w v s).fs = s.fs ∧
    (setShadowWord n w v s).scene = s.scene ∧
    (setShadowWord n w v s).jtag = s.jtag ∧
    (setShadowWord n w v s).boot = s.boot ∧
    (setShadowWord n w v s).period = s.period ∧
    (setShadowWord n w v s).pwr = s.pwr ∧
    (setShadowWord n w v s).scan = s.scan ∧
    (setShadowWord n w v s).lct = s.lct ∧
    (setShadowWord n w v s).tb = s.tb ∧
    (setShadowWord n w v s).tiles = s.tiles ∧
    (setShadowWord n w v s).handles = s.handles ∧
    (setShadowWord n w v s).dcx = s.dcx ∧
    (setShadowWord n w v s).mnt = s.mnt ∧
    (setShadowWord n w v s).comp = s.comp ∧
    (setShadowWord n w v s).thm = s.thm ∧
    (setShadowWord n w v s).gl = s.gl ∧
    (setShadowWord n w v s).link = s.link ∧
    (setShadowWord n w v s).ozd = s.ozd ∧
    (setShadowWord n w v s).lctc = s.lctc ∧
    (setShadowWord n w v s).msgq = s.msgq ∧
    (setShadowWord n w v s).wcapLevel = s.wcapLevel := by simp [setShadowWord]

theorem setDirty_frame (p : Nat) (s : State) :
    (setDirty p s).pending = s.pending ∧
    (setDirty p s).fs = s.fs ∧
    (setDirty p s).scene = s.scene ∧
    (setDirty p s).jtag = s.jtag ∧
    (setDirty p s).boot = s.boot ∧
    (setDirty p s).period = s.period ∧
    (setDirty p s).pwr = s.pwr ∧
    (setDirty p s).scan = s.scan ∧
    (setDirty p s).lct = s.lct ∧
    (setDirty p s).tb = s.tb ∧
    (setDirty p s).tiles = s.tiles ∧
    (setDirty p s).handles = s.handles ∧
    (setDirty p s).dcx = s.dcx ∧
    (setDirty p s).mnt = s.mnt ∧
    (setDirty p s).comp = s.comp ∧
    (setDirty p s).thm = s.thm ∧
    (setDirty p s).gl = s.gl ∧
    (setDirty p s).link = s.link ∧
    (setDirty p s).ozd = s.ozd ∧
    (setDirty p s).lctc = s.lctc ∧
    (setDirty p s).msgq = s.msgq ∧
    (setDirty p s).wcapLevel = s.wcapLevel := by simp [setRegBit_frame .., setDirty]

theorem sclEnqueue_frame (h : Nat) (s : State) :
    (sclEnqueue h s).pending = s.pending ∧
    (sclEnqueue h s).fs = s.fs ∧
    (sclEnqueue h s).scene = s.scene ∧
    (sclEnqueue h s).jtag = s.jtag ∧
    (sclEnqueue h s).boot = s.boot ∧
    (sclEnqueue h s).period = s.period ∧
    (sclEnqueue h s).pwr = s.pwr ∧
    (sclEnqueue h s).scan = s.scan ∧
    (sclEnqueue h s).lct = s.lct ∧
    (sclEnqueue h s).tb = s.tb ∧
    (sclEnqueue h s).tiles = s.tiles ∧
    (sclEnqueue h s).handles = s.handles ∧
    (sclEnqueue h s).dcx = s.dcx ∧
    (sclEnqueue h s).mnt = s.mnt ∧
    (sclEnqueue h s).comp = s.comp ∧
    (sclEnqueue h s).thm = s.thm ∧
    (sclEnqueue h s).gl = s.gl ∧
    (sclEnqueue h s).link = s.link ∧
    (sclEnqueue h s).ozd = s.ozd ∧
    (sclEnqueue h s).lctc = s.lctc ∧
    (sclEnqueue h s).msgq = s.msgq ∧
    (sclEnqueue h s).wcapLevel = s.wcapLevel := by simp [sclEnqueue]

theorem attachDesc_frame (n : Nat) (s : State) :
    (attachDesc n s).pending = s.pending ∧
    (attachDesc n s).fs = s.fs ∧
    (attachDesc n s).scene = s.scene ∧
    (attachDesc n s).jtag = s.jtag ∧
    (attachDesc n s).boot = s.boot ∧
    (attachDesc n s).period = s.period ∧
    (attachDesc n s).pwr = s.pwr ∧
    (attachDesc n s).scan = s.scan ∧
    (attachDesc n s).lct = s.lct ∧
    (attachDesc n s).tb = s.tb ∧
    (attachDesc n s).tiles = s.tiles ∧
    (attachDesc n s).dcx = s.dcx ∧
    (attachDesc n s).mnt = s.mnt ∧
    (attachDesc n s).comp = s.comp ∧
    (attachDesc n s).thm = s.thm ∧
    (attachDesc n s).gl = s.gl ∧
    (attachDesc n s).link = s.link ∧
    (attachDesc n s).ozd = s.ozd ∧
    (attachDesc n s).lctc = s.lctc ∧
    (attachDesc n s).msgq = s.msgq ∧
    (attachDesc n s).wcapLevel = s.wcapLevel := by simp [putHandle_frame .., sclEnqueue_frame .., attachDesc]

theorem armEntry_frame (n : Nat) (s : State) :
    (armEntry n s).pending = s.pending ∧
    (armEntry n s).fs = s.fs ∧
    (armEntry n s).scene = s.scene ∧
    (armEntry n s).jtag = s.jtag ∧
    (armEntry n s).boot = s.boot ∧
    (armEntry n s).period = s.period ∧
    (armEntry n s).pwr = s.pwr ∧
    (armEntry n s).scan = s.scan ∧
    (armEntry n s).lct = s.lct ∧
    (armEntry n s).tb = s.tb ∧
    (armEntry n s).tiles = s.tiles ∧
    (armEntry n s).dcx = s.dcx ∧
    (armEntry n s).mnt = s.mnt ∧
    (armEntry n s).comp = s.comp ∧
    (armEntry n s).thm = s.thm ∧
    (armEntry n s).gl = s.gl ∧
    (armEntry n s).link = s.link ∧
    (armEntry n s).ozd = s.ozd ∧
    (armEntry n s).lctc = s.lctc ∧
    (armEntry n s).wcapLevel = s.wcapLevel := by simp [attachDesc_frame .., raise_frame .., setShadowWord_frame .., armEntry]

theorem ctxStore_frame (m n w : Nat) (v : Word) (s : State) :
    (ctxStore m n w v s).pending = s.pending ∧
    (ctxStore m n w v s).fs = s.fs ∧
    (ctxStore m n w v s).scene = s.scene ∧
    (ctxStore m n w v s).jtag = s.jtag ∧
    (ctxStore m n w v s).boot = s.boot ∧
    (ctxStore m n w v s).period = s.period ∧
    (ctxStore m n w v s).pwr = s.pwr ∧
    (ctxStore m n w v s).scan = s.scan ∧
    (ctxStore m n w v s).lct = s.lct ∧
    (ctxStore m n w v s).tb = s.tb ∧
    (ctxStore m n w v s).tiles = s.tiles ∧
    (ctxStore m n w v s).dcx = s.dcx ∧
    (ctxStore m n w v s).mnt = s.mnt ∧
    (ctxStore m n w v s).comp = s.comp ∧
    (ctxStore m n w v s).thm = s.thm ∧
    (ctxStore m n w v s).gl = s.gl ∧
    (ctxStore m n w v s).link = s.link ∧
    (ctxStore m n w v s).ozd = s.ozd ∧
    (ctxStore m n w v s).lctc = s.lctc ∧
    (ctxStore m n w v s).wcapLevel = s.wcapLevel := by simp [armEntry_frame .., setDirty_frame .., setShadowWord_frame .., ctxStore]

theorem ctxWrite_frame (m : Master) (n w : Nat) (v : Word) (s : State) :
    (ctxWrite m n w v s).pending = s.pending ∧
    (ctxWrite m n w v s).fs = s.fs ∧
    (ctxWrite m n w v s).scene = s.scene ∧
    (ctxWrite m n w v s).jtag = s.jtag ∧
    (ctxWrite m n w v s).boot = s.boot ∧
    (ctxWrite m n w v s).period = s.period ∧
    (ctxWrite m n w v s).pwr = s.pwr ∧
    (ctxWrite m n w v s).scan = s.scan ∧
    (ctxWrite m n w v s).lct = s.lct ∧
    (ctxWrite m n w v s).tb = s.tb ∧
    (ctxWrite m n w v s).tiles = s.tiles ∧
    (ctxWrite m n w v s).mnt = s.mnt ∧
    (ctxWrite m n w v s).comp = s.comp ∧
    (ctxWrite m n w v s).thm = s.thm ∧
    (ctxWrite m n w v s).gl = s.gl ∧
    (ctxWrite m n w v s).lctc = s.lctc ∧
    (ctxWrite m n w v s).wcapLevel = s.wcapLevel := by simp only [ctxWrite]; (repeat' split) <;> simp [answer_frame .., ctxStore_frame .., holdOrBusy_frame .., noteM0_frame .., violate_frame ..]

theorem bufResult_frame (h code : Nat) (s : State) :
    (bufResult h code s).pending = s.pending ∧
    (bufResult h code s).fs = s.fs ∧
    (bufResult h code s).scene = s.scene ∧
    (bufResult h code s).jtag = s.jtag ∧
    (bufResult h code s).boot = s.boot ∧
    (bufResult h code s).period = s.period ∧
    (bufResult h code s).pwr = s.pwr ∧
    (bufResult h code s).scan = s.scan ∧
    (bufResult h code s).lct = s.lct ∧
    (bufResult h code s).tb = s.tb ∧
    (bufResult h code s).tiles = s.tiles ∧
    (bufResult h code s).handles = s.handles ∧
    (bufResult h code s).dcx = s.dcx ∧
    (bufResult h code s).mnt = s.mnt ∧
    (bufResult h code s).comp = s.comp ∧
    (bufResult h code s).thm = s.thm ∧
    (bufResult h code s).gl = s.gl ∧
    (bufResult h code s).link = s.link ∧
    (bufResult h code s).ozd = s.ozd ∧
    (bufResult h code s).lctc = s.lctc ∧
    (bufResult h code s).wcapLevel = s.wcapLevel := by simp [raise_frame .., setRegN_frame .., bufResult]

theorem sclDrop_frame (h : Nat) (s : State) :
    (sclDrop h s).pending = s.pending ∧
    (sclDrop h s).fs = s.fs ∧
    (sclDrop h s).scene = s.scene ∧
    (sclDrop h s).jtag = s.jtag ∧
    (sclDrop h s).boot = s.boot ∧
    (sclDrop h s).period = s.period ∧
    (sclDrop h s).pwr = s.pwr ∧
    (sclDrop h s).scan = s.scan ∧
    (sclDrop h s).lct = s.lct ∧
    (sclDrop h s).tb = s.tb ∧
    (sclDrop h s).tiles = s.tiles ∧
    (sclDrop h s).handles = s.handles ∧
    (sclDrop h s).dcx = s.dcx ∧
    (sclDrop h s).mnt = s.mnt ∧
    (sclDrop h s).comp = s.comp ∧
    (sclDrop h s).thm = s.thm ∧
    (sclDrop h s).gl = s.gl ∧
    (sclDrop h s).link = s.link ∧
    (sclDrop h s).ozd = s.ozd ∧
    (sclDrop h s).lctc = s.lctc ∧
    (sclDrop h s).msgq = s.msgq ∧
    (sclDrop h s).wcapLevel = s.wcapLevel := by simp [sclDrop]

theorem turnReady_frame (h : Nat) (s : State) :
    (turnReady h s).pending = s.pending ∧
    (turnReady h s).fs = s.fs ∧
    (turnReady h s).scene = s.scene ∧
    (turnReady h s).jtag = s.jtag ∧
    (turnReady h s).boot = s.boot ∧
    (turnReady h s).period = s.period ∧
    (turnReady h s).pwr = s.pwr ∧
    (turnReady h s).scan = s.scan ∧
    (turnReady h s).lct = s.lct ∧
    (turnReady h s).tb = s.tb ∧
    (turnReady h s).tiles = s.tiles ∧
    (turnReady h s).dcx = s.dcx ∧
    (turnReady h s).mnt = s.mnt ∧
    (turnReady h s).comp = s.comp ∧
    (turnReady h s).thm = s.thm ∧
    (turnReady h s).gl = s.gl ∧
    (turnReady h s).link = s.link ∧
    (turnReady h s).ozd = s.ozd ∧
    (turnReady h s).lctc = s.lctc ∧
    (turnReady h s).msgq = s.msgq ∧
    (turnReady h s).wcapLevel = s.wcapLevel := by simp [putHandle_frame .., sclEnqueue_frame .., turnReady]

theorem turnFree_frame (h : Nat) (s : State) :
    (turnFree h s).pending = s.pending ∧
    (turnFree h s).fs = s.fs ∧
    (turnFree h s).scene = s.scene ∧
    (turnFree h s).jtag = s.jtag ∧
    (turnFree h s).boot = s.boot ∧
    (turnFree h s).period = s.period ∧
    (turnFree h s).pwr = s.pwr ∧
    (turnFree h s).scan = s.scan ∧
    (turnFree h s).lct = s.lct ∧
    (turnFree h s).tb = s.tb ∧
    (turnFree h s).tiles = s.tiles ∧
    (turnFree h s).dcx = s.dcx ∧
    (turnFree h s).mnt = s.mnt ∧
    (turnFree h s).comp = s.comp ∧
    (turnFree h s).thm = s.thm ∧
    (turnFree h s).gl = s.gl ∧
    (turnFree h s).link = s.link ∧
    (turnFree h s).ozd = s.ozd ∧
    (turnFree h s).lctc = s.lctc ∧
    (turnFree h s).msgq = s.msgq ∧
    (turnFree h s).wcapLevel = s.wcapLevel := by simp [putHandle_frame .., sclDrop_frame .., turnFree]

theorem effDefine_frame (h : Nat) (s : State) :
    (effDefine h s).pending = s.pending ∧
    (effDefine h s).fs = s.fs ∧
    (effDefine h s).scene = s.scene ∧
    (effDefine h s).jtag = s.jtag ∧
    (effDefine h s).boot = s.boot ∧
    (effDefine h s).period = s.period ∧
    (effDefine h s).pwr = s.pwr ∧
    (effDefine h s).scan = s.scan ∧
    (effDefine h s).lct = s.lct ∧
    (effDefine h s).tb = s.tb ∧
    (effDefine h s).tiles = s.tiles ∧
    (effDefine h s).dcx = s.dcx ∧
    (effDefine h s).mnt = s.mnt ∧
    (effDefine h s).comp = s.comp ∧
    (effDefine h s).thm = s.thm ∧
    (effDefine h s).gl = s.gl ∧
    (effDefine h s).link = s.link ∧
    (effDefine h s).ozd = s.ozd ∧
    (effDefine h s).lctc = s.lctc ∧
    (effDefine h s).wcapLevel = s.wcapLevel := by simp [bufResult_frame .., putHandle_frame .., effDefine]

theorem effSeal_frame (h : Nat) (s : State) :
    (effSeal h s).pending = s.pending ∧
    (effSeal h s).fs = s.fs ∧
    (effSeal h s).scene = s.scene ∧
    (effSeal h s).jtag = s.jtag ∧
    (effSeal h s).boot = s.boot ∧
    (effSeal h s).period = s.period ∧
    (effSeal h s).pwr = s.pwr ∧
    (effSeal h s).scan = s.scan ∧
    (effSeal h s).lct = s.lct ∧
    (effSeal h s).tb = s.tb ∧
    (effSeal h s).tiles = s.tiles ∧
    (effSeal h s).dcx = s.dcx ∧
    (effSeal h s).mnt = s.mnt ∧
    (effSeal h s).comp = s.comp ∧
    (effSeal h s).thm = s.thm ∧
    (effSeal h s).gl = s.gl ∧
    (effSeal h s).link = s.link ∧
    (effSeal h s).ozd = s.ozd ∧
    (effSeal h s).lctc = s.lctc ∧
    (effSeal h s).wcapLevel = s.wcapLevel := by simp [bufResult_frame .., raise_frame .., turnReady_frame .., effSeal]

theorem effRefill_frame (h : Nat) (s : State) :
    (effRefill h s).pending = s.pending ∧
    (effRefill h s).fs = s.fs ∧
    (effRefill h s).scene = s.scene ∧
    (effRefill h s).jtag = s.jtag ∧
    (effRefill h s).boot = s.boot ∧
    (effRefill h s).period = s.period ∧
    (effRefill h s).pwr = s.pwr ∧
    (effRefill h s).scan = s.scan ∧
    (effRefill h s).lct = s.lct ∧
    (effRefill h s).tb = s.tb ∧
    (effRefill h s).tiles = s.tiles ∧
    (effRefill h s).dcx = s.dcx ∧
    (effRefill h s).mnt = s.mnt ∧
    (effRefill h s).comp = s.comp ∧
    (effRefill h s).thm = s.thm ∧
    (effRefill h s).gl = s.gl ∧
    (effRefill h s).link = s.link ∧
    (effRefill h s).ozd = s.ozd ∧
    (effRefill h s).lctc = s.lctc ∧
    (effRefill h s).wcapLevel = s.wcapLevel := by simp [bufResult_frame .., putHandle_frame .., sclDrop_frame .., effRefill]

theorem effRelease_frame (h : Nat) (s : State) :
    (effRelease h s).pending = s.pending ∧
    (effRelease h s).fs = s.fs ∧
    (effRelease h s).scene = s.scene ∧
    (effRelease h s).jtag = s.jtag ∧
    (effRelease h s).boot = s.boot ∧
    (effRelease h s).period = s.period ∧
    (effRelease h s).pwr = s.pwr ∧
    (effRelease h s).scan = s.scan ∧
    (effRelease h s).lct = s.lct ∧
    (effRelease h s).tb = s.tb ∧
    (effRelease h s).tiles = s.tiles ∧
    (effRelease h s).dcx = s.dcx ∧
    (effRelease h s).mnt = s.mnt ∧
    (effRelease h s).comp = s.comp ∧
    (effRelease h s).thm = s.thm ∧
    (effRelease h s).gl = s.gl ∧
    (effRelease h s).link = s.link ∧
    (effRelease h s).ozd = s.ozd ∧
    (effRelease h s).lctc = s.lctc ∧
    (effRelease h s).wcapLevel = s.wcapLevel := by simp [bufResult_frame .., putHandle_frame .., sclDrop_frame .., turnFree_frame .., effRelease]

theorem effQuery_frame (h : Nat) (s : State) :
    (effQuery h s).pending = s.pending ∧
    (effQuery h s).fs = s.fs ∧
    (effQuery h s).scene = s.scene ∧
    (effQuery h s).jtag = s.jtag ∧
    (effQuery h s).boot = s.boot ∧
    (effQuery h s).period = s.period ∧
    (effQuery h s).pwr = s.pwr ∧
    (effQuery h s).scan = s.scan ∧
    (effQuery h s).lct = s.lct ∧
    (effQuery h s).tb = s.tb ∧
    (effQuery h s).tiles = s.tiles ∧
    (effQuery h s).handles = s.handles ∧
    (effQuery h s).dcx = s.dcx ∧
    (effQuery h s).mnt = s.mnt ∧
    (effQuery h s).comp = s.comp ∧
    (effQuery h s).thm = s.thm ∧
    (effQuery h s).gl = s.gl ∧
    (effQuery h s).link = s.link ∧
    (effQuery h s).ozd = s.ozd ∧
    (effQuery h s).lctc = s.lctc ∧
    (effQuery h s).wcapLevel = s.wcapLevel := by simp [bufResult_frame .., setRegN_frame .., effQuery]

theorem effBufCmd_frame (v : Word) (s : State) :
    (effBufCmd v s).pending = s.pending ∧
    (effBufCmd v s).fs = s.fs ∧
    (effBufCmd v s).scene = s.scene ∧
    (effBufCmd v s).jtag = s.jtag ∧
    (effBufCmd v s).boot = s.boot ∧
    (effBufCmd v s).period = s.period ∧
    (effBufCmd v s).pwr = s.pwr ∧
    (effBufCmd v s).scan = s.scan ∧
    (effBufCmd v s).lct = s.lct ∧
    (effBufCmd v s).tb = s.tb ∧
    (effBufCmd v s).tiles = s.tiles ∧
    (effBufCmd v s).dcx = s.dcx ∧
    (effBufCmd v s).mnt = s.mnt ∧
    (effBufCmd v s).comp = s.comp ∧
    (effBufCmd v s).thm = s.thm ∧
    (effBufCmd v s).gl = s.gl ∧
    (effBufCmd v s).link = s.link ∧
    (effBufCmd v s).ozd = s.ozd ∧
    (effBufCmd v s).lctc = s.lctc ∧
    (effBufCmd v s).wcapLevel = s.wcapLevel := by simp only [effBufCmd]; (repeat' split) <;> simp [bufResult_frame .., effDefine_frame .., effQuery_frame .., effRefill_frame .., effRelease_frame .., effSeal_frame ..]

theorem reportNotReady_frame (nr st : List Nat) (s : State) :
    (reportNotReady nr st s).pending = s.pending ∧
    (reportNotReady nr st s).fs = s.fs ∧
    (reportNotReady nr st s).scene = s.scene ∧
    (reportNotReady nr st s).jtag = s.jtag ∧
    (reportNotReady nr st s).boot = s.boot ∧
    (reportNotReady nr st s).period = s.period ∧
    (reportNotReady nr st s).pwr = s.pwr ∧
    (reportNotReady nr st s).scan = s.scan ∧
    (reportNotReady nr st s).lct = s.lct ∧
    (reportNotReady nr st s).tb = s.tb ∧
    (reportNotReady nr st s).tiles = s.tiles ∧
    (reportNotReady nr st s).handles = s.handles ∧
    (reportNotReady nr st s).dcx = s.dcx ∧
    (reportNotReady nr st s).mnt = s.mnt ∧
    (reportNotReady nr st s).comp = s.comp ∧
    (reportNotReady nr st s).thm = s.thm ∧
    (reportNotReady nr st s).gl = s.gl ∧
    (reportNotReady nr st s).link = s.link ∧
    (reportNotReady nr st s).ozd = s.ozd ∧
    (reportNotReady nr st s).lctc = s.lctc ∧
    (reportNotReady nr st s).wcapLevel = s.wcapLevel := by simp only [reportNotReady]; (repeat' split) <;> simp [raise_frame .., setRegN_frame ..]

theorem swapContexts_frame (nr : List Nat) (s : State) :
    (swapContexts nr s).pending = s.pending ∧
    (swapContexts nr s).fs = s.fs ∧
    (swapContexts nr s).scene = s.scene ∧
    (swapContexts nr s).jtag = s.jtag ∧
    (swapContexts nr s).boot = s.boot ∧
    (swapContexts nr s).period = s.period ∧
    (swapContexts nr s).pwr = s.pwr ∧
    (swapContexts nr s).scan = s.scan ∧
    (swapContexts nr s).lct = s.lct ∧
    (swapContexts nr s).tb = s.tb ∧
    (swapContexts nr s).tiles = s.tiles ∧
    (swapContexts nr s).handles = s.handles ∧
    (swapContexts nr s).dcx = s.dcx ∧
    (swapContexts nr s).mnt = s.mnt ∧
    (swapContexts nr s).comp = s.comp ∧
    (swapContexts nr s).thm = s.thm ∧
    (swapContexts nr s).gl = s.gl ∧
    (swapContexts nr s).link = s.link ∧
    (swapContexts nr s).ozd = s.ozd ∧
    (swapContexts nr s).lctc = s.lctc ∧
    (swapContexts nr s).msgq = s.msgq ∧
    (swapContexts nr s).wcapLevel = s.wcapLevel := by simp [swapContexts]

theorem bindOne_frame (h : Nat) (s : State) :
    (bindOne h s).pending = s.pending ∧
    (bindOne h s).fs = s.fs ∧
    (bindOne h s).scene = s.scene ∧
    (bindOne h s).jtag = s.jtag ∧
    (bindOne h s).boot = s.boot ∧
    (bindOne h s).period = s.period ∧
    (bindOne h s).pwr = s.pwr ∧
    (bindOne h s).scan = s.scan ∧
    (bindOne h s).lct = s.lct ∧
    (bindOne h s).tb = s.tb ∧
    (bindOne h s).tiles = s.tiles ∧
    (bindOne h s).dcx = s.dcx ∧
    (bindOne h s).mnt = s.mnt ∧
    (bindOne h s).comp = s.comp ∧
    (bindOne h s).thm = s.thm ∧
    (bindOne h s).gl = s.gl ∧
    (bindOne h s).link = s.link ∧
    (bindOne h s).ozd = s.ozd ∧
    (bindOne h s).lctc = s.lctc ∧
    (bindOne h s).msgq = s.msgq ∧
    (bindOne h s).wcapLevel = s.wcapLevel := by simp [putHandle_frame .., bindOne]

theorem bindBufs_frame (s : State) :
    (bindBufs s).pending = s.pending ∧
    (bindBufs s).fs = s.fs ∧
    (bindBufs s).scene = s.scene ∧
    (bindBufs s).jtag = s.jtag ∧
    (bindBufs s).boot = s.boot ∧
    (bindBufs s).period = s.period ∧
    (bindBufs s).pwr = s.pwr ∧
    (bindBufs s).scan = s.scan ∧
    (bindBufs s).lct = s.lct ∧
    (bindBufs s).tb = s.tb ∧
    (bindBufs s).tiles = s.tiles ∧
    (bindBufs s).dcx = s.dcx ∧
    (bindBufs s).mnt = s.mnt ∧
    (bindBufs s).comp = s.comp ∧
    (bindBufs s).thm = s.thm ∧
    (bindBufs s).gl = s.gl ∧
    (bindBufs s).link = s.link ∧
    (bindBufs s).ozd = s.ozd ∧
    (bindBufs s).lctc = s.lctc ∧
    (bindBufs s).msgq = s.msgq ∧
    (bindBufs s).wcapLevel = s.wcapLevel := by simp [bindOne_frame .., bindBufs]

theorem useOne_frame (h : Nat) (s : State) :
    (useOne h s).pending = s.pending ∧
    (useOne h s).fs = s.fs ∧
    (useOne h s).scene = s.scene ∧
    (useOne h s).jtag = s.jtag ∧
    (useOne h s).boot = s.boot ∧
    (useOne h s).period = s.period ∧
    (useOne h s).pwr = s.pwr ∧
    (useOne h s).scan = s.scan ∧
    (useOne h s).lct = s.lct ∧
    (useOne h s).tb = s.tb ∧
    (useOne h s).tiles = s.tiles ∧
    (useOne h s).dcx = s.dcx ∧
    (useOne h s).mnt = s.mnt ∧
    (useOne h s).comp = s.comp ∧
    (useOne h s).thm = s.thm ∧
    (useOne h s).gl = s.gl ∧
    (useOne h s).link = s.link ∧
    (useOne h s).ozd = s.ozd ∧
    (useOne h s).lctc = s.lctc ∧
    (useOne h s).msgq = s.msgq ∧
    (useOne h s).wcapLevel = s.wcapLevel := by simp [putHandle_frame .., useOne]

theorem useBufs_frame (s : State) :
    (useBufs s).pending = s.pending ∧
    (useBufs s).fs = s.fs ∧
    (useBufs s).scene = s.scene ∧
    (useBufs s).jtag = s.jtag ∧
    (useBufs s).boot = s.boot ∧
    (useBufs s).period = s.period ∧
    (useBufs s).pwr = s.pwr ∧
    (useBufs s).scan = s.scan ∧
    (useBufs s).lct = s.lct ∧
    (useBufs s).tb = s.tb ∧
    (useBufs s).tiles = s.tiles ∧
    (useBufs s).dcx = s.dcx ∧
    (useBufs s).mnt = s.mnt ∧
    (useBufs s).comp = s.comp ∧
    (useBufs s).thm = s.thm ∧
    (useBufs s).gl = s.gl ∧
    (useBufs s).link = s.link ∧
    (useBufs s).ozd = s.ozd ∧
    (useBufs s).lctc = s.lctc ∧
    (useBufs s).msgq = s.msgq ∧
    (useBufs s).wcapLevel = s.wcapLevel := by simp [useOne_frame .., useBufs]

theorem unpinOne_frame (h : Nat) (s : State) :
    (unpinOne h s).pending = s.pending ∧
    (unpinOne h s).fs = s.fs ∧
    (unpinOne h s).scene = s.scene ∧
    (unpinOne h s).jtag = s.jtag ∧
    (unpinOne h s).boot = s.boot ∧
    (unpinOne h s).period = s.period ∧
    (unpinOne h s).pwr = s.pwr ∧
    (unpinOne h s).scan = s.scan ∧
    (unpinOne h s).lct = s.lct ∧
    (unpinOne h s).tb = s.tb ∧
    (unpinOne h s).tiles = s.tiles ∧
    (unpinOne h s).dcx = s.dcx ∧
    (unpinOne h s).mnt = s.mnt ∧
    (unpinOne h s).comp = s.comp ∧
    (unpinOne h s).thm = s.thm ∧
    (unpinOne h s).gl = s.gl ∧
    (unpinOne h s).link = s.link ∧
    (unpinOne h s).ozd = s.ozd ∧
    (unpinOne h s).lctc = s.lctc ∧
    (unpinOne h s).wcapLevel = s.wcapLevel := by simp only [unpinOne]; (repeat' split) <;> simp [raise_frame .., turnFree_frame .., turnReady_frame ..]

theorem sunsetOne_frame (h : Nat) (s : State) :
    (sunsetOne h s).pending = s.pending ∧
    (sunsetOne h s).fs = s.fs ∧
    (sunsetOne h s).scene = s.scene ∧
    (sunsetOne h s).jtag = s.jtag ∧
    (sunsetOne h s).boot = s.boot ∧
    (sunsetOne h s).period = s.period ∧
    (sunsetOne h s).pwr = s.pwr ∧
    (sunsetOne h s).scan = s.scan ∧
    (sunsetOne h s).lct = s.lct ∧
    (sunsetOne h s).tb = s.tb ∧
    (sunsetOne h s).tiles = s.tiles ∧
    (sunsetOne h s).dcx = s.dcx ∧
    (sunsetOne h s).mnt = s.mnt ∧
    (sunsetOne h s).comp = s.comp ∧
    (sunsetOne h s).thm = s.thm ∧
    (sunsetOne h s).gl = s.gl ∧
    (sunsetOne h s).link = s.link ∧
    (sunsetOne h s).ozd = s.ozd ∧
    (sunsetOne h s).lctc = s.lctc ∧
    (sunsetOne h s).wcapLevel = s.wcapLevel := by simp [putHandle_frame .., unpinOne_frame .., sunsetOne]

theorem releasePins_frame (s : State) :
    (releasePins s).pending = s.pending ∧
    (releasePins s).fs = s.fs ∧
    (releasePins s).scene = s.scene ∧
    (releasePins s).jtag = s.jtag ∧
    (releasePins s).boot = s.boot ∧
    (releasePins s).period = s.period ∧
    (releasePins s).pwr = s.pwr ∧
    (releasePins s).scan = s.scan ∧
    (releasePins s).lct = s.lct ∧
    (releasePins s).tb = s.tb ∧
    (releasePins s).tiles = s.tiles ∧
    (releasePins s).dcx = s.dcx ∧
    (releasePins s).mnt = s.mnt ∧
    (releasePins s).comp = s.comp ∧
    (releasePins s).thm = s.thm ∧
    (releasePins s).gl = s.gl ∧
    (releasePins s).link = s.link ∧
    (releasePins s).ozd = s.ozd ∧
    (releasePins s).lctc = s.lctc ∧
    (releasePins s).wcapLevel = s.wcapLevel := by simp [sunsetOne_frame .., releasePins]

theorem sclPlane_frame (base : Nat) (p q : Plane) (s : State) :
    (sclPlane base p q s).pending = s.pending ∧
    (sclPlane base p q s).jtag = s.jtag ∧
    (sclPlane base p q s).boot = s.boot ∧
    (sclPlane base p q s).period = s.period ∧
    (sclPlane base p q s).pwr = s.pwr ∧
    (sclPlane base p q s).scan = s.scan ∧
    (sclPlane base p q s).lct = s.lct ∧
    (sclPlane base p q s).tb = s.tb ∧
    (sclPlane base p q s).tiles = s.tiles ∧
    (sclPlane base p q s).handles = s.handles ∧
    (sclPlane base p q s).dcx = s.dcx ∧
    (sclPlane base p q s).comp = s.comp ∧
    (sclPlane base p q s).thm = s.thm ∧
    (sclPlane base p q s).gl = s.gl ∧
    (sclPlane base p q s).link = s.link ∧
    (sclPlane base p q s).ozd = s.ozd ∧
    (sclPlane base p q s).lctc = s.lctc ∧
    (sclPlane base p q s).wcapLevel = s.wcapLevel := by simp [memWrite_frame .., sclPlane]

theorem sclLevel_frame (base : Nat) (f : Fmt) (p k : Nat) (s : State) :
    (sclLevel base f p k s).pending = s.pending ∧
    (sclLevel base f p k s).jtag = s.jtag ∧
    (sclLevel base f p k s).boot = s.boot ∧
    (sclLevel base f p k s).period = s.period ∧
    (sclLevel base f p k s).pwr = s.pwr ∧
    (sclLevel base f p k s).scan = s.scan ∧
    (sclLevel base f p k s).lct = s.lct ∧
    (sclLevel base f p k s).tb = s.tb ∧
    (sclLevel base f p k s).tiles = s.tiles ∧
    (sclLevel base f p k s).handles = s.handles ∧
    (sclLevel base f p k s).dcx = s.dcx ∧
    (sclLevel base f p k s).comp = s.comp ∧
    (sclLevel base f p k s).thm = s.thm ∧
    (sclLevel base f p k s).gl = s.gl ∧
    (sclLevel base f p k s).link = s.link ∧
    (sclLevel base f p k s).ozd = s.ozd ∧
    (sclLevel base f p k s).lctc = s.lctc ∧
    (sclLevel base f p k s).wcapLevel = s.wcapLevel := by simp [sclPlane_frame .., sclLevel]

theorem sclReads_frame (base : Nat) (f : Fmt) (p : Nat) (s : State) :
    (sclReads base f p s).pending = s.pending ∧
    (sclReads base f p s).fs = s.fs ∧
    (sclReads base f p s).scene = s.scene ∧
    (sclReads base f p s).jtag = s.jtag ∧
    (sclReads base f p s).boot = s.boot ∧
    (sclReads base f p s).period = s.period ∧
    (sclReads base f p s).pwr = s.pwr ∧
    (sclReads base f p s).scan = s.scan ∧
    (sclReads base f p s).lct = s.lct ∧
    (sclReads base f p s).tb = s.tb ∧
    (sclReads base f p s).tiles = s.tiles ∧
    (sclReads base f p s).handles = s.handles ∧
    (sclReads base f p s).dcx = s.dcx ∧
    (sclReads base f p s).comp = s.comp ∧
    (sclReads base f p s).thm = s.thm ∧
    (sclReads base f p s).gl = s.gl ∧
    (sclReads base f p s).link = s.link ∧
    (sclReads base f p s).ozd = s.ozd ∧
    (sclReads base f p s).lctc = s.lctc ∧
    (sclReads base f p s).wcapLevel = s.wcapLevel := by simp [memRead_frame .., sclReads]

theorem scaleBuf_frame (h : Nat) (s : State) :
    (scaleBuf h s).pending = s.pending ∧
    (scaleBuf h s).jtag = s.jtag ∧
    (scaleBuf h s).boot = s.boot ∧
    (scaleBuf h s).period = s.period ∧
    (scaleBuf h s).pwr = s.pwr ∧
    (scaleBuf h s).scan = s.scan ∧
    (scaleBuf h s).lct = s.lct ∧
    (scaleBuf h s).tb = s.tb ∧
    (scaleBuf h s).tiles = s.tiles ∧
    (scaleBuf h s).dcx = s.dcx ∧
    (scaleBuf h s).comp = s.comp ∧
    (scaleBuf h s).thm = s.thm ∧
    (scaleBuf h s).gl = s.gl ∧
    (scaleBuf h s).link = s.link ∧
    (scaleBuf h s).ozd = s.ozd ∧
    (scaleBuf h s).lctc = s.lctc ∧
    (scaleBuf h s).wcapLevel = s.wcapLevel := by simp only [scaleBuf]; (repeat' split) <;> simp [putHandle_frame .., raise_frame .., sclLevel_frame .., sclReads_frame ..]

theorem tabRead_frame (idxReg t size : Nat) (s : State) :
    (tabRead idxReg t size s).2.pending = s.pending ∧
    (tabRead idxReg t size s).2.fs = s.fs ∧
    (tabRead idxReg t size s).2.scene = s.scene ∧
    (tabRead idxReg t size s).2.jtag = s.jtag ∧
    (tabRead idxReg t size s).2.boot = s.boot ∧
    (tabRead idxReg t size s).2.period = s.period ∧
    (tabRead idxReg t size s).2.pwr = s.pwr ∧
    (tabRead idxReg t size s).2.scan = s.scan ∧
    (tabRead idxReg t size s).2.lct = s.lct ∧
    (tabRead idxReg t size s).2.tb = s.tb ∧
    (tabRead idxReg t size s).2.tiles = s.tiles ∧
    (tabRead idxReg t size s).2.handles = s.handles ∧
    (tabRead idxReg t size s).2.dcx = s.dcx ∧
    (tabRead idxReg t size s).2.mnt = s.mnt ∧
    (tabRead idxReg t size s).2.comp = s.comp ∧
    (tabRead idxReg t size s).2.thm = s.thm ∧
    (tabRead idxReg t size s).2.gl = s.gl ∧
    (tabRead idxReg t size s).2.link = s.link ∧
    (tabRead idxReg t size s).2.ozd = s.ozd ∧
    (tabRead idxReg t size s).2.lctc = s.lctc ∧
    (tabRead idxReg t size s).2.msgq = s.msgq ∧
    (tabRead idxReg t size s).2.wcapLevel = s.wcapLevel := by simp [setRegN_frame .., tabRead]

theorem tabWrite_frame (page idxReg t size : Nat) (mask : Nat → Word) (v : Word) (s : State) :
    (tabWrite page idxReg t size mask v s).pending = s.pending ∧
    (tabWrite page idxReg t size mask v s).fs = s.fs ∧
    (tabWrite page idxReg t size mask v s).scene = s.scene ∧
    (tabWrite page idxReg t size mask v s).jtag = s.jtag ∧
    (tabWrite page idxReg t size mask v s).boot = s.boot ∧
    (tabWrite page idxReg t size mask v s).period = s.period ∧
    (tabWrite page idxReg t size mask v s).pwr = s.pwr ∧
    (tabWrite page idxReg t size mask v s).scan = s.scan ∧
    (tabWrite page idxReg t size mask v s).lct = s.lct ∧
    (tabWrite page idxReg t size mask v s).tb = s.tb ∧
    (tabWrite page idxReg t size mask v s).tiles = s.tiles ∧
    (tabWrite page idxReg t size mask v s).handles = s.handles ∧
    (tabWrite page idxReg t size mask v s).dcx = s.dcx ∧
    (tabWrite page idxReg t size mask v s).mnt = s.mnt ∧
    (tabWrite page idxReg t size mask v s).comp = s.comp ∧
    (tabWrite page idxReg t size mask v s).thm = s.thm ∧
    (tabWrite page idxReg t size mask v s).gl = s.gl ∧
    (tabWrite page idxReg t size mask v s).link = s.link ∧
    (tabWrite page idxReg t size mask v s).ozd = s.ozd ∧
    (tabWrite page idxReg t size mask v s).lctc = s.lctc ∧
    (tabWrite page idxReg t size mask v s).msgq = s.msgq ∧
    (tabWrite page idxReg t size mask v s).wcapLevel = s.wcapLevel := by simp [setDirty_frame .., setRegN_frame .., setTab_frame .., tabWrite]

theorem cmxRead_frame (s : State) :
    (cmxRead s).2.pending = s.pending ∧
    (cmxRead s).2.fs = s.fs ∧
    (cmxRead s).2.scene = s.scene ∧
    (cmxRead s).2.jtag = s.jtag ∧
    (cmxRead s).2.boot = s.boot ∧
    (cmxRead s).2.period = s.period ∧
    (cmxRead s).2.pwr = s.pwr ∧
    (cmxRead s).2.scan = s.scan ∧
    (cmxRead s).2.lct = s.lct ∧
    (cmxRead s).2.tb = s.tb ∧
    (cmxRead s).2.tiles = s.tiles ∧
    (cmxRead s).2.handles = s.handles ∧
    (cmxRead s).2.dcx = s.dcx ∧
    (cmxRead s).2.mnt = s.mnt ∧
    (cmxRead s).2.comp = s.comp ∧
    (cmxRead s).2.thm = s.thm ∧
    (cmxRead s).2.gl = s.gl ∧
    (cmxRead s).2.link = s.link ∧
    (cmxRead s).2.ozd = s.ozd ∧
    (cmxRead s).2.lctc = s.lctc ∧
    (cmxRead s).2.msgq = s.msgq ∧
    (cmxRead s).2.wcapLevel = s.wcapLevel := by simp [tabRead_frame .., cmxRead]

theorem cmxWrite_frame (v : Word) (s : State) :
    (cmxWrite v s).pending = s.pending ∧
    (cmxWrite v s).fs = s.fs ∧
    (cmxWrite v s).scene = s.scene ∧
    (cmxWrite v s).jtag = s.jtag ∧
    (cmxWrite v s).boot = s.boot ∧
    (cmxWrite v s).period = s.period ∧
    (cmxWrite v s).pwr = s.pwr ∧
    (cmxWrite v s).scan = s.scan ∧
    (cmxWrite v s).lct = s.lct ∧
    (cmxWrite v s).tb = s.tb ∧
    (cmxWrite v s).tiles = s.tiles ∧
    (cmxWrite v s).handles = s.handles ∧
    (cmxWrite v s).dcx = s.dcx ∧
    (cmxWrite v s).mnt = s.mnt ∧
    (cmxWrite v s).comp = s.comp ∧
    (cmxWrite v s).thm = s.thm ∧
    (cmxWrite v s).gl = s.gl ∧
    (cmxWrite v s).link = s.link ∧
    (cmxWrite v s).ozd = s.ozd ∧
    (cmxWrite v s).lctc = s.lctc ∧
    (cmxWrite v s).msgq = s.msgq ∧
    (cmxWrite v s).wcapLevel = s.wcapLevel := by simp [tabWrite_frame .., cmxWrite]

theorem eotfRead_frame (s : State) :
    (eotfRead s).2.pending = s.pending ∧
    (eotfRead s).2.fs = s.fs ∧
    (eotfRead s).2.scene = s.scene ∧
    (eotfRead s).2.jtag = s.jtag ∧
    (eotfRead s).2.boot = s.boot ∧
    (eotfRead s).2.period = s.period ∧
    (eotfRead s).2.pwr = s.pwr ∧
    (eotfRead s).2.scan = s.scan ∧
    (eotfRead s).2.lct = s.lct ∧
    (eotfRead s).2.tb = s.tb ∧
    (eotfRead s).2.tiles = s.tiles ∧
    (eotfRead s).2.handles = s.handles ∧
    (eotfRead s).2.dcx = s.dcx ∧
    (eotfRead s).2.mnt = s.mnt ∧
    (eotfRead s).2.comp = s.comp ∧
    (eotfRead s).2.thm = s.thm ∧
    (eotfRead s).2.gl = s.gl ∧
    (eotfRead s).2.link = s.link ∧
    (eotfRead s).2.ozd = s.ozd ∧
    (eotfRead s).2.lctc = s.lctc ∧
    (eotfRead s).2.msgq = s.msgq ∧
    (eotfRead s).2.wcapLevel = s.wcapLevel := by simp [tabRead_frame .., eotfRead]

theorem eotfWrite_frame (v : Word) (s : State) :
    (eotfWrite v s).pending = s.pending ∧
    (eotfWrite v s).fs = s.fs ∧
    (eotfWrite v s).scene = s.scene ∧
    (eotfWrite v s).jtag = s.jtag ∧
    (eotfWrite v s).boot = s.boot ∧
    (eotfWrite v s).period = s.period ∧
    (eotfWrite v s).pwr = s.pwr ∧
    (eotfWrite v s).scan = s.scan ∧
    (eotfWrite v s).lct = s.lct ∧
    (eotfWrite v s).tb = s.tb ∧
    (eotfWrite v s).tiles = s.tiles ∧
    (eotfWrite v s).handles = s.handles ∧
    (eotfWrite v s).dcx = s.dcx ∧
    (eotfWrite v s).mnt = s.mnt ∧
    (eotfWrite v s).comp = s.comp ∧
    (eotfWrite v s).thm = s.thm ∧
    (eotfWrite v s).gl = s.gl ∧
    (eotfWrite v s).link = s.link ∧
    (eotfWrite v s).ozd = s.ozd ∧
    (eotfWrite v s).lctc = s.lctc ∧
    (eotfWrite v s).msgq = s.msgq ∧
    (eotfWrite v s).wcapLevel = s.wcapLevel := by simp [tabWrite_frame .., eotfWrite]

end Sys2Proof.Machine
end

