-- ==== Sys2Proof/Laws/FrameLct.lean ====
section
/-!
SUPPORT. What each operation of Lct.lean leaves unchanged.
-/
set_option linter.unnecessarySeqFocus false
set_option linter.unusedSimpArgs false
set_option linter.unusedTactic false
namespace Sys2Proof.Machine

theorem lctPut_frame (i : Nat) (v : DWord) (s : State) :
    (lctPut i v s).pending = s.pending ∧
    (lctPut i v s).fs = s.fs ∧
    (lctPut i v s).scene = s.scene ∧
    (lctPut i v s).jtag = s.jtag ∧
    (lctPut i v s).boot = s.boot ∧
    (lctPut i v s).period = s.period ∧
    (lctPut i v s).pwr = s.pwr ∧
    (lctPut i v s).scan = s.scan ∧
    (lctPut i v s).tb = s.tb ∧
    (lctPut i v s).tiles = s.tiles ∧
    (lctPut i v s).handles = s.handles ∧
    (lctPut i v s).dcx = s.dcx ∧
    (lctPut i v s).mnt = s.mnt ∧
    (lctPut i v s).comp = s.comp ∧
    (lctPut i v s).thm = s.thm ∧
    (lctPut i v s).gl = s.gl ∧
    (lctPut i v s).link = s.link ∧
    (lctPut i v s).ozd = s.ozd ∧
    (lctPut i v s).lctc = s.lctc ∧
    (lctPut i v s).msgq = s.msgq ∧
    (lctPut i v s).wcapLevel = s.wcapLevel := by simp [lctPut]

theorem lctCountUE_frame (i : Nat) (s : State) :
    (lctCountUE i s).pending = s.pending ∧
    (lctCountUE i s).fs = s.fs ∧
    (lctCountUE i s).scene = s.scene ∧
    (lctCountUE i s).jtag = s.jtag ∧
    (lctCountUE i s).boot = s.boot ∧
    (lctCountUE i s).period = s.period ∧
    (lctCountUE i s).pwr = s.pwr ∧
    (lctCountUE i s).scan = s.scan ∧
    (lctCountUE i s).lct = s.lct ∧
    (lctCountUE i s).tb = s.tb ∧
    (lctCountUE i s).tiles = s.tiles ∧
    (lctCountUE i s).handles = s.handles ∧
    (lctCountUE i s).dcx = s.dcx ∧
    (lctCountUE i s).mnt = s.mnt ∧
    (lctCountUE i s).comp = s.comp ∧
    (lctCountUE i s).thm = s.thm ∧
    (lctCountUE i s).gl = s.gl ∧
    (lctCountUE i s).link = s.link ∧
    (lctCountUE i s).ozd = s.ozd ∧
    (lctCountUE i s).lctc = s.lctc ∧
    (lctCountUE i s).msgq = s.msgq ∧
    (lctCountUE i s).wcapLevel = s.wcapLevel := by simp [bumpSat_frame .., setRegN_frame .., lctCountUE]

theorem lctRaiseUE_frame (i reader : Nat) (s : State) :
    (lctRaiseUE i reader s).pending = s.pending ∧
    (lctRaiseUE i reader s).fs = s.fs ∧
    (lctRaiseUE i reader s).scene = s.scene ∧
    (lctRaiseUE i reader s).jtag = s.jtag ∧
    (lctRaiseUE i reader s).boot = s.boot ∧
    (lctRaiseUE i reader s).period = s.period ∧
    (lctRaiseUE i reader s).pwr = s.pwr ∧
    (lctRaiseUE i reader s).scan = s.scan ∧
    (lctRaiseUE i reader s).lct = s.lct ∧
    (lctRaiseUE i reader s).tb = s.tb ∧
    (lctRaiseUE i reader s).tiles = s.tiles ∧
    (lctRaiseUE i reader s).handles = s.handles ∧
    (lctRaiseUE i reader s).dcx = s.dcx ∧
    (lctRaiseUE i reader s).mnt = s.mnt ∧
    (lctRaiseUE i reader s).comp = s.comp ∧
    (lctRaiseUE i reader s).thm = s.thm ∧
    (lctRaiseUE i reader s).gl = s.gl ∧
    (lctRaiseUE i reader s).link = s.link ∧
    (lctRaiseUE i reader s).ozd = s.ozd ∧
    (lctRaiseUE i reader s).wcapLevel = s.wcapLevel := by simp [raise_frame .., lctRaiseUE]

theorem lctTouch_frame (i reader : Nat) (s : State) :
    (lctTouch i reader s).pending = s.pending ∧
    (lctTouch i reader s).fs = s.fs ∧
    (lctTouch i reader s).scene = s.scene ∧
    (lctTouch i reader s).jtag = s.jtag ∧
    (lctTouch i reader s).boot = s.boot ∧
    (lctTouch i reader s).period = s.period ∧
    (lctTouch i reader s).pwr = s.pwr ∧
    (lctTouch i reader s).scan = s.scan ∧
    (lctTouch i reader s).lct = s.lct ∧
    (lctTouch i reader s).tb = s.tb ∧
    (lctTouch i reader s).tiles = s.tiles ∧
    (lctTouch i reader s).handles = s.handles ∧
    (lctTouch i reader s).dcx = s.dcx ∧
    (lctTouch i reader s).mnt = s.mnt ∧
    (lctTouch i reader s).comp = s.comp ∧
    (lctTouch i reader s).thm = s.thm ∧
    (lctTouch i reader s).gl = s.gl ∧
    (lctTouch i reader s).link = s.link ∧
    (lctTouch i reader s).ozd = s.ozd ∧
    (lctTouch i reader s).wcapLevel = s.wcapLevel := by simp only [lctTouch]; (repeat' split) <;> simp [bumpSat_frame .., lctCountUE_frame .., lctRaiseUE_frame ..]

theorem setExtremes_frame (d g : Nat) (s : State) :
    (setExtremes d g s).pending = s.pending ∧
    (setExtremes d g s).fs = s.fs ∧
    (setExtremes d g s).scene = s.scene ∧
    (setExtremes d g s).jtag = s.jtag ∧
    (setExtremes d g s).boot = s.boot ∧
    (setExtremes d g s).period = s.period ∧
    (setExtremes d g s).pwr = s.pwr ∧
    (setExtremes d g s).scan = s.scan ∧
    (setExtremes d g s).lct = s.lct ∧
    (setExtremes d g s).tb = s.tb ∧
    (setExtremes d g s).tiles = s.tiles ∧
    (setExtremes d g s).handles = s.handles ∧
    (setExtremes d g s).dcx = s.dcx ∧
    (setExtremes d g s).mnt = s.mnt ∧
    (setExtremes d g s).comp = s.comp ∧
    (setExtremes d g s).thm = s.thm ∧
    (setExtremes d g s).gl = s.gl ∧
    (setExtremes d g s).link = s.link ∧
    (setExtremes d g s).ozd = s.ozd ∧
    (setExtremes d g s).msgq = s.msgq ∧
    (setExtremes d g s).wcapLevel = s.wcapLevel := by simp [setExtremes]

theorem auditRestart_frame (s : State) :
    (auditRestart s).pending = s.pending ∧
    (auditRestart s).fs = s.fs ∧
    (auditRestart s).scene = s.scene ∧
    (auditRestart s).jtag = s.jtag ∧
    (auditRestart s).boot = s.boot ∧
    (auditRestart s).period = s.period ∧
    (auditRestart s).pwr = s.pwr ∧
    (auditRestart s).scan = s.scan ∧
    (auditRestart s).lct = s.lct ∧
    (auditRestart s).tb = s.tb ∧
    (auditRestart s).tiles = s.tiles ∧
    (auditRestart s).handles = s.handles ∧
    (auditRestart s).dcx = s.dcx ∧
    (auditRestart s).mnt = s.mnt ∧
    (auditRestart s).comp = s.comp ∧
    (auditRestart s).thm = s.thm ∧
    (auditRestart s).gl = s.gl ∧
    (auditRestart s).link = s.link ∧
    (auditRestart s).ozd = s.ozd ∧
    (auditRestart s).msgq = s.msgq ∧
    (auditRestart s).wcapLevel = s.wcapLevel := by simp [auditRestart]

theorem auditCheck_frame (before : Bool) (s : State) :
    (auditCheck before s).pending = s.pending ∧
    (auditCheck before s).fs = s.fs ∧
    (auditCheck before s).scene = s.scene ∧
    (auditCheck before s).jtag = s.jtag ∧
    (auditCheck before s).boot = s.boot ∧
    (auditCheck before s).period = s.period ∧
    (auditCheck before s).pwr = s.pwr ∧
    (auditCheck before s).scan = s.scan ∧
    (auditCheck before s).lct = s.lct ∧
    (auditCheck before s).tb = s.tb ∧
    (auditCheck before s).tiles = s.tiles ∧
    (auditCheck before s).handles = s.handles ∧
    (auditCheck before s).dcx = s.dcx ∧
    (auditCheck before s).mnt = s.mnt ∧
    (auditCheck before s).comp = s.comp ∧
    (auditCheck before s).thm = s.thm ∧
    (auditCheck before s).gl = s.gl ∧
    (auditCheck before s).link = s.link ∧
    (auditCheck before s).ozd = s.ozd ∧
    (auditCheck before s).msgq = s.msgq ∧
    (auditCheck before s).wcapLevel = s.wcapLevel := by simp [auditRestart_frame .., auditCheck]

theorem auditEnd_frame (s : State) :
    (auditEnd s).pending = s.pending ∧
    (auditEnd s).fs = s.fs ∧
    (auditEnd s).scene = s.scene ∧
    (auditEnd s).jtag = s.jtag ∧
    (auditEnd s).boot = s.boot ∧
    (auditEnd s).period = s.period ∧
    (auditEnd s).pwr = s.pwr ∧
    (auditEnd s).scan = s.scan ∧
    (auditEnd s).lct = s.lct ∧
    (auditEnd s).tb = s.tb ∧
    (auditEnd s).tiles = s.tiles ∧
    (auditEnd s).handles = s.handles ∧
    (auditEnd s).dcx = s.dcx ∧
    (auditEnd s).mnt = s.mnt ∧
    (auditEnd s).comp = s.comp ∧
    (auditEnd s).thm = s.thm ∧
    (auditEnd s).gl = s.gl ∧
    (auditEnd s).link = s.link ∧
    (auditEnd s).ozd = s.ozd ∧
    (auditEnd s).wcapLevel = s.wcapLevel := by simp [auditRestart_frame .., bumpWrap_frame .., raise_frame .., setExtremes_frame .., setRegN_frame .., auditEnd]

theorem auditStep_frame (i : Nat) (s : State) :
    (auditStep i s).pending = s.pending ∧
    (auditStep i s).fs = s.fs ∧
    (auditStep i s).scene = s.scene ∧
    (auditStep i s).jtag = s.jtag ∧
    (auditStep i s).boot = s.boot ∧
    (auditStep i s).period = s.period ∧
    (auditStep i s).pwr = s.pwr ∧
    (auditStep i s).scan = s.scan ∧
    (auditStep i s).tb = s.tb ∧
    (auditStep i s).tiles = s.tiles ∧
    (auditStep i s).handles = s.handles ∧
    (auditStep i s).dcx = s.dcx ∧
    (auditStep i s).mnt = s.mnt ∧
    (auditStep i s).comp = s.comp ∧
    (auditStep i s).thm = s.thm ∧
    (auditStep i s).gl = s.gl ∧
    (auditStep i s).link = s.link ∧
    (auditStep i s).ozd = s.ozd ∧
    (auditStep i s).wcapLevel = s.wcapLevel := by simp [auditEnd_frame .., lctPut_frame .., lctTouch_frame .., auditStep]

theorem loadFail_frame (code crc : Nat) (written : Bool) (s : State) :
    (loadFail code crc written s).pending = s.pending ∧
    (loadFail code crc written s).fs = s.fs ∧
    (loadFail code crc written s).scene = s.scene ∧
    (loadFail code crc written s).jtag = s.jtag ∧
    (loadFail code crc written s).boot = s.boot ∧
    (loadFail code crc written s).period = s.period ∧
    (loadFail code crc written s).pwr = s.pwr ∧
    (loadFail code crc written s).scan = s.scan ∧
    (loadFail code crc written s).lct = s.lct ∧
    (loadFail code crc written s).tb = s.tb ∧
    (loadFail code crc written s).tiles = s.tiles ∧
    (loadFail code crc written s).dcx = s.dcx ∧
    (loadFail code crc written s).mnt = s.mnt ∧
    (loadFail code crc written s).comp = s.comp ∧
    (loadFail code crc written s).thm = s.thm ∧
    (loadFail code crc written s).gl = s.gl ∧
    (loadFail code crc written s).link = s.link ∧
    (loadFail code crc written s).ozd = s.ozd ∧
    (loadFail code crc written s).wcapLevel = s.wcapLevel := by simp only [loadFail]; (repeat' split) <;> simp [auditRestart_frame .., raise_frame .., unpinOne_frame ..]

theorem loadPin_frame (code : Option Nat) (s : State) :
    (loadPin code s).pending = s.pending ∧
    (loadPin code s).fs = s.fs ∧
    (loadPin code s).scene = s.scene ∧
    (loadPin code s).jtag = s.jtag ∧
    (loadPin code s).boot = s.boot ∧
    (loadPin code s).period = s.period ∧
    (loadPin code s).pwr = s.pwr ∧
    (loadPin code s).scan = s.scan ∧
    (loadPin code s).lct = s.lct ∧
    (loadPin code s).tb = s.tb ∧
    (loadPin code s).tiles = s.tiles ∧
    (loadPin code s).dcx = s.dcx ∧
    (loadPin code s).mnt = s.mnt ∧
    (loadPin code s).comp = s.comp ∧
    (loadPin code s).thm = s.thm ∧
    (loadPin code s).gl = s.gl ∧
    (loadPin code s).link = s.link ∧
    (loadPin code s).ozd = s.ozd ∧
    (loadPin code s).msgq = s.msgq ∧
    (loadPin code s).wcapLevel = s.wcapLevel := by simp [putHandle_frame .., loadPin]

theorem loadBegin_frame (code : Nat) (s : State) :
    (loadBegin code s).pending = s.pending ∧
    (loadBegin code s).fs = s.fs ∧
    (loadBegin code s).scene = s.scene ∧
    (loadBegin code s).jtag = s.jtag ∧
    (loadBegin code s).boot = s.boot ∧
    (loadBegin code s).period = s.period ∧
    (loadBegin code s).pwr = s.pwr ∧
    (loadBegin code s).scan = s.scan ∧
    (loadBegin code s).lct = s.lct ∧
    (loadBegin code s).tb = s.tb ∧
    (loadBegin code s).tiles = s.tiles ∧
    (loadBegin code s).dcx = s.dcx ∧
    (loadBegin code s).mnt = s.mnt ∧
    (loadBegin code s).comp = s.comp ∧
    (loadBegin code s).thm = s.thm ∧
    (loadBegin code s).gl = s.gl ∧
    (loadBegin code s).link = s.link ∧
    (loadBegin code s).ozd = s.ozd ∧
    (loadBegin code s).wcapLevel = s.wcapLevel := by simp [loadFail_frame .., putHandle_frame .., loadBegin]

theorem loadEntries_frame (n i : Nat) (s : State) :
    (loadEntries i n s).pending = s.pending ∧
    (loadEntries i n s).fs = s.fs ∧
    (loadEntries i n s).scene = s.scene ∧
    (loadEntries i n s).jtag = s.jtag ∧
    (loadEntries i n s).boot = s.boot ∧
    (loadEntries i n s).period = s.period ∧
    (loadEntries i n s).pwr = s.pwr ∧
    (loadEntries i n s).scan = s.scan ∧
    (loadEntries i n s).tb = s.tb ∧
    (loadEntries i n s).tiles = s.tiles ∧
    (loadEntries i n s).handles = s.handles ∧
    (loadEntries i n s).dcx = s.dcx ∧
    (loadEntries i n s).mnt = s.mnt ∧
    (loadEntries i n s).comp = s.comp ∧
    (loadEntries i n s).thm = s.thm ∧
    (loadEntries i n s).gl = s.gl ∧
    (loadEntries i n s).link = s.link ∧
    (loadEntries i n s).ozd = s.ozd ∧
    (loadEntries i n s).msgq = s.msgq ∧
    (loadEntries i n s).wcapLevel = s.wcapLevel := by
  induction n generalizing i s with
  | zero => simp [lctPut_frame .., loadEntries]
  | succ n ih => simp [lctPut_frame .., loadEntries, ih]

theorem loadReads_frame (i n : Nat) (s : State) :
    (loadReads i n s).pending = s.pending ∧
    (loadReads i n s).fs = s.fs ∧
    (loadReads i n s).scene = s.scene ∧
    (loadReads i n s).jtag = s.jtag ∧
    (loadReads i n s).boot = s.boot ∧
    (loadReads i n s).period = s.period ∧
    (loadReads i n s).pwr = s.pwr ∧
    (loadReads i n s).scan = s.scan ∧
    (loadReads i n s).lct = s.lct ∧
    (loadReads i n s).tb = s.tb ∧
    (loadReads i n s).tiles = s.tiles ∧
    (loadReads i n s).handles = s.handles ∧
    (loadReads i n s).dcx = s.dcx ∧
    (loadReads i n s).comp = s.comp ∧
    (loadReads i n s).thm = s.thm ∧
    (loadReads i n s).gl = s.gl ∧
    (loadReads i n s).link = s.link ∧
    (loadReads i n s).ozd = s.ozd ∧
    (loadReads i n s).lctc = s.lctc ∧
    (loadReads i n s).wcapLevel = s.wcapLevel := by simp only [loadReads]; (repeat' split) <;> simp [memRead_frame ..]

theorem loadTo_frame (n : Nat) (s : State) :
    (loadTo n s).pending = s.pending ∧
    (loadTo n s).fs = s.fs ∧
    (loadTo n s).scene = s.scene ∧
    (loadTo n s).jtag = s.jtag ∧
    (loadTo n s).boot = s.boot ∧
    (loadTo n s).period = s.period ∧
    (loadTo n s).pwr = s.pwr ∧
    (loadTo n s).scan = s.scan ∧
    (loadTo n s).tb = s.tb ∧
    (loadTo n s).tiles = s.tiles ∧
    (loadTo n s).handles = s.handles ∧
    (loadTo n s).dcx = s.dcx ∧
    (loadTo n s).comp = s.comp ∧
    (loadTo n s).thm = s.thm ∧
    (loadTo n s).gl = s.gl ∧
    (loadTo n s).link = s.link ∧
    (loadTo n s).ozd = s.ozd ∧
    (loadTo n s).wcapLevel = s.wcapLevel := by unfold loadTo; dsimp only; (repeat' split) <;> simp [loadEntries_frame .., loadReads_frame .., *]

theorem loadMove_frame (s : State) :
    (loadMove s).pending = s.pending ∧
    (loadMove s).fs = s.fs ∧
    (loadMove s).scene = s.scene ∧
    (loadMove s).jtag = s.jtag ∧
    (loadMove s).boot = s.boot ∧
    (loadMove s).period = s.period ∧
    (loadMove s).pwr = s.pwr ∧
    (loadMove s).scan = s.scan ∧
    (loadMove s).tb = s.tb ∧
    (loadMove s).tiles = s.tiles ∧
    (loadMove s).handles = s.handles ∧
    (loadMove s).dcx = s.dcx ∧
    (loadMove s).comp = s.comp ∧
    (loadMove s).thm = s.thm ∧
    (loadMove s).gl = s.gl ∧
    (loadMove s).link = s.link ∧
    (loadMove s).ozd = s.ozd ∧
    (loadMove s).wcapLevel = s.wcapLevel := by simp [loadTo_frame .., tickFree_frame .., loadMove]

theorem loadVerdict_frame (s1 : State) :
    (loadVerdict s1).pending = s1.pending ∧
    (loadVerdict s1).fs = s1.fs ∧
    (loadVerdict s1).scene = s1.scene ∧
    (loadVerdict s1).jtag = s1.jtag ∧
    (loadVerdict s1).boot = s1.boot ∧
    (loadVerdict s1).period = s1.period ∧
    (loadVerdict s1).pwr = s1.pwr ∧
    (loadVerdict s1).scan = s1.scan ∧
    (loadVerdict s1).lct = s1.lct ∧
    (loadVerdict s1).tb = s1.tb ∧
    (loadVerdict s1).tiles = s1.tiles ∧
    (loadVerdict s1).dcx = s1.dcx ∧
    (loadVerdict s1).mnt = s1.mnt ∧
    (loadVerdict s1).comp = s1.comp ∧
    (loadVerdict s1).thm = s1.thm ∧
    (loadVerdict s1).gl = s1.gl ∧
    (loadVerdict s1).link = s1.link ∧
    (loadVerdict s1).ozd = s1.ozd ∧
    (loadVerdict s1).wcapLevel = s1.wcapLevel := by simp only [loadVerdict]; (repeat' split) <;> simp [auditRestart_frame .., loadFail_frame .., raise_frame .., setExtremes_frame .., setReg_frame .., unpinOne_frame ..]

theorem loadComplete_frame (s : State) :
    (loadComplete s).pending = s.pending ∧
    (loadComplete s).fs = s.fs ∧
    (loadComplete s).scene = s.scene ∧
    (loadComplete s).jtag = s.jtag ∧
    (loadComplete s).boot = s.boot ∧
    (loadComplete s).period = s.period ∧
    (loadComplete s).pwr = s.pwr ∧
    (loadComplete s).scan = s.scan ∧
    (loadComplete s).tb = s.tb ∧
    (loadComplete s).tiles = s.tiles ∧
    (loadComplete s).dcx = s.dcx ∧
    (loadComplete s).comp = s.comp ∧
    (loadComplete s).thm = s.thm ∧
    (loadComplete s).gl = s.gl ∧
    (loadComplete s).link = s.link ∧
    (loadComplete s).ozd = s.ozd ∧
    (loadComplete s).wcapLevel = s.wcapLevel := by simp [loadTo_frame .., loadVerdict_frame .., loadComplete]

theorem effLctCtl_frame (v : Word) (s : State) :
    (effLctCtl v s).pending = s.pending ∧
    (effLctCtl v s).fs = s.fs ∧
    (effLctCtl v s).scene = s.scene ∧
    (effLctCtl v s).jtag = s.jtag ∧
    (effLctCtl v s).boot = s.boot ∧
    (effLctCtl v s).period = s.period ∧
    (effLctCtl v s).pwr = s.pwr ∧
    (effLctCtl v s).scan = s.scan ∧
    (effLctCtl v s).lct = s.lct ∧
    (effLctCtl v s).tb = s.tb ∧
    (effLctCtl v s).tiles = s.tiles ∧
    (effLctCtl v s).handles = s.handles ∧
    (effLctCtl v s).dcx = s.dcx ∧
    (effLctCtl v s).mnt = s.mnt ∧
    (effLctCtl v s).comp = s.comp ∧
    (effLctCtl v s).thm = s.thm ∧
    (effLctCtl v s).gl = s.gl ∧
    (effLctCtl v s).link = s.link ∧
    (effLctCtl v s).ozd = s.ozd ∧
    (effLctCtl v s).msgq = s.msgq ∧
    (effLctCtl v s).wcapLevel = s.wcapLevel := by simp [setReg_frame .., effLctCtl]

theorem lctAdvance_frame (s : State) :
    (lctAdvance s).pending = s.pending ∧
    (lctAdvance s).fs = s.fs ∧
    (lctAdvance s).scene = s.scene ∧
    (lctAdvance s).jtag = s.jtag ∧
    (lctAdvance s).boot = s.boot ∧
    (lctAdvance s).period = s.period ∧
    (lctAdvance s).pwr = s.pwr ∧
    (lctAdvance s).scan = s.scan ∧
    (lctAdvance s).lct = s.lct ∧
    (lctAdvance s).tb = s.tb ∧
    (lctAdvance s).tiles = s.tiles ∧
    (lctAdvance s).handles = s.handles ∧
    (lctAdvance s).dcx = s.dcx ∧
    (lctAdvance s).mnt = s.mnt ∧
    (lctAdvance s).comp = s.comp ∧
    (lctAdvance s).thm = s.thm ∧
    (lctAdvance s).gl = s.gl ∧
    (lctAdvance s).link = s.link ∧
    (lctAdvance s).ozd = s.ozd ∧
    (lctAdvance s).lctc = s.lctc ∧
    (lctAdvance s).msgq = s.msgq ∧
    (lctAdvance s).wcapLevel = s.wcapLevel := by simp [setRegN_frame .., lctAdvance]

theorem lctReadLo_frame (m : Nat) (s : State) :
    (lctReadLo m s).2.pending = s.pending ∧
    (lctReadLo m s).2.fs = s.fs ∧
    (lctReadLo m s).2.scene = s.scene ∧
    (lctReadLo m s).2.jtag = s.jtag ∧
    (lctReadLo m s).2.boot = s.boot ∧
    (lctReadLo m s).2.period = s.period ∧
    (lctReadLo m s).2.pwr = s.pwr ∧
    (lctReadLo m s).2.scan = s.scan ∧
    (lctReadLo m s).2.lct = s.lct ∧
    (lctReadLo m s).2.tb = s.tb ∧
    (lctReadLo m s).2.tiles = s.tiles ∧
    (lctReadLo m s).2.handles = s.handles ∧
    (lctReadLo m s).2.dcx = s.dcx ∧
    (lctReadLo m s).2.mnt = s.mnt ∧
    (lctReadLo m s).2.comp = s.comp ∧
    (lctReadLo m s).2.thm = s.thm ∧
    (lctReadLo m s).2.gl = s.gl ∧
    (lctReadLo m s).2.link = s.link ∧
    (lctReadLo m s).2.ozd = s.ozd ∧
    (lctReadLo m s).2.wcapLevel = s.wcapLevel := by simp only [lctReadLo]; (repeat' split) <;> simp [bumpSat_frame .., holdHigh_frame .., lctCountUE_frame .., lctRaiseUE_frame ..]

theorem lctReadHi_frame (m : Nat) (s : State) :
    (lctReadHi m s).2.pending = s.pending ∧
    (lctReadHi m s).2.fs = s.fs ∧
    (lctReadHi m s).2.scene = s.scene ∧
    (lctReadHi m s).2.jtag = s.jtag ∧
    (lctReadHi m s).2.boot = s.boot ∧
    (lctReadHi m s).2.period = s.period ∧
    (lctReadHi m s).2.pwr = s.pwr ∧
    (lctReadHi m s).2.scan = s.scan ∧
    (lctReadHi m s).2.lct = s.lct ∧
    (lctReadHi m s).2.tb = s.tb ∧
    (lctReadHi m s).2.tiles = s.tiles ∧
    (lctReadHi m s).2.handles = s.handles ∧
    (lctReadHi m s).2.dcx = s.dcx ∧
    (lctReadHi m s).2.mnt = s.mnt ∧
    (lctReadHi m s).2.comp = s.comp ∧
    (lctReadHi m s).2.thm = s.thm ∧
    (lctReadHi m s).2.gl = s.gl ∧
    (lctReadHi m s).2.link = s.link ∧
    (lctReadHi m s).2.ozd = s.ozd ∧
    (lctReadHi m s).2.lctc = s.lctc ∧
    (lctReadHi m s).2.msgq = s.msgq ∧
    (lctReadHi m s).2.wcapLevel = s.wcapLevel := by simp [lctAdvance_frame .., takeHigh_frame .., lctReadHi]

theorem lctEnqueue_frame (q : LctItem) (s : State) :
    (lctEnqueue q s).pending = s.pending ∧
    (lctEnqueue q s).fs = s.fs ∧
    (lctEnqueue q s).scene = s.scene ∧
    (lctEnqueue q s).jtag = s.jtag ∧
    (lctEnqueue q s).boot = s.boot ∧
    (lctEnqueue q s).period = s.period ∧
    (lctEnqueue q s).pwr = s.pwr ∧
    (lctEnqueue q s).scan = s.scan ∧
    (lctEnqueue q s).lct = s.lct ∧
    (lctEnqueue q s).tb = s.tb ∧
    (lctEnqueue q s).tiles = s.tiles ∧
    (lctEnqueue q s).handles = s.handles ∧
    (lctEnqueue q s).dcx = s.dcx ∧
    (lctEnqueue q s).mnt = s.mnt ∧
    (lctEnqueue q s).comp = s.comp ∧
    (lctEnqueue q s).thm = s.thm ∧
    (lctEnqueue q s).gl = s.gl ∧
    (lctEnqueue q s).link = s.link ∧
    (lctEnqueue q s).ozd = s.ozd ∧
    (lctEnqueue q s).msgq = s.msgq ∧
    (lctEnqueue q s).wcapLevel = s.wcapLevel := by simp [lctEnqueue]

theorem effWdataHi_frame (v : Word) (s : State) :
    (effWdataHi v s).pending = s.pending ∧
    (effWdataHi v s).fs = s.fs ∧
    (effWdataHi v s).scene = s.scene ∧
    (effWdataHi v s).jtag = s.jtag ∧
    (effWdataHi v s).boot = s.boot ∧
    (effWdataHi v s).period = s.period ∧
    (effWdataHi v s).pwr = s.pwr ∧
    (effWdataHi v s).scan = s.scan ∧
    (effWdataHi v s).lct = s.lct ∧
    (effWdataHi v s).tb = s.tb ∧
    (effWdataHi v s).tiles = s.tiles ∧
    (effWdataHi v s).handles = s.handles ∧
    (effWdataHi v s).dcx = s.dcx ∧
    (effWdataHi v s).mnt = s.mnt ∧
    (effWdataHi v s).comp = s.comp ∧
    (effWdataHi v s).thm = s.thm ∧
    (effWdataHi v s).gl = s.gl ∧
    (effWdataHi v s).link = s.link ∧
    (effWdataHi v s).ozd = s.ozd ∧
    (effWdataHi v s).msgq = s.msgq ∧
    (effWdataHi v s).wcapLevel = s.wcapLevel := by simp [lctAdvance_frame .., lctEnqueue_frame .., effWdataHi]

theorem effCrcExp_frame (v : Word) (s : State) :
    (effCrcExp v s).pending = s.pending ∧
    (effCrcExp v s).fs = s.fs ∧
    (effCrcExp v s).scene = s.scene ∧
    (effCrcExp v s).jtag = s.jtag ∧
    (effCrcExp v s).boot = s.boot ∧
    (effCrcExp v s).period = s.period ∧
    (effCrcExp v s).pwr = s.pwr ∧
    (effCrcExp v s).scan = s.scan ∧
    (effCrcExp v s).lct = s.lct ∧
    (effCrcExp v s).tb = s.tb ∧
    (effCrcExp v s).tiles = s.tiles ∧
    (effCrcExp v s).handles = s.handles ∧
    (effCrcExp v s).dcx = s.dcx ∧
    (effCrcExp v s).mnt = s.mnt ∧
    (effCrcExp v s).comp = s.comp ∧
    (effCrcExp v s).thm = s.thm ∧
    (effCrcExp v s).gl = s.gl ∧
    (effCrcExp v s).link = s.link ∧
    (effCrcExp v s).ozd = s.ozd ∧
    (effCrcExp v s).msgq = s.msgq ∧
    (effCrcExp v s).wcapLevel = s.wcapLevel := by simp [lctEnqueue_frame .., effCrcExp]

@[simp] theorem lctQueued_pending (m : Master) (a : Nat) (v : Word) (eff : State → State) (s : State) (heff : ∀ x0, (eff x0).pending = x0.pending) :
    (lctQueued m a v eff s).pending = s.pending := by
  unfold lctQueued; (repeat' split) <;> simp [holdOrBusy_frame .., heff]

@[simp] theorem lctQueued_fs (m : Master) (a : Nat) (v : Word) (eff : State → State) (s : State) (heff : ∀ x0, (eff x0).fs = x0.fs) :
    (lctQueued m a v eff s).fs = s.fs := by
  unfold lctQueued; (repeat' split) <;> simp [holdOrBusy_frame .., heff]

@[simp] theorem lctQueued_scene (m : Master) (a : Nat) (v : Word) (eff : State → State) (s : State) (heff : ∀ x0, (eff x0).scene = x0.scene) :
    (lctQueued m a v eff s).scene = s.scene := by
  unfold lctQueued; (repeat' split) <;> simp [holdOrBusy_frame .., heff]

@[simp] theorem lctQueued_jtag (m : Master) (a : Nat) (v : Word) (eff : State → State) (s : State) (heff : ∀ x0, (eff x0).jtag = x0.jtag) :
    (lctQueued m a v eff s).jtag = s.jtag := by
  unfold lctQueued; (repeat' split) <;> simp [holdOrBusy_frame .., heff]

@[simp] theorem lctQueued_boot (m : Master) (a : Nat) (v : Word) (eff : State → State) (s : State) (heff : ∀ x0, (eff x0).boot = x0.boot) :
    (lctQueued m a v eff s).boot = s.boot := by
  unfold lctQueued; (repeat' split) <;> simp [holdOrBusy_frame .., heff]

@[simp] theorem lctQueued_period (m : Master) (a : Nat) (v : Word) (eff : State → State) (s : State) (heff : ∀ x0, (eff x0).period = x0.period) :
    (lctQueued m a v eff s).period = s.period := by
  unfold lctQueued; (repeat' split) <;> simp [holdOrBusy_frame .., heff]

@[simp] theorem lctQueued_pwr (m : Master) (a : Nat) (v : Word) (eff : State → State) (s : State) (heff : ∀ x0, (eff x0).pwr = x0.pwr) :
    (lctQueued m a v eff s).pwr = s.pwr := by
  unfold lctQueued; (repeat' split) <;> simp [holdOrBusy_frame .., heff]

@[simp] theorem lctQueued_scan (m : Master) (a : Nat) (v : Word) (eff : State → State) (s : State) (heff : ∀ x0, (eff x0).scan = x0.scan) :
    (lctQueued m a v eff s).scan = s.scan := by
  unfold lctQueued; (repeat' split) <;> simp [holdOrBusy_frame .., heff]

@[simp] theorem lctQueued_lct (m : Master) (a : Nat) (v : Word) (eff : State → State) (s : State) (heff : ∀ x0, (eff x0).lct = x0.lct) :
    (lctQueued m a v eff s).lct = s.lct := by
  unfold lctQueued; (repeat' split) <;> simp [holdOrBusy_frame .., heff]

@[simp] theorem lctQueued_tb (m : Master) (a : Nat) (v : Word) (eff : State → State) (s : State) (heff : ∀ x0, (eff x0).tb = x0.tb) :
    (lctQueued m a v eff s).tb = s.tb := by
  unfold lctQueued; (repeat' split) <;> simp [holdOrBusy_frame .., heff]

@[simp] theorem lctQueued_tiles (m : Master) (a : Nat) (v : Word) (eff : State → State) (s : State) (heff : ∀ x0, (eff x0).tiles = x0.tiles) :
    (lctQueued m a v eff s).tiles = s.tiles := by
  unfold lctQueued; (repeat' split) <;> simp [holdOrBusy_frame .., heff]

@[simp] theorem lctQueued_handles (m : Master) (a : Nat) (v : Word) (eff : State → State) (s : State) (heff : ∀ x0, (eff x0).handles = x0.handles) :
    (lctQueued m a v eff s).handles = s.handles := by
  unfold lctQueued; (repeat' split) <;> simp [holdOrBusy_frame .., heff]

@[simp] theorem lctQueued_dcx (m : Master) (a : Nat) (v : Word) (eff : State → State) (s : State) (heff : ∀ x0, (eff x0).dcx = x0.dcx) :
    (lctQueued m a v eff s).dcx = s.dcx := by
  unfold lctQueued; (repeat' split) <;> simp [holdOrBusy_frame .., heff]

@[simp] theorem lctQueued_mnt (m : Master) (a : Nat) (v : Word) (eff : State → State) (s : State) (heff : ∀ x0, (eff x0).mnt = x0.mnt) :
    (lctQueued m a v eff s).mnt = s.mnt := by
  unfold lctQueued; (repeat' split) <;> simp [holdOrBusy_frame .., heff]

@[simp] theorem lctQueued_comp (m : Master) (a : Nat) (v : Word) (eff : State → State) (s : State) (heff : ∀ x0, (eff x0).comp = x0.comp) :
    (lctQueued m a v eff s).comp = s.comp := by
  unfold lctQueued; (repeat' split) <;> simp [holdOrBusy_frame .., heff]

@[simp] theorem lctQueued_thm (m : Master) (a : Nat) (v : Word) (eff : State → State) (s : State) (heff : ∀ x0, (eff x0).thm = x0.thm) :
    (lctQueued m a v eff s).thm = s.thm := by
  unfold lctQueued; (repeat' split) <;> simp [holdOrBusy_frame .., heff]

@[simp] theorem lctQueued_gl (m : Master) (a : Nat) (v : Word) (eff : State → State) (s : State) (heff : ∀ x0, (eff x0).gl = x0.gl) :
    (lctQueued m a v eff s).gl = s.gl := by
  unfold lctQueued; (repeat' split) <;> simp [holdOrBusy_frame .., heff]

@[simp] theorem lctQueued_link (m : Master) (a : Nat) (v : Word) (eff : State → State) (s : State) (heff : ∀ x0, (eff x0).link = x0.link) :
    (lctQueued m a v eff s).link = s.link := by
  unfold lctQueued; (repeat' split) <;> simp [holdOrBusy_frame .., heff]

@[simp] theorem lctQueued_ozd (m : Master) (a : Nat) (v : Word) (eff : State → State) (s : State) (heff : ∀ x0, (eff x0).ozd = x0.ozd) :
    (lctQueued m a v eff s).ozd = s.ozd := by
  unfold lctQueued; (repeat' split) <;> simp [holdOrBusy_frame .., heff]

@[simp] theorem lctQueued_lctc (m : Master) (a : Nat) (v : Word) (eff : State → State) (s : State) (heff : ∀ x0, (eff x0).lctc = x0.lctc) :
    (lctQueued m a v eff s).lctc = s.lctc := by
  unfold lctQueued; (repeat' split) <;> simp [holdOrBusy_frame .., heff]

@[simp] theorem lctQueued_msgq (m : Master) (a : Nat) (v : Word) (eff : State → State) (s : State) (heff : ∀ x0, (eff x0).msgq = x0.msgq) :
    (lctQueued m a v eff s).msgq = s.msgq := by
  unfold lctQueued; (repeat' split) <;> simp [holdOrBusy_frame .., heff]

@[simp] theorem lctQueued_wcapLevel (m : Master) (a : Nat) (v : Word) (eff : State → State) (s : State) (heff : ∀ x0, (eff x0).wcapLevel = x0.wcapLevel) :
    (lctQueued m a v eff s).wcapLevel = s.wcapLevel := by
  unfold lctQueued; (repeat' split) <;> simp [holdOrBusy_frame .., heff]

@[simp] theorem lctRead_pending (m : Master) (a : Nat) (rd : Nat → State → Word × State) (s : State) (hrd : ∀ x0 x1, (rd x0 x1).2.pending = x1.pending) :
    (lctRead m a rd s).pending = s.pending := by
  unfold lctRead; (repeat' split) <;> simp [answer_frame .., holdOrBusy_frame .., loadMove_frame .., violate_frame .., hrd]

@[simp] theorem lctRead_fs (m : Master) (a : Nat) (rd : Nat → State → Word × State) (s : State) (hrd : ∀ x0 x1, (rd x0 x1).2.fs = x1.fs) :
    (lctRead m a rd s).fs = s.fs := by
  unfold lctRead; (repeat' split) <;> simp [answer_frame .., holdOrBusy_frame .., loadMove_frame .., violate_frame .., hrd]

@[simp] theorem lctRead_scene (m : Master) (a : Nat) (rd : Nat → State → Word × State) (s : State) (hrd : ∀ x0 x1, (rd x0 x1).2.scene = x1.scene) :
    (lctRead m a rd s).scene = s.scene := by
  unfold lctRead; (repeat' split) <;> simp [answer_frame .., holdOrBusy_frame .., loadMove_frame .., violate_frame .., hrd]

@[simp] theorem lctRead_jtag (m : Master) (a : Nat) (rd : Nat → State → Word × State) (s : State) (hrd : ∀ x0 x1, (rd x0 x1).2.jtag = x1.jtag) :
    (lctRead m a rd s).jtag = s.jtag := by
  unfold lctRead; (repeat' split) <;> simp [answer_frame .., holdOrBusy_frame .., loadMove_frame .., violate_frame .., hrd]

@[simp] theorem lctRead_boot (m : Master) (a : Nat) (rd : Nat → State → Word × State) (s : State) (hrd : ∀ x0 x1, (rd x0 x1).2.boot = x1.boot) :
    (lctRead m a rd s).boot = s.boot := by
  unfold lctRead; (repeat' split) <;> simp [answer_frame .., holdOrBusy_frame .., loadMove_frame .., violate_frame .., hrd]

@[simp] theorem lctRead_period (m : Master) (a : Nat) (rd : Nat → State → Word × State) (s : State) (hrd : ∀ x0 x1, (rd x0 x1).2.period = x1.period) :
    (lctRead m a rd s).period = s.period := by
  unfold lctRead; (repeat' split) <;> simp [answer_frame .., holdOrBusy_frame .., loadMove_frame .., violate_frame .., hrd]

@[simp] theorem lctRead_pwr (m : Master) (a : Nat) (rd : Nat → State → Word × State) (s : State) (hrd : ∀ x0 x1, (rd x0 x1).2.pwr = x1.pwr) :
    (lctRead m a rd s).pwr = s.pwr := by
  unfold lctRead; (repeat' split) <;> simp [answer_frame .., holdOrBusy_frame .., loadMove_frame .., violate_frame .., hrd]

@[simp] theorem lctRead_scan (m : Master) (a : Nat) (rd : Nat → State → Word × State) (s : State) (hrd : ∀ x0 x1, (rd x0 x1).2.scan = x1.scan) :
    (lctRead m a rd s).scan = s.scan := by
  unfold lctRead; (repeat' split) <;> simp [answer_frame .., holdOrBusy_frame .., loadMove_frame .., violate_frame .., hrd]

@[simp] theorem lctRead_tb (m : Master) (a : Nat) (rd : Nat → State → Word × State) (s : State) (hrd : ∀ x0 x1, (rd x0 x1).2.tb = x1.tb) :
    (lctRead m a rd s).tb = s.tb := by
  unfold lctRead; (repeat' split) <;> simp [answer_frame .., holdOrBusy_frame .., loadMove_frame .., violate_frame .., hrd]

@[simp] theorem lctRead_tiles (m : Master) (a : Nat) (rd : Nat → State → Word × State) (s : State) (hrd : ∀ x0 x1, (rd x0 x1).2.tiles = x1.tiles) :
    (lctRead m a rd s).tiles = s.tiles := by
  unfold lctRead; (repeat' split) <;> simp [answer_frame .., holdOrBusy_frame .., loadMove_frame .., violate_frame .., hrd]

@[simp] theorem lctRead_handles (m : Master) (a : Nat) (rd : Nat → State → Word × State) (s : State) (hrd : ∀ x0 x1, (rd x0 x1).2.handles = x1.handles) :
    (lctRead m a rd s).handles = s.handles := by
  unfold lctRead; (repeat' split) <;> simp [answer_frame .., holdOrBusy_frame .., loadMove_frame .., violate_frame .., hrd]

@[simp] theorem lctRead_comp (m : Master) (a : Nat) (rd : Nat → State → Word × State) (s : State) (hrd : ∀ x0 x1, (rd x0 x1).2.comp = x1.comp) :
    (lctRead m a rd s).comp = s.comp := by
  unfold lctRead; (repeat' split) <;> simp [answer_frame .., holdOrBusy_frame .., loadMove_frame .., violate_frame .., hrd]

@[simp] theorem lctRead_thm (m : Master) (a : Nat) (rd : Nat → State → Word × State) (s : State) (hrd : ∀ x0 x1, (rd x0 x1).2.thm = x1.thm) :
    (lctRead m a rd s).thm = s.thm := by
  unfold lctRead; (repeat' split) <;> simp [answer_frame .., holdOrBusy_frame .., loadMove_frame .., violate_frame .., hrd]

@[simp] theorem lctRead_gl (m : Master) (a : Nat) (rd : Nat → State → Word × State) (s : State) (hrd : ∀ x0 x1, (rd x0 x1).2.gl = x1.gl) :
    (lctRead m a rd s).gl = s.gl := by
  unfold lctRead; (repeat' split) <;> simp [answer_frame .., holdOrBusy_frame .., loadMove_frame .., violate_frame .., hrd]

@[simp] theorem lctRead_wcapLevel (m : Master) (a : Nat) (rd : Nat → State → Word × State) (s : State) (hrd : ∀ x0 x1, (rd x0 x1).2.wcapLevel = x1.wcapLevel) :
    (lctRead m a rd s).wcapLevel = s.wcapLevel := by
  unfold lctRead; (repeat' split) <;> simp [answer_frame .., holdOrBusy_frame .., loadMove_frame .., violate_frame .., hrd]

theorem lctWriteHi_frame (m : Master) (v : Word) (s : State) :
    (lctWriteHi m v s).pending = s.pending ∧
    (lctWriteHi m v s).fs = s.fs ∧
    (lctWriteHi m v s).scene = s.scene ∧
    (lctWriteHi m v s).jtag = s.jtag ∧
    (lctWriteHi m v s).boot = s.boot ∧
    (lctWriteHi m v s).period = s.period ∧
    (lctWriteHi m v s).pwr = s.pwr ∧
    (lctWriteHi m v s).scan = s.scan ∧
    (lctWriteHi m v s).lct = s.lct ∧
    (lctWriteHi m v s).tb = s.tb ∧
    (lctWriteHi m v s).tiles = s.tiles ∧
    (lctWriteHi m v s).handles = s.handles ∧
    (lctWriteHi m v s).mnt = s.mnt ∧
    (lctWriteHi m v s).comp = s.comp ∧
    (lctWriteHi m v s).thm = s.thm ∧
    (lctWriteHi m v s).gl = s.gl ∧
    (lctWriteHi m v s).wcapLevel = s.wcapLevel := by simp [answer_frame .., effWdataHi_frame .., violate_frame .., lctWriteHi]

theorem applyItem_frame (q : LctItem) (s : State) :
    (applyItem q s).pending = s.pending ∧
    (applyItem q s).fs = s.fs ∧
    (applyItem q s).scene = s.scene ∧
    (applyItem q s).jtag = s.jtag ∧
    (applyItem q s).boot = s.boot ∧
    (applyItem q s).period = s.period ∧
    (applyItem q s).pwr = s.pwr ∧
    (applyItem q s).scan = s.scan ∧
    (applyItem q s).tb = s.tb ∧
    (applyItem q s).tiles = s.tiles ∧
    (applyItem q s).handles = s.handles ∧
    (applyItem q s).dcx = s.dcx ∧
    (applyItem q s).mnt = s.mnt ∧
    (applyItem q s).comp = s.comp ∧
    (applyItem q s).thm = s.thm ∧
    (applyItem q s).gl = s.gl ∧
    (applyItem q s).link = s.link ∧
    (applyItem q s).ozd = s.ozd ∧
    (applyItem q s).lctc = s.lctc ∧
    (applyItem q s).msgq = s.msgq ∧
    (applyItem q s).wcapLevel = s.wcapLevel := by simp only [applyItem]; (repeat' split) <;> simp [lctPut_frame .., setReg_frame ..]

theorem lctApply_frame (s : State) :
    (lctApply s).pending = s.pending ∧
    (lctApply s).fs = s.fs ∧
    (lctApply s).scene = s.scene ∧
    (lctApply s).jtag = s.jtag ∧
    (lctApply s).boot = s.boot ∧
    (lctApply s).period = s.period ∧
    (lctApply s).pwr = s.pwr ∧
    (lctApply s).scan = s.scan ∧
    (lctApply s).tb = s.tb ∧
    (lctApply s).tiles = s.tiles ∧
    (lctApply s).handles = s.handles ∧
    (lctApply s).dcx = s.dcx ∧
    (lctApply s).mnt = s.mnt ∧
    (lctApply s).comp = s.comp ∧
    (lctApply s).thm = s.thm ∧
    (lctApply s).gl = s.gl ∧
    (lctApply s).link = s.link ∧
    (lctApply s).ozd = s.ozd ∧
    (lctApply s).msgq = s.msgq ∧
    (lctApply s).wcapLevel = s.wcapLevel := by simp [applyItem_frame .., auditRestart_frame .., lctApply]

theorem effLctAudit_frame (v : Word) (s : State) :
    (effLctAudit v s).pending = s.pending ∧
    (effLctAudit v s).fs = s.fs ∧
    (effLctAudit v s).scene = s.scene ∧
    (effLctAudit v s).jtag = s.jtag ∧
    (effLctAudit v s).boot = s.boot ∧
    (effLctAudit v s).period = s.period ∧
    (effLctAudit v s).pwr = s.pwr ∧
    (effLctAudit v s).scan = s.scan ∧
    (effLctAudit v s).lct = s.lct ∧
    (effLctAudit v s).tb = s.tb ∧
    (effLctAudit v s).tiles = s.tiles ∧
    (effLctAudit v s).handles = s.handles ∧
    (effLctAudit v s).dcx = s.dcx ∧
    (effLctAudit v s).mnt = s.mnt ∧
    (effLctAudit v s).comp = s.comp ∧
    (effLctAudit v s).thm = s.thm ∧
    (effLctAudit v s).gl = s.gl ∧
    (effLctAudit v s).link = s.link ∧
    (effLctAudit v s).ozd = s.ozd ∧
    (effLctAudit v s).msgq = s.msgq ∧
    (effLctAudit v s).wcapLevel = s.wcapLevel := by simp [auditRestart_frame .., setReg_frame .., effLctAudit]

end Sys2Proof.Machine
end

