-- ==== Sys2Proof/Laws/FramePlan.lean ====
section
/-!
SUPPORT. What each operation of Plan.lean leaves unchanged.
-/
set_option linter.unusedSimpArgs false
namespace Sys2Proof.Machine

theorem storeBound_frame (s : State) :
    (storeBound s).pending = s.pending ∧
    (storeBound s).fs = s.fs ∧
    (storeBound s).scene = s.scene ∧
    (storeBound s).jtag = s.jtag ∧
    (storeBound s).boot = s.boot ∧
    (storeBound s).period = s.period ∧
    (storeBound s).pwr = s.pwr ∧
    (storeBound s).scan = s.scan ∧
    (storeBound s).lct = s.lct ∧
    (storeBound s).tb = s.tb ∧
    (storeBound s).tiles = s.tiles ∧
    (storeBound s).handles = s.handles ∧
    (storeBound s).dcx = s.dcx ∧
    (storeBound s).mnt = s.mnt ∧
    (storeBound s).comp = s.comp ∧
    (storeBound s).thm = s.thm ∧
    (storeBound s).gl = s.gl ∧
    (storeBound s).link = s.link ∧
    (storeBound s).ozd = s.ozd ∧
    (storeBound s).lctc = s.lctc ∧
    (storeBound s).msgq = s.msgq ∧
    (storeBound s).wcapLevel = s.wcapLevel := by simp [setRegN_frame .., storeBound]

end Sys2Proof.Machine
end

