-- ==== Sys2Proof/Laws/FrameFinish.lean ====
section
/-!
SUPPORT. What each operation of Finish.lean leaves unchanged.
-/
set_option linter.unusedSimpArgs false
namespace Sys2Proof.Machine

theorem zoneAnalysis_frame (s : State) :
    (zoneAnalysis s).pending = s.pending ∧
    (zoneAnalysis s).fs = s.fs ∧
    (zoneAnalysis s).scene = s.scene ∧
    (zoneAnalysis s).jtag = s.jtag ∧
    (zoneAnalysis s).boot = s.boot ∧
    (zoneAnalysis s).period = s.period ∧
    (zoneAnalysis s).pwr = s.pwr ∧
    (zoneAnalysis s).scan = s.scan ∧
    (zoneAnalysis s).lct = s.lct ∧
    (zoneAnalysis s).tb = s.tb ∧
    (zoneAnalysis s).tiles = s.tiles ∧
    (zoneAnalysis s).handles = s.handles ∧
    (zoneAnalysis s).dcx = s.dcx ∧
    (zoneAnalysis s).mnt = s.mnt ∧
    (zoneAnalysis s).comp = s.comp ∧
    (zoneAnalysis s).thm = s.thm ∧
    (zoneAnalysis s).gl = s.gl ∧
    (zoneAnalysis s).link = s.link ∧
    (zoneAnalysis s).ozd = s.ozd ∧
    (zoneAnalysis s).lctc = s.lctc ∧
    (zoneAnalysis s).msgq = s.msgq ∧
    (zoneAnalysis s).wcapLevel = s.wcapLevel := by
  rw [zoneAnalysis]
  refine ⟨rfl, rfl, rfl, rfl, rfl, rfl, rfl, rfl, rfl, rfl, rfl, rfl, rfl, rfl, rfl, rfl, rfl, rfl, rfl, rfl, rfl, rfl⟩

theorem writeTargets_frame (a : ItemSig) (s : State) :
    (writeTargets a s).pending = s.pending ∧
    (writeTargets a s).jtag = s.jtag ∧
    (writeTargets a s).boot = s.boot ∧
    (writeTargets a s).period = s.period ∧
    (writeTargets a s).pwr = s.pwr ∧
    (writeTargets a s).scan = s.scan ∧
    (writeTargets a s).lct = s.lct ∧
    (writeTargets a s).tb = s.tb ∧
    (writeTargets a s).tiles = s.tiles ∧
    (writeTargets a s).handles = s.handles ∧
    (writeTargets a s).dcx = s.dcx ∧
    (writeTargets a s).comp = s.comp ∧
    (writeTargets a s).thm = s.thm ∧
    (writeTargets a s).gl = s.gl ∧
    (writeTargets a s).link = s.link ∧
    (writeTargets a s).ozd = s.ozd ∧
    (writeTargets a s).lctc = s.lctc ∧
    (writeTargets a s).wcapLevel = s.wcapLevel := by simp [memWrite_frame .., writeTargets]

theorem copyTargets_frame (i : Nat) (s : State) :
    (copyTargets i s).1.pending = s.pending ∧
    (copyTargets i s).1.jtag = s.jtag ∧
    (copyTargets i s).1.boot = s.boot ∧
    (copyTargets i s).1.period = s.period ∧
    (copyTargets i s).1.pwr = s.pwr ∧
    (copyTargets i s).1.scan = s.scan ∧
    (copyTargets i s).1.lct = s.lct ∧
    (copyTargets i s).1.tb = s.tb ∧
    (copyTargets i s).1.tiles = s.tiles ∧
    (copyTargets i s).1.handles = s.handles ∧
    (copyTargets i s).1.dcx = s.dcx ∧
    (copyTargets i s).1.comp = s.comp ∧
    (copyTargets i s).1.thm = s.thm ∧
    (copyTargets i s).1.gl = s.gl ∧
    (copyTargets i s).1.link = s.link ∧
    (copyTargets i s).1.ozd = s.ozd ∧
    (copyTargets i s).1.lctc = s.lctc ∧
    (copyTargets i s).1.wcapLevel = s.wcapLevel := by
  unfold copyTargets
  exact foldl_fst_inv (fun q => q.pending = s.pending ∧ q.jtag = s.jtag ∧ q.boot = s.boot ∧ q.period = s.period ∧ q.pwr = s.pwr ∧ q.scan = s.scan ∧ q.lct = s.lct ∧ q.tb = s.tb ∧ q.tiles = s.tiles ∧ q.handles = s.handles ∧ q.dcx = s.dcx ∧ q.comp = s.comp ∧ q.thm = s.thm ∧ q.gl = s.gl ∧ q.link = s.link ∧ q.ozd = s.ozd ∧ q.lctc = s.lctc ∧ q.wcapLevel = s.wcapLevel) _ (by intro q x h; simp [memRead_frame .., memWrite_frame ..]; simpa [memRead_frame .., memWrite_frame ..] using h) _ _ (by simp [memRead_frame .., memWrite_frame ..])

theorem stageItem_frame (f : MirFrame) (i : Nat) (a : Option ItemSig) (s : State) :
    (stageItem f i a s).pending = s.pending ∧
    (stageItem f i a s).jtag = s.jtag ∧
    (stageItem f i a s).boot = s.boot ∧
    (stageItem f i a s).period = s.period ∧
    (stageItem f i a s).pwr = s.pwr ∧
    (stageItem f i a s).scan = s.scan ∧
    (stageItem f i a s).lct = s.lct ∧
    (stageItem f i a s).tb = s.tb ∧
    (stageItem f i a s).tiles = s.tiles ∧
    (stageItem f i a s).handles = s.handles ∧
    (stageItem f i a s).dcx = s.dcx ∧
    (stageItem f i a s).comp = s.comp ∧
    (stageItem f i a s).thm = s.thm ∧
    (stageItem f i a s).gl = s.gl ∧
    (stageItem f i a s).link = s.link ∧
    (stageItem f i a s).ozd = s.ozd ∧
    (stageItem f i a s).lctc = s.lctc ∧
    (stageItem f i a s).wcapLevel = s.wcapLevel := by simp [memWrite_frame .., stageItem]

theorem stageFor_frame (i : Nat) (a : Option ItemSig) (s : State) :
    (stageFor i a s).pending = s.pending ∧
    (stageFor i a s).jtag = s.jtag ∧
    (stageFor i a s).boot = s.boot ∧
    (stageFor i a s).period = s.period ∧
    (stageFor i a s).pwr = s.pwr ∧
    (stageFor i a s).scan = s.scan ∧
    (stageFor i a s).lct = s.lct ∧
    (stageFor i a s).tb = s.tb ∧
    (stageFor i a s).tiles = s.tiles ∧
    (stageFor i a s).handles = s.handles ∧
    (stageFor i a s).dcx = s.dcx ∧
    (stageFor i a s).comp = s.comp ∧
    (stageFor i a s).thm = s.thm ∧
    (stageFor i a s).gl = s.gl ∧
    (stageFor i a s).link = s.link ∧
    (stageFor i a s).ozd = s.ozd ∧
    (stageFor i a s).lctc = s.lctc ∧
    (stageFor i a s).wcapLevel = s.wcapLevel := by simp only [stageFor]; (repeat' split) <;> simp [stageItem_frame ..]

theorem takeStaging_frame (s : State) :
    (takeStaging s).pending = s.pending ∧
    (takeStaging s).fs = s.fs ∧
    (takeStaging s).scene = s.scene ∧
    (takeStaging s).jtag = s.jtag ∧
    (takeStaging s).boot = s.boot ∧
    (takeStaging s).period = s.period ∧
    (takeStaging s).pwr = s.pwr ∧
    (takeStaging s).scan = s.scan ∧
    (takeStaging s).lct = s.lct ∧
    (takeStaging s).tb = s.tb ∧
    (takeStaging s).tiles = s.tiles ∧
    (takeStaging s).handles = s.handles ∧
    (takeStaging s).dcx = s.dcx ∧
    (takeStaging s).mnt = s.mnt ∧
    (takeStaging s).comp = s.comp ∧
    (takeStaging s).thm = s.thm ∧
    (takeStaging s).gl = s.gl ∧
    (takeStaging s).link = s.link ∧
    (takeStaging s).ozd = s.ozd ∧
    (takeStaging s).lctc = s.lctc ∧
    (takeStaging s).wcapLevel = s.wcapLevel := by simp only [takeStaging]; (repeat' split) <;> simp [bumpSat_frame .., raise_frame ..]

theorem abortMirror_frame (f : MirFrame) (s : State) :
    (abortMirror f s).pending = s.pending ∧
    (abortMirror f s).fs = s.fs ∧
    (abortMirror f s).scene = s.scene ∧
    (abortMirror f s).jtag = s.jtag ∧
    (abortMirror f s).boot = s.boot ∧
    (abortMirror f s).period = s.period ∧
    (abortMirror f s).pwr = s.pwr ∧
    (abortMirror f s).scan = s.scan ∧
    (abortMirror f s).lct = s.lct ∧
    (abortMirror f s).tb = s.tb ∧
    (abortMirror f s).tiles = s.tiles ∧
    (abortMirror f s).handles = s.handles ∧
    (abortMirror f s).dcx = s.dcx ∧
    (abortMirror f s).mnt = s.mnt ∧
    (abortMirror f s).comp = s.comp ∧
    (abortMirror f s).thm = s.thm ∧
    (abortMirror f s).gl = s.gl ∧
    (abortMirror f s).link = s.link ∧
    (abortMirror f s).ozd = s.ozd ∧
    (abortMirror f s).lctc = s.lctc ∧
    (abortMirror f s).wcapLevel = s.wcapLevel := by simp [bumpSat_frame .., raise_frame .., abortMirror]

theorem zdataRead_frame (s : State) :
    (zdataRead s).2.pending = s.pending ∧
    (zdataRead s).2.fs = s.fs ∧
    (zdataRead s).2.scene = s.scene ∧
    (zdataRead s).2.jtag = s.jtag ∧
    (zdataRead s).2.boot = s.boot ∧
    (zdataRead s).2.period = s.period ∧
    (zdataRead s).2.pwr = s.pwr ∧
    (zdataRead s).2.scan = s.scan ∧
    (zdataRead s).2.lct = s.lct ∧
    (zdataRead s).2.tb = s.tb ∧
    (zdataRead s).2.tiles = s.tiles ∧
    (zdataRead s).2.handles = s.handles ∧
    (zdataRead s).2.dcx = s.dcx ∧
    (zdataRead s).2.mnt = s.mnt ∧
    (zdataRead s).2.comp = s.comp ∧
    (zdataRead s).2.thm = s.thm ∧
    (zdataRead s).2.gl = s.gl ∧
    (zdataRead s).2.link = s.link ∧
    (zdataRead s).2.ozd = s.ozd ∧
    (zdataRead s).2.lctc = s.lctc ∧
    (zdataRead s).2.msgq = s.msgq ∧
    (zdataRead s).2.wcapLevel = s.wcapLevel := by simp [setRegFld_frame .., zdataRead]

theorem sprRead_frame (s : State) :
    (sprRead s).2.pending = s.pending ∧
    (sprRead s).2.fs = s.fs ∧
    (sprRead s).2.scene = s.scene ∧
    (sprRead s).2.jtag = s.jtag ∧
    (sprRead s).2.boot = s.boot ∧
    (sprRead s).2.period = s.period ∧
    (sprRead s).2.pwr = s.pwr ∧
    (sprRead s).2.scan = s.scan ∧
    (sprRead s).2.lct = s.lct ∧
    (sprRead s).2.tb = s.tb ∧
    (sprRead s).2.tiles = s.tiles ∧
    (sprRead s).2.handles = s.handles ∧
    (sprRead s).2.dcx = s.dcx ∧
    (sprRead s).2.mnt = s.mnt ∧
    (sprRead s).2.comp = s.comp ∧
    (sprRead s).2.thm = s.thm ∧
    (sprRead s).2.gl = s.gl ∧
    (sprRead s).2.link = s.link ∧
    (sprRead s).2.ozd = s.ozd ∧
    (sprRead s).2.lctc = s.lctc ∧
    (sprRead s).2.msgq = s.msgq ∧
    (sprRead s).2.wcapLevel = s.wcapLevel := by simp [tabRead_frame .., sprRead]

theorem sprWrite_frame (v : Word) (s : State) :
    (sprWrite v s).pending = s.pending ∧
    (sprWrite v s).fs = s.fs ∧
    (sprWrite v s).scene = s.scene ∧
    (sprWrite v s).jtag = s.jtag ∧
    (sprWrite v s).boot = s.boot ∧
    (sprWrite v s).period = s.period ∧
    (sprWrite v s).pwr = s.pwr ∧
    (sprWrite v s).scan = s.scan ∧
    (sprWrite v s).lct = s.lct ∧
    (sprWrite v s).tb = s.tb ∧
    (sprWrite v s).tiles = s.tiles ∧
    (sprWrite v s).handles = s.handles ∧
    (sprWrite v s).dcx = s.dcx ∧
    (sprWrite v s).mnt = s.mnt ∧
    (sprWrite v s).comp = s.comp ∧
    (sprWrite v s).thm = s.thm ∧
    (sprWrite v s).gl = s.gl ∧
    (sprWrite v s).link = s.link ∧
    (sprWrite v s).ozd = s.ozd ∧
    (sprWrite v s).lctc = s.lctc ∧
    (sprWrite v s).msgq = s.msgq ∧
    (sprWrite v s).wcapLevel = s.wcapLevel := by simp [tabWrite_frame .., sprWrite]

theorem xfrRead_frame (s : State) :
    (xfrRead s).2.pending = s.pending ∧
    (xfrRead s).2.fs = s.fs ∧
    (xfrRead s).2.scene = s.scene ∧
    (xfrRead s).2.jtag = s.jtag ∧
    (xfrRead s).2.boot = s.boot ∧
    (xfrRead s).2.period = s.period ∧
    (xfrRead s).2.pwr = s.pwr ∧
    (xfrRead s).2.scan = s.scan ∧
    (xfrRead s).2.lct = s.lct ∧
    (xfrRead s).2.tb = s.tb ∧
    (xfrRead s).2.tiles = s.tiles ∧
    (xfrRead s).2.handles = s.handles ∧
    (xfrRead s).2.dcx = s.dcx ∧
    (xfrRead s).2.mnt = s.mnt ∧
    (xfrRead s).2.comp = s.comp ∧
    (xfrRead s).2.thm = s.thm ∧
    (xfrRead s).2.gl = s.gl ∧
    (xfrRead s).2.link = s.link ∧
    (xfrRead s).2.ozd = s.ozd ∧
    (xfrRead s).2.lctc = s.lctc ∧
    (xfrRead s).2.msgq = s.msgq ∧
    (xfrRead s).2.wcapLevel = s.wcapLevel := by simp [tabRead_frame .., xfrRead]

theorem xfrWrite_frame (v : Word) (s : State) :
    (xfrWrite v s).pending = s.pending ∧
    (xfrWrite v s).fs = s.fs ∧
    (xfrWrite v s).scene = s.scene ∧
    (xfrWrite v s).jtag = s.jtag ∧
    (xfrWrite v s).boot = s.boot ∧
    (xfrWrite v s).period = s.period ∧
    (xfrWrite v s).pwr = s.pwr ∧
    (xfrWrite v s).scan = s.scan ∧
    (xfrWrite v s).lct = s.lct ∧
    (xfrWrite v s).tb = s.tb ∧
    (xfrWrite v s).tiles = s.tiles ∧
    (xfrWrite v s).handles = s.handles ∧
    (xfrWrite v s).dcx = s.dcx ∧
    (xfrWrite v s).mnt = s.mnt ∧
    (xfrWrite v s).comp = s.comp ∧
    (xfrWrite v s).thm = s.thm ∧
    (xfrWrite v s).gl = s.gl ∧
    (xfrWrite v s).link = s.link ∧
    (xfrWrite v s).ozd = s.ozd ∧
    (xfrWrite v s).lctc = s.lctc ∧
    (xfrWrite v s).msgq = s.msgq ∧
    (xfrWrite v s).wcapLevel = s.wcapLevel := by simp [tabWrite_frame .., xfrWrite]

theorem mtbRead_frame (s : State) :
    (mtbRead s).2.pending = s.pending ∧
    (mtbRead s).2.fs = s.fs ∧
    (mtbRead s).2.scene = s.scene ∧
    (mtbRead s).2.jtag = s.jtag ∧
    (mtbRead s).2.boot = s.boot ∧
    (mtbRead s).2.period = s.period ∧
    (mtbRead s).2.pwr = s.pwr ∧
    (mtbRead s).2.scan = s.scan ∧
    (mtbRead s).2.lct = s.lct ∧
    (mtbRead s).2.tb = s.tb ∧
    (mtbRead s).2.tiles = s.tiles ∧
    (mtbRead s).2.handles = s.handles ∧
    (mtbRead s).2.dcx = s.dcx ∧
    (mtbRead s).2.mnt = s.mnt ∧
    (mtbRead s).2.comp = s.comp ∧
    (mtbRead s).2.thm = s.thm ∧
    (mtbRead s).2.gl = s.gl ∧
    (mtbRead s).2.link = s.link ∧
    (mtbRead s).2.ozd = s.ozd ∧
    (mtbRead s).2.lctc = s.lctc ∧
    (mtbRead s).2.msgq = s.msgq ∧
    (mtbRead s).2.wcapLevel = s.wcapLevel := by simp [tabRead_frame .., mtbRead]

theorem mtbWrite_frame (v : Word) (s : State) :
    (mtbWrite v s).pending = s.pending ∧
    (mtbWrite v s).fs = s.fs ∧
    (mtbWrite v s).scene = s.scene ∧
    (mtbWrite v s).jtag = s.jtag ∧
    (mtbWrite v s).boot = s.boot ∧
    (mtbWrite v s).period = s.period ∧
    (mtbWrite v s).pwr = s.pwr ∧
    (mtbWrite v s).scan = s.scan ∧
    (mtbWrite v s).lct = s.lct ∧
    (mtbWrite v s).tb = s.tb ∧
    (mtbWrite v s).tiles = s.tiles ∧
    (mtbWrite v s).handles = s.handles ∧
    (mtbWrite v s).dcx = s.dcx ∧
    (mtbWrite v s).mnt = s.mnt ∧
    (mtbWrite v s).comp = s.comp ∧
    (mtbWrite v s).thm = s.thm ∧
    (mtbWrite v s).gl = s.gl ∧
    (mtbWrite v s).link = s.link ∧
    (mtbWrite v s).ozd = s.ozd ∧
    (mtbWrite v s).lctc = s.lctc ∧
    (mtbWrite v s).msgq = s.msgq ∧
    (mtbWrite v s).wcapLevel = s.wcapLevel := by simp [tabWrite_frame .., mtbWrite]

end Sys2Proof.Machine
end

