-- ==== Sys2Proof/Laws/FrameChain.lean ====
section
/-!
SUPPORT. What each operation of Chain.lean leaves unchanged.
-/
namespace Sys2Proof.Machine

theorem tileEvent_frame (t : Nat) (s : State) :
    (tileEvent t s).pending = s.pending ∧
    (tileEvent t s).fs = s.fs ∧
    (tileEvent t s).scene = s.scene ∧
    (tileEvent t s).jtag = s.jtag ∧
    (tileEvent t s).boot = s.boot ∧
    (tileEvent t s).period = s.period ∧
    (tileEvent t s).pwr = s.pwr ∧
    (tileEvent t s).scan = s.scan ∧
    (tileEvent t s).lct = s.lct ∧
    (tileEvent t s).tb = s.tb ∧
    (tileEvent t s).tiles = s.tiles ∧
    (tileEvent t s).handles = s.handles ∧
    (tileEvent t s).dcx = s.dcx ∧
    (tileEvent t s).mnt = s.mnt ∧
    (tileEvent t s).comp = s.comp ∧
    (tileEvent t s).thm = s.thm ∧
    (tileEvent t s).gl = s.gl ∧
    (tileEvent t s).link = s.link ∧
    (tileEvent t s).ozd = s.ozd ∧
    (tileEvent t s).lctc = s.lctc ∧
    (tileEvent t s).wcapLevel = s.wcapLevel := by simp [raise_frame .., tileEvent]

theorem endBver_frame (t : Nat) (p : Path) (s : State) :
    (endBver t p s).pending = s.pending ∧
    (endBver t p s).fs = s.fs ∧
    (endBver t p s).scene = s.scene ∧
    (endBver t p s).jtag = s.jtag ∧
    (endBver t p s).boot = s.boot ∧
    (endBver t p s).period = s.period ∧
    (endBver t p s).pwr = s.pwr ∧
    (endBver t p s).scan = s.scan ∧
    (endBver t p s).lct = s.lct ∧
    (endBver t p s).tb = s.tb ∧
    (endBver t p s).tiles = s.tiles ∧
    (endBver t p s).handles = s.handles ∧
    (endBver t p s).dcx = s.dcx ∧
    (endBver t p s).comp = s.comp ∧
    (endBver t p s).thm = s.thm ∧
    (endBver t p s).gl = s.gl ∧
    (endBver t p s).link = s.link ∧
    (endBver t p s).ozd = s.ozd ∧
    (endBver t p s).lctc = s.lctc ∧
    (endBver t p s).msgq = s.msgq ∧
    (endBver t p s).wcapLevel = s.wcapLevel := by simp [endBver]

theorem failPath_frame (t : Nat) (p : Path) (cause : Nat) (s : State) :
    (failPath t p cause s).pending = s.pending ∧
    (failPath t p cause s).fs = s.fs ∧
    (failPath t p cause s).scene = s.scene ∧
    (failPath t p cause s).jtag = s.jtag ∧
    (failPath t p cause s).boot = s.boot ∧
    (failPath t p cause s).period = s.period ∧
    (failPath t p cause s).pwr = s.pwr ∧
    (failPath t p cause s).scan = s.scan ∧
    (failPath t p cause s).lct = s.lct ∧
    (failPath t p cause s).tb = s.tb ∧
    (failPath t p cause s).handles = s.handles ∧
    (failPath t p cause s).dcx = s.dcx ∧
    (failPath t p cause s).comp = s.comp ∧
    (failPath t p cause s).thm = s.thm ∧
    (failPath t p cause s).gl = s.gl ∧
    (failPath t p cause s).link = s.link ∧
    (failPath t p cause s).ozd = s.ozd ∧
    (failPath t p cause s).lctc = s.lctc ∧
    (failPath t p cause s).wcapLevel = s.wcapLevel := by simp [bumpSat_frame .., endBver_frame .., putTile_frame .., raise_frame .., failPath]

theorem writeLife_frame (t : Nat) (s : State) :
    (writeLife t s).pending = s.pending ∧
    (writeLife t s).fs = s.fs ∧
    (writeLife t s).scene = s.scene ∧
    (writeLife t s).jtag = s.jtag ∧
    (writeLife t s).boot = s.boot ∧
    (writeLife t s).period = s.period ∧
    (writeLife t s).pwr = s.pwr ∧
    (writeLife t s).scan = s.scan ∧
    (writeLife t s).lct = s.lct ∧
    (writeLife t s).tb = s.tb ∧
    (writeLife t s).tiles = s.tiles ∧
    (writeLife t s).handles = s.handles ∧
    (writeLife t s).dcx = s.dcx ∧
    (writeLife t s).mnt = s.mnt ∧
    (writeLife t s).comp = s.comp ∧
    (writeLife t s).thm = s.thm ∧
    (writeLife t s).gl = s.gl ∧
    (writeLife t s).link = s.link ∧
    (writeLife t s).lctc = s.lctc ∧
    (writeLife t s).msgq = s.msgq ∧
    (writeLife t s).wcapLevel = s.wcapLevel := by simp only [writeLife]; (repeat' split) <;> simp [ozRecord_frame ..]

theorem writeHeader_frame (t : Nat) (s : State) :
    (writeHeader t s).pending = s.pending ∧
    (writeHeader t s).fs = s.fs ∧
    (writeHeader t s).scene = s.scene ∧
    (writeHeader t s).jtag = s.jtag ∧
    (writeHeader t s).boot = s.boot ∧
    (writeHeader t s).period = s.period ∧
    (writeHeader t s).pwr = s.pwr ∧
    (writeHeader t s).scan = s.scan ∧
    (writeHeader t s).lct = s.lct ∧
    (writeHeader t s).tb = s.tb ∧
    (writeHeader t s).tiles = s.tiles ∧
    (writeHeader t s).handles = s.handles ∧
    (writeHeader t s).dcx = s.dcx ∧
    (writeHeader t s).mnt = s.mnt ∧
    (writeHeader t s).comp = s.comp ∧
    (writeHeader t s).thm = s.thm ∧
    (writeHeader t s).gl = s.gl ∧
    (writeHeader t s).link = s.link ∧
    (writeHeader t s).lctc = s.lctc ∧
    (writeHeader t s).msgq = s.msgq ∧
    (writeHeader t s).wcapLevel = s.wcapLevel := by simp only [writeHeader]; (repeat' split) <;> simp [ozRecord_frame ..]

theorem readHeaders_frame (s : State) :
    (readHeaders s).pending = s.pending ∧
    (readHeaders s).fs = s.fs ∧
    (readHeaders s).scene = s.scene ∧
    (readHeaders s).jtag = s.jtag ∧
    (readHeaders s).boot = s.boot ∧
    (readHeaders s).period = s.period ∧
    (readHeaders s).pwr = s.pwr ∧
    (readHeaders s).scan = s.scan ∧
    (readHeaders s).lct = s.lct ∧
    (readHeaders s).tb = s.tb ∧
    (readHeaders s).tiles = s.tiles ∧
    (readHeaders s).handles = s.handles ∧
    (readHeaders s).dcx = s.dcx ∧
    (readHeaders s).mnt = s.mnt ∧
    (readHeaders s).comp = s.comp ∧
    (readHeaders s).thm = s.thm ∧
    (readHeaders s).gl = s.gl ∧
    (readHeaders s).link = s.link ∧
    (readHeaders s).lctc = s.lctc ∧
    (readHeaders s).wcapLevel = s.wcapLevel := by simp [ozReads_frame .., readHeaders]

theorem openLife_frame (t : Nat) (s0 : State) :
    (openLife t s0).pending = s0.pending ∧
    (openLife t s0).fs = s0.fs ∧
    (openLife t s0).scene = s0.scene ∧
    (openLife t s0).jtag = s0.jtag ∧
    (openLife t s0).boot = s0.boot ∧
    (openLife t s0).period = s0.period ∧
    (openLife t s0).pwr = s0.pwr ∧
    (openLife t s0).scan = s0.scan ∧
    (openLife t s0).lct = s0.lct ∧
    (openLife t s0).tb = s0.tb ∧
    (openLife t s0).handles = s0.handles ∧
    (openLife t s0).dcx = s0.dcx ∧
    (openLife t s0).mnt = s0.mnt ∧
    (openLife t s0).comp = s0.comp ∧
    (openLife t s0).thm = s0.thm ∧
    (openLife t s0).gl = s0.gl ∧
    (openLife t s0).link = s0.link ∧
    (openLife t s0).lctc = s0.lctc ∧
    (openLife t s0).wcapLevel = s0.wcapLevel := by simp only [openLife]; (repeat' split) <;> simp [ozReadAt_frame .., putTile_frame .., readHeaders_frame .., writeHeader_frame .., writeLife_frame ..]

theorem newRef_frame (t : Nat) (s : State) (c : Nat) :
    (newRef t s c).pending = s.pending ∧
    (newRef t s c).fs = s.fs ∧
    (newRef t s c).scene = s.scene ∧
    (newRef t s c).jtag = s.jtag ∧
    (newRef t s c).boot = s.boot ∧
    (newRef t s c).period = s.period ∧
    (newRef t s c).pwr = s.pwr ∧
    (newRef t s c).scan = s.scan ∧
    (newRef t s c).lct = s.lct ∧
    (newRef t s c).tb = s.tb ∧
    (newRef t s c).tiles = s.tiles ∧
    (newRef t s c).handles = s.handles ∧
    (newRef t s c).dcx = s.dcx ∧
    (newRef t s c).mnt = s.mnt ∧
    (newRef t s c).comp = s.comp ∧
    (newRef t s c).thm = s.thm ∧
    (newRef t s c).gl = s.gl ∧
    (newRef t s c).link = s.link ∧
    (newRef t s c).ozd = s.ozd ∧
    (newRef t s c).lctc = s.lctc ∧
    (newRef t s c).wcapLevel = s.wcapLevel := by simp [raise_frame .., setRegFld_frame .., tickFree_frame .., newRef]

theorem newRefs_frame (t : Nat) (s : State) :
    (newRefs t s).pending = s.pending ∧
    (newRefs t s).fs = s.fs ∧
    (newRefs t s).scene = s.scene ∧
    (newRefs t s).jtag = s.jtag ∧
    (newRefs t s).boot = s.boot ∧
    (newRefs t s).period = s.period ∧
    (newRefs t s).pwr = s.pwr ∧
    (newRefs t s).scan = s.scan ∧
    (newRefs t s).lct = s.lct ∧
    (newRefs t s).tb = s.tb ∧
    (newRefs t s).tiles = s.tiles ∧
    (newRefs t s).handles = s.handles ∧
    (newRefs t s).dcx = s.dcx ∧
    (newRefs t s).mnt = s.mnt ∧
    (newRefs t s).comp = s.comp ∧
    (newRefs t s).thm = s.thm ∧
    (newRefs t s).gl = s.gl ∧
    (newRefs t s).link = s.link ∧
    (newRefs t s).ozd = s.ozd ∧
    (newRefs t s).lctc = s.lctc ∧
    (newRefs t s).wcapLevel = s.wcapLevel := by simp [newRef_frame .., newRefs]

theorem openResult_frame (t h j : Nat) (bad : Bool) (s : State) :
    (openResult t h j bad s).pending = s.pending ∧
    (openResult t h j bad s).fs = s.fs ∧
    (openResult t h j bad s).scene = s.scene ∧
    (openResult t h j bad s).jtag = s.jtag ∧
    (openResult t h j bad s).boot = s.boot ∧
    (openResult t h j bad s).period = s.period ∧
    (openResult t h j bad s).pwr = s.pwr ∧
    (openResult t h j bad s).scan = s.scan ∧
    (openResult t h j bad s).lct = s.lct ∧
    (openResult t h j bad s).tb = s.tb ∧
    (openResult t h j bad s).handles = s.handles ∧
    (openResult t h j bad s).dcx = s.dcx ∧
    (openResult t h j bad s).mnt = s.mnt ∧
    (openResult t h j bad s).comp = s.comp ∧
    (openResult t h j bad s).thm = s.thm ∧
    (openResult t h j bad s).gl = s.gl ∧
    (openResult t h j bad s).link = s.link ∧
    (openResult t h j bad s).ozd = s.ozd ∧
    (openResult t h j bad s).lctc = s.lctc ∧
    (openResult t h j bad s).wcapLevel = s.wcapLevel := by simp [putTile_frame .., raise_frame .., openResult]

theorem shortResult_frame (t h j : Nat) (bad : Bool) (s : State) :
    (shortResult t h j bad s).pending = s.pending ∧
    (shortResult t h j bad s).fs = s.fs ∧
    (shortResult t h j bad s).scene = s.scene ∧
    (shortResult t h j bad s).jtag = s.jtag ∧
    (shortResult t h j bad s).boot = s.boot ∧
    (shortResult t h j bad s).period = s.period ∧
    (shortResult t h j bad s).pwr = s.pwr ∧
    (shortResult t h j bad s).scan = s.scan ∧
    (shortResult t h j bad s).lct = s.lct ∧
    (shortResult t h j bad s).tb = s.tb ∧
    (shortResult t h j bad s).handles = s.handles ∧
    (shortResult t h j bad s).dcx = s.dcx ∧
    (shortResult t h j bad s).mnt = s.mnt ∧
    (shortResult t h j bad s).comp = s.comp ∧
    (shortResult t h j bad s).thm = s.thm ∧
    (shortResult t h j bad s).gl = s.gl ∧
    (shortResult t h j bad s).link = s.link ∧
    (shortResult t h j bad s).ozd = s.ozd ∧
    (shortResult t h j bad s).lctc = s.lctc ∧
    (shortResult t h j bad s).wcapLevel = s.wcapLevel := by simp [putTile_frame .., raise_frame .., shortResult]

theorem sinkResult_frame (t d m j force : Nat) (w : ChainWord) (s : State) :
    (sinkResult t d m j force w s).pending = s.pending ∧
    (sinkResult t d m j force w s).fs = s.fs ∧
    (sinkResult t d m j force w s).scene = s.scene ∧
    (sinkResult t d m j force w s).jtag = s.jtag ∧
    (sinkResult t d m j force w s).boot = s.boot ∧
    (sinkResult t d m j force w s).period = s.period ∧
    (sinkResult t d m j force w s).pwr = s.pwr ∧
    (sinkResult t d m j force w s).scan = s.scan ∧
    (sinkResult t d m j force w s).lct = s.lct ∧
    (sinkResult t d m j force w s).tb = s.tb ∧
    (sinkResult t d m j force w s).handles = s.handles ∧
    (sinkResult t d m j force w s).dcx = s.dcx ∧
    (sinkResult t d m j force w s).mnt = s.mnt ∧
    (sinkResult t d m j force w s).comp = s.comp ∧
    (sinkResult t d m j force w s).thm = s.thm ∧
    (sinkResult t d m j force w s).gl = s.gl ∧
    (sinkResult t d m j force w s).link = s.link ∧
    (sinkResult t d m j force w s).ozd = s.ozd ∧
    (sinkResult t d m j force w s).lctc = s.lctc ∧
    (sinkResult t d m j force w s).wcapLevel = s.wcapLevel := by simp [openResult_frame .., shortResult_frame .., sinkResult]

theorem pulseResult_frame (t dline : Nat) (w : ChainWord) (s : State) (q : Nat × Nat) :
    (pulseResult t dline w s q).pending = s.pending ∧
    (pulseResult t dline w s q).fs = s.fs ∧
    (pulseResult t dline w s q).scene = s.scene ∧
    (pulseResult t dline w s q).jtag = s.jtag ∧
    (pulseResult t dline w s q).boot = s.boot ∧
    (pulseResult t dline w s q).period = s.period ∧
    (pulseResult t dline w s q).pwr = s.pwr ∧
    (pulseResult t dline w s q).scan = s.scan ∧
    (pulseResult t dline w s q).lct = s.lct ∧
    (pulseResult t dline w s q).tb = s.tb ∧
    (pulseResult t dline w s q).handles = s.handles ∧
    (pulseResult t dline w s q).dcx = s.dcx ∧
    (pulseResult t dline w s q).mnt = s.mnt ∧
    (pulseResult t dline w s q).comp = s.comp ∧
    (pulseResult t dline w s q).thm = s.thm ∧
    (pulseResult t dline w s q).gl = s.gl ∧
    (pulseResult t dline w s q).link = s.link ∧
    (pulseResult t dline w s q).ozd = s.ozd ∧
    (pulseResult t dline w s q).lctc = s.lctc ∧
    (pulseResult t dline w s q).wcapLevel = s.wcapLevel := by simp [openResult_frame .., pulseResult]

theorem driverResult_frame (t : Nat) (r : StatusOf) (s : State) (q : ChainWord × Nat) :
    (driverResult t r s q).pending = s.pending ∧
    (driverResult t r s q).fs = s.fs ∧
    (driverResult t r s q).scene = s.scene ∧
    (driverResult t r s q).jtag = s.jtag ∧
    (driverResult t r s q).boot = s.boot ∧
    (driverResult t r s q).period = s.period ∧
    (driverResult t r s q).pwr = s.pwr ∧
    (driverResult t r s q).scan = s.scan ∧
    (driverResult t r s q).lct = s.lct ∧
    (driverResult t r s q).tb = s.tb ∧
    (driverResult t r s q).handles = s.handles ∧
    (driverResult t r s q).dcx = s.dcx ∧
    (driverResult t r s q).mnt = s.mnt ∧
    (driverResult t r s q).comp = s.comp ∧
    (driverResult t r s q).thm = s.thm ∧
    (driverResult t r s q).gl = s.gl ∧
    (driverResult t r s q).link = s.link ∧
    (driverResult t r s q).ozd = s.ozd ∧
    (driverResult t r s q).lctc = s.lctc ∧
    (driverResult t r s q).wcapLevel = s.wcapLevel := by simp only [driverResult]; (repeat' split) <;> simp [pulseResult_frame .., sinkResult_frame ..]

theorem startTrims_frame (t : Nat) (s : State) :
    (startTrims t s).pending = s.pending ∧
    (startTrims t s).fs = s.fs ∧
    (startTrims t s).scene = s.scene ∧
    (startTrims t s).jtag = s.jtag ∧
    (startTrims t s).boot = s.boot ∧
    (startTrims t s).period = s.period ∧
    (startTrims t s).pwr = s.pwr ∧
    (startTrims t s).scan = s.scan ∧
    (startTrims t s).lct = s.lct ∧
    (startTrims t s).tb = s.tb ∧
    (startTrims t s).handles = s.handles ∧
    (startTrims t s).dcx = s.dcx ∧
    (startTrims t s).mnt = s.mnt ∧
    (startTrims t s).comp = s.comp ∧
    (startTrims t s).thm = s.thm ∧
    (startTrims t s).gl = s.gl ∧
    (startTrims t s).link = s.link ∧
    (startTrims t s).ozd = s.ozd ∧
    (startTrims t s).lctc = s.lctc ∧
    (startTrims t s).msgq = s.msgq ∧
    (startTrims t s).wcapLevel = s.wcapLevel := by simp [putTile_frame .., startTrims]

theorem statusRead_frame (t : Nat) (r : StatusOf) (words : List ChainWord) (s : State) :
    (statusRead t r words s).pending = s.pending ∧
    (statusRead t r words s).fs = s.fs ∧
    (statusRead t r words s).scene = s.scene ∧
    (statusRead t r words s).jtag = s.jtag ∧
    (statusRead t r words s).boot = s.boot ∧
    (statusRead t r words s).period = s.period ∧
    (statusRead t r words s).pwr = s.pwr ∧
    (statusRead t r words s).scan = s.scan ∧
    (statusRead t r words s).lct = s.lct ∧
    (statusRead t r words s).tb = s.tb ∧
    (statusRead t r words s).handles = s.handles ∧
    (statusRead t r words s).dcx = s.dcx ∧
    (statusRead t r words s).mnt = s.mnt ∧
    (statusRead t r words s).comp = s.comp ∧
    (statusRead t r words s).thm = s.thm ∧
    (statusRead t r words s).gl = s.gl ∧
    (statusRead t r words s).link = s.link ∧
    (statusRead t r words s).ozd = s.ozd ∧
    (statusRead t r words s).lctc = s.lctc ∧
    (statusRead t r words s).wcapLevel = s.wcapLevel := by simp [driverResult_frame .., putTile_frame .., setRegN_frame .., startTrims_frame .., statusRead]

theorem trimDone_frame (t : Nat) (f : SentFrame) (s : State) :
    (trimDone t f s).pending = s.pending ∧
    (trimDone t f s).fs = s.fs ∧
    (trimDone t f s).scene = s.scene ∧
    (trimDone t f s).jtag = s.jtag ∧
    (trimDone t f s).boot = s.boot ∧
    (trimDone t f s).period = s.period ∧
    (trimDone t f s).pwr = s.pwr ∧
    (trimDone t f s).scan = s.scan ∧
    (trimDone t f s).lct = s.lct ∧
    (trimDone t f s).tb = s.tb ∧
    (trimDone t f s).handles = s.handles ∧
    (trimDone t f s).dcx = s.dcx ∧
    (trimDone t f s).mnt = s.mnt ∧
    (trimDone t f s).comp = s.comp ∧
    (trimDone t f s).thm = s.thm ∧
    (trimDone t f s).gl = s.gl ∧
    (trimDone t f s).link = s.link ∧
    (trimDone t f s).ozd = s.ozd ∧
    (trimDone t f s).lctc = s.lctc ∧
    (trimDone t f s).msgq = s.msgq ∧
    (trimDone t f s).wcapLevel = s.wcapLevel := by simp [putTile_frame .., trimDone]

theorem tileInit_frame (t : Nat) (s : State) :
    (tileInit t s).pending = s.pending ∧
    (tileInit t s).fs = s.fs ∧
    (tileInit t s).scene = s.scene ∧
    (tileInit t s).jtag = s.jtag ∧
    (tileInit t s).boot = s.boot ∧
    (tileInit t s).period = s.period ∧
    (tileInit t s).pwr = s.pwr ∧
    (tileInit t s).scan = s.scan ∧
    (tileInit t s).lct = s.lct ∧
    (tileInit t s).tb = s.tb ∧
    (tileInit t s).handles = s.handles ∧
    (tileInit t s).dcx = s.dcx ∧
    (tileInit t s).mnt = s.mnt ∧
    (tileInit t s).comp = s.comp ∧
    (tileInit t s).thm = s.thm ∧
    (tileInit t s).gl = s.gl ∧
    (tileInit t s).link = s.link ∧
    (tileInit t s).ozd = s.ozd ∧
    (tileInit t s).lctc = s.lctc ∧
    (tileInit t s).wcapLevel = s.wcapLevel := by simp [putTile_frame .., tileEvent_frame .., tileInit]

theorem readAgain_frame (t : Nat) (s : State) :
    (readAgain t s).pending = s.pending ∧
    (readAgain t s).fs = s.fs ∧
    (readAgain t s).scene = s.scene ∧
    (readAgain t s).jtag = s.jtag ∧
    (readAgain t s).boot = s.boot ∧
    (readAgain t s).period = s.period ∧
    (readAgain t s).pwr = s.pwr ∧
    (readAgain t s).scan = s.scan ∧
    (readAgain t s).lct = s.lct ∧
    (readAgain t s).tb = s.tb ∧
    (readAgain t s).handles = s.handles ∧
    (readAgain t s).dcx = s.dcx ∧
    (readAgain t s).mnt = s.mnt ∧
    (readAgain t s).comp = s.comp ∧
    (readAgain t s).thm = s.thm ∧
    (readAgain t s).gl = s.gl ∧
    (readAgain t s).link = s.link ∧
    (readAgain t s).ozd = s.ozd ∧
    (readAgain t s).lctc = s.lctc ∧
    (readAgain t s).msgq = s.msgq ∧
    (readAgain t s).wcapLevel = s.wcapLevel := by simp [putTile_frame .., readAgain]

theorem writeTimes_frame (s : State) (t : Nat) :
    (writeTimes s t).pending = s.pending ∧
    (writeTimes s t).fs = s.fs ∧
    (writeTimes s t).scene = s.scene ∧
    (writeTimes s t).jtag = s.jtag ∧
    (writeTimes s t).boot = s.boot ∧
    (writeTimes s t).period = s.period ∧
    (writeTimes s t).pwr = s.pwr ∧
    (writeTimes s t).scan = s.scan ∧
    (writeTimes s t).lct = s.lct ∧
    (writeTimes s t).tb = s.tb ∧
    (writeTimes s t).handles = s.handles ∧
    (writeTimes s t).dcx = s.dcx ∧
    (writeTimes s t).mnt = s.mnt ∧
    (writeTimes s t).comp = s.comp ∧
    (writeTimes s t).thm = s.thm ∧
    (writeTimes s t).gl = s.gl ∧
    (writeTimes s t).link = s.link ∧
    (writeTimes s t).ozd = s.ozd ∧
    (writeTimes s t).lctc = s.lctc ∧
    (writeTimes s t).msgq = s.msgq ∧
    (writeTimes s t).wcapLevel = s.wcapLevel := by simp [putTile_frame .., writeTimes]

theorem tellTimes_frame (s : State) :
    (tellTimes s).pending = s.pending ∧
    (tellTimes s).fs = s.fs ∧
    (tellTimes s).scene = s.scene ∧
    (tellTimes s).jtag = s.jtag ∧
    (tellTimes s).boot = s.boot ∧
    (tellTimes s).period = s.period ∧
    (tellTimes s).pwr = s.pwr ∧
    (tellTimes s).scan = s.scan ∧
    (tellTimes s).lct = s.lct ∧
    (tellTimes s).tb = s.tb ∧
    (tellTimes s).handles = s.handles ∧
    (tellTimes s).dcx = s.dcx ∧
    (tellTimes s).mnt = s.mnt ∧
    (tellTimes s).comp = s.comp ∧
    (tellTimes s).thm = s.thm ∧
    (tellTimes s).gl = s.gl ∧
    (tellTimes s).link = s.link ∧
    (tellTimes s).ozd = s.ozd ∧
    (tellTimes s).lctc = s.lctc ∧
    (tellTimes s).msgq = s.msgq ∧
    (tellTimes s).wcapLevel = s.wcapLevel := by simp [writeTimes_frame .., tellTimes]

theorem identityRead_frame (t : Nat) (w : ChainWord) (s : State) :
    (identityRead t w s).pending = s.pending ∧
    (identityRead t w s).fs = s.fs ∧
    (identityRead t w s).scene = s.scene ∧
    (identityRead t w s).jtag = s.jtag ∧
    (identityRead t w s).boot = s.boot ∧
    (identityRead t w s).period = s.period ∧
    (identityRead t w s).pwr = s.pwr ∧
    (identityRead t w s).scan = s.scan ∧
    (identityRead t w s).lct = s.lct ∧
    (identityRead t w s).tb = s.tb ∧
    (identityRead t w s).handles = s.handles ∧
    (identityRead t w s).dcx = s.dcx ∧
    (identityRead t w s).mnt = s.mnt ∧
    (identityRead t w s).comp = s.comp ∧
    (identityRead t w s).thm = s.thm ∧
    (identityRead t w s).gl = s.gl ∧
    (identityRead t w s).link = s.link ∧
    (identityRead t w s).lctc = s.lctc ∧
    (identityRead t w s).wcapLevel = s.wcapLevel := by simp [openLife_frame .., putTile_frame .., setReg_frame .., setRegN_frame .., identityRead]

theorem identityStep_frame (t : Nat) (words : List ChainWord) (s : State) :
    (identityStep t words s).pending = s.pending ∧
    (identityStep t words s).fs = s.fs ∧
    (identityStep t words s).scene = s.scene ∧
    (identityStep t words s).jtag = s.jtag ∧
    (identityStep t words s).boot = s.boot ∧
    (identityStep t words s).period = s.period ∧
    (identityStep t words s).pwr = s.pwr ∧
    (identityStep t words s).scan = s.scan ∧
    (identityStep t words s).lct = s.lct ∧
    (identityStep t words s).tb = s.tb ∧
    (identityStep t words s).handles = s.handles ∧
    (identityStep t words s).dcx = s.dcx ∧
    (identityStep t words s).mnt = s.mnt ∧
    (identityStep t words s).comp = s.comp ∧
    (identityStep t words s).thm = s.thm ∧
    (identityStep t words s).gl = s.gl ∧
    (identityStep t words s).link = s.link ∧
    (identityStep t words s).lctc = s.lctc ∧
    (identityStep t words s).wcapLevel = s.wcapLevel := by simp only [identityStep]; (repeat' split) <;> simp [identityRead_frame .., readAgain_frame .., tileEvent_frame ..]

theorem tileOn_frame (t : Nat) (s : State) :
    (tileOn t s).pending = s.pending ∧
    (tileOn t s).fs = s.fs ∧
    (tileOn t s).scene = s.scene ∧
    (tileOn t s).jtag = s.jtag ∧
    (tileOn t s).boot = s.boot ∧
    (tileOn t s).period = s.period ∧
    (tileOn t s).pwr = s.pwr ∧
    (tileOn t s).scan = s.scan ∧
    (tileOn t s).lct = s.lct ∧
    (tileOn t s).tb = s.tb ∧
    (tileOn t s).handles = s.handles ∧
    (tileOn t s).dcx = s.dcx ∧
    (tileOn t s).mnt = s.mnt ∧
    (tileOn t s).comp = s.comp ∧
    (tileOn t s).thm = s.thm ∧
    (tileOn t s).gl = s.gl ∧
    (tileOn t s).link = s.link ∧
    (tileOn t s).lctc = s.lctc ∧
    (tileOn t s).wcapLevel = s.wcapLevel := by simp [putTile_frame .., tileEvent_frame .., writeHeader_frame .., tileOn]

theorem tileAbsent_frame (t : Nat) (s : State) :
    (tileAbsent t s).pending = s.pending ∧
    (tileAbsent t s).fs = s.fs ∧
    (tileAbsent t s).scene = s.scene ∧
    (tileAbsent t s).jtag = s.jtag ∧
    (tileAbsent t s).boot = s.boot ∧
    (tileAbsent t s).period = s.period ∧
    (tileAbsent t s).pwr = s.pwr ∧
    (tileAbsent t s).scan = s.scan ∧
    (tileAbsent t s).lct = s.lct ∧
    (tileAbsent t s).tb = s.tb ∧
    (tileAbsent t s).handles = s.handles ∧
    (tileAbsent t s).dcx = s.dcx ∧
    (tileAbsent t s).comp = s.comp ∧
    (tileAbsent t s).thm = s.thm ∧
    (tileAbsent t s).gl = s.gl ∧
    (tileAbsent t s).link = s.link ∧
    (tileAbsent t s).lctc = s.lctc ∧
    (tileAbsent t s).wcapLevel = s.wcapLevel := by simp [endBver_frame .., putTile_frame .., tileEvent_frame .., writeHeader_frame .., writeLife_frame .., tileAbsent]

end Sys2Proof.Machine
end

