-- ==== Sys2Proof/Laws/FrameBacklight.lean ====
section
/-!
SUPPORT. What each operation of Backlight.lean leaves unchanged.
-/
set_option linter.unusedSimpArgs false
namespace Sys2Proof.Machine

theorem lightBlock_frame (t : Nat) (s : State) (c : Nat) :
    (lightBlock t s c).pending = s.pending ∧
    (lightBlock t s c).fs = s.fs ∧
    (lightBlock t s c).scene = s.scene ∧
    (lightBlock t s c).jtag = s.jtag ∧
    (lightBlock t s c).boot = s.boot ∧
    (lightBlock t s c).period = s.period ∧
    (lightBlock t s c).pwr = s.pwr ∧
    (lightBlock t s c).scan = s.scan ∧
    (lightBlock t s c).lct = s.lct ∧
    (lightBlock t s c).tb = s.tb ∧
    (lightBlock t s c).handles = s.handles ∧
    (lightBlock t s c).dcx = s.dcx ∧
    (lightBlock t s c).mnt = s.mnt ∧
    (lightBlock t s c).comp = s.comp ∧
    (lightBlock t s c).thm = s.thm ∧
    (lightBlock t s c).gl = s.gl ∧
    (lightBlock t s c).link = s.link ∧
    (lightBlock t s c).ozd = s.ozd ∧
    (lightBlock t s c).lctc = s.lctc ∧
    (lightBlock t s c).wcapLevel = s.wcapLevel := by simp [putTile_frame .., raise_frame .., lightBlock]

theorem prepare_frame (t j : Nat) (cur : Bool) (s : State) :
    (prepare t j cur s).pending = s.pending ∧
    (prepare t j cur s).fs = s.fs ∧
    (prepare t j cur s).scene = s.scene ∧
    (prepare t j cur s).jtag = s.jtag ∧
    (prepare t j cur s).boot = s.boot ∧
    (prepare t j cur s).period = s.period ∧
    (prepare t j cur s).pwr = s.pwr ∧
    (prepare t j cur s).scan = s.scan ∧
    (prepare t j cur s).lct = s.lct ∧
    (prepare t j cur s).tb = s.tb ∧
    (prepare t j cur s).handles = s.handles ∧
    (prepare t j cur s).dcx = s.dcx ∧
    (prepare t j cur s).mnt = s.mnt ∧
    (prepare t j cur s).comp = s.comp ∧
    (prepare t j cur s).thm = s.thm ∧
    (prepare t j cur s).gl = s.gl ∧
    (prepare t j cur s).link = s.link ∧
    (prepare t j cur s).ozd = s.ozd ∧
    (prepare t j cur s).lctc = s.lctc ∧
    (prepare t j cur s).msgq = s.msgq ∧
    (prepare t j cur s).wcapLevel = s.wcapLevel := by simp [putTile_frame .., prepare]

theorem restorePath_frame (t : Nat) (s : State) :
    (restorePath t s).pending = s.pending ∧
    (restorePath t s).fs = s.fs ∧
    (restorePath t s).scene = s.scene ∧
    (restorePath t s).jtag = s.jtag ∧
    (restorePath t s).boot = s.boot ∧
    (restorePath t s).period = s.period ∧
    (restorePath t s).pwr = s.pwr ∧
    (restorePath t s).scan = s.scan ∧
    (restorePath t s).lct = s.lct ∧
    (restorePath t s).tb = s.tb ∧
    (restorePath t s).handles = s.handles ∧
    (restorePath t s).dcx = s.dcx ∧
    (restorePath t s).mnt = s.mnt ∧
    (restorePath t s).comp = s.comp ∧
    (restorePath t s).thm = s.thm ∧
    (restorePath t s).gl = s.gl ∧
    (restorePath t s).link = s.link ∧
    (restorePath t s).ozd = s.ozd ∧
    (restorePath t s).lctc = s.lctc ∧
    (restorePath t s).msgq = s.msgq ∧
    (restorePath t s).wcapLevel = s.wcapLevel := by simp only [restorePath]; (repeat' split) <;> simp [putTile_frame ..]

theorem startBver_frame (t : Nat) (s : State) :
    (startBver t s).pending = s.pending ∧
    (startBver t s).fs = s.fs ∧
    (startBver t s).scene = s.scene ∧
    (startBver t s).jtag = s.jtag ∧
    (startBver t s).boot = s.boot ∧
    (startBver t s).period = s.period ∧
    (startBver t s).pwr = s.pwr ∧
    (startBver t s).scan = s.scan ∧
    (startBver t s).lct = s.lct ∧
    (startBver t s).tb = s.tb ∧
    (startBver t s).handles = s.handles ∧
    (startBver t s).dcx = s.dcx ∧
    (startBver t s).comp = s.comp ∧
    (startBver t s).thm = s.thm ∧
    (startBver t s).gl = s.gl ∧
    (startBver t s).link = s.link ∧
    (startBver t s).ozd = s.ozd ∧
    (startBver t s).lctc = s.lctc ∧
    (startBver t s).msgq = s.msgq ∧
    (startBver t s).wcapLevel = s.wcapLevel := by simp only [startBver]; (repeat' split) <;> simp [endBver_frame .., putTile_frame ..]

theorem storeBoost_frame (t : Nat) (s : State) :
    (storeBoost t s).pending = s.pending ∧
    (storeBoost t s).fs = s.fs ∧
    (storeBoost t s).scene = s.scene ∧
    (storeBoost t s).jtag = s.jtag ∧
    (storeBoost t s).boot = s.boot ∧
    (storeBoost t s).period = s.period ∧
    (storeBoost t s).pwr = s.pwr ∧
    (storeBoost t s).scan = s.scan ∧
    (storeBoost t s).lct = s.lct ∧
    (storeBoost t s).tb = s.tb ∧
    (storeBoost t s).tiles = s.tiles ∧
    (storeBoost t s).handles = s.handles ∧
    (storeBoost t s).dcx = s.dcx ∧
    (storeBoost t s).mnt = s.mnt ∧
    (storeBoost t s).comp = s.comp ∧
    (storeBoost t s).thm = s.thm ∧
    (storeBoost t s).gl = s.gl ∧
    (storeBoost t s).link = s.link ∧
    (storeBoost t s).ozd = s.ozd ∧
    (storeBoost t s).lctc = s.lctc ∧
    (storeBoost t s).msgq = s.msgq ∧
    (storeBoost t s).wcapLevel = s.wcapLevel := by simp [setRegN_frame .., storeBoost]

theorem applyBlock_frame (t : Nat) (s : State) (b : Nat × Bool) :
    (applyBlock t s b).pending = s.pending ∧
    (applyBlock t s b).fs = s.fs ∧
    (applyBlock t s b).scene = s.scene ∧
    (applyBlock t s b).jtag = s.jtag ∧
    (applyBlock t s b).boot = s.boot ∧
    (applyBlock t s b).period = s.period ∧
    (applyBlock t s b).pwr = s.pwr ∧
    (applyBlock t s b).scan = s.scan ∧
    (applyBlock t s b).lct = s.lct ∧
    (applyBlock t s b).tb = s.tb ∧
    (applyBlock t s b).handles = s.handles ∧
    (applyBlock t s b).dcx = s.dcx ∧
    (applyBlock t s b).comp = s.comp ∧
    (applyBlock t s b).thm = s.thm ∧
    (applyBlock t s b).gl = s.gl ∧
    (applyBlock t s b).link = s.link ∧
    (applyBlock t s b).lctc = s.lctc ∧
    (applyBlock t s b).wcapLevel = s.wcapLevel := by simp [lightBlock_frame .., prepare_frame .., putTile_frame .., restorePath_frame .., startBver_frame .., storeBoost_frame .., tileAbsent_frame .., applyBlock]

theorem applyAt_frame (L : Nat) (s : State) :
    (applyAt L s).pending = s.pending ∧
    (applyAt L s).fs = s.fs ∧
    (applyAt L s).scene = s.scene ∧
    (applyAt L s).jtag = s.jtag ∧
    (applyAt L s).boot = s.boot ∧
    (applyAt L s).period = s.period ∧
    (applyAt L s).pwr = s.pwr ∧
    (applyAt L s).scan = s.scan ∧
    (applyAt L s).lct = s.lct ∧
    (applyAt L s).tb = s.tb ∧
    (applyAt L s).handles = s.handles ∧
    (applyAt L s).dcx = s.dcx ∧
    (applyAt L s).comp = s.comp ∧
    (applyAt L s).thm = s.thm ∧
    (applyAt L s).gl = s.gl ∧
    (applyAt L s).link = s.link ∧
    (applyAt L s).lctc = s.lctc ∧
    (applyAt L s).wcapLevel = s.wcapLevel := by
  unfold applyAt
  exact foldl_inv (fun q => q.pending = s.pending ∧ q.fs = s.fs ∧ q.scene = s.scene ∧ q.jtag = s.jtag ∧ q.boot = s.boot ∧ q.period = s.period ∧ q.pwr = s.pwr ∧ q.scan = s.scan ∧ q.lct = s.lct ∧ q.tb = s.tb ∧ q.handles = s.handles ∧ q.dcx = s.dcx ∧ q.comp = s.comp ∧ q.thm = s.thm ∧ q.gl = s.gl ∧ q.link = s.link ∧ q.lctc = s.lctc ∧ q.wcapLevel = s.wcapLevel) _
    (by intro q x h; cases hb : blockAt q x L <;> simp_all [applyBlock_frame ..]) _ _ (by simp [applyBlock_frame ..])

theorem applySkipped_frame (L : Nat) (s : State) :
    (applySkipped L s).pending = s.pending ∧
    (applySkipped L s).fs = s.fs ∧
    (applySkipped L s).scene = s.scene ∧
    (applySkipped L s).jtag = s.jtag ∧
    (applySkipped L s).boot = s.boot ∧
    (applySkipped L s).period = s.period ∧
    (applySkipped L s).pwr = s.pwr ∧
    (applySkipped L s).scan = s.scan ∧
    (applySkipped L s).lct = s.lct ∧
    (applySkipped L s).tb = s.tb ∧
    (applySkipped L s).handles = s.handles ∧
    (applySkipped L s).dcx = s.dcx ∧
    (applySkipped L s).comp = s.comp ∧
    (applySkipped L s).thm = s.thm ∧
    (applySkipped L s).gl = s.gl ∧
    (applySkipped L s).link = s.link ∧
    (applySkipped L s).lctc = s.lctc ∧
    (applySkipped L s).wcapLevel = s.wcapLevel := by simp [applyAt_frame .., applySkipped]

theorem firstBlock_frame (s : State) (t : Nat) :
    (firstBlock s t).pending = s.pending ∧
    (firstBlock s t).fs = s.fs ∧
    (firstBlock s t).scene = s.scene ∧
    (firstBlock s t).jtag = s.jtag ∧
    (firstBlock s t).boot = s.boot ∧
    (firstBlock s t).period = s.period ∧
    (firstBlock s t).pwr = s.pwr ∧
    (firstBlock s t).scan = s.scan ∧
    (firstBlock s t).lct = s.lct ∧
    (firstBlock s t).tb = s.tb ∧
    (firstBlock s t).handles = s.handles ∧
    (firstBlock s t).dcx = s.dcx ∧
    (firstBlock s t).mnt = s.mnt ∧
    (firstBlock s t).comp = s.comp ∧
    (firstBlock s t).thm = s.thm ∧
    (firstBlock s t).gl = s.gl ∧
    (firstBlock s t).link = s.link ∧
    (firstBlock s t).ozd = s.ozd ∧
    (firstBlock s t).lctc = s.lctc ∧
    (firstBlock s t).msgq = s.msgq ∧
    (firstBlock s t).wcapLevel = s.wcapLevel := by simp [prepare_frame .., firstBlock]

theorem restTile_frame (s : State) (t : Nat) :
    (restTile s t).pending = s.pending ∧
    (restTile s t).fs = s.fs ∧
    (restTile s t).scene = s.scene ∧
    (restTile s t).jtag = s.jtag ∧
    (restTile s t).boot = s.boot ∧
    (restTile s t).period = s.period ∧
    (restTile s t).pwr = s.pwr ∧
    (restTile s t).scan = s.scan ∧
    (restTile s t).lct = s.lct ∧
    (restTile s t).tb = s.tb ∧
    (restTile s t).handles = s.handles ∧
    (restTile s t).dcx = s.dcx ∧
    (restTile s t).mnt = s.mnt ∧
    (restTile s t).comp = s.comp ∧
    (restTile s t).thm = s.thm ∧
    (restTile s t).gl = s.gl ∧
    (restTile s t).link = s.link ∧
    (restTile s t).ozd = s.ozd ∧
    (restTile s t).lctc = s.lctc ∧
    (restTile s t).msgq = s.msgq ∧
    (restTile s t).wcapLevel = s.wcapLevel := by simp [putTile_frame .., restTile]

theorem restTiles_frame (s : State) :
    (restTiles s).pending = s.pending ∧
    (restTiles s).fs = s.fs ∧
    (restTiles s).scene = s.scene ∧
    (restTiles s).jtag = s.jtag ∧
    (restTiles s).boot = s.boot ∧
    (restTiles s).period = s.period ∧
    (restTiles s).pwr = s.pwr ∧
    (restTiles s).scan = s.scan ∧
    (restTiles s).lct = s.lct ∧
    (restTiles s).tb = s.tb ∧
    (restTiles s).handles = s.handles ∧
    (restTiles s).dcx = s.dcx ∧
    (restTiles s).mnt = s.mnt ∧
    (restTiles s).comp = s.comp ∧
    (restTiles s).thm = s.thm ∧
    (restTiles s).gl = s.gl ∧
    (restTiles s).link = s.link ∧
    (restTiles s).ozd = s.ozd ∧
    (restTiles s).lctc = s.lctc ∧
    (restTiles s).msgq = s.msgq ∧
    (restTiles s).wcapLevel = s.wcapLevel := by simp [restTile_frame .., restTiles]

theorem goodSelected_frame (t : Nat) (p : Path) (f : SentFrame) (words : List ChainWord) (s : State) :
    (goodSelected t p f words s).pending = s.pending ∧
    (goodSelected t p f words s).fs = s.fs ∧
    (goodSelected t p f words s).scene = s.scene ∧
    (goodSelected t p f words s).jtag = s.jtag ∧
    (goodSelected t p f words s).boot = s.boot ∧
    (goodSelected t p f words s).period = s.period ∧
    (goodSelected t p f words s).pwr = s.pwr ∧
    (goodSelected t p f words s).scan = s.scan ∧
    (goodSelected t p f words s).lct = s.lct ∧
    (goodSelected t p f words s).tb = s.tb ∧
    (goodSelected t p f words s).handles = s.handles ∧
    (goodSelected t p f words s).dcx = s.dcx ∧
    (goodSelected t p f words s).mnt = s.mnt ∧
    (goodSelected t p f words s).comp = s.comp ∧
    (goodSelected t p f words s).thm = s.thm ∧
    (goodSelected t p f words s).gl = s.gl ∧
    (goodSelected t p f words s).link = s.link ∧
    (goodSelected t p f words s).lctc = s.lctc ∧
    (goodSelected t p f words s).wcapLevel = s.wcapLevel := by simp only [goodSelected]; (repeat' split) <;> simp [identityStep_frame .., putTile_frame .., statusRead_frame .., trimDone_frame ..]

theorem goodStandby_frame (t : Nat) (p : Path) (s : State) :
    (goodStandby t p s).pending = s.pending ∧
    (goodStandby t p s).fs = s.fs ∧
    (goodStandby t p s).scene = s.scene ∧
    (goodStandby t p s).jtag = s.jtag ∧
    (goodStandby t p s).boot = s.boot ∧
    (goodStandby t p s).period = s.period ∧
    (goodStandby t p s).pwr = s.pwr ∧
    (goodStandby t p s).scan = s.scan ∧
    (goodStandby t p s).lct = s.lct ∧
    (goodStandby t p s).tb = s.tb ∧
    (goodStandby t p s).handles = s.handles ∧
    (goodStandby t p s).dcx = s.dcx ∧
    (goodStandby t p s).mnt = s.mnt ∧
    (goodStandby t p s).comp = s.comp ∧
    (goodStandby t p s).thm = s.thm ∧
    (goodStandby t p s).gl = s.gl ∧
    (goodStandby t p s).link = s.link ∧
    (goodStandby t p s).ozd = s.ozd ∧
    (goodStandby t p s).lctc = s.lctc ∧
    (goodStandby t p s).msgq = s.msgq ∧
    (goodStandby t p s).wcapLevel = s.wcapLevel := by simp [putTile_frame .., goodStandby]

theorem goodIdle_frame (t : Nat) (p : Path) (f : SentFrame) (s : State) :
    (goodIdle t p f s).pending = s.pending ∧
    (goodIdle t p f s).fs = s.fs ∧
    (goodIdle t p f s).scene = s.scene ∧
    (goodIdle t p f s).jtag = s.jtag ∧
    (goodIdle t p f s).boot = s.boot ∧
    (goodIdle t p f s).period = s.period ∧
    (goodIdle t p f s).pwr = s.pwr ∧
    (goodIdle t p f s).scan = s.scan ∧
    (goodIdle t p f s).lct = s.lct ∧
    (goodIdle t p f s).tb = s.tb ∧
    (goodIdle t p f s).handles = s.handles ∧
    (goodIdle t p f s).dcx = s.dcx ∧
    (goodIdle t p f s).comp = s.comp ∧
    (goodIdle t p f s).thm = s.thm ∧
    (goodIdle t p f s).gl = s.gl ∧
    (goodIdle t p f s).link = s.link ∧
    (goodIdle t p f s).ozd = s.ozd ∧
    (goodIdle t p f s).lctc = s.lctc ∧
    (goodIdle t p f s).wcapLevel = s.wcapLevel := by simp only [goodIdle]; (repeat' split) <;> simp [mntFinish_frame .., putTile_frame .., raise_frame ..]

theorem goodAbsent_frame (t : Nat) (p : Path) (f : SentFrame) (resp : Bool) (s : State) :
    (goodAbsent t p f resp s).pending = s.pending ∧
    (goodAbsent t p f resp s).fs = s.fs ∧
    (goodAbsent t p f resp s).scene = s.scene ∧
    (goodAbsent t p f resp s).jtag = s.jtag ∧
    (goodAbsent t p f resp s).boot = s.boot ∧
    (goodAbsent t p f resp s).period = s.period ∧
    (goodAbsent t p f resp s).pwr = s.pwr ∧
    (goodAbsent t p f resp s).scan = s.scan ∧
    (goodAbsent t p f resp s).lct = s.lct ∧
    (goodAbsent t p f resp s).tb = s.tb ∧
    (goodAbsent t p f resp s).handles = s.handles ∧
    (goodAbsent t p f resp s).dcx = s.dcx ∧
    (goodAbsent t p f resp s).mnt = s.mnt ∧
    (goodAbsent t p f resp s).comp = s.comp ∧
    (goodAbsent t p f resp s).thm = s.thm ∧
    (goodAbsent t p f resp s).gl = s.gl ∧
    (goodAbsent t p f resp s).link = s.link ∧
    (goodAbsent t p f resp s).ozd = s.ozd ∧
    (goodAbsent t p f resp s).lctc = s.lctc ∧
    (goodAbsent t p f resp s).wcapLevel = s.wcapLevel := by simp [putTile_frame .., tileInit_frame .., goodAbsent]

theorem badFrame_frame (t : Nat) (p : Path) (f : SentFrame) (s : State) :
    (badFrame t p f s).pending = s.pending ∧
    (badFrame t p f s).fs = s.fs ∧
    (badFrame t p f s).scene = s.scene ∧
    (badFrame t p f s).jtag = s.jtag ∧
    (badFrame t p f s).boot = s.boot ∧
    (badFrame t p f s).period = s.period ∧
    (badFrame t p f s).pwr = s.pwr ∧
    (badFrame t p f s).scan = s.scan ∧
    (badFrame t p f s).lct = s.lct ∧
    (badFrame t p f s).tb = s.tb ∧
    (badFrame t p f s).handles = s.handles ∧
    (badFrame t p f s).dcx = s.dcx ∧
    (badFrame t p f s).comp = s.comp ∧
    (badFrame t p f s).thm = s.thm ∧
    (badFrame t p f s).gl = s.gl ∧
    (badFrame t p f s).link = s.link ∧
    (badFrame t p f s).ozd = s.ozd ∧
    (badFrame t p f s).lctc = s.lctc ∧
    (badFrame t p f s).wcapLevel = s.wcapLevel := by simp only [badFrame]; (repeat' split) <;> simp [bumpSat_frame .., failPath_frame .., mntFinish_frame .., putTile_frame ..]

theorem takeOver_frame (t : Nat) (p : Path) (s : State) :
    (takeOver t p s).pending = s.pending ∧
    (takeOver t p s).fs = s.fs ∧
    (takeOver t p s).scene = s.scene ∧
    (takeOver t p s).jtag = s.jtag ∧
    (takeOver t p s).boot = s.boot ∧
    (takeOver t p s).period = s.period ∧
    (takeOver t p s).pwr = s.pwr ∧
    (takeOver t p s).scan = s.scan ∧
    (takeOver t p s).lct = s.lct ∧
    (takeOver t p s).tb = s.tb ∧
    (takeOver t p s).handles = s.handles ∧
    (takeOver t p s).dcx = s.dcx ∧
    (takeOver t p s).mnt = s.mnt ∧
    (takeOver t p s).comp = s.comp ∧
    (takeOver t p s).thm = s.thm ∧
    (takeOver t p s).gl = s.gl ∧
    (takeOver t p s).link = s.link ∧
    (takeOver t p s).ozd = s.ozd ∧
    (takeOver t p s).lctc = s.lctc ∧
    (takeOver t p s).wcapLevel = s.wcapLevel := by simp [bumpSat_frame .., putTile_frame .., raise_frame .., takeOver]

theorem chainResponse_frame (t : Nat) (p : Path) (words : List ChainWord) (s : State) :
    (chainResponse t p words s).pending = s.pending ∧
    (chainResponse t p words s).fs = s.fs ∧
    (chainResponse t p words s).scene = s.scene ∧
    (chainResponse t p words s).jtag = s.jtag ∧
    (chainResponse t p words s).boot = s.boot ∧
    (chainResponse t p words s).period = s.period ∧
    (chainResponse t p words s).pwr = s.pwr ∧
    (chainResponse t p words s).scan = s.scan ∧
    (chainResponse t p words s).lct = s.lct ∧
    (chainResponse t p words s).tb = s.tb ∧
    (chainResponse t p words s).handles = s.handles ∧
    (chainResponse t p words s).dcx = s.dcx ∧
    (chainResponse t p words s).comp = s.comp ∧
    (chainResponse t p words s).thm = s.thm ∧
    (chainResponse t p words s).gl = s.gl ∧
    (chainResponse t p words s).link = s.link ∧
    (chainResponse t p words s).lctc = s.lctc ∧
    (chainResponse t p words s).wcapLevel = s.wcapLevel := by simp [badFrame_frame .., goodAbsent_frame .., goodIdle_frame .., goodSelected_frame .., goodStandby_frame .., takeOver_frame .., chainResponse]

theorem askBver_frame (t : Nat) (p : Path) (host : Bool) (s : State) :
    (askBver t p host s).pending = s.pending ∧
    (askBver t p host s).fs = s.fs ∧
    (askBver t p host s).scene = s.scene ∧
    (askBver t p host s).jtag = s.jtag ∧
    (askBver t p host s).boot = s.boot ∧
    (askBver t p host s).period = s.period ∧
    (askBver t p host s).pwr = s.pwr ∧
    (askBver t p host s).scan = s.scan ∧
    (askBver t p host s).lct = s.lct ∧
    (askBver t p host s).tb = s.tb ∧
    (askBver t p host s).tiles = s.tiles ∧
    (askBver t p host s).handles = s.handles ∧
    (askBver t p host s).dcx = s.dcx ∧
    (askBver t p host s).comp = s.comp ∧
    (askBver t p host s).thm = s.thm ∧
    (askBver t p host s).gl = s.gl ∧
    (askBver t p host s).link = s.link ∧
    (askBver t p host s).ozd = s.ozd ∧
    (askBver t p host s).lctc = s.lctc ∧
    (askBver t p host s).wcapLevel = s.wcapLevel := by simp [mntPush_frame .., askBver]

theorem effRestore_frame (t : Nat) (p : Path) (s : State) :
    (effRestore t p s).pending = s.pending ∧
    (effRestore t p s).fs = s.fs ∧
    (effRestore t p s).scene = s.scene ∧
    (effRestore t p s).jtag = s.jtag ∧
    (effRestore t p s).boot = s.boot ∧
    (effRestore t p s).period = s.period ∧
    (effRestore t p s).pwr = s.pwr ∧
    (effRestore t p s).scan = s.scan ∧
    (effRestore t p s).lct = s.lct ∧
    (effRestore t p s).tb = s.tb ∧
    (effRestore t p s).handles = s.handles ∧
    (effRestore t p s).dcx = s.dcx ∧
    (effRestore t p s).mnt = s.mnt ∧
    (effRestore t p s).comp = s.comp ∧
    (effRestore t p s).thm = s.thm ∧
    (effRestore t p s).gl = s.gl ∧
    (effRestore t p s).link = s.link ∧
    (effRestore t p s).ozd = s.ozd ∧
    (effRestore t p s).lctc = s.lctc ∧
    (effRestore t p s).msgq = s.msgq ∧
    (effRestore t p s).wcapLevel = s.wcapLevel := by simp [putTile_frame .., effRestore]

theorem effClearOpen_frame (t : Nat) (s : State) :
    (effClearOpen t s).pending = s.pending ∧
    (effClearOpen t s).fs = s.fs ∧
    (effClearOpen t s).scene = s.scene ∧
    (effClearOpen t s).jtag = s.jtag ∧
    (effClearOpen t s).boot = s.boot ∧
    (effClearOpen t s).period = s.period ∧
    (effClearOpen t s).pwr = s.pwr ∧
    (effClearOpen t s).scan = s.scan ∧
    (effClearOpen t s).lct = s.lct ∧
    (effClearOpen t s).tb = s.tb ∧
    (effClearOpen t s).handles = s.handles ∧
    (effClearOpen t s).dcx = s.dcx ∧
    (effClearOpen t s).mnt = s.mnt ∧
    (effClearOpen t s).comp = s.comp ∧
    (effClearOpen t s).thm = s.thm ∧
    (effClearOpen t s).gl = s.gl ∧
    (effClearOpen t s).link = s.link ∧
    (effClearOpen t s).ozd = s.ozd ∧
    (effClearOpen t s).lctc = s.lctc ∧
    (effClearOpen t s).msgq = s.msgq ∧
    (effClearOpen t s).wcapLevel = s.wcapLevel := by simp [putTile_frame .., effClearOpen]

theorem effReinit_frame (t : Nat) (s : State) :
    (effReinit t s).pending = s.pending ∧
    (effReinit t s).fs = s.fs ∧
    (effReinit t s).scene = s.scene ∧
    (effReinit t s).jtag = s.jtag ∧
    (effReinit t s).boot = s.boot ∧
    (effReinit t s).period = s.period ∧
    (effReinit t s).pwr = s.pwr ∧
    (effReinit t s).scan = s.scan ∧
    (effReinit t s).lct = s.lct ∧
    (effReinit t s).tb = s.tb ∧
    (effReinit t s).handles = s.handles ∧
    (effReinit t s).dcx = s.dcx ∧
    (effReinit t s).mnt = s.mnt ∧
    (effReinit t s).comp = s.comp ∧
    (effReinit t s).thm = s.thm ∧
    (effReinit t s).gl = s.gl ∧
    (effReinit t s).link = s.link ∧
    (effReinit t s).ozd = s.ozd ∧
    (effReinit t s).lctc = s.lctc ∧
    (effReinit t s).wcapLevel = s.wcapLevel := by simp [tileInit_frame .., effReinit]

theorem effTctl_frame (t : Nat) (v : Word) (s : State) :
    (effTctl t v s).pending = s.pending ∧
    (effTctl t v s).fs = s.fs ∧
    (effTctl t v s).scene = s.scene ∧
    (effTctl t v s).jtag = s.jtag ∧
    (effTctl t v s).boot = s.boot ∧
    (effTctl t v s).period = s.period ∧
    (effTctl t v s).pwr = s.pwr ∧
    (effTctl t v s).scan = s.scan ∧
    (effTctl t v s).lct = s.lct ∧
    (effTctl t v s).tb = s.tb ∧
    (effTctl t v s).handles = s.handles ∧
    (effTctl t v s).dcx = s.dcx ∧
    (effTctl t v s).comp = s.comp ∧
    (effTctl t v s).thm = s.thm ∧
    (effTctl t v s).gl = s.gl ∧
    (effTctl t v s).link = s.link ∧
    (effTctl t v s).ozd = s.ozd ∧
    (effTctl t v s).lctc = s.lctc ∧
    (effTctl t v s).wcapLevel = s.wcapLevel := by simp only [effTctl]; (repeat' split) <;> simp [askBver_frame .., effClearOpen_frame .., effReinit_frame .., effRestore_frame .., failPath_frame ..]

theorem tcRead_frame (s : State) :
    (tcRead s).2.pending = s.pending ∧
    (tcRead s).2.fs = s.fs ∧
    (tcRead s).2.scene = s.scene ∧
    (tcRead s).2.jtag = s.jtag ∧
    (tcRead s).2.boot = s.boot ∧
    (tcRead s).2.period = s.period ∧
    (tcRead s).2.pwr = s.pwr ∧
    (tcRead s).2.scan = s.scan ∧
    (tcRead s).2.lct = s.lct ∧
    (tcRead s).2.tb = s.tb ∧
    (tcRead s).2.tiles = s.tiles ∧
    (tcRead s).2.handles = s.handles ∧
    (tcRead s).2.dcx = s.dcx ∧
    (tcRead s).2.mnt = s.mnt ∧
    (tcRead s).2.comp = s.comp ∧
    (tcRead s).2.thm = s.thm ∧
    (tcRead s).2.gl = s.gl ∧
    (tcRead s).2.link = s.link ∧
    (tcRead s).2.ozd = s.ozd ∧
    (tcRead s).2.lctc = s.lctc ∧
    (tcRead s).2.msgq = s.msgq ∧
    (tcRead s).2.wcapLevel = s.wcapLevel := by simp [tabRead_frame .., tcRead]

theorem tcWrite_frame (v : Word) (s : State) :
    (tcWrite v s).pending = s.pending ∧
    (tcWrite v s).fs = s.fs ∧
    (tcWrite v s).scene = s.scene ∧
    (tcWrite v s).jtag = s.jtag ∧
    (tcWrite v s).boot = s.boot ∧
    (tcWrite v s).period = s.period ∧
    (tcWrite v s).pwr = s.pwr ∧
    (tcWrite v s).scan = s.scan ∧
    (tcWrite v s).lct = s.lct ∧
    (tcWrite v s).tb = s.tb ∧
    (tcWrite v s).tiles = s.tiles ∧
    (tcWrite v s).handles = s.handles ∧
    (tcWrite v s).dcx = s.dcx ∧
    (tcWrite v s).mnt = s.mnt ∧
    (tcWrite v s).comp = s.comp ∧
    (tcWrite v s).thm = s.thm ∧
    (tcWrite v s).gl = s.gl ∧
    (tcWrite v s).link = s.link ∧
    (tcWrite v s).ozd = s.ozd ∧
    (tcWrite v s).lctc = s.lctc ∧
    (tcWrite v s).msgq = s.msgq ∧
    (tcWrite v s).wcapLevel = s.wcapLevel := by simp [tabWrite_frame .., tcWrite]

end Sys2Proof.Machine
end

