-- ==== Sys2Proof/Laws/FrameIngest.lean ====
section
/-!
SUPPORT. What each operation of Ingest.lean leaves unchanged.
-/
namespace Sys2Proof.Machine

theorem leaveSlot_frame (n : Nat) (s : State) :
    (leaveSlot n s).pending = s.pending ∧
    (leaveSlot n s).fs = s.fs ∧
    (leaveSlot n s).scene = s.scene ∧
    (leaveSlot n s).jtag = s.jtag ∧
    (leaveSlot n s).boot = s.boot ∧
    (leaveSlot n s).period = s.period ∧
    (leaveSlot n s).pwr = s.pwr ∧
    (leaveSlot n s).scan = s.scan ∧
    (leaveSlot n s).lct = s.lct ∧
    (leaveSlot n s).tb = s.tb ∧
    (leaveSlot n s).tiles = s.tiles ∧
    (leaveSlot n s).handles = s.handles ∧
    (leaveSlot n s).mnt = s.mnt ∧
    (leaveSlot n s).comp = s.comp ∧
    (leaveSlot n s).thm = s.thm ∧
    (leaveSlot n s).gl = s.gl ∧
    (leaveSlot n s).link = s.link ∧
    (leaveSlot n s).ozd = s.ozd ∧
    (leaveSlot n s).lctc = s.lctc ∧
    (leaveSlot n s).msgq = s.msgq ∧
    (leaveSlot n s).wcapLevel = s.wcapLevel := by simp only [leaveSlot]; (repeat' split) <;> simp [putDcx_frame .., setRegFld_frame ..]

theorem markBad_frame (h : Nat) (s : State) :
    (markBad h s).pending = s.pending ∧
    (markBad h s).fs = s.fs ∧
    (markBad h s).scene = s.scene ∧
    (markBad h s).jtag = s.jtag ∧
    (markBad h s).boot = s.boot ∧
    (markBad h s).period = s.period ∧
    (markBad h s).pwr = s.pwr ∧
    (markBad h s).scan = s.scan ∧
    (markBad h s).lct = s.lct ∧
    (markBad h s).tb = s.tb ∧
    (markBad h s).tiles = s.tiles ∧
    (markBad h s).dcx = s.dcx ∧
    (markBad h s).mnt = s.mnt ∧
    (markBad h s).comp = s.comp ∧
    (markBad h s).thm = s.thm ∧
    (markBad h s).gl = s.gl ∧
    (markBad h s).link = s.link ∧
    (markBad h s).ozd = s.ozd ∧
    (markBad h s).lctc = s.lctc ∧
    (markBad h s).wcapLevel = s.wcapLevel := by simp [putHandle_frame .., raise_frame .., markBad]

theorem enterError_frame (n code : Nat) (s : State) :
    (enterError n code s).pending = s.pending ∧
    (enterError n code s).fs = s.fs ∧
    (enterError n code s).scene = s.scene ∧
    (enterError n code s).jtag = s.jtag ∧
    (enterError n code s).boot = s.boot ∧
    (enterError n code s).period = s.period ∧
    (enterError n code s).pwr = s.pwr ∧
    (enterError n code s).scan = s.scan ∧
    (enterError n code s).lct = s.lct ∧
    (enterError n code s).tb = s.tb ∧
    (enterError n code s).tiles = s.tiles ∧
    (enterError n code s).mnt = s.mnt ∧
    (enterError n code s).comp = s.comp ∧
    (enterError n code s).thm = s.thm ∧
    (enterError n code s).gl = s.gl ∧
    (enterError n code s).link = s.link ∧
    (enterError n code s).ozd = s.ozd ∧
    (enterError n code s).lctc = s.lctc ∧
    (enterError n code s).wcapLevel = s.wcapLevel := by simp only [enterError]; (repeat' split) <;> simp [bumpSat_frame .., leaveSlot_frame .., markBad_frame .., putDcx_frame .., raise_frame ..]

theorem closeContext_frame (n : Nat) (s : State) :
    (closeContext n s).pending = s.pending ∧
    (closeContext n s).fs = s.fs ∧
    (closeContext n s).scene = s.scene ∧
    (closeContext n s).jtag = s.jtag ∧
    (closeContext n s).boot = s.boot ∧
    (closeContext n s).period = s.period ∧
    (closeContext n s).pwr = s.pwr ∧
    (closeContext n s).scan = s.scan ∧
    (closeContext n s).lct = s.lct ∧
    (closeContext n s).tb = s.tb ∧
    (closeContext n s).tiles = s.tiles ∧
    (closeContext n s).handles = s.handles ∧
    (closeContext n s).mnt = s.mnt ∧
    (closeContext n s).comp = s.comp ∧
    (closeContext n s).thm = s.thm ∧
    (closeContext n s).gl = s.gl ∧
    (closeContext n s).link = s.link ∧
    (closeContext n s).ozd = s.ozd ∧
    (closeContext n s).lctc = s.lctc ∧
    (closeContext n s).msgq = s.msgq ∧
    (closeContext n s).wcapLevel = s.wcapLevel := by simp [leaveSlot_frame .., putDcx_frame .., closeContext]

theorem settle_frame (n : Nat) (s : State) :
    (settle n s).pending = s.pending ∧
    (settle n s).fs = s.fs ∧
    (settle n s).scene = s.scene ∧
    (settle n s).jtag = s.jtag ∧
    (settle n s).boot = s.boot ∧
    (settle n s).period = s.period ∧
    (settle n s).pwr = s.pwr ∧
    (settle n s).scan = s.scan ∧
    (settle n s).lct = s.lct ∧
    (settle n s).tb = s.tb ∧
    (settle n s).tiles = s.tiles ∧
    (settle n s).mnt = s.mnt ∧
    (settle n s).comp = s.comp ∧
    (settle n s).thm = s.thm ∧
    (settle n s).gl = s.gl ∧
    (settle n s).link = s.link ∧
    (settle n s).ozd = s.ozd ∧
    (settle n s).lctc = s.lctc ∧
    (settle n s).wcapLevel = s.wcapLevel := by simp only [settle]; (repeat' split) <;> simp [closeContext_frame .., enterError_frame ..]

theorem failContext_frame (n code bit : Nat) (s : State) :
    (failContext n code bit s).pending = s.pending ∧
    (failContext n code bit s).fs = s.fs ∧
    (failContext n code bit s).scene = s.scene ∧
    (failContext n code bit s).jtag = s.jtag ∧
    (failContext n code bit s).boot = s.boot ∧
    (failContext n code bit s).period = s.period ∧
    (failContext n code bit s).pwr = s.pwr ∧
    (failContext n code bit s).scan = s.scan ∧
    (failContext n code bit s).lct = s.lct ∧
    (failContext n code bit s).tb = s.tb ∧
    (failContext n code bit s).tiles = s.tiles ∧
    (failContext n code bit s).mnt = s.mnt ∧
    (failContext n code bit s).comp = s.comp ∧
    (failContext n code bit s).thm = s.thm ∧
    (failContext n code bit s).gl = s.gl ∧
    (failContext n code bit s).link = s.link ∧
    (failContext n code bit s).ozd = s.ozd ∧
    (failContext n code bit s).lctc = s.lctc ∧
    (failContext n code bit s).wcapLevel = s.wcapLevel := by simp [putDcx_frame .., settle_frame .., failContext]

theorem ctxResult_frame (n code : Nat) (s : State) :
    (ctxResult n code s).pending = s.pending ∧
    (ctxResult n code s).fs = s.fs ∧
    (ctxResult n code s).scene = s.scene ∧
    (ctxResult n code s).jtag = s.jtag ∧
    (ctxResult n code s).boot = s.boot ∧
    (ctxResult n code s).period = s.period ∧
    (ctxResult n code s).pwr = s.pwr ∧
    (ctxResult n code s).scan = s.scan ∧
    (ctxResult n code s).lct = s.lct ∧
    (ctxResult n code s).tb = s.tb ∧
    (ctxResult n code s).tiles = s.tiles ∧
    (ctxResult n code s).handles = s.handles ∧
    (ctxResult n code s).dcx = s.dcx ∧
    (ctxResult n code s).mnt = s.mnt ∧
    (ctxResult n code s).comp = s.comp ∧
    (ctxResult n code s).thm = s.thm ∧
    (ctxResult n code s).gl = s.gl ∧
    (ctxResult n code s).link = s.link ∧
    (ctxResult n code s).ozd = s.ozd ∧
    (ctxResult n code s).lctc = s.lctc ∧
    (ctxResult n code s).wcapLevel = s.wcapLevel := by simp [raise_frame .., setRegN_frame .., ctxResult]

theorem effOpen_frame (owner n : Nat) (s : State) :
    (effOpen owner n s).pending = s.pending ∧
    (effOpen owner n s).fs = s.fs ∧
    (effOpen owner n s).scene = s.scene ∧
    (effOpen owner n s).jtag = s.jtag ∧
    (effOpen owner n s).boot = s.boot ∧
    (effOpen owner n s).period = s.period ∧
    (effOpen owner n s).pwr = s.pwr ∧
    (effOpen owner n s).scan = s.scan ∧
    (effOpen owner n s).lct = s.lct ∧
    (effOpen owner n s).tb = s.tb ∧
    (effOpen owner n s).tiles = s.tiles ∧
    (effOpen owner n s).handles = s.handles ∧
    (effOpen owner n s).mnt = s.mnt ∧
    (effOpen owner n s).comp = s.comp ∧
    (effOpen owner n s).thm = s.thm ∧
    (effOpen owner n s).gl = s.gl ∧
    (effOpen owner n s).link = s.link ∧
    (effOpen owner n s).ozd = s.ozd ∧
    (effOpen owner n s).lctc = s.lctc ∧
    (effOpen owner n s).wcapLevel = s.wcapLevel := by simp [ctxResult_frame .., putDcx_frame .., effOpen]

theorem effClose_frame (n : Nat) (s : State) :
    (effClose n s).pending = s.pending ∧
    (effClose n s).fs = s.fs ∧
    (effClose n s).scene = s.scene ∧
    (effClose n s).jtag = s.jtag ∧
    (effClose n s).boot = s.boot ∧
    (effClose n s).period = s.period ∧
    (effClose n s).pwr = s.pwr ∧
    (effClose n s).scan = s.scan ∧
    (effClose n s).lct = s.lct ∧
    (effClose n s).tb = s.tb ∧
    (effClose n s).tiles = s.tiles ∧
    (effClose n s).mnt = s.mnt ∧
    (effClose n s).comp = s.comp ∧
    (effClose n s).thm = s.thm ∧
    (effClose n s).gl = s.gl ∧
    (effClose n s).link = s.link ∧
    (effClose n s).ozd = s.ozd ∧
    (effClose n s).lctc = s.lctc ∧
    (effClose n s).wcapLevel = s.wcapLevel := by simp only [effClose]; (repeat' split) <;> simp [closeContext_frame .., ctxResult_frame .., failContext_frame ..]

theorem effAbort_frame (n : Nat) (s : State) :
    (effAbort n s).pending = s.pending ∧
    (effAbort n s).fs = s.fs ∧
    (effAbort n s).scene = s.scene ∧
    (effAbort n s).jtag = s.jtag ∧
    (effAbort n s).boot = s.boot ∧
    (effAbort n s).period = s.period ∧
    (effAbort n s).pwr = s.pwr ∧
    (effAbort n s).scan = s.scan ∧
    (effAbort n s).lct = s.lct ∧
    (effAbort n s).tb = s.tb ∧
    (effAbort n s).tiles = s.tiles ∧
    (effAbort n s).mnt = s.mnt ∧
    (effAbort n s).comp = s.comp ∧
    (effAbort n s).thm = s.thm ∧
    (effAbort n s).gl = s.gl ∧
    (effAbort n s).link = s.link ∧
    (effAbort n s).ozd = s.ozd ∧
    (effAbort n s).lctc = s.lctc ∧
    (effAbort n s).wcapLevel = s.wcapLevel := by simp [ctxResult_frame .., putDcx_frame .., settle_frame .., effAbort]

theorem effCtxQuery_frame (n : Nat) (s : State) :
    (effCtxQuery n s).pending = s.pending ∧
    (effCtxQuery n s).fs = s.fs ∧
    (effCtxQuery n s).scene = s.scene ∧
    (effCtxQuery n s).jtag = s.jtag ∧
    (effCtxQuery n s).boot = s.boot ∧
    (effCtxQuery n s).period = s.period ∧
    (effCtxQuery n s).pwr = s.pwr ∧
    (effCtxQuery n s).scan = s.scan ∧
    (effCtxQuery n s).lct = s.lct ∧
    (effCtxQuery n s).tb = s.tb ∧
    (effCtxQuery n s).tiles = s.tiles ∧
    (effCtxQuery n s).handles = s.handles ∧
    (effCtxQuery n s).dcx = s.dcx ∧
    (effCtxQuery n s).mnt = s.mnt ∧
    (effCtxQuery n s).comp = s.comp ∧
    (effCtxQuery n s).thm = s.thm ∧
    (effCtxQuery n s).gl = s.gl ∧
    (effCtxQuery n s).link = s.link ∧
    (effCtxQuery n s).ozd = s.ozd ∧
    (effCtxQuery n s).lctc = s.lctc ∧
    (effCtxQuery n s).wcapLevel = s.wcapLevel := by simp [ctxResult_frame .., setRegN_frame .., effCtxQuery]

theorem effCtxCmd_frame (v : Word) (s : State) :
    (effCtxCmd v s).pending = s.pending ∧
    (effCtxCmd v s).fs = s.fs ∧
    (effCtxCmd v s).scene = s.scene ∧
    (effCtxCmd v s).jtag = s.jtag ∧
    (effCtxCmd v s).boot = s.boot ∧
    (effCtxCmd v s).period = s.period ∧
    (effCtxCmd v s).pwr = s.pwr ∧
    (effCtxCmd v s).scan = s.scan ∧
    (effCtxCmd v s).lct = s.lct ∧
    (effCtxCmd v s).tb = s.tb ∧
    (effCtxCmd v s).tiles = s.tiles ∧
    (effCtxCmd v s).mnt = s.mnt ∧
    (effCtxCmd v s).comp = s.comp ∧
    (effCtxCmd v s).thm = s.thm ∧
    (effCtxCmd v s).gl = s.gl ∧
    (effCtxCmd v s).link = s.link ∧
    (effCtxCmd v s).ozd = s.ozd ∧
    (effCtxCmd v s).lctc = s.lctc ∧
    (effCtxCmd v s).wcapLevel = s.wcapLevel := by simp only [effCtxCmd]; (repeat' split) <;> simp [ctxResult_frame .., effAbort_frame .., effClose_frame .., effCtxQuery_frame .., effOpen_frame ..]

theorem setDeRole_frame (e r : Nat) (s : State) :
    (setDeRole e r s).pending = s.pending ∧
    (setDeRole e r s).fs = s.fs ∧
    (setDeRole e r s).scene = s.scene ∧
    (setDeRole e r s).jtag = s.jtag ∧
    (setDeRole e r s).boot = s.boot ∧
    (setDeRole e r s).period = s.period ∧
    (setDeRole e r s).pwr = s.pwr ∧
    (setDeRole e r s).scan = s.scan ∧
    (setDeRole e r s).lct = s.lct ∧
    (setDeRole e r s).tb = s.tb ∧
    (setDeRole e r s).tiles = s.tiles ∧
    (setDeRole e r s).handles = s.handles ∧
    (setDeRole e r s).dcx = s.dcx ∧
    (setDeRole e r s).mnt = s.mnt ∧
    (setDeRole e r s).comp = s.comp ∧
    (setDeRole e r s).thm = s.thm ∧
    (setDeRole e r s).gl = s.gl ∧
    (setDeRole e r s).link = s.link ∧
    (setDeRole e r s).ozd = s.ozd ∧
    (setDeRole e r s).lctc = s.lctc ∧
    (setDeRole e r s).msgq = s.msgq ∧
    (setDeRole e r s).wcapLevel = s.wcapLevel := by simp [setRegFld_frame .., setDeRole]

theorem parkError_frame (n : Nat) (s : State) :
    (parkError n s).pending = s.pending ∧
    (parkError n s).fs = s.fs ∧
    (parkError n s).scene = s.scene ∧
    (parkError n s).jtag = s.jtag ∧
    (parkError n s).boot = s.boot ∧
    (parkError n s).period = s.period ∧
    (parkError n s).pwr = s.pwr ∧
    (parkError n s).scan = s.scan ∧
    (parkError n s).lct = s.lct ∧
    (parkError n s).tb = s.tb ∧
    (parkError n s).tiles = s.tiles ∧
    (parkError n s).handles = s.handles ∧
    (parkError n s).dcx = s.dcx ∧
    (parkError n s).comp = s.comp ∧
    (parkError n s).thm = s.thm ∧
    (parkError n s).gl = s.gl ∧
    (parkError n s).link = s.link ∧
    (parkError n s).ozd = s.ozd ∧
    (parkError n s).lctc = s.lctc ∧
    (parkError n s).wcapLevel = s.wcapLevel := by simp [uncorr_frame .., parkError]

theorem landScene_frame (off : Nat) (data : List Byte) (s : State) :
    (landScene off data s).pending = s.pending ∧
    (landScene off data s).jtag = s.jtag ∧
    (landScene off data s).boot = s.boot ∧
    (landScene off data s).period = s.period ∧
    (landScene off data s).pwr = s.pwr ∧
    (landScene off data s).scan = s.scan ∧
    (landScene off data s).lct = s.lct ∧
    (landScene off data s).tb = s.tb ∧
    (landScene off data s).tiles = s.tiles ∧
    (landScene off data s).handles = s.handles ∧
    (landScene off data s).dcx = s.dcx ∧
    (landScene off data s).comp = s.comp ∧
    (landScene off data s).thm = s.thm ∧
    (landScene off data s).gl = s.gl ∧
    (landScene off data s).link = s.link ∧
    (landScene off data s).ozd = s.ozd ∧
    (landScene off data s).lctc = s.lctc ∧
    (landScene off data s).wcapLevel = s.wcapLevel := by simp [memWrite_frame .., landScene]

theorem directWrite_frame (r : Req) (off : Nat) (data : List Byte) (s : State) :
    (directWrite r off data s).pending = s.pending ∧
    (directWrite r off data s).jtag = s.jtag ∧
    (directWrite r off data s).boot = s.boot ∧
    (directWrite r off data s).period = s.period ∧
    (directWrite r off data s).pwr = s.pwr ∧
    (directWrite r off data s).scan = s.scan ∧
    (directWrite r off data s).lct = s.lct ∧
    (directWrite r off data s).tb = s.tb ∧
    (directWrite r off data s).tiles = s.tiles ∧
    (directWrite r off data s).handles = s.handles ∧
    (directWrite r off data s).comp = s.comp ∧
    (directWrite r off data s).thm = s.thm ∧
    (directWrite r off data s).gl = s.gl ∧
    (directWrite r off data s).lctc = s.lctc ∧
    (directWrite r off data s).wcapLevel = s.wcapLevel := by simp [complete_frame .., landScene_frame .., nak_frame .., violate_frame .., directWrite]

theorem capPerform_frame (w : CapWrite) (s : State) :
    (capPerform w s).pending = s.pending ∧
    (capPerform w s).jtag = s.jtag ∧
    (capPerform w s).boot = s.boot ∧
    (capPerform w s).period = s.period ∧
    (capPerform w s).pwr = s.pwr ∧
    (capPerform w s).scan = s.scan ∧
    (capPerform w s).lct = s.lct ∧
    (capPerform w s).tb = s.tb ∧
    (capPerform w s).tiles = s.tiles ∧
    (capPerform w s).handles = s.handles ∧
    (capPerform w s).comp = s.comp ∧
    (capPerform w s).thm = s.thm ∧
    (capPerform w s).gl = s.gl ∧
    (capPerform w s).lctc = s.lctc ∧
    (capPerform w s).wcapLevel = s.wcapLevel := by simp only [capPerform]; (repeat' split) <;> simp [directWrite_frame .., memWrite_frame .., putDcx_frame ..]

theorem capWrite_frame (w : CapWrite) (s : State) :
    (capWrite w s).pending = s.pending ∧
    (capWrite w s).jtag = s.jtag ∧
    (capWrite w s).boot = s.boot ∧
    (capWrite w s).period = s.period ∧
    (capWrite w s).pwr = s.pwr ∧
    (capWrite w s).scan = s.scan ∧
    (capWrite w s).lct = s.lct ∧
    (capWrite w s).tb = s.tb ∧
    (capWrite w s).tiles = s.tiles ∧
    (capWrite w s).handles = s.handles ∧
    (capWrite w s).comp = s.comp ∧
    (capWrite w s).thm = s.thm ∧
    (capWrite w s).gl = s.gl ∧
    (capWrite w s).lctc = s.lctc := by simp [capPerform_frame .., capWrite]

theorem refillCap_frame (s : State) :
    (refillCap s).pending = s.pending ∧
    (refillCap s).fs = s.fs ∧
    (refillCap s).scene = s.scene ∧
    (refillCap s).jtag = s.jtag ∧
    (refillCap s).boot = s.boot ∧
    (refillCap s).period = s.period ∧
    (refillCap s).pwr = s.pwr ∧
    (refillCap s).scan = s.scan ∧
    (refillCap s).lct = s.lct ∧
    (refillCap s).tb = s.tb ∧
    (refillCap s).tiles = s.tiles ∧
    (refillCap s).handles = s.handles ∧
    (refillCap s).dcx = s.dcx ∧
    (refillCap s).mnt = s.mnt ∧
    (refillCap s).comp = s.comp ∧
    (refillCap s).thm = s.thm ∧
    (refillCap s).gl = s.gl ∧
    (refillCap s).link = s.link ∧
    (refillCap s).ozd = s.ozd ∧
    (refillCap s).lctc = s.lctc ∧
    (refillCap s).msgq = s.msgq := by simp [refillCap]

theorem writeOut_frame (n off : Nat) (data : List Byte) (s : State) :
    (writeOut n off data s).pending = s.pending ∧
    (writeOut n off data s).jtag = s.jtag ∧
    (writeOut n off data s).boot = s.boot ∧
    (writeOut n off data s).period = s.period ∧
    (writeOut n off data s).pwr = s.pwr ∧
    (writeOut n off data s).scan = s.scan ∧
    (writeOut n off data s).lct = s.lct ∧
    (writeOut n off data s).tb = s.tb ∧
    (writeOut n off data s).tiles = s.tiles ∧
    (writeOut n off data s).handles = s.handles ∧
    (writeOut n off data s).comp = s.comp ∧
    (writeOut n off data s).thm = s.thm ∧
    (writeOut n off data s).gl = s.gl ∧
    (writeOut n off data s).lctc = s.lctc := by simp [capWrite_frame .., writeOut]

theorem countOut_frame (e n : Nat) (s : State) :
    (countOut e n s).pending = s.pending ∧
    (countOut e n s).fs = s.fs ∧
    (countOut e n s).scene = s.scene ∧
    (countOut e n s).jtag = s.jtag ∧
    (countOut e n s).boot = s.boot ∧
    (countOut e n s).period = s.period ∧
    (countOut e n s).pwr = s.pwr ∧
    (countOut e n s).scan = s.scan ∧
    (countOut e n s).lct = s.lct ∧
    (countOut e n s).tb = s.tb ∧
    (countOut e n s).tiles = s.tiles ∧
    (countOut e n s).handles = s.handles ∧
    (countOut e n s).dcx = s.dcx ∧
    (countOut e n s).mnt = s.mnt ∧
    (countOut e n s).comp = s.comp ∧
    (countOut e n s).thm = s.thm ∧
    (countOut e n s).gl = s.gl ∧
    (countOut e n s).link = s.link ∧
    (countOut e n s).ozd = s.ozd ∧
    (countOut e n s).lctc = s.lctc ∧
    (countOut e n s).msgq = s.msgq ∧
    (countOut e n s).wcapLevel = s.wcapLevel := by simp [setRegN_frame .., countOut]

theorem dropTrailing_frame (n : Nat) (s : State) :
    (dropTrailing n s).pending = s.pending ∧
    (dropTrailing n s).fs = s.fs ∧
    (dropTrailing n s).scene = s.scene ∧
    (dropTrailing n s).jtag = s.jtag ∧
    (dropTrailing n s).boot = s.boot ∧
    (dropTrailing n s).period = s.period ∧
    (dropTrailing n s).pwr = s.pwr ∧
    (dropTrailing n s).scan = s.scan ∧
    (dropTrailing n s).lct = s.lct ∧
    (dropTrailing n s).tb = s.tb ∧
    (dropTrailing n s).tiles = s.tiles ∧
    (dropTrailing n s).handles = s.handles ∧
    (dropTrailing n s).mnt = s.mnt ∧
    (dropTrailing n s).comp = s.comp ∧
    (dropTrailing n s).thm = s.thm ∧
    (dropTrailing n s).gl = s.gl ∧
    (dropTrailing n s).link = s.link ∧
    (dropTrailing n s).ozd = s.ozd ∧
    (dropTrailing n s).lctc = s.lctc ∧
    (dropTrailing n s).msgq = s.msgq ∧
    (dropTrailing n s).wcapLevel = s.wcapLevel := by simp [bumpBySat_frame .., putDcx_frame .., dropTrailing]

theorem decodeOne_frame (n e : Nat) (s : State) :
    (decodeOne n e s).pending = s.pending ∧
    (decodeOne n e s).jtag = s.jtag ∧
    (decodeOne n e s).boot = s.boot ∧
    (decodeOne n e s).period = s.period ∧
    (decodeOne n e s).pwr = s.pwr ∧
    (decodeOne n e s).scan = s.scan ∧
    (decodeOne n e s).lct = s.lct ∧
    (decodeOne n e s).tb = s.tb ∧
    (decodeOne n e s).tiles = s.tiles ∧
    (decodeOne n e s).comp = s.comp ∧
    (decodeOne n e s).thm = s.thm ∧
    (decodeOne n e s).gl = s.gl ∧
    (decodeOne n e s).lctc = s.lctc := by simp only [decodeOne]; (repeat' split) <;> simp [countOut_frame .., dropTrailing_frame .., failContext_frame .., putDcx_frame .., writeOut_frame ..]

theorem streamReady_frame (h : Nat) (s : State) :
    (streamReady h s).pending = s.pending ∧
    (streamReady h s).fs = s.fs ∧
    (streamReady h s).scene = s.scene ∧
    (streamReady h s).jtag = s.jtag ∧
    (streamReady h s).boot = s.boot ∧
    (streamReady h s).period = s.period ∧
    (streamReady h s).pwr = s.pwr ∧
    (streamReady h s).scan = s.scan ∧
    (streamReady h s).lct = s.lct ∧
    (streamReady h s).tb = s.tb ∧
    (streamReady h s).tiles = s.tiles ∧
    (streamReady h s).dcx = s.dcx ∧
    (streamReady h s).mnt = s.mnt ∧
    (streamReady h s).comp = s.comp ∧
    (streamReady h s).thm = s.thm ∧
    (streamReady h s).gl = s.gl ∧
    (streamReady h s).link = s.link ∧
    (streamReady h s).ozd = s.ozd ∧
    (streamReady h s).lctc = s.lctc ∧
    (streamReady h s).wcapLevel = s.wcapLevel := by simp [raise_frame .., turnReady_frame .., streamReady]

theorem bputAccept_frame (r : Req) (n : Nat) (s : State) :
    (bputAccept r n s).pending = s.pending ∧
    (bputAccept r n s).fs = s.fs ∧
    (bputAccept r n s).scene = s.scene ∧
    (bputAccept r n s).jtag = s.jtag ∧
    (bputAccept r n s).boot = s.boot ∧
    (bputAccept r n s).period = s.period ∧
    (bputAccept r n s).pwr = s.pwr ∧
    (bputAccept r n s).scan = s.scan ∧
    (bputAccept r n s).lct = s.lct ∧
    (bputAccept r n s).tb = s.tb ∧
    (bputAccept r n s).tiles = s.tiles ∧
    (bputAccept r n s).handles = s.handles ∧
    (bputAccept r n s).mnt = s.mnt ∧
    (bputAccept r n s).comp = s.comp ∧
    (bputAccept r n s).thm = s.thm ∧
    (bputAccept r n s).gl = s.gl ∧
    (bputAccept r n s).link = s.link ∧
    (bputAccept r n s).ozd = s.ozd ∧
    (bputAccept r n s).lctc = s.lctc ∧
    (bputAccept r n s).msgq = s.msgq ∧
    (bputAccept r n s).wcapLevel = s.wcapLevel := by simp [bumpBySat_frame .., putDcx_frame .., bputAccept]

end Sys2Proof.Machine
end

