-- ==== Sys2Proof/Laws/FrameLaneTx.lean ====
section
/-!
SUPPORT. What each operation of LaneTx.lean leaves unchanged.
-/
set_option linter.unusedSimpArgs false
namespace Sys2Proof.Machine

theorem putAux_frame (l : Lane) (x : LaneAux) (s : State) :
    (putAux l x s).pending = s.pending ∧
    (putAux l x s).fs = s.fs ∧
    (putAux l x s).scene = s.scene ∧
    (putAux l x s).jtag = s.jtag ∧
    (putAux l x s).boot = s.boot ∧
    (putAux l x s).period = s.period ∧
    (putAux l x s).pwr = s.pwr ∧
    (putAux l x s).scan = s.scan ∧
    (putAux l x s).lct = s.lct ∧
    (putAux l x s).tb = s.tb ∧
    (putAux l x s).tiles = s.tiles ∧
    (putAux l x s).handles = s.handles ∧
    (putAux l x s).dcx = s.dcx ∧
    (putAux l x s).mnt = s.mnt ∧
    (putAux l x s).comp = s.comp ∧
    (putAux l x s).thm = s.thm ∧
    (putAux l x s).gl = s.gl ∧
    (putAux l x s).link = s.link ∧
    (putAux l x s).ozd = s.ozd ∧
    (putAux l x s).lctc = s.lctc ∧
    (putAux l x s).msgq = s.msgq ∧
    (putAux l x s).wcapLevel = s.wcapLevel := by simp [putLane_frame .., putAux]

theorem setLaneState_frame (l : Lane) (x : Nat) (s : State) :
    (setLaneState l x s).pending = s.pending ∧
    (setLaneState l x s).fs = s.fs ∧
    (setLaneState l x s).scene = s.scene ∧
    (setLaneState l x s).jtag = s.jtag ∧
    (setLaneState l x s).boot = s.boot ∧
    (setLaneState l x s).period = s.period ∧
    (setLaneState l x s).pwr = s.pwr ∧
    (setLaneState l x s).scan = s.scan ∧
    (setLaneState l x s).lct = s.lct ∧
    (setLaneState l x s).tb = s.tb ∧
    (setLaneState l x s).tiles = s.tiles ∧
    (setLaneState l x s).handles = s.handles ∧
    (setLaneState l x s).dcx = s.dcx ∧
    (setLaneState l x s).mnt = s.mnt ∧
    (setLaneState l x s).comp = s.comp ∧
    (setLaneState l x s).thm = s.thm ∧
    (setLaneState l x s).gl = s.gl ∧
    (setLaneState l x s).link = s.link ∧
    (setLaneState l x s).ozd = s.ozd ∧
    (setLaneState l x s).lctc = s.lctc ∧
    (setLaneState l x s).msgq = s.msgq ∧
    (setLaneState l x s).wcapLevel = s.wcapLevel := by simp [setRegFld_frame .., setLaneState]

theorem setLaneRole_frame (l : Lane) (x : Nat) (s : State) :
    (setLaneRole l x s).pending = s.pending ∧
    (setLaneRole l x s).fs = s.fs ∧
    (setLaneRole l x s).scene = s.scene ∧
    (setLaneRole l x s).jtag = s.jtag ∧
    (setLaneRole l x s).boot = s.boot ∧
    (setLaneRole l x s).period = s.period ∧
    (setLaneRole l x s).pwr = s.pwr ∧
    (setLaneRole l x s).scan = s.scan ∧
    (setLaneRole l x s).lct = s.lct ∧
    (setLaneRole l x s).tb = s.tb ∧
    (setLaneRole l x s).tiles = s.tiles ∧
    (setLaneRole l x s).handles = s.handles ∧
    (setLaneRole l x s).dcx = s.dcx ∧
    (setLaneRole l x s).mnt = s.mnt ∧
    (setLaneRole l x s).comp = s.comp ∧
    (setLaneRole l x s).thm = s.thm ∧
    (setLaneRole l x s).gl = s.gl ∧
    (setLaneRole l x s).link = s.link ∧
    (setLaneRole l x s).ozd = s.ozd ∧
    (setLaneRole l x s).lctc = s.lctc ∧
    (setLaneRole l x s).msgq = s.msgq ∧
    (setLaneRole l x s).wcapLevel = s.wcapLevel := by simp [setRegFld_frame .., setLaneRole]

theorem setLaneCopy_frame (l : Lane) (x : Nat) (s : State) :
    (setLaneCopy l x s).pending = s.pending ∧
    (setLaneCopy l x s).fs = s.fs ∧
    (setLaneCopy l x s).scene = s.scene ∧
    (setLaneCopy l x s).jtag = s.jtag ∧
    (setLaneCopy l x s).boot = s.boot ∧
    (setLaneCopy l x s).period = s.period ∧
    (setLaneCopy l x s).pwr = s.pwr ∧
    (setLaneCopy l x s).scan = s.scan ∧
    (setLaneCopy l x s).lct = s.lct ∧
    (setLaneCopy l x s).tb = s.tb ∧
    (setLaneCopy l x s).tiles = s.tiles ∧
    (setLaneCopy l x s).handles = s.handles ∧
    (setLaneCopy l x s).dcx = s.dcx ∧
    (setLaneCopy l x s).mnt = s.mnt ∧
    (setLaneCopy l x s).comp = s.comp ∧
    (setLaneCopy l x s).thm = s.thm ∧
    (setLaneCopy l x s).gl = s.gl ∧
    (setLaneCopy l x s).link = s.link ∧
    (setLaneCopy l x s).ozd = s.ozd ∧
    (setLaneCopy l x s).lctc = s.lctc ∧
    (setLaneCopy l x s).msgq = s.msgq ∧
    (setLaneCopy l x s).wcapLevel = s.wcapLevel := by simp [setRegFld_frame .., setLaneCopy]

theorem setLaneCause_frame (l : Lane) (x : Nat) (s : State) :
    (setLaneCause l x s).pending = s.pending ∧
    (setLaneCause l x s).fs = s.fs ∧
    (setLaneCause l x s).scene = s.scene ∧
    (setLaneCause l x s).jtag = s.jtag ∧
    (setLaneCause l x s).boot = s.boot ∧
    (setLaneCause l x s).period = s.period ∧
    (setLaneCause l x s).pwr = s.pwr ∧
    (setLaneCause l x s).scan = s.scan ∧
    (setLaneCause l x s).lct = s.lct ∧
    (setLaneCause l x s).tb = s.tb ∧
    (setLaneCause l x s).tiles = s.tiles ∧
    (setLaneCause l x s).handles = s.handles ∧
    (setLaneCause l x s).dcx = s.dcx ∧
    (setLaneCause l x s).mnt = s.mnt ∧
    (setLaneCause l x s).comp = s.comp ∧
    (setLaneCause l x s).thm = s.thm ∧
    (setLaneCause l x s).gl = s.gl ∧
    (setLaneCause l x s).link = s.link ∧
    (setLaneCause l x s).ozd = s.ozd ∧
    (setLaneCause l x s).lctc = s.lctc ∧
    (setLaneCause l x s).msgq = s.msgq ∧
    (setLaneCause l x s).wcapLevel = s.wcapLevel := by simp [setRegFld_frame .., setLaneCause]

theorem copyLine_frame (num : Nat) (tx : LaneTx) (marked : Bool) (s : State) (y : Lane) :
    (copyLine num tx marked s y).pending = s.pending ∧
    (copyLine num tx marked s y).fs = s.fs ∧
    (copyLine num tx marked s y).scene = s.scene ∧
    (copyLine num tx marked s y).jtag = s.jtag ∧
    (copyLine num tx marked s y).boot = s.boot ∧
    (copyLine num tx marked s y).period = s.period ∧
    (copyLine num tx marked s y).pwr = s.pwr ∧
    (copyLine num tx marked s y).scan = s.scan ∧
    (copyLine num tx marked s y).lct = s.lct ∧
    (copyLine num tx marked s y).tb = s.tb ∧
    (copyLine num tx marked s y).tiles = s.tiles ∧
    (copyLine num tx marked s y).handles = s.handles ∧
    (copyLine num tx marked s y).dcx = s.dcx ∧
    (copyLine num tx marked s y).mnt = s.mnt ∧
    (copyLine num tx marked s y).comp = s.comp ∧
    (copyLine num tx marked s y).thm = s.thm ∧
    (copyLine num tx marked s y).gl = s.gl ∧
    (copyLine num tx marked s y).link = s.link ∧
    (copyLine num tx marked s y).ozd = s.ozd ∧
    (copyLine num tx marked s y).lctc = s.lctc ∧
    (copyLine num tx marked s y).msgq = s.msgq ∧
    (copyLine num tx marked s y).wcapLevel = s.wcapLevel := by simp [putAux_frame .., copyLine]

theorem sentOn_frame (l : Lane) (tx : LaneTx) (s : State) :
    (sentOn l tx s).pending = s.pending ∧
    (sentOn l tx s).fs = s.fs ∧
    (sentOn l tx s).scene = s.scene ∧
    (sentOn l tx s).jtag = s.jtag ∧
    (sentOn l tx s).boot = s.boot ∧
    (sentOn l tx s).period = s.period ∧
    (sentOn l tx s).pwr = s.pwr ∧
    (sentOn l tx s).scan = s.scan ∧
    (sentOn l tx s).lct = s.lct ∧
    (sentOn l tx s).tb = s.tb ∧
    (sentOn l tx s).tiles = s.tiles ∧
    (sentOn l tx s).handles = s.handles ∧
    (sentOn l tx s).dcx = s.dcx ∧
    (sentOn l tx s).mnt = s.mnt ∧
    (sentOn l tx s).comp = s.comp ∧
    (sentOn l tx s).thm = s.thm ∧
    (sentOn l tx s).gl = s.gl ∧
    (sentOn l tx s).link = s.link ∧
    (sentOn l tx s).ozd = s.ozd ∧
    (sentOn l tx s).lctc = s.lctc ∧
    (sentOn l tx s).msgq = s.msgq ∧
    (sentOn l tx s).wcapLevel = s.wcapLevel := by simp [copyLine_frame .., putAux_frame .., sentOn]

theorem sendLane_frame (k : Nat) (b : List Byte) (s : State) :
    (sendLane k b s).pending = s.pending ∧
    (sendLane k b s).fs = s.fs ∧
    (sendLane k b s).scene = s.scene ∧
    (sendLane k b s).jtag = s.jtag ∧
    (sendLane k b s).boot = s.boot ∧
    (sendLane k b s).period = s.period ∧
    (sendLane k b s).pwr = s.pwr ∧
    (sendLane k b s).scan = s.scan ∧
    (sendLane k b s).lct = s.lct ∧
    (sendLane k b s).tb = s.tb ∧
    (sendLane k b s).tiles = s.tiles ∧
    (sendLane k b s).handles = s.handles ∧
    (sendLane k b s).dcx = s.dcx ∧
    (sendLane k b s).mnt = s.mnt ∧
    (sendLane k b s).comp = s.comp ∧
    (sendLane k b s).thm = s.thm ∧
    (sendLane k b s).gl = s.gl ∧
    (sendLane k b s).link = s.link ∧
    (sendLane k b s).ozd = s.ozd ∧
    (sendLane k b s).lctc = s.lctc ∧
    (sendLane k b s).msgq = s.msgq ∧
    (sendLane k b s).wcapLevel = s.wcapLevel := by simp only [sendLane]; (repeat' split) <;> simp [sentOn_frame ..]

theorem sendGroups_frame (gs : List (List Byte)) (s : State) :
    (sendGroups gs s).pending = s.pending ∧
    (sendGroups gs s).fs = s.fs ∧
    (sendGroups gs s).scene = s.scene ∧
    (sendGroups gs s).jtag = s.jtag ∧
    (sendGroups gs s).boot = s.boot ∧
    (sendGroups gs s).period = s.period ∧
    (sendGroups gs s).pwr = s.pwr ∧
    (sendGroups gs s).scan = s.scan ∧
    (sendGroups gs s).lct = s.lct ∧
    (sendGroups gs s).tb = s.tb ∧
    (sendGroups gs s).tiles = s.tiles ∧
    (sendGroups gs s).handles = s.handles ∧
    (sendGroups gs s).dcx = s.dcx ∧
    (sendGroups gs s).mnt = s.mnt ∧
    (sendGroups gs s).comp = s.comp ∧
    (sendGroups gs s).thm = s.thm ∧
    (sendGroups gs s).gl = s.gl ∧
    (sendGroups gs s).ozd = s.ozd ∧
    (sendGroups gs s).lctc = s.lctc ∧
    (sendGroups gs s).msgq = s.msgq ∧
    (sendGroups gs s).wcapLevel = s.wcapLevel := by simp [sendLane_frame .., setLink_frame .., sendGroups]

end Sys2Proof.Machine
end

