-- ==== Sys2Proof/Laws/FrameLinkCmd.lean ====
section
/-!
SUPPORT. What each operation of LinkCmd.lean leaves unchanged.
-/
namespace Sys2Proof.Machine

theorem violateReq_frame (typ reason : Nat) (r : Req) (s : State) :
    (violateReq typ reason r s).pending = s.pending ∧
    (violateReq typ reason r s).fs = s.fs ∧
    (violateReq typ reason r s).scene = s.scene ∧
    (violateReq typ reason r s).jtag = s.jtag ∧
    (violateReq typ reason r s).boot = s.boot ∧
    (violateReq typ reason r s).period = s.period ∧
    (violateReq typ reason r s).pwr = s.pwr ∧
    (violateReq typ reason r s).scan = s.scan ∧
    (violateReq typ reason r s).lct = s.lct ∧
    (violateReq typ reason r s).tb = s.tb ∧
    (violateReq typ reason r s).tiles = s.tiles ∧
    (violateReq typ reason r s).handles = s.handles ∧
    (violateReq typ reason r s).mnt = s.mnt ∧
    (violateReq typ reason r s).comp = s.comp ∧
    (violateReq typ reason r s).thm = s.thm ∧
    (violateReq typ reason r s).gl = s.gl ∧
    (violateReq typ reason r s).lctc = s.lctc ∧
    (violateReq typ reason r s).wcapLevel = s.wcapLevel := by simp [nak_frame .., violate_frame .., violateReq]

theorem ackFlits_frame (a : Byte) (s : State) :
    (ackFlits a s).pending = s.pending ∧
    (ackFlits a s).fs = s.fs ∧
    (ackFlits a s).scene = s.scene ∧
    (ackFlits a s).jtag = s.jtag ∧
    (ackFlits a s).boot = s.boot ∧
    (ackFlits a s).period = s.period ∧
    (ackFlits a s).pwr = s.pwr ∧
    (ackFlits a s).scan = s.scan ∧
    (ackFlits a s).lct = s.lct ∧
    (ackFlits a s).tb = s.tb ∧
    (ackFlits a s).tiles = s.tiles ∧
    (ackFlits a s).handles = s.handles ∧
    (ackFlits a s).dcx = s.dcx ∧
    (ackFlits a s).mnt = s.mnt ∧
    (ackFlits a s).comp = s.comp ∧
    (ackFlits a s).thm = s.thm ∧
    (ackFlits a s).gl = s.gl ∧
    (ackFlits a s).ozd = s.ozd ∧
    (ackFlits a s).lctc = s.lctc ∧
    (ackFlits a s).msgq = s.msgq ∧
    (ackFlits a s).wcapLevel = s.wcapLevel := by simp [setLink_frame .., ackFlits]

theorem sendFlit_frame (f : Flit) (s : State) :
    (sendFlit f s).pending = s.pending ∧
    (sendFlit f s).fs = s.fs ∧
    (sendFlit f s).scene = s.scene ∧
    (sendFlit f s).jtag = s.jtag ∧
    (sendFlit f s).boot = s.boot ∧
    (sendFlit f s).period = s.period ∧
    (sendFlit f s).pwr = s.pwr ∧
    (sendFlit f s).scan = s.scan ∧
    (sendFlit f s).lct = s.lct ∧
    (sendFlit f s).tb = s.tb ∧
    (sendFlit f s).tiles = s.tiles ∧
    (sendFlit f s).handles = s.handles ∧
    (sendFlit f s).dcx = s.dcx ∧
    (sendFlit f s).mnt = s.mnt ∧
    (sendFlit f s).comp = s.comp ∧
    (sendFlit f s).thm = s.thm ∧
    (sendFlit f s).gl = s.gl ∧
    (sendFlit f s).ozd = s.ozd ∧
    (sendFlit f s).lctc = s.lctc ∧
    (sendFlit f s).msgq = s.msgq ∧
    (sendFlit f s).wcapLevel = s.wcapLevel := by simp [sendGroups_frame .., setLink_frame .., sendFlit]

theorem replayAll_frame (s : State) :
    (replayAll s).pending = s.pending ∧
    (replayAll s).fs = s.fs ∧
    (replayAll s).scene = s.scene ∧
    (replayAll s).jtag = s.jtag ∧
    (replayAll s).boot = s.boot ∧
    (replayAll s).period = s.period ∧
    (replayAll s).pwr = s.pwr ∧
    (replayAll s).scan = s.scan ∧
    (replayAll s).lct = s.lct ∧
    (replayAll s).tb = s.tb ∧
    (replayAll s).tiles = s.tiles ∧
    (replayAll s).handles = s.handles ∧
    (replayAll s).dcx = s.dcx ∧
    (replayAll s).mnt = s.mnt ∧
    (replayAll s).comp = s.comp ∧
    (replayAll s).thm = s.thm ∧
    (replayAll s).gl = s.gl ∧
    (replayAll s).ozd = s.ozd ∧
    (replayAll s).lctc = s.lctc ∧
    (replayAll s).msgq = s.msgq ∧
    (replayAll s).wcapLevel = s.wcapLevel := by simp [bumpSat_frame .., sendFlit_frame .., setLink_frame .., replayAll]

theorem retryFlit_frame (ack : Byte) (s : State) :
    (retryFlit ack s).pending = s.pending ∧
    (retryFlit ack s).fs = s.fs ∧
    (retryFlit ack s).scene = s.scene ∧
    (retryFlit ack s).jtag = s.jtag ∧
    (retryFlit ack s).boot = s.boot ∧
    (retryFlit ack s).period = s.period ∧
    (retryFlit ack s).pwr = s.pwr ∧
    (retryFlit ack s).scan = s.scan ∧
    (retryFlit ack s).lct = s.lct ∧
    (retryFlit ack s).tb = s.tb ∧
    (retryFlit ack s).tiles = s.tiles ∧
    (retryFlit ack s).handles = s.handles ∧
    (retryFlit ack s).dcx = s.dcx ∧
    (retryFlit ack s).mnt = s.mnt ∧
    (retryFlit ack s).comp = s.comp ∧
    (retryFlit ack s).thm = s.thm ∧
    (retryFlit ack s).gl = s.gl ∧
    (retryFlit ack s).ozd = s.ozd ∧
    (retryFlit ack s).lctc = s.lctc ∧
    (retryFlit ack s).msgq = s.msgq ∧
    (retryFlit ack s).wcapLevel = s.wcapLevel := by simp [ackFlits_frame .., replayAll_frame .., retryFlit]

theorem discardFlit_frame (s : State) :
    (discardFlit s).pending = s.pending ∧
    (discardFlit s).fs = s.fs ∧
    (discardFlit s).scene = s.scene ∧
    (discardFlit s).jtag = s.jtag ∧
    (discardFlit s).boot = s.boot ∧
    (discardFlit s).period = s.period ∧
    (discardFlit s).pwr = s.pwr ∧
    (discardFlit s).scan = s.scan ∧
    (discardFlit s).lct = s.lct ∧
    (discardFlit s).tb = s.tb ∧
    (discardFlit s).tiles = s.tiles ∧
    (discardFlit s).handles = s.handles ∧
    (discardFlit s).dcx = s.dcx ∧
    (discardFlit s).mnt = s.mnt ∧
    (discardFlit s).comp = s.comp ∧
    (discardFlit s).thm = s.thm ∧
    (discardFlit s).gl = s.gl ∧
    (discardFlit s).ozd = s.ozd ∧
    (discardFlit s).lctc = s.lctc ∧
    (discardFlit s).msgq = s.msgq ∧
    (discardFlit s).wcapLevel = s.wcapLevel := by simp [sendFlit_frame .., setLink_frame .., discardFlit]

theorem updateInitAll_frame (s : State) :
    (updateInitAll s).pending = s.pending ∧
    (updateInitAll s).fs = s.fs ∧
    (updateInitAll s).scene = s.scene ∧
    (updateInitAll s).jtag = s.jtag ∧
    (updateInitAll s).boot = s.boot ∧
    (updateInitAll s).period = s.period ∧
    (updateInitAll s).pwr = s.pwr ∧
    (updateInitAll s).scan = s.scan ∧
    (updateInitAll s).lct = s.lct ∧
    (updateInitAll s).tb = s.tb ∧
    (updateInitAll s).tiles = s.tiles ∧
    (updateInitAll s).handles = s.handles ∧
    (updateInitAll s).dcx = s.dcx ∧
    (updateInitAll s).mnt = s.mnt ∧
    (updateInitAll s).comp = s.comp ∧
    (updateInitAll s).thm = s.thm ∧
    (updateInitAll s).gl = s.gl ∧
    (updateInitAll s).link = s.link ∧
    (updateInitAll s).ozd = s.ozd ∧
    (updateInitAll s).lctc = s.lctc ∧
    (updateInitAll s).msgq = s.msgq ∧
    (updateInitAll s).wcapLevel = s.wcapLevel := by simp [setRegBit_frame .., updateInitAll]

theorem creditUpdate_frame (m : Nat) (counts : List Nat) (init : Bool) (s : State) :
    (creditUpdate m counts init s).pending = s.pending ∧
    (creditUpdate m counts init s).fs = s.fs ∧
    (creditUpdate m counts init s).scene = s.scene ∧
    (creditUpdate m counts init s).jtag = s.jtag ∧
    (creditUpdate m counts init s).boot = s.boot ∧
    (creditUpdate m counts init s).period = s.period ∧
    (creditUpdate m counts init s).pwr = s.pwr ∧
    (creditUpdate m counts init s).scan = s.scan ∧
    (creditUpdate m counts init s).lct = s.lct ∧
    (creditUpdate m counts init s).tb = s.tb ∧
    (creditUpdate m counts init s).tiles = s.tiles ∧
    (creditUpdate m counts init s).handles = s.handles ∧
    (creditUpdate m counts init s).dcx = s.dcx ∧
    (creditUpdate m counts init s).mnt = s.mnt ∧
    (creditUpdate m counts init s).comp = s.comp ∧
    (creditUpdate m counts init s).thm = s.thm ∧
    (creditUpdate m counts init s).gl = s.gl ∧
    (creditUpdate m counts init s).ozd = s.ozd ∧
    (creditUpdate m counts init s).lctc = s.lctc ∧
    (creditUpdate m counts init s).msgq = s.msgq ∧
    (creditUpdate m counts init s).wcapLevel = s.wcapLevel := by simp [grantPools_frame .., setDevCredit_frame .., setLink_frame .., updateInitAll_frame .., creditUpdate]

theorem queueReq_frame (q : RxTxn) (s : State) :
    (queueReq q s).pending = s.pending ∧
    (queueReq q s).fs = s.fs ∧
    (queueReq q s).scene = s.scene ∧
    (queueReq q s).jtag = s.jtag ∧
    (queueReq q s).boot = s.boot ∧
    (queueReq q s).period = s.period ∧
    (queueReq q s).pwr = s.pwr ∧
    (queueReq q s).scan = s.scan ∧
    (queueReq q s).lct = s.lct ∧
    (queueReq q s).tb = s.tb ∧
    (queueReq q s).tiles = s.tiles ∧
    (queueReq q s).handles = s.handles ∧
    (queueReq q s).dcx = s.dcx ∧
    (queueReq q s).mnt = s.mnt ∧
    (queueReq q s).comp = s.comp ∧
    (queueReq q s).thm = s.thm ∧
    (queueReq q s).gl = s.gl ∧
    (queueReq q s).ozd = s.ozd ∧
    (queueReq q s).lctc = s.lctc ∧
    (queueReq q s).msgq = s.msgq ∧
    (queueReq q s).wcapLevel = s.wcapLevel := by simp [holdTag_frame .., setLink_frame .., queueReq]

theorem takeTxn_frame (a : Asm) (s : State) :
    (takeTxn a s).pending = s.pending ∧
    (takeTxn a s).fs = s.fs ∧
    (takeTxn a s).scene = s.scene ∧
    (takeTxn a s).jtag = s.jtag ∧
    (takeTxn a s).boot = s.boot ∧
    (takeTxn a s).period = s.period ∧
    (takeTxn a s).pwr = s.pwr ∧
    (takeTxn a s).scan = s.scan ∧
    (takeTxn a s).lct = s.lct ∧
    (takeTxn a s).tb = s.tb ∧
    (takeTxn a s).tiles = s.tiles ∧
    (takeTxn a s).handles = s.handles ∧
    (takeTxn a s).mnt = s.mnt ∧
    (takeTxn a s).comp = s.comp ∧
    (takeTxn a s).thm = s.thm ∧
    (takeTxn a s).gl = s.gl ∧
    (takeTxn a s).lctc = s.lctc ∧
    (takeTxn a s).wcapLevel = s.wcapLevel := by simp [creditUpdate_frame .., freeFlits_frame .., queueReq_frame .., violateReq_frame .., takeTxn]

theorem growTxn_frame (a : Asm) (last : Bool) (s : State) :
    (growTxn a last s).pending = s.pending ∧
    (growTxn a last s).fs = s.fs ∧
    (growTxn a last s).scene = s.scene ∧
    (growTxn a last s).jtag = s.jtag ∧
    (growTxn a last s).boot = s.boot ∧
    (growTxn a last s).period = s.period ∧
    (growTxn a last s).pwr = s.pwr ∧
    (growTxn a last s).scan = s.scan ∧
    (growTxn a last s).lct = s.lct ∧
    (growTxn a last s).tb = s.tb ∧
    (growTxn a last s).tiles = s.tiles ∧
    (growTxn a last s).handles = s.handles ∧
    (growTxn a last s).mnt = s.mnt ∧
    (growTxn a last s).comp = s.comp ∧
    (growTxn a last s).thm = s.thm ∧
    (growTxn a last s).gl = s.gl ∧
    (growTxn a last s).lctc = s.lctc ∧
    (growTxn a last s).wcapLevel = s.wcapLevel := by simp [setLink_frame .., takeTxn_frame .., growTxn]

theorem acceptFlit_frame (m : HostMaster) (vc : Fin 4) (kind : Nat) (last : Bool) (data : List Byte) (s : State) :
    (acceptFlit m vc kind last data s).pending = s.pending ∧
    (acceptFlit m vc kind last data s).fs = s.fs ∧
    (acceptFlit m vc kind last data s).scene = s.scene ∧
    (acceptFlit m vc kind last data s).jtag = s.jtag ∧
    (acceptFlit m vc kind last data s).boot = s.boot ∧
    (acceptFlit m vc kind last data s).period = s.period ∧
    (acceptFlit m vc kind last data s).pwr = s.pwr ∧
    (acceptFlit m vc kind last data s).scan = s.scan ∧
    (acceptFlit m vc kind last data s).lct = s.lct ∧
    (acceptFlit m vc kind last data s).tb = s.tb ∧
    (acceptFlit m vc kind last data s).tiles = s.tiles ∧
    (acceptFlit m vc kind last data s).handles = s.handles ∧
    (acceptFlit m vc kind last data s).mnt = s.mnt ∧
    (acceptFlit m vc kind last data s).comp = s.comp ∧
    (acceptFlit m vc kind last data s).thm = s.thm ∧
    (acceptFlit m vc kind last data s).gl = s.gl ∧
    (acceptFlit m vc kind last data s).lctc = s.lctc ∧
    (acceptFlit m vc kind last data s).wcapLevel = s.wcapLevel := by simp only [acceptFlit]; (repeat' split) <;> simp [growTxn_frame .., setLink_frame .., violateReq_frame ..]

theorem goodFlit_frame (h : Nat) (payload : List Byte) (s : State) :
    (goodFlit h payload s).pending = s.pending ∧
    (goodFlit h payload s).fs = s.fs ∧
    (goodFlit h payload s).scene = s.scene ∧
    (goodFlit h payload s).jtag = s.jtag ∧
    (goodFlit h payload s).boot = s.boot ∧
    (goodFlit h payload s).period = s.period ∧
    (goodFlit h payload s).pwr = s.pwr ∧
    (goodFlit h payload s).scan = s.scan ∧
    (goodFlit h payload s).lct = s.lct ∧
    (goodFlit h payload s).tb = s.tb ∧
    (goodFlit h payload s).tiles = s.tiles ∧
    (goodFlit h payload s).handles = s.handles ∧
    (goodFlit h payload s).mnt = s.mnt ∧
    (goodFlit h payload s).comp = s.comp ∧
    (goodFlit h payload s).thm = s.thm ∧
    (goodFlit h payload s).gl = s.gl ∧
    (goodFlit h payload s).lctc = s.lctc ∧
    (goodFlit h payload s).wcapLevel = s.wcapLevel := by simp [acceptFlit_frame .., ackFlits_frame .., discardFlit_frame .., retryFlit_frame .., setLink_frame .., goodFlit]

theorem emitFlit_frame (m : Nat) (vc : Nat) (first last : Bool) (p : List Byte) (s : State) :
    (emitFlit m vc first last p s).pending = s.pending ∧
    (emitFlit m vc first last p s).fs = s.fs ∧
    (emitFlit m vc first last p s).scene = s.scene ∧
    (emitFlit m vc first last p s).jtag = s.jtag ∧
    (emitFlit m vc first last p s).boot = s.boot ∧
    (emitFlit m vc first last p s).period = s.period ∧
    (emitFlit m vc first last p s).pwr = s.pwr ∧
    (emitFlit m vc first last p s).scan = s.scan ∧
    (emitFlit m vc first last p s).lct = s.lct ∧
    (emitFlit m vc first last p s).tb = s.tb ∧
    (emitFlit m vc first last p s).tiles = s.tiles ∧
    (emitFlit m vc first last p s).handles = s.handles ∧
    (emitFlit m vc first last p s).dcx = s.dcx ∧
    (emitFlit m vc first last p s).mnt = s.mnt ∧
    (emitFlit m vc first last p s).comp = s.comp ∧
    (emitFlit m vc first last p s).thm = s.thm ∧
    (emitFlit m vc first last p s).gl = s.gl ∧
    (emitFlit m vc first last p s).ozd = s.ozd ∧
    (emitFlit m vc first last p s).lctc = s.lctc ∧
    (emitFlit m vc first last p s).msgq = s.msgq ∧
    (emitFlit m vc first last p s).wcapLevel = s.wcapLevel := by simp [sendFlit_frame .., setLink_frame .., emitFlit]

theorem noteTurn_frame (vc : Nat) (s : State) :
    (noteTurn vc s).pending = s.pending ∧
    (noteTurn vc s).fs = s.fs ∧
    (noteTurn vc s).scene = s.scene ∧
    (noteTurn vc s).jtag = s.jtag ∧
    (noteTurn vc s).boot = s.boot ∧
    (noteTurn vc s).period = s.period ∧
    (noteTurn vc s).pwr = s.pwr ∧
    (noteTurn vc s).scan = s.scan ∧
    (noteTurn vc s).lct = s.lct ∧
    (noteTurn vc s).tb = s.tb ∧
    (noteTurn vc s).tiles = s.tiles ∧
    (noteTurn vc s).handles = s.handles ∧
    (noteTurn vc s).dcx = s.dcx ∧
    (noteTurn vc s).mnt = s.mnt ∧
    (noteTurn vc s).comp = s.comp ∧
    (noteTurn vc s).thm = s.thm ∧
    (noteTurn vc s).gl = s.gl ∧
    (noteTurn vc s).ozd = s.ozd ∧
    (noteTurn vc s).lctc = s.lctc ∧
    (noteTurn vc s).msgq = s.msgq ∧
    (noteTurn vc s).wcapLevel = s.wcapLevel := by simp [setLink_frame .., noteTurn]

theorem sendNext_frame (t : OutTxn) (s : State) :
    (sendNext t s).pending = s.pending ∧
    (sendNext t s).fs = s.fs ∧
    (sendNext t s).scene = s.scene ∧
    (sendNext t s).jtag = s.jtag ∧
    (sendNext t s).boot = s.boot ∧
    (sendNext t s).period = s.period ∧
    (sendNext t s).pwr = s.pwr ∧
    (sendNext t s).scan = s.scan ∧
    (sendNext t s).lct = s.lct ∧
    (sendNext t s).tb = s.tb ∧
    (sendNext t s).tiles = s.tiles ∧
    (sendNext t s).handles = s.handles ∧
    (sendNext t s).dcx = s.dcx ∧
    (sendNext t s).mnt = s.mnt ∧
    (sendNext t s).comp = s.comp ∧
    (sendNext t s).thm = s.thm ∧
    (sendNext t s).gl = s.gl ∧
    (sendNext t s).ozd = s.ozd ∧
    (sendNext t s).lctc = s.lctc ∧
    (sendNext t s).msgq = s.msgq ∧
    (sendNext t s).wcapLevel = s.wcapLevel := by simp [dropTag_frame .., emitFlit_frame .., noteTurn_frame .., setDevCredit_frame .., setLink_frame .., sendNext]

theorem sendWhole_frame (t : OutTxn) (s : State) :
    (sendWhole t s).pending = s.pending ∧
    (sendWhole t s).fs = s.fs ∧
    (sendWhole t s).scene = s.scene ∧
    (sendWhole t s).jtag = s.jtag ∧
    (sendWhole t s).boot = s.boot ∧
    (sendWhole t s).period = s.period ∧
    (sendWhole t s).pwr = s.pwr ∧
    (sendWhole t s).scan = s.scan ∧
    (sendWhole t s).lct = s.lct ∧
    (sendWhole t s).tb = s.tb ∧
    (sendWhole t s).tiles = s.tiles ∧
    (sendWhole t s).handles = s.handles ∧
    (sendWhole t s).dcx = s.dcx ∧
    (sendWhole t s).mnt = s.mnt ∧
    (sendWhole t s).comp = s.comp ∧
    (sendWhole t s).thm = s.thm ∧
    (sendWhole t s).gl = s.gl ∧
    (sendWhole t s).ozd = s.ozd ∧
    (sendWhole t s).lctc = s.lctc ∧
    (sendWhole t s).msgq = s.msgq ∧
    (sendWhole t s).wcapLevel = s.wcapLevel := by simp [emitFlit_frame .., setDevCredit_frame .., sendWhole]

end Sys2Proof.Machine
end

