-- ==== Sys2Proof/Laws/FrameLanes.lean ====
section
/-!
SUPPORT. What each operation of Lanes.lean leaves unchanged.
-/
namespace Sys2Proof.Machine

theorem laneEvent_frame (l : Lane) (b : Nat) (s : State) :
    (laneEvent l b s).pending = s.pending ∧
    (laneEvent l b s).fs = s.fs ∧
    (laneEvent l b s).scene = s.scene ∧
    (laneEvent l b s).jtag = s.jtag ∧
    (laneEvent l b s).boot = s.boot ∧
    (laneEvent l b s).period = s.period ∧
    (laneEvent l b s).pwr = s.pwr ∧
    (laneEvent l b s).scan = s.scan ∧
    (laneEvent l b s).lct = s.lct ∧
    (laneEvent l b s).tb = s.tb ∧
    (laneEvent l b s).tiles = s.tiles ∧
    (laneEvent l b s).handles = s.handles ∧
    (laneEvent l b s).dcx = s.dcx ∧
    (laneEvent l b s).mnt = s.mnt ∧
    (laneEvent l b s).comp = s.comp ∧
    (laneEvent l b s).thm = s.thm ∧
    (laneEvent l b s).gl = s.gl ∧
    (laneEvent l b s).link = s.link ∧
    (laneEvent l b s).ozd = s.ozd ∧
    (laneEvent l b s).lctc = s.lctc ∧
    (laneEvent l b s).wcapLevel = s.wcapLevel := by simp only [laneEvent]; (repeat' split) <;> simp [raise_frame ..]

theorem startTrain_frame (l : Lane) (s : State) :
    (startTrain l s).pending = s.pending ∧
    (startTrain l s).fs = s.fs ∧
    (startTrain l s).scene = s.scene ∧
    (startTrain l s).jtag = s.jtag ∧
    (startTrain l s).boot = s.boot ∧
    (startTrain l s).period = s.period ∧
    (startTrain l s).pwr = s.pwr ∧
    (startTrain l s).scan = s.scan ∧
    (startTrain l s).lct = s.lct ∧
    (startTrain l s).tb = s.tb ∧
    (startTrain l s).tiles = s.tiles ∧
    (startTrain l s).handles = s.handles ∧
    (startTrain l s).dcx = s.dcx ∧
    (startTrain l s).mnt = s.mnt ∧
    (startTrain l s).comp = s.comp ∧
    (startTrain l s).thm = s.thm ∧
    (startTrain l s).gl = s.gl ∧
    (startTrain l s).link = s.link ∧
    (startTrain l s).ozd = s.ozd ∧
    (startTrain l s).lctc = s.lctc ∧
    (startTrain l s).msgq = s.msgq ∧
    (startTrain l s).wcapLevel = s.wcapLevel := by simp [putAux_frame .., setLaneState_frame .., startTrain]

theorem retrainPanel_frame (s : State) :
    (retrainPanel s).pending = s.pending ∧
    (retrainPanel s).fs = s.fs ∧
    (retrainPanel s).scene = s.scene ∧
    (retrainPanel s).jtag = s.jtag ∧
    (retrainPanel s).boot = s.boot ∧
    (retrainPanel s).period = s.period ∧
    (retrainPanel s).pwr = s.pwr ∧
    (retrainPanel s).scan = s.scan ∧
    (retrainPanel s).lct = s.lct ∧
    (retrainPanel s).tb = s.tb ∧
    (retrainPanel s).tiles = s.tiles ∧
    (retrainPanel s).handles = s.handles ∧
    (retrainPanel s).dcx = s.dcx ∧
    (retrainPanel s).mnt = s.mnt ∧
    (retrainPanel s).comp = s.comp ∧
    (retrainPanel s).thm = s.thm ∧
    (retrainPanel s).gl = s.gl ∧
    (retrainPanel s).link = s.link ∧
    (retrainPanel s).ozd = s.ozd ∧
    (retrainPanel s).lctc = s.lctc ∧
    (retrainPanel s).msgq = s.msgq ∧
    (retrainPanel s).wcapLevel = s.wcapLevel := by simp [startTrain_frame .., retrainPanel]

theorem failLane_frame (l : Lane) (cause : Nat) (s : State) :
    (failLane l cause s).pending = s.pending ∧
    (failLane l cause s).fs = s.fs ∧
    (failLane l cause s).scene = s.scene ∧
    (failLane l cause s).jtag = s.jtag ∧
    (failLane l cause s).boot = s.boot ∧
    (failLane l cause s).period = s.period ∧
    (failLane l cause s).pwr = s.pwr ∧
    (failLane l cause s).scan = s.scan ∧
    (failLane l cause s).lct = s.lct ∧
    (failLane l cause s).tb = s.tb ∧
    (failLane l cause s).tiles = s.tiles ∧
    (failLane l cause s).handles = s.handles ∧
    (failLane l cause s).dcx = s.dcx ∧
    (failLane l cause s).mnt = s.mnt ∧
    (failLane l cause s).comp = s.comp ∧
    (failLane l cause s).thm = s.thm ∧
    (failLane l cause s).gl = s.gl ∧
    (failLane l cause s).link = s.link ∧
    (failLane l cause s).ozd = s.ozd ∧
    (failLane l cause s).lctc = s.lctc ∧
    (failLane l cause s).wcapLevel = s.wcapLevel := by simp [laneEvent_frame .., putAux_frame .., setLaneCause_frame .., setLaneCopy_frame .., setLaneRole_frame .., failLane]

theorem beginCopy_frame (x : Lane) (num : Nat) (s : State) :
    (beginCopy x num s).pending = s.pending ∧
    (beginCopy x num s).fs = s.fs ∧
    (beginCopy x num s).scene = s.scene ∧
    (beginCopy x num s).jtag = s.jtag ∧
    (beginCopy x num s).boot = s.boot ∧
    (beginCopy x num s).period = s.period ∧
    (beginCopy x num s).pwr = s.pwr ∧
    (beginCopy x num s).scan = s.scan ∧
    (beginCopy x num s).lct = s.lct ∧
    (beginCopy x num s).tb = s.tb ∧
    (beginCopy x num s).tiles = s.tiles ∧
    (beginCopy x num s).handles = s.handles ∧
    (beginCopy x num s).dcx = s.dcx ∧
    (beginCopy x num s).mnt = s.mnt ∧
    (beginCopy x num s).comp = s.comp ∧
    (beginCopy x num s).thm = s.thm ∧
    (beginCopy x num s).gl = s.gl ∧
    (beginCopy x num s).link = s.link ∧
    (beginCopy x num s).ozd = s.ozd ∧
    (beginCopy x num s).lctc = s.lctc ∧
    (beginCopy x num s).msgq = s.msgq ∧
    (beginCopy x num s).wcapLevel = s.wcapLevel := by simp only [beginCopy]; (repeat' split) <;> simp [putAux_frame ..]

theorem coverWith_frame (x : Lane) (num : Nat) (s : State) :
    (coverWith x num s).pending = s.pending ∧
    (coverWith x num s).fs = s.fs ∧
    (coverWith x num s).scene = s.scene ∧
    (coverWith x num s).jtag = s.jtag ∧
    (coverWith x num s).boot = s.boot ∧
    (coverWith x num s).period = s.period ∧
    (coverWith x num s).pwr = s.pwr ∧
    (coverWith x num s).scan = s.scan ∧
    (coverWith x num s).lct = s.lct ∧
    (coverWith x num s).tb = s.tb ∧
    (coverWith x num s).tiles = s.tiles ∧
    (coverWith x num s).handles = s.handles ∧
    (coverWith x num s).dcx = s.dcx ∧
    (coverWith x num s).mnt = s.mnt ∧
    (coverWith x num s).comp = s.comp ∧
    (coverWith x num s).thm = s.thm ∧
    (coverWith x num s).gl = s.gl ∧
    (coverWith x num s).link = s.link ∧
    (coverWith x num s).lctc = s.lctc ∧
    (coverWith x num s).wcapLevel = s.wcapLevel := by simp [beginCopy_frame .., bumpSat_frame .., counterAdd_frame .., laneEvent_frame .., putAux_frame .., setLaneCopy_frame .., setLaneRole_frame .., coverWith]

theorem abortLent_frame (x : Lane) (s : State) :
    (abortLent x s).pending = s.pending ∧
    (abortLent x s).fs = s.fs ∧
    (abortLent x s).scene = s.scene ∧
    (abortLent x s).jtag = s.jtag ∧
    (abortLent x s).boot = s.boot ∧
    (abortLent x s).period = s.period ∧
    (abortLent x s).pwr = s.pwr ∧
    (abortLent x s).scan = s.scan ∧
    (abortLent x s).lct = s.lct ∧
    (abortLent x s).tb = s.tb ∧
    (abortLent x s).tiles = s.tiles ∧
    (abortLent x s).handles = s.handles ∧
    (abortLent x s).dcx = s.dcx ∧
    (abortLent x s).comp = s.comp ∧
    (abortLent x s).gl = s.gl ∧
    (abortLent x s).link = s.link ∧
    (abortLent x s).ozd = s.ozd ∧
    (abortLent x s).lctc = s.lctc ∧
    (abortLent x s).wcapLevel = s.wcapLevel := by simp only [abortLent]; (repeat' split) <;> simp [laneEvent_frame .., mntAbort_frame .., putAux_frame ..]

theorem darkDriver_frame (l : Lane) (s : State) :
    (darkDriver l s).pending = s.pending ∧
    (darkDriver l s).fs = s.fs ∧
    (darkDriver l s).scene = s.scene ∧
    (darkDriver l s).jtag = s.jtag ∧
    (darkDriver l s).boot = s.boot ∧
    (darkDriver l s).period = s.period ∧
    (darkDriver l s).pwr = s.pwr ∧
    (darkDriver l s).scan = s.scan ∧
    (darkDriver l s).lct = s.lct ∧
    (darkDriver l s).tb = s.tb ∧
    (darkDriver l s).tiles = s.tiles ∧
    (darkDriver l s).handles = s.handles ∧
    (darkDriver l s).dcx = s.dcx ∧
    (darkDriver l s).mnt = s.mnt ∧
    (darkDriver l s).comp = s.comp ∧
    (darkDriver l s).thm = s.thm ∧
    (darkDriver l s).gl = s.gl ∧
    (darkDriver l s).link = s.link ∧
    (darkDriver l s).ozd = s.ozd ∧
    (darkDriver l s).lctc = s.lctc ∧
    (darkDriver l s).msgq = s.msgq ∧
    (darkDriver l s).wcapLevel = s.wcapLevel := by simp [darkDriver]

theorem takeover_frame (l : Lane) (num : Nat) (s : State) :
    (takeover l num s).pending = s.pending ∧
    (takeover l num s).fs = s.fs ∧
    (takeover l num s).scene = s.scene ∧
    (takeover l num s).jtag = s.jtag ∧
    (takeover l num s).boot = s.boot ∧
    (takeover l num s).period = s.period ∧
    (takeover l num s).pwr = s.pwr ∧
    (takeover l num s).scan = s.scan ∧
    (takeover l num s).lct = s.lct ∧
    (takeover l num s).tb = s.tb ∧
    (takeover l num s).tiles = s.tiles ∧
    (takeover l num s).handles = s.handles ∧
    (takeover l num s).dcx = s.dcx ∧
    (takeover l num s).comp = s.comp ∧
    (takeover l num s).gl = s.gl ∧
    (takeover l num s).link = s.link ∧
    (takeover l num s).lctc = s.lctc ∧
    (takeover l num s).wcapLevel = s.wcapLevel := by simp only [takeover]; (repeat' split) <;> simp [abortLent_frame .., coverWith_frame .., darkDriver_frame .., laneEvent_frame ..]

theorem askCopy_frame (l : Lane) (s : State) :
    (askCopy l s).pending = s.pending ∧
    (askCopy l s).fs = s.fs ∧
    (askCopy l s).scene = s.scene ∧
    (askCopy l s).jtag = s.jtag ∧
    (askCopy l s).boot = s.boot ∧
    (askCopy l s).period = s.period ∧
    (askCopy l s).pwr = s.pwr ∧
    (askCopy l s).scan = s.scan ∧
    (askCopy l s).lct = s.lct ∧
    (askCopy l s).tb = s.tb ∧
    (askCopy l s).tiles = s.tiles ∧
    (askCopy l s).handles = s.handles ∧
    (askCopy l s).dcx = s.dcx ∧
    (askCopy l s).mnt = s.mnt ∧
    (askCopy l s).comp = s.comp ∧
    (askCopy l s).thm = s.thm ∧
    (askCopy l s).gl = s.gl ∧
    (askCopy l s).link = s.link ∧
    (askCopy l s).ozd = s.ozd ∧
    (askCopy l s).lctc = s.lctc ∧
    (askCopy l s).msgq = s.msgq ∧
    (askCopy l s).wcapLevel = s.wcapLevel := by simp [putAux_frame .., askCopy]

theorem askCover_frame (l : Lane) (num : Nat) (s : State) :
    (askCover l num s).pending = s.pending ∧
    (askCover l num s).fs = s.fs ∧
    (askCover l num s).scene = s.scene ∧
    (askCover l num s).jtag = s.jtag ∧
    (askCover l num s).boot = s.boot ∧
    (askCover l num s).period = s.period ∧
    (askCover l num s).pwr = s.pwr ∧
    (askCover l num s).scan = s.scan ∧
    (askCover l num s).lct = s.lct ∧
    (askCover l num s).tb = s.tb ∧
    (askCover l num s).tiles = s.tiles ∧
    (askCover l num s).handles = s.handles ∧
    (askCover l num s).dcx = s.dcx ∧
    (askCover l num s).comp = s.comp ∧
    (askCover l num s).gl = s.gl ∧
    (askCover l num s).link = s.link ∧
    (askCover l num s).ozd = s.ozd ∧
    (askCover l num s).lctc = s.lctc ∧
    (askCover l num s).wcapLevel = s.wcapLevel := by simp only [askCover]; (repeat' split) <;> simp [abortLent_frame .., askCopy_frame .., laneEvent_frame .., putAux_frame .., setLaneCopy_frame ..]

theorem declareFailed_frame (l : Lane) (cause : Nat) (s : State) :
    (declareFailed l cause s).pending = s.pending ∧
    (declareFailed l cause s).fs = s.fs ∧
    (declareFailed l cause s).scene = s.scene ∧
    (declareFailed l cause s).jtag = s.jtag ∧
    (declareFailed l cause s).boot = s.boot ∧
    (declareFailed l cause s).period = s.period ∧
    (declareFailed l cause s).pwr = s.pwr ∧
    (declareFailed l cause s).scan = s.scan ∧
    (declareFailed l cause s).lct = s.lct ∧
    (declareFailed l cause s).tb = s.tb ∧
    (declareFailed l cause s).tiles = s.tiles ∧
    (declareFailed l cause s).handles = s.handles ∧
    (declareFailed l cause s).dcx = s.dcx ∧
    (declareFailed l cause s).comp = s.comp ∧
    (declareFailed l cause s).gl = s.gl ∧
    (declareFailed l cause s).link = s.link ∧
    (declareFailed l cause s).lctc = s.lctc ∧
    (declareFailed l cause s).wcapLevel = s.wcapLevel := by simp only [declareFailed]; (repeat' split) <;> simp [askCover_frame .., failLane_frame .., takeover_frame ..]

theorem laneCheck_frame (s : State) :
    (laneCheck s).pending = s.pending ∧
    (laneCheck s).fs = s.fs ∧
    (laneCheck s).scene = s.scene ∧
    (laneCheck s).jtag = s.jtag ∧
    (laneCheck s).boot = s.boot ∧
    (laneCheck s).period = s.period ∧
    (laneCheck s).pwr = s.pwr ∧
    (laneCheck s).scan = s.scan ∧
    (laneCheck s).lct = s.lct ∧
    (laneCheck s).tb = s.tb ∧
    (laneCheck s).tiles = s.tiles ∧
    (laneCheck s).handles = s.handles ∧
    (laneCheck s).dcx = s.dcx ∧
    (laneCheck s).comp = s.comp ∧
    (laneCheck s).gl = s.gl ∧
    (laneCheck s).link = s.link ∧
    (laneCheck s).lctc = s.lctc ∧
    (laneCheck s).wcapLevel = s.wcapLevel := by simp [declareFailed_frame .., laneCheck]

theorem allUp_frame (s : State) :
    (allUp s).pending = s.pending ∧
    (allUp s).fs = s.fs ∧
    (allUp s).scene = s.scene ∧
    (allUp s).jtag = s.jtag ∧
    (allUp s).boot = s.boot ∧
    (allUp s).period = s.period ∧
    (allUp s).pwr = s.pwr ∧
    (allUp s).scan = s.scan ∧
    (allUp s).lct = s.lct ∧
    (allUp s).tb = s.tb ∧
    (allUp s).tiles = s.tiles ∧
    (allUp s).handles = s.handles ∧
    (allUp s).dcx = s.dcx ∧
    (allUp s).mnt = s.mnt ∧
    (allUp s).comp = s.comp ∧
    (allUp s).thm = s.thm ∧
    (allUp s).gl = s.gl ∧
    (allUp s).link = s.link ∧
    (allUp s).ozd = s.ozd ∧
    (allUp s).lctc = s.lctc ∧
    (allUp s).msgq = s.msgq ∧
    (allUp s).wcapLevel = s.wcapLevel := by simp [setLaneState_frame .., allUp]

theorem takeCopy_frame (l : Lane) (num : Nat) (s : State) :
    (takeCopy l num s).pending = s.pending ∧
    (takeCopy l num s).fs = s.fs ∧
    (takeCopy l num s).scene = s.scene ∧
    (takeCopy l num s).jtag = s.jtag ∧
    (takeCopy l num s).boot = s.boot ∧
    (takeCopy l num s).period = s.period ∧
    (takeCopy l num s).pwr = s.pwr ∧
    (takeCopy l num s).scan = s.scan ∧
    (takeCopy l num s).lct = s.lct ∧
    (takeCopy l num s).tb = s.tb ∧
    (takeCopy l num s).tiles = s.tiles ∧
    (takeCopy l num s).handles = s.handles ∧
    (takeCopy l num s).dcx = s.dcx ∧
    (takeCopy l num s).mnt = s.mnt ∧
    (takeCopy l num s).comp = s.comp ∧
    (takeCopy l num s).thm = s.thm ∧
    (takeCopy l num s).gl = s.gl ∧
    (takeCopy l num s).link = s.link ∧
    (takeCopy l num s).lctc = s.lctc ∧
    (takeCopy l num s).wcapLevel = s.wcapLevel := by simp only [takeCopy]; (repeat' split) <;> simp [coverWith_frame ..]

theorem endCopy_frame (num : Nat) (s : State) :
    (endCopy num s).pending = s.pending ∧
    (endCopy num s).fs = s.fs ∧
    (endCopy num s).scene = s.scene ∧
    (endCopy num s).jtag = s.jtag ∧
    (endCopy num s).boot = s.boot ∧
    (endCopy num s).period = s.period ∧
    (endCopy num s).pwr = s.pwr ∧
    (endCopy num s).scan = s.scan ∧
    (endCopy num s).lct = s.lct ∧
    (endCopy num s).tb = s.tb ∧
    (endCopy num s).tiles = s.tiles ∧
    (endCopy num s).handles = s.handles ∧
    (endCopy num s).dcx = s.dcx ∧
    (endCopy num s).mnt = s.mnt ∧
    (endCopy num s).comp = s.comp ∧
    (endCopy num s).thm = s.thm ∧
    (endCopy num s).gl = s.gl ∧
    (endCopy num s).link = s.link ∧
    (endCopy num s).ozd = s.ozd ∧
    (endCopy num s).lctc = s.lctc ∧
    (endCopy num s).msgq = s.msgq ∧
    (endCopy num s).wcapLevel = s.wcapLevel := by simp [putAux_frame .., setLaneCopy_frame .., endCopy]

theorem markRq_frame (l : Lane) (rq : Bool) (s : State) :
    (markRq l rq s).pending = s.pending ∧
    (markRq l rq s).fs = s.fs ∧
    (markRq l rq s).scene = s.scene ∧
    (markRq l rq s).jtag = s.jtag ∧
    (markRq l rq s).boot = s.boot ∧
    (markRq l rq s).period = s.period ∧
    (markRq l rq s).pwr = s.pwr ∧
    (markRq l rq s).scan = s.scan ∧
    (markRq l rq s).lct = s.lct ∧
    (markRq l rq s).tb = s.tb ∧
    (markRq l rq s).tiles = s.tiles ∧
    (markRq l rq s).handles = s.handles ∧
    (markRq l rq s).dcx = s.dcx ∧
    (markRq l rq s).mnt = s.mnt ∧
    (markRq l rq s).comp = s.comp ∧
    (markRq l rq s).thm = s.thm ∧
    (markRq l rq s).gl = s.gl ∧
    (markRq l rq s).link = s.link ∧
    (markRq l rq s).ozd = s.ozd ∧
    (markRq l rq s).lctc = s.lctc ∧
    (markRq l rq s).msgq = s.msgq ∧
    (markRq l rq s).wcapLevel = s.wcapLevel := by simp [endCopy_frame .., putAux_frame .., markRq]

theorem countCopy_frame (y : Lane) (s : State) :
    (countCopy y s).pending = s.pending ∧
    (countCopy y s).fs = s.fs ∧
    (countCopy y s).scene = s.scene ∧
    (countCopy y s).jtag = s.jtag ∧
    (countCopy y s).boot = s.boot ∧
    (countCopy y s).period = s.period ∧
    (countCopy y s).pwr = s.pwr ∧
    (countCopy y s).scan = s.scan ∧
    (countCopy y s).lct = s.lct ∧
    (countCopy y s).tb = s.tb ∧
    (countCopy y s).tiles = s.tiles ∧
    (countCopy y s).handles = s.handles ∧
    (countCopy y s).dcx = s.dcx ∧
    (countCopy y s).mnt = s.mnt ∧
    (countCopy y s).comp = s.comp ∧
    (countCopy y s).thm = s.thm ∧
    (countCopy y s).gl = s.gl ∧
    (countCopy y s).link = s.link ∧
    (countCopy y s).ozd = s.ozd ∧
    (countCopy y s).lctc = s.lctc ∧
    (countCopy y s).msgq = s.msgq ∧
    (countCopy y s).wcapLevel = s.wcapLevel := by simp only [countCopy]; (repeat' split) <;> simp [putAux_frame ..]

theorem restored_frame (l : Lane) (s : State) :
    (restored l s).pending = s.pending ∧
    (restored l s).fs = s.fs ∧
    (restored l s).scene = s.scene ∧
    (restored l s).jtag = s.jtag ∧
    (restored l s).boot = s.boot ∧
    (restored l s).period = s.period ∧
    (restored l s).pwr = s.pwr ∧
    (restored l s).scan = s.scan ∧
    (restored l s).lct = s.lct ∧
    (restored l s).tb = s.tb ∧
    (restored l s).tiles = s.tiles ∧
    (restored l s).handles = s.handles ∧
    (restored l s).dcx = s.dcx ∧
    (restored l s).mnt = s.mnt ∧
    (restored l s).comp = s.comp ∧
    (restored l s).thm = s.thm ∧
    (restored l s).gl = s.gl ∧
    (restored l s).link = s.link ∧
    (restored l s).ozd = s.ozd ∧
    (restored l s).lctc = s.lctc ∧
    (restored l s).msgq = s.msgq ∧
    (restored l s).wcapLevel = s.wcapLevel := by simp only [restored]; (repeat' split) <;> simp [putAux_frame .., setLaneCopy_frame .., setLaneRole_frame ..]

theorem homeAgain_frame (l : Lane) (s : State) :
    (homeAgain l s).pending = s.pending ∧
    (homeAgain l s).fs = s.fs ∧
    (homeAgain l s).scene = s.scene ∧
    (homeAgain l s).jtag = s.jtag ∧
    (homeAgain l s).boot = s.boot ∧
    (homeAgain l s).period = s.period ∧
    (homeAgain l s).pwr = s.pwr ∧
    (homeAgain l s).scan = s.scan ∧
    (homeAgain l s).lct = s.lct ∧
    (homeAgain l s).tb = s.tb ∧
    (homeAgain l s).tiles = s.tiles ∧
    (homeAgain l s).handles = s.handles ∧
    (homeAgain l s).dcx = s.dcx ∧
    (homeAgain l s).mnt = s.mnt ∧
    (homeAgain l s).comp = s.comp ∧
    (homeAgain l s).thm = s.thm ∧
    (homeAgain l s).gl = s.gl ∧
    (homeAgain l s).link = s.link ∧
    (homeAgain l s).ozd = s.ozd ∧
    (homeAgain l s).lctc = s.lctc ∧
    (homeAgain l s).msgq = s.msgq ∧
    (homeAgain l s).wcapLevel = s.wcapLevel := by simp only [homeAgain]; (repeat' split) <;> simp [putAux_frame .., setLaneCopy_frame ..]

theorem countOwn_frame (l : Lane) (s : State) :
    (countOwn l s).pending = s.pending ∧
    (countOwn l s).fs = s.fs ∧
    (countOwn l s).scene = s.scene ∧
    (countOwn l s).jtag = s.jtag ∧
    (countOwn l s).boot = s.boot ∧
    (countOwn l s).period = s.period ∧
    (countOwn l s).pwr = s.pwr ∧
    (countOwn l s).scan = s.scan ∧
    (countOwn l s).lct = s.lct ∧
    (countOwn l s).tb = s.tb ∧
    (countOwn l s).tiles = s.tiles ∧
    (countOwn l s).handles = s.handles ∧
    (countOwn l s).dcx = s.dcx ∧
    (countOwn l s).mnt = s.mnt ∧
    (countOwn l s).comp = s.comp ∧
    (countOwn l s).thm = s.thm ∧
    (countOwn l s).gl = s.gl ∧
    (countOwn l s).link = s.link ∧
    (countOwn l s).ozd = s.ozd ∧
    (countOwn l s).lctc = s.lctc ∧
    (countOwn l s).msgq = s.msgq ∧
    (countOwn l s).wcapLevel = s.wcapLevel := by simp only [countOwn]; (repeat' split) <;> simp [homeAgain_frame .., putAux_frame .., restored_frame ..]

theorem numbered_frame (l : Lane) (num : Nat) (s : State) :
    (numbered l num s).pending = s.pending ∧
    (numbered l num s).fs = s.fs ∧
    (numbered l num s).scene = s.scene ∧
    (numbered l num s).jtag = s.jtag ∧
    (numbered l num s).boot = s.boot ∧
    (numbered l num s).period = s.period ∧
    (numbered l num s).pwr = s.pwr ∧
    (numbered l num s).scan = s.scan ∧
    (numbered l num s).lct = s.lct ∧
    (numbered l num s).tb = s.tb ∧
    (numbered l num s).tiles = s.tiles ∧
    (numbered l num s).handles = s.handles ∧
    (numbered l num s).dcx = s.dcx ∧
    (numbered l num s).mnt = s.mnt ∧
    (numbered l num s).comp = s.comp ∧
    (numbered l num s).thm = s.thm ∧
    (numbered l num s).gl = s.gl ∧
    (numbered l num s).link = s.link ∧
    (numbered l num s).lctc = s.lctc ∧
    (numbered l num s).wcapLevel = s.wcapLevel := by simp only [numbered]; (repeat' split) <;> simp [countCopy_frame .., countOwn_frame .., putAux_frame .., setLaneCopy_frame .., setLaneRole_frame .., takeCopy_frame ..]

theorem laneReturns_frame (l : Lane) (s : State) :
    (laneReturns l s).pending = s.pending ∧
    (laneReturns l s).fs = s.fs ∧
    (laneReturns l s).scene = s.scene ∧
    (laneReturns l s).jtag = s.jtag ∧
    (laneReturns l s).boot = s.boot ∧
    (laneReturns l s).period = s.period ∧
    (laneReturns l s).pwr = s.pwr ∧
    (laneReturns l s).scan = s.scan ∧
    (laneReturns l s).lct = s.lct ∧
    (laneReturns l s).tb = s.tb ∧
    (laneReturns l s).tiles = s.tiles ∧
    (laneReturns l s).handles = s.handles ∧
    (laneReturns l s).dcx = s.dcx ∧
    (laneReturns l s).mnt = s.mnt ∧
    (laneReturns l s).comp = s.comp ∧
    (laneReturns l s).thm = s.thm ∧
    (laneReturns l s).gl = s.gl ∧
    (laneReturns l s).link = s.link ∧
    (laneReturns l s).ozd = s.ozd ∧
    (laneReturns l s).lctc = s.lctc ∧
    (laneReturns l s).wcapLevel = s.wcapLevel := by simp [laneEvent_frame .., setLaneRole_frame .., laneReturns]

theorem markerValid_frame (n : Fin 18) (b : DWord) (inv : Bool) (s0 : State) :
    (markerValid n b inv s0).pending = s0.pending ∧
    (markerValid n b inv s0).fs = s0.fs ∧
    (markerValid n b inv s0).scene = s0.scene ∧
    (markerValid n b inv s0).jtag = s0.jtag ∧
    (markerValid n b inv s0).boot = s0.boot ∧
    (markerValid n b inv s0).period = s0.period ∧
    (markerValid n b inv s0).pwr = s0.pwr ∧
    (markerValid n b inv s0).scan = s0.scan ∧
    (markerValid n b inv s0).lct = s0.lct ∧
    (markerValid n b inv s0).tb = s0.tb ∧
    (markerValid n b inv s0).tiles = s0.tiles ∧
    (markerValid n b inv s0).handles = s0.handles ∧
    (markerValid n b inv s0).dcx = s0.dcx ∧
    (markerValid n b inv s0).mnt = s0.mnt ∧
    (markerValid n b inv s0).comp = s0.comp ∧
    (markerValid n b inv s0).thm = s0.thm ∧
    (markerValid n b inv s0).gl = s0.gl ∧
    (markerValid n b inv s0).link = s0.link ∧
    (markerValid n b inv s0).lctc = s0.lctc ∧
    (markerValid n b inv s0).wcapLevel = s0.wcapLevel := by simp [allUp_frame .., failLane_frame .., laneEvent_frame .., laneReturns_frame .., markRq_frame .., numbered_frame .., putAux_frame .., setLaneState_frame .., setRegBit_frame .., markerValid]

theorem markerBad_frame (n : Fin 18) (s : State) :
    (markerBad n s).pending = s.pending ∧
    (markerBad n s).fs = s.fs ∧
    (markerBad n s).scene = s.scene ∧
    (markerBad n s).jtag = s.jtag ∧
    (markerBad n s).boot = s.boot ∧
    (markerBad n s).period = s.period ∧
    (markerBad n s).pwr = s.pwr ∧
    (markerBad n s).scan = s.scan ∧
    (markerBad n s).lct = s.lct ∧
    (markerBad n s).tb = s.tb ∧
    (markerBad n s).tiles = s.tiles ∧
    (markerBad n s).handles = s.handles ∧
    (markerBad n s).dcx = s.dcx ∧
    (markerBad n s).mnt = s.mnt ∧
    (markerBad n s).comp = s.comp ∧
    (markerBad n s).thm = s.thm ∧
    (markerBad n s).gl = s.gl ∧
    (markerBad n s).link = s.link ∧
    (markerBad n s).ozd = s.ozd ∧
    (markerBad n s).lctc = s.lctc ∧
    (markerBad n s).msgq = s.msgq ∧
    (markerBad n s).wcapLevel = s.wcapLevel := by simp [putAux_frame .., markerBad]

theorem lineReceived_frame (n : Fin 18) (line : List Bool) (pos : Nat) (s : State) :
    (lineReceived n line pos s).pending = s.pending ∧
    (lineReceived n line pos s).fs = s.fs ∧
    (lineReceived n line pos s).scene = s.scene ∧
    (lineReceived n line pos s).jtag = s.jtag ∧
    (lineReceived n line pos s).boot = s.boot ∧
    (lineReceived n line pos s).period = s.period ∧
    (lineReceived n line pos s).pwr = s.pwr ∧
    (lineReceived n line pos s).scan = s.scan ∧
    (lineReceived n line pos s).lct = s.lct ∧
    (lineReceived n line pos s).tb = s.tb ∧
    (lineReceived n line pos s).tiles = s.tiles ∧
    (lineReceived n line pos s).handles = s.handles ∧
    (lineReceived n line pos s).dcx = s.dcx ∧
    (lineReceived n line pos s).mnt = s.mnt ∧
    (lineReceived n line pos s).comp = s.comp ∧
    (lineReceived n line pos s).thm = s.thm ∧
    (lineReceived n line pos s).gl = s.gl ∧
    (lineReceived n line pos s).link = s.link ∧
    (lineReceived n line pos s).ozd = s.ozd ∧
    (lineReceived n line pos s).lctc = s.lctc ∧
    (lineReceived n line pos s).msgq = s.msgq ∧
    (lineReceived n line pos s).wcapLevel = s.wcapLevel := by simp [putAux_frame .., lineReceived]

theorem startCopy_frame (l : Lane) (s : State) :
    (startCopy l s).pending = s.pending ∧
    (startCopy l s).fs = s.fs ∧
    (startCopy l s).scene = s.scene ∧
    (startCopy l s).jtag = s.jtag ∧
    (startCopy l s).boot = s.boot ∧
    (startCopy l s).period = s.period ∧
    (startCopy l s).pwr = s.pwr ∧
    (startCopy l s).scan = s.scan ∧
    (startCopy l s).lct = s.lct ∧
    (startCopy l s).tb = s.tb ∧
    (startCopy l s).tiles = s.tiles ∧
    (startCopy l s).handles = s.handles ∧
    (startCopy l s).dcx = s.dcx ∧
    (startCopy l s).mnt = s.mnt ∧
    (startCopy l s).comp = s.comp ∧
    (startCopy l s).thm = s.thm ∧
    (startCopy l s).gl = s.gl ∧
    (startCopy l s).link = s.link ∧
    (startCopy l s).ozd = s.ozd ∧
    (startCopy l s).lctc = s.lctc ∧
    (startCopy l s).msgq = s.msgq ∧
    (startCopy l s).wcapLevel = s.wcapLevel := by simp only [startCopy]; (repeat' split) <;> simp [putAux_frame .., setLaneCopy_frame ..]

theorem firstRole_frame (l : Lane) (s : State) :
    (firstRole l s).pending = s.pending ∧
    (firstRole l s).fs = s.fs ∧
    (firstRole l s).scene = s.scene ∧
    (firstRole l s).jtag = s.jtag ∧
    (firstRole l s).boot = s.boot ∧
    (firstRole l s).period = s.period ∧
    (firstRole l s).pwr = s.pwr ∧
    (firstRole l s).scan = s.scan ∧
    (firstRole l s).lct = s.lct ∧
    (firstRole l s).tb = s.tb ∧
    (firstRole l s).tiles = s.tiles ∧
    (firstRole l s).handles = s.handles ∧
    (firstRole l s).dcx = s.dcx ∧
    (firstRole l s).mnt = s.mnt ∧
    (firstRole l s).comp = s.comp ∧
    (firstRole l s).thm = s.thm ∧
    (firstRole l s).gl = s.gl ∧
    (firstRole l s).link = s.link ∧
    (firstRole l s).ozd = s.ozd ∧
    (firstRole l s).lctc = s.lctc ∧
    (firstRole l s).msgq = s.msgq ∧
    (firstRole l s).wcapLevel = s.wcapLevel := by simp only [firstRole]; (repeat' split) <;> simp [setLaneRole_frame ..]

theorem assignLanes_frame (w : Nat) (s : State) :
    (assignLanes w s).pending = s.pending ∧
    (assignLanes w s).fs = s.fs ∧
    (assignLanes w s).scene = s.scene ∧
    (assignLanes w s).jtag = s.jtag ∧
    (assignLanes w s).boot = s.boot ∧
    (assignLanes w s).period = s.period ∧
    (assignLanes w s).pwr = s.pwr ∧
    (assignLanes w s).scan = s.scan ∧
    (assignLanes w s).lct = s.lct ∧
    (assignLanes w s).tb = s.tb ∧
    (assignLanes w s).tiles = s.tiles ∧
    (assignLanes w s).handles = s.handles ∧
    (assignLanes w s).dcx = s.dcx ∧
    (assignLanes w s).mnt = s.mnt ∧
    (assignLanes w s).comp = s.comp ∧
    (assignLanes w s).thm = s.thm ∧
    (assignLanes w s).gl = s.gl ∧
    (assignLanes w s).link = s.link ∧
    (assignLanes w s).ozd = s.ozd ∧
    (assignLanes w s).lctc = s.lctc ∧
    (assignLanes w s).msgq = s.msgq ∧
    (assignLanes w s).wcapLevel = s.wcapLevel := by simp [putAux_frame .., setLaneCopy_frame .., setLaneRole_frame .., setLaneState_frame .., assignLanes]

theorem askVerify_frame (l : Lane) (host : Bool) (s : State) :
    (askVerify l host s).pending = s.pending ∧
    (askVerify l host s).fs = s.fs ∧
    (askVerify l host s).scene = s.scene ∧
    (askVerify l host s).jtag = s.jtag ∧
    (askVerify l host s).boot = s.boot ∧
    (askVerify l host s).period = s.period ∧
    (askVerify l host s).pwr = s.pwr ∧
    (askVerify l host s).scan = s.scan ∧
    (askVerify l host s).lct = s.lct ∧
    (askVerify l host s).tb = s.tb ∧
    (askVerify l host s).tiles = s.tiles ∧
    (askVerify l host s).handles = s.handles ∧
    (askVerify l host s).dcx = s.dcx ∧
    (askVerify l host s).comp = s.comp ∧
    (askVerify l host s).thm = s.thm ∧
    (askVerify l host s).gl = s.gl ∧
    (askVerify l host s).link = s.link ∧
    (askVerify l host s).ozd = s.ozd ∧
    (askVerify l host s).lctc = s.lctc ∧
    (askVerify l host s).wcapLevel = s.wcapLevel := by simp only [askVerify]; (repeat' split) <;> simp [mntPush_frame .., putAux_frame ..]

theorem verifyDone_frame (l : Lane) (pass : Bool) (s : State) :
    (verifyDone l pass s).pending = s.pending ∧
    (verifyDone l pass s).fs = s.fs ∧
    (verifyDone l pass s).scene = s.scene ∧
    (verifyDone l pass s).jtag = s.jtag ∧
    (verifyDone l pass s).boot = s.boot ∧
    (verifyDone l pass s).period = s.period ∧
    (verifyDone l pass s).pwr = s.pwr ∧
    (verifyDone l pass s).scan = s.scan ∧
    (verifyDone l pass s).lct = s.lct ∧
    (verifyDone l pass s).tb = s.tb ∧
    (verifyDone l pass s).tiles = s.tiles ∧
    (verifyDone l pass s).handles = s.handles ∧
    (verifyDone l pass s).dcx = s.dcx ∧
    (verifyDone l pass s).mnt = s.mnt ∧
    (verifyDone l pass s).comp = s.comp ∧
    (verifyDone l pass s).thm = s.thm ∧
    (verifyDone l pass s).gl = s.gl ∧
    (verifyDone l pass s).link = s.link ∧
    (verifyDone l pass s).ozd = s.ozd ∧
    (verifyDone l pass s).lctc = s.lctc ∧
    (verifyDone l pass s).msgq = s.msgq ∧
    (verifyDone l pass s).wcapLevel = s.wcapLevel := by simp [putAux_frame .., setLaneCause_frame .., setLaneCopy_frame .., setLaneRole_frame .., setLaneState_frame .., verifyDone]

theorem restoreLane_frame (l : Lane) (s : State) :
    (restoreLane l s).pending = s.pending ∧
    (restoreLane l s).fs = s.fs ∧
    (restoreLane l s).scene = s.scene ∧
    (restoreLane l s).jtag = s.jtag ∧
    (restoreLane l s).boot = s.boot ∧
    (restoreLane l s).period = s.period ∧
    (restoreLane l s).pwr = s.pwr ∧
    (restoreLane l s).scan = s.scan ∧
    (restoreLane l s).lct = s.lct ∧
    (restoreLane l s).tb = s.tb ∧
    (restoreLane l s).tiles = s.tiles ∧
    (restoreLane l s).handles = s.handles ∧
    (restoreLane l s).dcx = s.dcx ∧
    (restoreLane l s).mnt = s.mnt ∧
    (restoreLane l s).comp = s.comp ∧
    (restoreLane l s).thm = s.thm ∧
    (restoreLane l s).gl = s.gl ∧
    (restoreLane l s).link = s.link ∧
    (restoreLane l s).ozd = s.ozd ∧
    (restoreLane l s).lctc = s.lctc ∧
    (restoreLane l s).msgq = s.msgq ∧
    (restoreLane l s).wcapLevel = s.wcapLevel := by simp [beginCopy_frame .., putAux_frame .., setLaneCopy_frame .., restoreLane]

theorem effLctl_frame (l : Lane) (v : Word) (s : State) :
    (effLctl l v s).pending = s.pending ∧
    (effLctl l v s).fs = s.fs ∧
    (effLctl l v s).scene = s.scene ∧
    (effLctl l v s).jtag = s.jtag ∧
    (effLctl l v s).boot = s.boot ∧
    (effLctl l v s).period = s.period ∧
    (effLctl l v s).pwr = s.pwr ∧
    (effLctl l v s).scan = s.scan ∧
    (effLctl l v s).lct = s.lct ∧
    (effLctl l v s).tb = s.tb ∧
    (effLctl l v s).tiles = s.tiles ∧
    (effLctl l v s).handles = s.handles ∧
    (effLctl l v s).dcx = s.dcx ∧
    (effLctl l v s).comp = s.comp ∧
    (effLctl l v s).gl = s.gl ∧
    (effLctl l v s).link = s.link ∧
    (effLctl l v s).lctc = s.lctc ∧
    (effLctl l v s).wcapLevel = s.wcapLevel := by simp only [effLctl]; (repeat' split) <;> simp [askVerify_frame .., declareFailed_frame .., restoreLane_frame .., setReg_frame ..]

theorem bumpBySatW_frame (w a n : Nat) (s : State) :
    (bumpBySatW w a n s).pending = s.pending ∧
    (bumpBySatW w a n s).fs = s.fs ∧
    (bumpBySatW w a n s).scene = s.scene ∧
    (bumpBySatW w a n s).jtag = s.jtag ∧
    (bumpBySatW w a n s).boot = s.boot ∧
    (bumpBySatW w a n s).period = s.period ∧
    (bumpBySatW w a n s).pwr = s.pwr ∧
    (bumpBySatW w a n s).scan = s.scan ∧
    (bumpBySatW w a n s).lct = s.lct ∧
    (bumpBySatW w a n s).tb = s.tb ∧
    (bumpBySatW w a n s).tiles = s.tiles ∧
    (bumpBySatW w a n s).handles = s.handles ∧
    (bumpBySatW w a n s).dcx = s.dcx ∧
    (bumpBySatW w a n s).mnt = s.mnt ∧
    (bumpBySatW w a n s).comp = s.comp ∧
    (bumpBySatW w a n s).thm = s.thm ∧
    (bumpBySatW w a n s).gl = s.gl ∧
    (bumpBySatW w a n s).link = s.link ∧
    (bumpBySatW w a n s).ozd = s.ozd ∧
    (bumpBySatW w a n s).lctc = s.lctc ∧
    (bumpBySatW w a n s).msgq = s.msgq ∧
    (bumpBySatW w a n s).wcapLevel = s.wcapLevel := by simp [setRegN_frame .., bumpBySatW]

theorem checkLane_frame (l : Fin 18) (taps : Nat × Nat) (bits : List Bool) (s : State) :
    (checkLane l taps bits s).pending = s.pending ∧
    (checkLane l taps bits s).fs = s.fs ∧
    (checkLane l taps bits s).scene = s.scene ∧
    (checkLane l taps bits s).jtag = s.jtag ∧
    (checkLane l taps bits s).boot = s.boot ∧
    (checkLane l taps bits s).period = s.period ∧
    (checkLane l taps bits s).pwr = s.pwr ∧
    (checkLane l taps bits s).scan = s.scan ∧
    (checkLane l taps bits s).lct = s.lct ∧
    (checkLane l taps bits s).tb = s.tb ∧
    (checkLane l taps bits s).tiles = s.tiles ∧
    (checkLane l taps bits s).handles = s.handles ∧
    (checkLane l taps bits s).dcx = s.dcx ∧
    (checkLane l taps bits s).mnt = s.mnt ∧
    (checkLane l taps bits s).comp = s.comp ∧
    (checkLane l taps bits s).thm = s.thm ∧
    (checkLane l taps bits s).gl = s.gl ∧
    (checkLane l taps bits s).link = s.link ∧
    (checkLane l taps bits s).ozd = s.ozd ∧
    (checkLane l taps bits s).lctc = s.lctc ∧
    (checkLane l taps bits s).msgq = s.msgq ∧
    (checkLane l taps bits s).wcapLevel = s.wcapLevel := by simp [bumpBySat_frame .., bumpBySatW_frame .., putAux_frame .., setRegBit_frame .., checkLane]

theorem queueCmd_frame (l : Lane) (opc num : Nat) (s : State) :
    (queueCmd l opc num s).pending = s.pending ∧
    (queueCmd l opc num s).fs = s.fs ∧
    (queueCmd l opc num s).scene = s.scene ∧
    (queueCmd l opc num s).jtag = s.jtag ∧
    (queueCmd l opc num s).boot = s.boot ∧
    (queueCmd l opc num s).period = s.period ∧
    (queueCmd l opc num s).pwr = s.pwr ∧
    (queueCmd l opc num s).scan = s.scan ∧
    (queueCmd l opc num s).lct = s.lct ∧
    (queueCmd l opc num s).tb = s.tb ∧
    (queueCmd l opc num s).tiles = s.tiles ∧
    (queueCmd l opc num s).handles = s.handles ∧
    (queueCmd l opc num s).dcx = s.dcx ∧
    (queueCmd l opc num s).mnt = s.mnt ∧
    (queueCmd l opc num s).comp = s.comp ∧
    (queueCmd l opc num s).thm = s.thm ∧
    (queueCmd l opc num s).gl = s.gl ∧
    (queueCmd l opc num s).link = s.link ∧
    (queueCmd l opc num s).ozd = s.ozd ∧
    (queueCmd l opc num s).lctc = s.lctc ∧
    (queueCmd l opc num s).msgq = s.msgq ∧
    (queueCmd l opc num s).wcapLevel = s.wcapLevel := by simp [putAux_frame .., queueCmd]

theorem panelMark_frame (l : Lane) (s : State) (y : Lane) :
    (panelMark l s y).pending = s.pending ∧
    (panelMark l s y).fs = s.fs ∧
    (panelMark l s y).scene = s.scene ∧
    (panelMark l s y).jtag = s.jtag ∧
    (panelMark l s y).boot = s.boot ∧
    (panelMark l s y).period = s.period ∧
    (panelMark l s y).pwr = s.pwr ∧
    (panelMark l s y).scan = s.scan ∧
    (panelMark l s y).lct = s.lct ∧
    (panelMark l s y).tb = s.tb ∧
    (panelMark l s y).tiles = s.tiles ∧
    (panelMark l s y).handles = s.handles ∧
    (panelMark l s y).dcx = s.dcx ∧
    (panelMark l s y).mnt = s.mnt ∧
    (panelMark l s y).comp = s.comp ∧
    (panelMark l s y).thm = s.thm ∧
    (panelMark l s y).gl = s.gl ∧
    (panelMark l s y).link = s.link ∧
    (panelMark l s y).ozd = s.ozd ∧
    (panelMark l s y).lctc = s.lctc ∧
    (panelMark l s y).msgq = s.msgq ∧
    (panelMark l s y).wcapLevel = s.wcapLevel := by simp only [panelMark]; (repeat' split) <;> simp [homeAgain_frame .., putAux_frame .., queueCmd_frame .., restored_frame ..]

theorem sendPanel_frame (l : Lane) (packets : List (List Word)) (s : State) :
    (sendPanel l packets s).pending = s.pending ∧
    (sendPanel l packets s).fs = s.fs ∧
    (sendPanel l packets s).scene = s.scene ∧
    (sendPanel l packets s).jtag = s.jtag ∧
    (sendPanel l packets s).boot = s.boot ∧
    (sendPanel l packets s).period = s.period ∧
    (sendPanel l packets s).pwr = s.pwr ∧
    (sendPanel l packets s).scan = s.scan ∧
    (sendPanel l packets s).lct = s.lct ∧
    (sendPanel l packets s).tb = s.tb ∧
    (sendPanel l packets s).tiles = s.tiles ∧
    (sendPanel l packets s).handles = s.handles ∧
    (sendPanel l packets s).dcx = s.dcx ∧
    (sendPanel l packets s).mnt = s.mnt ∧
    (sendPanel l packets s).comp = s.comp ∧
    (sendPanel l packets s).thm = s.thm ∧
    (sendPanel l packets s).gl = s.gl ∧
    (sendPanel l packets s).link = s.link ∧
    (sendPanel l packets s).ozd = s.ozd ∧
    (sendPanel l packets s).lctc = s.lctc ∧
    (sendPanel l packets s).msgq = s.msgq ∧
    (sendPanel l packets s).wcapLevel = s.wcapLevel := by simp [panelMark_frame .., sentOn_frame .., sendPanel]

theorem attend_frame (num : Nat) (s : State) :
    (attend num s).pending = s.pending ∧
    (attend num s).fs = s.fs ∧
    (attend num s).scene = s.scene ∧
    (attend num s).jtag = s.jtag ∧
    (attend num s).boot = s.boot ∧
    (attend num s).period = s.period ∧
    (attend num s).pwr = s.pwr ∧
    (attend num s).scan = s.scan ∧
    (attend num s).lct = s.lct ∧
    (attend num s).tb = s.tb ∧
    (attend num s).tiles = s.tiles ∧
    (attend num s).handles = s.handles ∧
    (attend num s).dcx = s.dcx ∧
    (attend num s).comp = s.comp ∧
    (attend num s).gl = s.gl ∧
    (attend num s).link = s.link ∧
    (attend num s).lctc = s.lctc ∧
    (attend num s).wcapLevel = s.wcapLevel := by simp only [attend]; (repeat' split) <;> simp [coverWith_frame .., declareFailed_frame ..]

theorem attendAll_frame (a : BitVec 72) (s : State) :
    (attendAll a s).pending = s.pending ∧
    (attendAll a s).fs = s.fs ∧
    (attendAll a s).scene = s.scene ∧
    (attendAll a s).jtag = s.jtag ∧
    (attendAll a s).boot = s.boot ∧
    (attendAll a s).period = s.period ∧
    (attendAll a s).pwr = s.pwr ∧
    (attendAll a s).scan = s.scan ∧
    (attendAll a s).lct = s.lct ∧
    (attendAll a s).tb = s.tb ∧
    (attendAll a s).tiles = s.tiles ∧
    (attendAll a s).handles = s.handles ∧
    (attendAll a s).dcx = s.dcx ∧
    (attendAll a s).comp = s.comp ∧
    (attendAll a s).gl = s.gl ∧
    (attendAll a s).link = s.link ∧
    (attendAll a s).lctc = s.lctc ∧
    (attendAll a s).wcapLevel = s.wcapLevel := by simp [attend_frame .., attendAll]

theorem statusUp_frame (k i : Nat) (d : Word) (s : State) :
    (statusUp k i d s).pending = s.pending ∧
    (statusUp k i d s).fs = s.fs ∧
    (statusUp k i d s).scene = s.scene ∧
    (statusUp k i d s).jtag = s.jtag ∧
    (statusUp k i d s).boot = s.boot ∧
    (statusUp k i d s).period = s.period ∧
    (statusUp k i d s).pwr = s.pwr ∧
    (statusUp k i d s).scan = s.scan ∧
    (statusUp k i d s).lct = s.lct ∧
    (statusUp k i d s).tb = s.tb ∧
    (statusUp k i d s).tiles = s.tiles ∧
    (statusUp k i d s).handles = s.handles ∧
    (statusUp k i d s).dcx = s.dcx ∧
    (statusUp k i d s).mnt = s.mnt ∧
    (statusUp k i d s).comp = s.comp ∧
    (statusUp k i d s).thm = s.thm ∧
    (statusUp k i d s).gl = s.gl ∧
    (statusUp k i d s).link = s.link ∧
    (statusUp k i d s).ozd = s.ozd ∧
    (statusUp k i d s).lctc = s.lctc ∧
    (statusUp k i d s).wcapLevel = s.wcapLevel := by simp [setLaneRole_frame .., setLaneState_frame .., setRegBit_frame .., statusUp]

theorem reportFailed_frame (l : Lane) (s : State) :
    (reportFailed l s).pending = s.pending ∧
    (reportFailed l s).fs = s.fs ∧
    (reportFailed l s).scene = s.scene ∧
    (reportFailed l s).jtag = s.jtag ∧
    (reportFailed l s).boot = s.boot ∧
    (reportFailed l s).period = s.period ∧
    (reportFailed l s).pwr = s.pwr ∧
    (reportFailed l s).scan = s.scan ∧
    (reportFailed l s).lct = s.lct ∧
    (reportFailed l s).tb = s.tb ∧
    (reportFailed l s).tiles = s.tiles ∧
    (reportFailed l s).handles = s.handles ∧
    (reportFailed l s).dcx = s.dcx ∧
    (reportFailed l s).comp = s.comp ∧
    (reportFailed l s).gl = s.gl ∧
    (reportFailed l s).link = s.link ∧
    (reportFailed l s).lctc = s.lctc ∧
    (reportFailed l s).wcapLevel = s.wcapLevel := by simp [declareFailed_frame .., laneEvent_frame .., reportFailed]

theorem statusInput_frame (k i : Nat) (d : Word) (s : State) :
    (statusInput k i d s).pending = s.pending ∧
    (statusInput k i d s).fs = s.fs ∧
    (statusInput k i d s).scene = s.scene ∧
    (statusInput k i d s).jtag = s.jtag ∧
    (statusInput k i d s).boot = s.boot ∧
    (statusInput k i d s).period = s.period ∧
    (statusInput k i d s).pwr = s.pwr ∧
    (statusInput k i d s).scan = s.scan ∧
    (statusInput k i d s).lct = s.lct ∧
    (statusInput k i d s).tb = s.tb ∧
    (statusInput k i d s).tiles = s.tiles ∧
    (statusInput k i d s).handles = s.handles ∧
    (statusInput k i d s).dcx = s.dcx ∧
    (statusInput k i d s).comp = s.comp ∧
    (statusInput k i d s).gl = s.gl ∧
    (statusInput k i d s).link = s.link ∧
    (statusInput k i d s).lctc = s.lctc ∧
    (statusInput k i d s).wcapLevel = s.wcapLevel := by simp [laneReturns_frame .., reportFailed_frame .., statusInput]

theorem psbGood_frame (k idx : Nat) (d : Word) (sel : Bool) (s : State) :
    (psbGood k idx d sel s).pending = s.pending ∧
    (psbGood k idx d sel s).fs = s.fs ∧
    (psbGood k idx d sel s).scene = s.scene ∧
    (psbGood k idx d sel s).jtag = s.jtag ∧
    (psbGood k idx d sel s).boot = s.boot ∧
    (psbGood k idx d sel s).period = s.period ∧
    (psbGood k idx d sel s).pwr = s.pwr ∧
    (psbGood k idx d sel s).scan = s.scan ∧
    (psbGood k idx d sel s).lct = s.lct ∧
    (psbGood k idx d sel s).tb = s.tb ∧
    (psbGood k idx d sel s).tiles = s.tiles ∧
    (psbGood k idx d sel s).handles = s.handles ∧
    (psbGood k idx d sel s).dcx = s.dcx ∧
    (psbGood k idx d sel s).comp = s.comp ∧
    (psbGood k idx d sel s).gl = s.gl ∧
    (psbGood k idx d sel s).link = s.link ∧
    (psbGood k idx d sel s).lctc = s.lctc ∧
    (psbGood k idx d sel s).wcapLevel = s.wcapLevel := by simp [setReg_frame .., statusInput_frame .., statusUp_frame .., psbGood]

theorem psbBad_frame (k : Nat) (s : State) :
    (psbBad k s).pending = s.pending ∧
    (psbBad k s).fs = s.fs ∧
    (psbBad k s).scene = s.scene ∧
    (psbBad k s).jtag = s.jtag ∧
    (psbBad k s).boot = s.boot ∧
    (psbBad k s).period = s.period ∧
    (psbBad k s).pwr = s.pwr ∧
    (psbBad k s).scan = s.scan ∧
    (psbBad k s).lct = s.lct ∧
    (psbBad k s).tb = s.tb ∧
    (psbBad k s).tiles = s.tiles ∧
    (psbBad k s).handles = s.handles ∧
    (psbBad k s).dcx = s.dcx ∧
    (psbBad k s).mnt = s.mnt ∧
    (psbBad k s).comp = s.comp ∧
    (psbBad k s).thm = s.thm ∧
    (psbBad k s).gl = s.gl ∧
    (psbBad k s).link = s.link ∧
    (psbBad k s).ozd = s.ozd ∧
    (psbBad k s).lctc = s.lctc ∧
    (psbBad k s).wcapLevel = s.wcapLevel := by simp [bumpSat_frame .., laneEvent_frame .., psbBad]

theorem effPsbSel_frame (v : Word) (s : State) :
    (effPsbSel v s).pending = s.pending ∧
    (effPsbSel v s).fs = s.fs ∧
    (effPsbSel v s).scene = s.scene ∧
    (effPsbSel v s).jtag = s.jtag ∧
    (effPsbSel v s).boot = s.boot ∧
    (effPsbSel v s).period = s.period ∧
    (effPsbSel v s).pwr = s.pwr ∧
    (effPsbSel v s).scan = s.scan ∧
    (effPsbSel v s).lct = s.lct ∧
    (effPsbSel v s).tb = s.tb ∧
    (effPsbSel v s).tiles = s.tiles ∧
    (effPsbSel v s).handles = s.handles ∧
    (effPsbSel v s).dcx = s.dcx ∧
    (effPsbSel v s).mnt = s.mnt ∧
    (effPsbSel v s).comp = s.comp ∧
    (effPsbSel v s).thm = s.thm ∧
    (effPsbSel v s).gl = s.gl ∧
    (effPsbSel v s).link = s.link ∧
    (effPsbSel v s).ozd = s.ozd ∧
    (effPsbSel v s).lctc = s.lctc ∧
    (effPsbSel v s).msgq = s.msgq ∧
    (effPsbSel v s).wcapLevel = s.wcapLevel := by simp [effPsbSel]

theorem effDrvreg_frame (m : Master) (v : Word) (s : State) :
    (effDrvreg m v s).pending = s.pending ∧
    (effDrvreg m v s).fs = s.fs ∧
    (effDrvreg m v s).scene = s.scene ∧
    (effDrvreg m v s).jtag = s.jtag ∧
    (effDrvreg m v s).boot = s.boot ∧
    (effDrvreg m v s).period = s.period ∧
    (effDrvreg m v s).pwr = s.pwr ∧
    (effDrvreg m v s).scan = s.scan ∧
    (effDrvreg m v s).lct = s.lct ∧
    (effDrvreg m v s).tb = s.tb ∧
    (effDrvreg m v s).tiles = s.tiles ∧
    (effDrvreg m v s).handles = s.handles ∧
    (effDrvreg m v s).dcx = s.dcx ∧
    (effDrvreg m v s).mnt = s.mnt ∧
    (effDrvreg m v s).comp = s.comp ∧
    (effDrvreg m v s).thm = s.thm ∧
    (effDrvreg m v s).gl = s.gl ∧
    (effDrvreg m v s).link = s.link ∧
    (effDrvreg m v s).ozd = s.ozd ∧
    (effDrvreg m v s).lctc = s.lctc ∧
    (effDrvreg m v s).msgq = s.msgq ∧
    (effDrvreg m v s).wcapLevel = s.wcapLevel := by simp [holdOrBusy_frame .., effDrvreg]

end Sys2Proof.Machine
end

