-- ==== Sys2Proof/Laws/FrameClock.lean ====
section
/-!
SUPPORT. What each operation of Clock.lean leaves unchanged.
-/
set_option linter.unusedSimpArgs false
namespace Sys2Proof.Machine

theorem tbAddTo_frame (k : Nat) (d : Int) (s : State) :
    (tbAddTo k d s).pending = s.pending ∧
    (tbAddTo k d s).fs = s.fs ∧
    (tbAddTo k d s).scene = s.scene ∧
    (tbAddTo k d s).jtag = s.jtag ∧
    (tbAddTo k d s).boot = s.boot ∧
    (tbAddTo k d s).period = s.period ∧
    (tbAddTo k d s).pwr = s.pwr ∧
    (tbAddTo k d s).scan = s.scan ∧
    (tbAddTo k d s).lct = s.lct ∧
    (tbAddTo k d s).tiles = s.tiles ∧
    (tbAddTo k d s).handles = s.handles ∧
    (tbAddTo k d s).dcx = s.dcx ∧
    (tbAddTo k d s).mnt = s.mnt ∧
    (tbAddTo k d s).comp = s.comp ∧
    (tbAddTo k d s).thm = s.thm ∧
    (tbAddTo k d s).gl = s.gl ∧
    (tbAddTo k d s).link = s.link ∧
    (tbAddTo k d s).ozd = s.ozd ∧
    (tbAddTo k d s).lctc = s.lctc ∧
    (tbAddTo k d s).msgq = s.msgq ∧
    (tbAddTo k d s).wcapLevel = s.wcapLevel := by simp [putTb_frame .., tbAddTo]

theorem tbRun_frame (n : Nat) (s : State) :
    (tbRun n s).pending = s.pending ∧
    (tbRun n s).fs = s.fs ∧
    (tbRun n s).scene = s.scene ∧
    (tbRun n s).jtag = s.jtag ∧
    (tbRun n s).boot = s.boot ∧
    (tbRun n s).period = s.period ∧
    (tbRun n s).pwr = s.pwr ∧
    (tbRun n s).scan = s.scan ∧
    (tbRun n s).lct = s.lct ∧
    (tbRun n s).tiles = s.tiles ∧
    (tbRun n s).handles = s.handles ∧
    (tbRun n s).dcx = s.dcx ∧
    (tbRun n s).mnt = s.mnt ∧
    (tbRun n s).comp = s.comp ∧
    (tbRun n s).thm = s.thm ∧
    (tbRun n s).gl = s.gl ∧
    (tbRun n s).link = s.link ∧
    (tbRun n s).ozd = s.ozd ∧
    (tbRun n s).lctc = s.lctc ∧
    (tbRun n s).msgq = s.msgq ∧
    (tbRun n s).wcapLevel = s.wcapLevel := by simp [tbAddTo_frame .., tbRun]

theorem tbMidnight_frame (n : Nat) (s : State) :
    (tbMidnight n s).pending = s.pending ∧
    (tbMidnight n s).fs = s.fs ∧
    (tbMidnight n s).scene = s.scene ∧
    (tbMidnight n s).jtag = s.jtag ∧
    (tbMidnight n s).boot = s.boot ∧
    (tbMidnight n s).period = s.period ∧
    (tbMidnight n s).pwr = s.pwr ∧
    (tbMidnight n s).scan = s.scan ∧
    (tbMidnight n s).lct = s.lct ∧
    (tbMidnight n s).tiles = s.tiles ∧
    (tbMidnight n s).handles = s.handles ∧
    (tbMidnight n s).dcx = s.dcx ∧
    (tbMidnight n s).mnt = s.mnt ∧
    (tbMidnight n s).comp = s.comp ∧
    (tbMidnight n s).thm = s.thm ∧
    (tbMidnight n s).gl = s.gl ∧
    (tbMidnight n s).link = s.link ∧
    (tbMidnight n s).ozd = s.ozd ∧
    (tbMidnight n s).lctc = s.lctc ∧
    (tbMidnight n s).msgq = s.msgq ∧
    (tbMidnight n s).wcapLevel = s.wcapLevel := by simp [tbAddTo_frame .., tbMidnight]

theorem passTime_frame (n : Nat) (s : State) :
    (passTime n s).pending = s.pending ∧
    (passTime n s).fs = s.fs ∧
    (passTime n s).scene = s.scene ∧
    (passTime n s).jtag = s.jtag ∧
    (passTime n s).boot = s.boot ∧
    (passTime n s).period = s.period ∧
    (passTime n s).pwr = s.pwr ∧
    (passTime n s).scan = s.scan ∧
    (passTime n s).lct = s.lct ∧
    (passTime n s).tiles = s.tiles ∧
    (passTime n s).handles = s.handles ∧
    (passTime n s).dcx = s.dcx ∧
    (passTime n s).mnt = s.mnt ∧
    (passTime n s).comp = s.comp ∧
    (passTime n s).thm = s.thm ∧
    (passTime n s).link = s.link ∧
    (passTime n s).lctc = s.lctc ∧
    (passTime n s).msgq = s.msgq := by simp [ozSettle_frame .., tbMidnight_frame .., tbRun_frame .., passTime]

theorem reachPsi_frame {x : Int} {s t : State} (h : reachPsi x s = some t) : t.pending = s.pending ∧
    t.fs = s.fs ∧
    t.scene = s.scene ∧
    t.jtag = s.jtag ∧
    t.boot = s.boot ∧
    t.period = s.period ∧
    t.pwr = s.pwr ∧
    t.scan = s.scan ∧
    t.lct = s.lct ∧
    t.tiles = s.tiles ∧
    t.handles = s.handles ∧
    t.dcx = s.dcx ∧
    t.mnt = s.mnt ∧
    t.comp = s.comp ∧
    t.thm = s.thm ∧
    t.link = s.link ∧
    t.lctc = s.lctc ∧
    t.msgq = s.msgq := by
  unfold reachPsi at h
  dsimp only at h
  split at h
  · simp [passTime_frame ..] at h; simp [passTime_frame .., ← h]
  · split at h
    · simp [passTime_frame ..] at h
    · simp [passTime_frame ..] at h; simp [passTime_frame .., ← h]

theorem glCheck_frame (s : State) :
    (glCheck s).pending = s.pending ∧
    (glCheck s).fs = s.fs ∧
    (glCheck s).scene = s.scene ∧
    (glCheck s).jtag = s.jtag ∧
    (glCheck s).boot = s.boot ∧
    (glCheck s).period = s.period ∧
    (glCheck s).pwr = s.pwr ∧
    (glCheck s).scan = s.scan ∧
    (glCheck s).lct = s.lct ∧
    (glCheck s).tb = s.tb ∧
    (glCheck s).tiles = s.tiles ∧
    (glCheck s).handles = s.handles ∧
    (glCheck s).dcx = s.dcx ∧
    (glCheck s).mnt = s.mnt ∧
    (glCheck s).comp = s.comp ∧
    (glCheck s).thm = s.thm ∧
    (glCheck s).link = s.link ∧
    (glCheck s).ozd = s.ozd ∧
    (glCheck s).lctc = s.lctc ∧
    (glCheck s).wcapLevel = s.wcapLevel := by simp [raise_frame .., glCheck]

theorem slewDone_frame (s : State) :
    (slewDone s).pending = s.pending ∧
    (slewDone s).fs = s.fs ∧
    (slewDone s).scene = s.scene ∧
    (slewDone s).jtag = s.jtag ∧
    (slewDone s).boot = s.boot ∧
    (slewDone s).period = s.period ∧
    (slewDone s).pwr = s.pwr ∧
    (slewDone s).scan = s.scan ∧
    (slewDone s).lct = s.lct ∧
    (slewDone s).tb = s.tb ∧
    (slewDone s).tiles = s.tiles ∧
    (slewDone s).handles = s.handles ∧
    (slewDone s).dcx = s.dcx ∧
    (slewDone s).mnt = s.mnt ∧
    (slewDone s).comp = s.comp ∧
    (slewDone s).thm = s.thm ∧
    (slewDone s).link = s.link ∧
    (slewDone s).ozd = s.ozd ∧
    (slewDone s).lctc = s.lctc ∧
    (slewDone s).wcapLevel = s.wcapLevel := by simp [raise_frame .., slewDone]

theorem seedTicks_frame (s : State) :
    (seedTicks s).pending = s.pending ∧
    (seedTicks s).fs = s.fs ∧
    (seedTicks s).scene = s.scene ∧
    (seedTicks s).jtag = s.jtag ∧
    (seedTicks s).boot = s.boot ∧
    (seedTicks s).period = s.period ∧
    (seedTicks s).pwr = s.pwr ∧
    (seedTicks s).lct = s.lct ∧
    (seedTicks s).tb = s.tb ∧
    (seedTicks s).tiles = s.tiles ∧
    (seedTicks s).handles = s.handles ∧
    (seedTicks s).dcx = s.dcx ∧
    (seedTicks s).mnt = s.mnt ∧
    (seedTicks s).comp = s.comp ∧
    (seedTicks s).thm = s.thm ∧
    (seedTicks s).link = s.link ∧
    (seedTicks s).ozd = s.ozd ∧
    (seedTicks s).lctc = s.lctc ∧
    (seedTicks s).wcapLevel = s.wcapLevel := by simp [slewDone_frame .., seedTicks]

theorem reseedTicks_frame (s : State) :
    (reseedTicks s).pending = s.pending ∧
    (reseedTicks s).fs = s.fs ∧
    (reseedTicks s).scene = s.scene ∧
    (reseedTicks s).jtag = s.jtag ∧
    (reseedTicks s).boot = s.boot ∧
    (reseedTicks s).period = s.period ∧
    (reseedTicks s).pwr = s.pwr ∧
    (reseedTicks s).scan = s.scan ∧
    (reseedTicks s).lct = s.lct ∧
    (reseedTicks s).tb = s.tb ∧
    (reseedTicks s).tiles = s.tiles ∧
    (reseedTicks s).handles = s.handles ∧
    (reseedTicks s).dcx = s.dcx ∧
    (reseedTicks s).mnt = s.mnt ∧
    (reseedTicks s).comp = s.comp ∧
    (reseedTicks s).thm = s.thm ∧
    (reseedTicks s).link = s.link ∧
    (reseedTicks s).ozd = s.ozd ∧
    (reseedTicks s).lctc = s.lctc ∧
    (reseedTicks s).wcapLevel = s.wcapLevel := by simp [bumpSat_frame .., raise_frame .., slewDone_frame .., reseedTicks]

theorem tickOut_frame (boundary : Bool) (s : State) :
    (tickOut boundary s).pending = s.pending ∧
    (tickOut boundary s).fs = s.fs ∧
    (tickOut boundary s).scene = s.scene ∧
    (tickOut boundary s).jtag = s.jtag ∧
    (tickOut boundary s).boot = s.boot ∧
    (tickOut boundary s).pwr = s.pwr ∧
    (tickOut boundary s).lct = s.lct ∧
    (tickOut boundary s).tb = s.tb ∧
    (tickOut boundary s).handles = s.handles ∧
    (tickOut boundary s).dcx = s.dcx ∧
    (tickOut boundary s).comp = s.comp ∧
    (tickOut boundary s).thm = s.thm ∧
    (tickOut boundary s).link = s.link ∧
    (tickOut boundary s).lctc = s.lctc ∧
    (tickOut boundary s).wcapLevel = s.wcapLevel := by simp [tickOut]

end Sys2Proof.Machine
end

