-- ==== Sys2Proof/Laws/FrameScanout.lean ====
section
/-!
SUPPORT. What each operation of Scanout.lean leaves unchanged.
-/
namespace Sys2Proof.Machine

theorem setScan_frame (c : Scan) (s : State) :
    (setScan c s).pending = s.pending ∧
    (setScan c s).fs = s.fs ∧
    (setScan c s).scene = s.scene ∧
    (setScan c s).jtag = s.jtag ∧
    (setScan c s).boot = s.boot ∧
    (setScan c s).period = s.period ∧
    (setScan c s).pwr = s.pwr ∧
    (setScan c s).lct = s.lct ∧
    (setScan c s).tb = s.tb ∧
    (setScan c s).tiles = s.tiles ∧
    (setScan c s).handles = s.handles ∧
    (setScan c s).dcx = s.dcx ∧
    (setScan c s).mnt = s.mnt ∧
    (setScan c s).comp = s.comp ∧
    (setScan c s).thm = s.thm ∧
    (setScan c s).gl = s.gl ∧
    (setScan c s).link = s.link ∧
    (setScan c s).ozd = s.ozd ∧
    (setScan c s).lctc = s.lctc ∧
    (setScan c s).msgq = s.msgq ∧
    (setScan c s).wcapLevel = s.wcapLevel := by simp [setScan]

theorem setScanState_frame (v : Nat) (s : State) :
    (setScanState v s).pending = s.pending ∧
    (setScanState v s).fs = s.fs ∧
    (setScanState v s).scene = s.scene ∧
    (setScanState v s).jtag = s.jtag ∧
    (setScanState v s).boot = s.boot ∧
    (setScanState v s).period = s.period ∧
    (setScanState v s).pwr = s.pwr ∧
    (setScanState v s).scan = s.scan ∧
    (setScanState v s).lct = s.lct ∧
    (setScanState v s).tb = s.tb ∧
    (setScanState v s).tiles = s.tiles ∧
    (setScanState v s).handles = s.handles ∧
    (setScanState v s).dcx = s.dcx ∧
    (setScanState v s).mnt = s.mnt ∧
    (setScanState v s).comp = s.comp ∧
    (setScanState v s).thm = s.thm ∧
    (setScanState v s).gl = s.gl ∧
    (setScanState v s).link = s.link ∧
    (setScanState v s).ozd = s.ozd ∧
    (setScanState v s).lctc = s.lctc ∧
    (setScanState v s).msgq = s.msgq ∧
    (setScanState v s).wcapLevel = s.wcapLevel := by simp [setRegFld_frame .., setScanState]

theorem issueReads_frame (ys : List Nat) (s : State) :
    (issueReads ys s).pending = s.pending ∧
    (issueReads ys s).fs = s.fs ∧
    (issueReads ys s).scene = s.scene ∧
    (issueReads ys s).jtag = s.jtag ∧
    (issueReads ys s).boot = s.boot ∧
    (issueReads ys s).period = s.period ∧
    (issueReads ys s).pwr = s.pwr ∧
    (issueReads ys s).lct = s.lct ∧
    (issueReads ys s).tb = s.tb ∧
    (issueReads ys s).tiles = s.tiles ∧
    (issueReads ys s).handles = s.handles ∧
    (issueReads ys s).dcx = s.dcx ∧
    (issueReads ys s).mnt = s.mnt ∧
    (issueReads ys s).comp = s.comp ∧
    (issueReads ys s).thm = s.thm ∧
    (issueReads ys s).gl = s.gl ∧
    (issueReads ys s).link = s.link ∧
    (issueReads ys s).ozd = s.ozd ∧
    (issueReads ys s).lctc = s.lctc ∧
    (issueReads ys s).msgq = s.msgq ∧
    (issueReads ys s).wcapLevel = s.wcapLevel := by simp only [issueReads]; (repeat' split) <;> simp [setScan_frame ..]

theorem readAhead_frame (s : State) :
    (readAhead s).pending = s.pending ∧
    (readAhead s).fs = s.fs ∧
    (readAhead s).scene = s.scene ∧
    (readAhead s).jtag = s.jtag ∧
    (readAhead s).boot = s.boot ∧
    (readAhead s).period = s.period ∧
    (readAhead s).pwr = s.pwr ∧
    (readAhead s).lct = s.lct ∧
    (readAhead s).tb = s.tb ∧
    (readAhead s).tiles = s.tiles ∧
    (readAhead s).handles = s.handles ∧
    (readAhead s).dcx = s.dcx ∧
    (readAhead s).mnt = s.mnt ∧
    (readAhead s).comp = s.comp ∧
    (readAhead s).thm = s.thm ∧
    (readAhead s).gl = s.gl ∧
    (readAhead s).link = s.link ∧
    (readAhead s).ozd = s.ozd ∧
    (readAhead s).lctc = s.lctc ∧
    (readAhead s).msgq = s.msgq ∧
    (readAhead s).wcapLevel = s.wcapLevel := by simp only [readAhead]; (repeat' split) <;> simp [setScan_frame ..]

theorem dropRows_frame (L : Nat) (s : State) :
    (dropRows L s).pending = s.pending ∧
    (dropRows L s).fs = s.fs ∧
    (dropRows L s).scene = s.scene ∧
    (dropRows L s).jtag = s.jtag ∧
    (dropRows L s).boot = s.boot ∧
    (dropRows L s).period = s.period ∧
    (dropRows L s).pwr = s.pwr ∧
    (dropRows L s).lct = s.lct ∧
    (dropRows L s).tb = s.tb ∧
    (dropRows L s).tiles = s.tiles ∧
    (dropRows L s).handles = s.handles ∧
    (dropRows L s).dcx = s.dcx ∧
    (dropRows L s).mnt = s.mnt ∧
    (dropRows L s).comp = s.comp ∧
    (dropRows L s).thm = s.thm ∧
    (dropRows L s).gl = s.gl ∧
    (dropRows L s).link = s.link ∧
    (dropRows L s).ozd = s.ozd ∧
    (dropRows L s).lctc = s.lctc ∧
    (dropRows L s).msgq = s.msgq ∧
    (dropRows L s).wcapLevel = s.wcapLevel := by simp only [dropRows]; (repeat' split) <;> simp [setScan_frame ..]

theorem fillFifos_frame (s : State) :
    (fillFifos s).pending = s.pending ∧
    (fillFifos s).fs = s.fs ∧
    (fillFifos s).scene = s.scene ∧
    (fillFifos s).jtag = s.jtag ∧
    (fillFifos s).boot = s.boot ∧
    (fillFifos s).period = s.period ∧
    (fillFifos s).pwr = s.pwr ∧
    (fillFifos s).lct = s.lct ∧
    (fillFifos s).tb = s.tb ∧
    (fillFifos s).tiles = s.tiles ∧
    (fillFifos s).handles = s.handles ∧
    (fillFifos s).dcx = s.dcx ∧
    (fillFifos s).mnt = s.mnt ∧
    (fillFifos s).comp = s.comp ∧
    (fillFifos s).thm = s.thm ∧
    (fillFifos s).gl = s.gl ∧
    (fillFifos s).link = s.link ∧
    (fillFifos s).ozd = s.ozd ∧
    (fillFifos s).lctc = s.lctc ∧
    (fillFifos s).msgq = s.msgq ∧
    (fillFifos s).wcapLevel = s.wcapLevel := by simp only [fillFifos]; (repeat' split) <;> simp [issueReads_frame .., setScan_frame ..]

theorem sendDrvreg_frame (s : State) :
    (sendDrvreg s).pending = s.pending ∧
    (sendDrvreg s).fs = s.fs ∧
    (sendDrvreg s).scene = s.scene ∧
    (sendDrvreg s).jtag = s.jtag ∧
    (sendDrvreg s).boot = s.boot ∧
    (sendDrvreg s).period = s.period ∧
    (sendDrvreg s).pwr = s.pwr ∧
    (sendDrvreg s).lct = s.lct ∧
    (sendDrvreg s).tb = s.tb ∧
    (sendDrvreg s).tiles = s.tiles ∧
    (sendDrvreg s).handles = s.handles ∧
    (sendDrvreg s).dcx = s.dcx ∧
    (sendDrvreg s).mnt = s.mnt ∧
    (sendDrvreg s).comp = s.comp ∧
    (sendDrvreg s).thm = s.thm ∧
    (sendDrvreg s).gl = s.gl ∧
    (sendDrvreg s).link = s.link ∧
    (sendDrvreg s).ozd = s.ozd ∧
    (sendDrvreg s).lctc = s.lctc ∧
    (sendDrvreg s).msgq = s.msgq ∧
    (sendDrvreg s).wcapLevel = s.wcapLevel := by simp only [sendDrvreg]; (repeat' split) <;> simp [setScan_frame ..]

theorem transmitLane_frame (s : State) (l : Lane) :
    (transmitLane s l).pending = s.pending ∧
    (transmitLane s l).fs = s.fs ∧
    (transmitLane s l).scene = s.scene ∧
    (transmitLane s l).jtag = s.jtag ∧
    (transmitLane s l).boot = s.boot ∧
    (transmitLane s l).period = s.period ∧
    (transmitLane s l).pwr = s.pwr ∧
    (transmitLane s l).scan = s.scan ∧
    (transmitLane s l).lct = s.lct ∧
    (transmitLane s l).tb = s.tb ∧
    (transmitLane s l).tiles = s.tiles ∧
    (transmitLane s l).handles = s.handles ∧
    (transmitLane s l).dcx = s.dcx ∧
    (transmitLane s l).mnt = s.mnt ∧
    (transmitLane s l).comp = s.comp ∧
    (transmitLane s l).thm = s.thm ∧
    (transmitLane s l).gl = s.gl ∧
    (transmitLane s l).link = s.link ∧
    (transmitLane s l).ozd = s.ozd ∧
    (transmitLane s l).lctc = s.lctc ∧
    (transmitLane s l).msgq = s.msgq ∧
    (transmitLane s l).wcapLevel = s.wcapLevel := by simp [putAux_frame .., sendPanel_frame .., transmitLane]

theorem transmit_frame (s : State) :
    (transmit s).pending = s.pending ∧
    (transmit s).fs = s.fs ∧
    (transmit s).scene = s.scene ∧
    (transmit s).jtag = s.jtag ∧
    (transmit s).boot = s.boot ∧
    (transmit s).period = s.period ∧
    (transmit s).pwr = s.pwr ∧
    (transmit s).scan = s.scan ∧
    (transmit s).lct = s.lct ∧
    (transmit s).tb = s.tb ∧
    (transmit s).tiles = s.tiles ∧
    (transmit s).handles = s.handles ∧
    (transmit s).dcx = s.dcx ∧
    (transmit s).mnt = s.mnt ∧
    (transmit s).comp = s.comp ∧
    (transmit s).thm = s.thm ∧
    (transmit s).gl = s.gl ∧
    (transmit s).link = s.link ∧
    (transmit s).ozd = s.ozd ∧
    (transmit s).lctc = s.lctc ∧
    (transmit s).msgq = s.msgq ∧
    (transmit s).wcapLevel = s.wcapLevel := by simp [transmitLane_frame .., transmit]

theorem keepRects_frame (r : Nat) (s : State) :
    (keepRects r s).pending = s.pending ∧
    (keepRects r s).fs = s.fs ∧
    (keepRects r s).scene = s.scene ∧
    (keepRects r s).jtag = s.jtag ∧
    (keepRects r s).boot = s.boot ∧
    (keepRects r s).period = s.period ∧
    (keepRects r s).pwr = s.pwr ∧
    (keepRects r s).scan = s.scan ∧
    (keepRects r s).lct = s.lct ∧
    (keepRects r s).tb = s.tb ∧
    (keepRects r s).tiles = s.tiles ∧
    (keepRects r s).handles = s.handles ∧
    (keepRects r s).dcx = s.dcx ∧
    (keepRects r s).mnt = s.mnt ∧
    (keepRects r s).comp = s.comp ∧
    (keepRects r s).thm = s.thm ∧
    (keepRects r s).gl = s.gl ∧
    (keepRects r s).link = s.link ∧
    (keepRects r s).ozd = s.ozd ∧
    (keepRects r s).lctc = s.lctc ∧
    (keepRects r s).msgq = s.msgq ∧
    (keepRects r s).wcapLevel = s.wcapLevel := by simp [keepRects]

theorem rowChecks_frame (r y : Nat) (bytes : List Byte) (s : State) :
    (rowChecks r y bytes s).pending = s.pending ∧
    (rowChecks r y bytes s).fs = s.fs ∧
    (rowChecks r y bytes s).scene = s.scene ∧
    (rowChecks r y bytes s).jtag = s.jtag ∧
    (rowChecks r y bytes s).boot = s.boot ∧
    (rowChecks r y bytes s).period = s.period ∧
    (rowChecks r y bytes s).pwr = s.pwr ∧
    (rowChecks r y bytes s).lct = s.lct ∧
    (rowChecks r y bytes s).tb = s.tb ∧
    (rowChecks r y bytes s).tiles = s.tiles ∧
    (rowChecks r y bytes s).handles = s.handles ∧
    (rowChecks r y bytes s).dcx = s.dcx ∧
    (rowChecks r y bytes s).mnt = s.mnt ∧
    (rowChecks r y bytes s).comp = s.comp ∧
    (rowChecks r y bytes s).thm = s.thm ∧
    (rowChecks r y bytes s).gl = s.gl ∧
    (rowChecks r y bytes s).link = s.link ∧
    (rowChecks r y bytes s).ozd = s.ozd ∧
    (rowChecks r y bytes s).lctc = s.lctc ∧
    (rowChecks r y bytes s).msgq = s.msgq ∧
    (rowChecks r y bytes s).wcapLevel = s.wcapLevel := by simp [setScan_frame .., rowChecks]

theorem granuleFailed_frame (r sl y : Nat) (s : State) (g : Nat) :
    (granuleFailed r sl y s g).pending = s.pending ∧
    (granuleFailed r sl y s g).fs = s.fs ∧
    (granuleFailed r sl y s g).scene = s.scene ∧
    (granuleFailed r sl y s g).jtag = s.jtag ∧
    (granuleFailed r sl y s g).boot = s.boot ∧
    (granuleFailed r sl y s g).period = s.period ∧
    (granuleFailed r sl y s g).pwr = s.pwr ∧
    (granuleFailed r sl y s g).lct = s.lct ∧
    (granuleFailed r sl y s g).tb = s.tb ∧
    (granuleFailed r sl y s g).tiles = s.tiles ∧
    (granuleFailed r sl y s g).handles = s.handles ∧
    (granuleFailed r sl y s g).dcx = s.dcx ∧
    (granuleFailed r sl y s g).comp = s.comp ∧
    (granuleFailed r sl y s g).thm = s.thm ∧
    (granuleFailed r sl y s g).gl = s.gl ∧
    (granuleFailed r sl y s g).link = s.link ∧
    (granuleFailed r sl y s g).ozd = s.ozd ∧
    (granuleFailed r sl y s g).lctc = s.lctc ∧
    (granuleFailed r sl y s g).wcapLevel = s.wcapLevel := by simp [bumpSat_frame .., raise_frame .., setScan_frame .., uncorr_frame .., granuleFailed]

theorem rowErrors_frame (r sl y : Nat) (s : State) :
    (rowErrors r sl y s).pending = s.pending ∧
    (rowErrors r sl y s).fs = s.fs ∧
    (rowErrors r sl y s).scene = s.scene ∧
    (rowErrors r sl y s).jtag = s.jtag ∧
    (rowErrors r sl y s).boot = s.boot ∧
    (rowErrors r sl y s).period = s.period ∧
    (rowErrors r sl y s).pwr = s.pwr ∧
    (rowErrors r sl y s).lct = s.lct ∧
    (rowErrors r sl y s).tb = s.tb ∧
    (rowErrors r sl y s).tiles = s.tiles ∧
    (rowErrors r sl y s).handles = s.handles ∧
    (rowErrors r sl y s).dcx = s.dcx ∧
    (rowErrors r sl y s).comp = s.comp ∧
    (rowErrors r sl y s).thm = s.thm ∧
    (rowErrors r sl y s).gl = s.gl ∧
    (rowErrors r sl y s).link = s.link ∧
    (rowErrors r sl y s).ozd = s.ozd ∧
    (rowErrors r sl y s).lctc = s.lctc ∧
    (rowErrors r sl y s).wcapLevel = s.wcapLevel := by simp only [rowErrors]; (repeat' split) <;> simp [granuleFailed_frame .., setScan_frame ..]

theorem showRow_frame (r sl y : Nat) (shownMissing refMissing : Bool) (s : State) :
    (showRow r sl y shownMissing refMissing s).pending = s.pending ∧
    (showRow r sl y shownMissing refMissing s).fs = s.fs ∧
    (showRow r sl y shownMissing refMissing s).scene = s.scene ∧
    (showRow r sl y shownMissing refMissing s).jtag = s.jtag ∧
    (showRow r sl y shownMissing refMissing s).boot = s.boot ∧
    (showRow r sl y shownMissing refMissing s).period = s.period ∧
    (showRow r sl y shownMissing refMissing s).pwr = s.pwr ∧
    (showRow r sl y shownMissing refMissing s).lct = s.lct ∧
    (showRow r sl y shownMissing refMissing s).tb = s.tb ∧
    (showRow r sl y shownMissing refMissing s).tiles = s.tiles ∧
    (showRow r sl y shownMissing refMissing s).handles = s.handles ∧
    (showRow r sl y shownMissing refMissing s).dcx = s.dcx ∧
    (showRow r sl y shownMissing refMissing s).comp = s.comp ∧
    (showRow r sl y shownMissing refMissing s).thm = s.thm ∧
    (showRow r sl y shownMissing refMissing s).gl = s.gl ∧
    (showRow r sl y shownMissing refMissing s).link = s.link ∧
    (showRow r sl y shownMissing refMissing s).ozd = s.ozd ∧
    (showRow r sl y shownMissing refMissing s).lctc = s.lctc ∧
    (showRow r sl y shownMissing refMissing s).wcapLevel = s.wcapLevel := by simp [bumpSat_frame .., rowChecks_frame .., rowErrors_frame .., setScan_frame .., showRow]

theorem checkFcrc_frame (r sl : Nat) (s : State) :
    (checkFcrc r sl s).pending = s.pending ∧
    (checkFcrc r sl s).fs = s.fs ∧
    (checkFcrc r sl s).scene = s.scene ∧
    (checkFcrc r sl s).jtag = s.jtag ∧
    (checkFcrc r sl s).boot = s.boot ∧
    (checkFcrc r sl s).period = s.period ∧
    (checkFcrc r sl s).pwr = s.pwr ∧
    (checkFcrc r sl s).scan = s.scan ∧
    (checkFcrc r sl s).lct = s.lct ∧
    (checkFcrc r sl s).tb = s.tb ∧
    (checkFcrc r sl s).tiles = s.tiles ∧
    (checkFcrc r sl s).handles = s.handles ∧
    (checkFcrc r sl s).dcx = s.dcx ∧
    (checkFcrc r sl s).mnt = s.mnt ∧
    (checkFcrc r sl s).comp = s.comp ∧
    (checkFcrc r sl s).thm = s.thm ∧
    (checkFcrc r sl s).gl = s.gl ∧
    (checkFcrc r sl s).link = s.link ∧
    (checkFcrc r sl s).ozd = s.ozd ∧
    (checkFcrc r sl s).lctc = s.lctc ∧
    (checkFcrc r sl s).wcapLevel = s.wcapLevel := by simp [bumpSat_frame .., raise_frame .., checkFcrc]

theorem checkRects_frame (r sl : Nat) (s : State) :
    (checkRects r sl s).pending = s.pending ∧
    (checkRects r sl s).fs = s.fs ∧
    (checkRects r sl s).scene = s.scene ∧
    (checkRects r sl s).jtag = s.jtag ∧
    (checkRects r sl s).boot = s.boot ∧
    (checkRects r sl s).period = s.period ∧
    (checkRects r sl s).pwr = s.pwr ∧
    (checkRects r sl s).scan = s.scan ∧
    (checkRects r sl s).lct = s.lct ∧
    (checkRects r sl s).tb = s.tb ∧
    (checkRects r sl s).tiles = s.tiles ∧
    (checkRects r sl s).handles = s.handles ∧
    (checkRects r sl s).dcx = s.dcx ∧
    (checkRects r sl s).mnt = s.mnt ∧
    (checkRects r sl s).comp = s.comp ∧
    (checkRects r sl s).thm = s.thm ∧
    (checkRects r sl s).gl = s.gl ∧
    (checkRects r sl s).link = s.link ∧
    (checkRects r sl s).ozd = s.ozd ∧
    (checkRects r sl s).lctc = s.lctc ∧
    (checkRects r sl s).wcapLevel = s.wcapLevel := by simp [bumpBySat_frame .., raise_frame .., setReg_frame .., checkRects]

theorem reportUnderrun_frame (s : State) :
    (reportUnderrun s).pending = s.pending ∧
    (reportUnderrun s).fs = s.fs ∧
    (reportUnderrun s).scene = s.scene ∧
    (reportUnderrun s).jtag = s.jtag ∧
    (reportUnderrun s).boot = s.boot ∧
    (reportUnderrun s).period = s.period ∧
    (reportUnderrun s).pwr = s.pwr ∧
    (reportUnderrun s).scan = s.scan ∧
    (reportUnderrun s).lct = s.lct ∧
    (reportUnderrun s).tb = s.tb ∧
    (reportUnderrun s).tiles = s.tiles ∧
    (reportUnderrun s).handles = s.handles ∧
    (reportUnderrun s).dcx = s.dcx ∧
    (reportUnderrun s).mnt = s.mnt ∧
    (reportUnderrun s).comp = s.comp ∧
    (reportUnderrun s).thm = s.thm ∧
    (reportUnderrun s).gl = s.gl ∧
    (reportUnderrun s).link = s.link ∧
    (reportUnderrun s).ozd = s.ozd ∧
    (reportUnderrun s).lctc = s.lctc ∧
    (reportUnderrun s).wcapLevel = s.wcapLevel := by simp only [reportUnderrun]; (repeat' split) <;> simp [raise_frame ..]

theorem reportShort_frame (s : State) :
    (reportShort s).pending = s.pending ∧
    (reportShort s).fs = s.fs ∧
    (reportShort s).scene = s.scene ∧
    (reportShort s).jtag = s.jtag ∧
    (reportShort s).boot = s.boot ∧
    (reportShort s).period = s.period ∧
    (reportShort s).pwr = s.pwr ∧
    (reportShort s).scan = s.scan ∧
    (reportShort s).lct = s.lct ∧
    (reportShort s).tb = s.tb ∧
    (reportShort s).tiles = s.tiles ∧
    (reportShort s).handles = s.handles ∧
    (reportShort s).dcx = s.dcx ∧
    (reportShort s).mnt = s.mnt ∧
    (reportShort s).comp = s.comp ∧
    (reportShort s).thm = s.thm ∧
    (reportShort s).gl = s.gl ∧
    (reportShort s).link = s.link ∧
    (reportShort s).ozd = s.ozd ∧
    (reportShort s).lctc = s.lctc ∧
    (reportShort s).wcapLevel = s.wcapLevel := by simp [bumpSat_frame .., raise_frame .., reportShort]

theorem loadGates_frame (s : State) :
    (loadGates s).pending = s.pending ∧
    (loadGates s).fs = s.fs ∧
    (loadGates s).scene = s.scene ∧
    (loadGates s).jtag = s.jtag ∧
    (loadGates s).boot = s.boot ∧
    (loadGates s).period = s.period ∧
    (loadGates s).pwr = s.pwr ∧
    (loadGates s).lct = s.lct ∧
    (loadGates s).tb = s.tb ∧
    (loadGates s).tiles = s.tiles ∧
    (loadGates s).handles = s.handles ∧
    (loadGates s).dcx = s.dcx ∧
    (loadGates s).mnt = s.mnt ∧
    (loadGates s).comp = s.comp ∧
    (loadGates s).thm = s.thm ∧
    (loadGates s).gl = s.gl ∧
    (loadGates s).link = s.link ∧
    (loadGates s).ozd = s.ozd ∧
    (loadGates s).lctc = s.lctc ∧
    (loadGates s).msgq = s.msgq ∧
    (loadGates s).wcapLevel = s.wcapLevel := by simp [setScan_frame .., loadGates]

theorem enterTransition_frame (s : State) :
    (enterTransition s).pending = s.pending ∧
    (enterTransition s).fs = s.fs ∧
    (enterTransition s).scene = s.scene ∧
    (enterTransition s).jtag = s.jtag ∧
    (enterTransition s).boot = s.boot ∧
    (enterTransition s).period = s.period ∧
    (enterTransition s).pwr = s.pwr ∧
    (enterTransition s).lct = s.lct ∧
    (enterTransition s).tb = s.tb ∧
    (enterTransition s).tiles = s.tiles ∧
    (enterTransition s).handles = s.handles ∧
    (enterTransition s).dcx = s.dcx ∧
    (enterTransition s).mnt = s.mnt ∧
    (enterTransition s).comp = s.comp ∧
    (enterTransition s).thm = s.thm ∧
    (enterTransition s).link = s.link ∧
    (enterTransition s).ozd = s.ozd ∧
    (enterTransition s).lctc = s.lctc ∧
    (enterTransition s).msgq = s.msgq ∧
    (enterTransition s).wcapLevel = s.wcapLevel := by simp only [enterTransition]; (repeat' split) <;> simp [loadGates_frame .., retrainPanel_frame .., setScan_frame ..]

theorem enterIdle_frame (s : State) :
    (enterIdle s).pending = s.pending ∧
    (enterIdle s).fs = s.fs ∧
    (enterIdle s).scene = s.scene ∧
    (enterIdle s).jtag = s.jtag ∧
    (enterIdle s).boot = s.boot ∧
    (enterIdle s).period = s.period ∧
    (enterIdle s).pwr = s.pwr ∧
    (enterIdle s).lct = s.lct ∧
    (enterIdle s).tb = s.tb ∧
    (enterIdle s).handles = s.handles ∧
    (enterIdle s).dcx = s.dcx ∧
    (enterIdle s).mnt = s.mnt ∧
    (enterIdle s).comp = s.comp ∧
    (enterIdle s).thm = s.thm ∧
    (enterIdle s).link = s.link ∧
    (enterIdle s).ozd = s.ozd ∧
    (enterIdle s).lctc = s.lctc ∧
    (enterIdle s).msgq = s.msgq ∧
    (enterIdle s).wcapLevel = s.wcapLevel := by simp [enterTransition_frame .., restTiles_frame .., setRegFld_frame .., setScanState_frame .., setScan_frame .., enterIdle]

theorem endFrame_frame (s : State) :
    (endFrame s).pending = s.pending ∧
    (endFrame s).fs = s.fs ∧
    (endFrame s).scene = s.scene ∧
    (endFrame s).jtag = s.jtag ∧
    (endFrame s).boot = s.boot ∧
    (endFrame s).period = s.period ∧
    (endFrame s).pwr = s.pwr ∧
    (endFrame s).lct = s.lct ∧
    (endFrame s).tb = s.tb ∧
    (endFrame s).handles = s.handles ∧
    (endFrame s).dcx = s.dcx ∧
    (endFrame s).comp = s.comp ∧
    (endFrame s).thm = s.thm ∧
    (endFrame s).link = s.link ∧
    (endFrame s).lctc = s.lctc ∧
    (endFrame s).wcapLevel = s.wcapLevel := by simp only [endFrame]; (repeat' split) <;> simp [applySkipped_frame .., checkFcrc_frame .., checkRects_frame .., enterIdle_frame .., reportShort_frame .., reportUnderrun_frame .., setScan_frame ..]

theorem swapTab_frame (t : Nat) (s : State) :
    (swapTab t s).pending = s.pending ∧
    (swapTab t s).fs = s.fs ∧
    (swapTab t s).scene = s.scene ∧
    (swapTab t s).jtag = s.jtag ∧
    (swapTab t s).boot = s.boot ∧
    (swapTab t s).period = s.period ∧
    (swapTab t s).pwr = s.pwr ∧
    (swapTab t s).scan = s.scan ∧
    (swapTab t s).lct = s.lct ∧
    (swapTab t s).tb = s.tb ∧
    (swapTab t s).tiles = s.tiles ∧
    (swapTab t s).handles = s.handles ∧
    (swapTab t s).dcx = s.dcx ∧
    (swapTab t s).mnt = s.mnt ∧
    (swapTab t s).comp = s.comp ∧
    (swapTab t s).thm = s.thm ∧
    (swapTab t s).gl = s.gl ∧
    (swapTab t s).link = s.link ∧
    (swapTab t s).ozd = s.ozd ∧
    (swapTab t s).lctc = s.lctc ∧
    (swapTab t s).msgq = s.msgq ∧
    (swapTab t s).wcapLevel = s.wcapLevel := by simp [swapTab]

theorem startFrame_frame (st : Nat) (shown : Option (Nat × Nat)) (s0 : State) :
    (startFrame st shown s0).pending = s0.pending ∧
    (startFrame st shown s0).fs = s0.fs ∧
    (startFrame st shown s0).scene = s0.scene ∧
    (startFrame st shown s0).jtag = s0.jtag ∧
    (startFrame st shown s0).boot = s0.boot ∧
    (startFrame st shown s0).period = s0.period ∧
    (startFrame st shown s0).pwr = s0.pwr ∧
    (startFrame st shown s0).lct = s0.lct ∧
    (startFrame st shown s0).tb = s0.tb ∧
    (startFrame st shown s0).tiles = s0.tiles ∧
    (startFrame st shown s0).handles = s0.handles ∧
    (startFrame st shown s0).dcx = s0.dcx ∧
    (startFrame st shown s0).mnt = s0.mnt ∧
    (startFrame st shown s0).comp = s0.comp ∧
    (startFrame st shown s0).thm = s0.thm ∧
    (startFrame st shown s0).gl = s0.gl ∧
    (startFrame st shown s0).link = s0.link ∧
    (startFrame st shown s0).ozd = s0.ozd ∧
    (startFrame st shown s0).lctc = s0.lctc ∧
    (startFrame st shown s0).msgq = s0.msgq ∧
    (startFrame st shown s0).wcapLevel = s0.wcapLevel := by simp [fillFifos_frame .., loadGates_frame .., setScan_frame .., setScanState_frame .., startFrame]

theorem startDark_frame (cause : Nat) (s : State) :
    (startDark cause s).pending = s.pending ∧
    (startDark cause s).fs = s.fs ∧
    (startDark cause s).scene = s.scene ∧
    (startDark cause s).jtag = s.jtag ∧
    (startDark cause s).boot = s.boot ∧
    (startDark cause s).period = s.period ∧
    (startDark cause s).pwr = s.pwr ∧
    (startDark cause s).lct = s.lct ∧
    (startDark cause s).tb = s.tb ∧
    (startDark cause s).tiles = s.tiles ∧
    (startDark cause s).handles = s.handles ∧
    (startDark cause s).dcx = s.dcx ∧
    (startDark cause s).mnt = s.mnt ∧
    (startDark cause s).comp = s.comp ∧
    (startDark cause s).thm = s.thm ∧
    (startDark cause s).gl = s.gl ∧
    (startDark cause s).link = s.link ∧
    (startDark cause s).ozd = s.ozd ∧
    (startDark cause s).lctc = s.lctc ∧
    (startDark cause s).wcapLevel = s.wcapLevel := by simp [bumpSat_frame .., raise_frame .., setScan_frame .., startFrame_frame .., startDark]

theorem scanBlock_frame (s : State) :
    (scanBlock s).pending = s.pending ∧
    (scanBlock s).fs = s.fs ∧
    (scanBlock s).scene = s.scene ∧
    (scanBlock s).jtag = s.jtag ∧
    (scanBlock s).boot = s.boot ∧
    (scanBlock s).period = s.period ∧
    (scanBlock s).pwr = s.pwr ∧
    (scanBlock s).lct = s.lct ∧
    (scanBlock s).tb = s.tb ∧
    (scanBlock s).tiles = s.tiles ∧
    (scanBlock s).handles = s.handles ∧
    (scanBlock s).dcx = s.dcx ∧
    (scanBlock s).mnt = s.mnt ∧
    (scanBlock s).comp = s.comp ∧
    (scanBlock s).thm = s.thm ∧
    (scanBlock s).gl = s.gl ∧
    (scanBlock s).link = s.link ∧
    (scanBlock s).ozd = s.ozd ∧
    (scanBlock s).lctc = s.lctc ∧
    (scanBlock s).msgq = s.msgq ∧
    (scanBlock s).wcapLevel = s.wcapLevel := by simp [setScan_frame .., setScanState_frame .., scanBlock]

theorem holdIdle_frame (s : State) :
    (holdIdle s).pending = s.pending ∧
    (holdIdle s).fs = s.fs ∧
    (holdIdle s).scene = s.scene ∧
    (holdIdle s).jtag = s.jtag ∧
    (holdIdle s).boot = s.boot ∧
    (holdIdle s).period = s.period ∧
    (holdIdle s).pwr = s.pwr ∧
    (holdIdle s).lct = s.lct ∧
    (holdIdle s).tb = s.tb ∧
    (holdIdle s).tiles = s.tiles ∧
    (holdIdle s).handles = s.handles ∧
    (holdIdle s).dcx = s.dcx ∧
    (holdIdle s).mnt = s.mnt ∧
    (holdIdle s).comp = s.comp ∧
    (holdIdle s).thm = s.thm ∧
    (holdIdle s).gl = s.gl ∧
    (holdIdle s).link = s.link ∧
    (holdIdle s).ozd = s.ozd ∧
    (holdIdle s).lctc = s.lctc ∧
    (holdIdle s).msgq = s.msgq ∧
    (holdIdle s).wcapLevel = s.wcapLevel := by simp [setScan_frame .., holdIdle]

theorem beginPanel_frame (s0 : State) :
    (beginPanel s0).pending = s0.pending ∧
    (beginPanel s0).fs = s0.fs ∧
    (beginPanel s0).scene = s0.scene ∧
    (beginPanel s0).jtag = s0.jtag ∧
    (beginPanel s0).boot = s0.boot ∧
    (beginPanel s0).period = s0.period ∧
    (beginPanel s0).pwr = s0.pwr ∧
    (beginPanel s0).lct = s0.lct ∧
    (beginPanel s0).tb = s0.tb ∧
    (beginPanel s0).handles = s0.handles ∧
    (beginPanel s0).dcx = s0.dcx ∧
    (beginPanel s0).mnt = s0.mnt ∧
    (beginPanel s0).comp = s0.comp ∧
    (beginPanel s0).thm = s0.thm ∧
    (beginPanel s0).link = s0.link ∧
    (beginPanel s0).ozd = s0.ozd ∧
    (beginPanel s0).lctc = s0.lctc ∧
    (beginPanel s0).wcapLevel = s0.wcapLevel := by simp only [beginPanel]; (repeat' split) <;> simp [enterIdle_frame .., holdIdle_frame .., scanBlock_frame .., startDark_frame .., startFrame_frame .., swapTab_frame ..]

theorem tilesTick_frame (s : State) :
    (tilesTick s).pending = s.pending ∧
    (tilesTick s).fs = s.fs ∧
    (tilesTick s).scene = s.scene ∧
    (tilesTick s).jtag = s.jtag ∧
    (tilesTick s).boot = s.boot ∧
    (tilesTick s).period = s.period ∧
    (tilesTick s).pwr = s.pwr ∧
    (tilesTick s).scan = s.scan ∧
    (tilesTick s).lct = s.lct ∧
    (tilesTick s).tb = s.tb ∧
    (tilesTick s).handles = s.handles ∧
    (tilesTick s).dcx = s.dcx ∧
    (tilesTick s).mnt = s.mnt ∧
    (tilesTick s).comp = s.comp ∧
    (tilesTick s).thm = s.thm ∧
    (tilesTick s).gl = s.gl ∧
    (tilesTick s).link = s.link ∧
    (tilesTick s).lctc = s.lctc ∧
    (tilesTick s).wcapLevel = s.wcapLevel := by simp [newRefs_frame .., tileOn_frame .., tilesTick]

theorem slotTick_frame (sl : Nat) (s : State) :
    (slotTick sl s).pending = s.pending ∧
    (slotTick sl s).fs = s.fs ∧
    (slotTick sl s).scene = s.scene ∧
    (slotTick sl s).jtag = s.jtag ∧
    (slotTick sl s).boot = s.boot ∧
    (slotTick sl s).pwr = s.pwr ∧
    (slotTick sl s).lct = s.lct ∧
    (slotTick sl s).tb = s.tb ∧
    (slotTick sl s).handles = s.handles ∧
    (slotTick sl s).dcx = s.dcx ∧
    (slotTick sl s).comp = s.comp ∧
    (slotTick sl s).thm = s.thm ∧
    (slotTick sl s).link = s.link ∧
    (slotTick sl s).lctc = s.lctc ∧
    (slotTick sl s).wcapLevel = s.wcapLevel := by simp [beginPanel_frame .., endFrame_frame .., firstBlock_frame .., setRegFld_frame .., setScan_frame .., tilesTick_frame .., slotTick]

theorem lineOutput_frame (L : Nat) (shownMissing refMissing : Bool) (s : State) :
    (lineOutput L shownMissing refMissing s).pending = s.pending ∧
    (lineOutput L shownMissing refMissing s).fs = s.fs ∧
    (lineOutput L shownMissing refMissing s).scene = s.scene ∧
    (lineOutput L shownMissing refMissing s).jtag = s.jtag ∧
    (lineOutput L shownMissing refMissing s).boot = s.boot ∧
    (lineOutput L shownMissing refMissing s).period = s.period ∧
    (lineOutput L shownMissing refMissing s).pwr = s.pwr ∧
    (lineOutput L shownMissing refMissing s).lct = s.lct ∧
    (lineOutput L shownMissing refMissing s).tb = s.tb ∧
    (lineOutput L shownMissing refMissing s).tiles = s.tiles ∧
    (lineOutput L shownMissing refMissing s).handles = s.handles ∧
    (lineOutput L shownMissing refMissing s).dcx = s.dcx ∧
    (lineOutput L shownMissing refMissing s).comp = s.comp ∧
    (lineOutput L shownMissing refMissing s).thm = s.thm ∧
    (lineOutput L shownMissing refMissing s).gl = s.gl ∧
    (lineOutput L shownMissing refMissing s).link = s.link ∧
    (lineOutput L shownMissing refMissing s).ozd = s.ozd ∧
    (lineOutput L shownMissing refMissing s).lctc = s.lctc ∧
    (lineOutput L shownMissing refMissing s).wcapLevel = s.wcapLevel := by simp only [lineOutput]; (repeat' split) <;> simp [dropRows_frame .., issueReads_frame .., sendDrvreg_frame .., setScan_frame .., showRow_frame ..]

theorem fifoMin_frame (fill : Nat) (s : State) :
    (fifoMin fill s).pending = s.pending ∧
    (fifoMin fill s).fs = s.fs ∧
    (fifoMin fill s).scene = s.scene ∧
    (fifoMin fill s).jtag = s.jtag ∧
    (fifoMin fill s).boot = s.boot ∧
    (fifoMin fill s).period = s.period ∧
    (fifoMin fill s).pwr = s.pwr ∧
    (fifoMin fill s).scan = s.scan ∧
    (fifoMin fill s).lct = s.lct ∧
    (fifoMin fill s).tb = s.tb ∧
    (fifoMin fill s).tiles = s.tiles ∧
    (fifoMin fill s).handles = s.handles ∧
    (fifoMin fill s).dcx = s.dcx ∧
    (fifoMin fill s).mnt = s.mnt ∧
    (fifoMin fill s).comp = s.comp ∧
    (fifoMin fill s).thm = s.thm ∧
    (fifoMin fill s).gl = s.gl ∧
    (fifoMin fill s).link = s.link ∧
    (fifoMin fill s).ozd = s.ozd ∧
    (fifoMin fill s).lctc = s.lctc ∧
    (fifoMin fill s).msgq = s.msgq ∧
    (fifoMin fill s).wcapLevel = s.wcapLevel := by simp [setRegN_frame .., fifoMin]

theorem lineStep_frame (L fill : Nat) (shownMissing refMissing : Bool) (s : State) :
    (lineStep L fill shownMissing refMissing s).pending = s.pending ∧
    (lineStep L fill shownMissing refMissing s).fs = s.fs ∧
    (lineStep L fill shownMissing refMissing s).scene = s.scene ∧
    (lineStep L fill shownMissing refMissing s).jtag = s.jtag ∧
    (lineStep L fill shownMissing refMissing s).boot = s.boot ∧
    (lineStep L fill shownMissing refMissing s).pwr = s.pwr ∧
    (lineStep L fill shownMissing refMissing s).lct = s.lct ∧
    (lineStep L fill shownMissing refMissing s).tb = s.tb ∧
    (lineStep L fill shownMissing refMissing s).handles = s.handles ∧
    (lineStep L fill shownMissing refMissing s).dcx = s.dcx ∧
    (lineStep L fill shownMissing refMissing s).comp = s.comp ∧
    (lineStep L fill shownMissing refMissing s).thm = s.thm ∧
    (lineStep L fill shownMissing refMissing s).gl = s.gl ∧
    (lineStep L fill shownMissing refMissing s).link = s.link ∧
    (lineStep L fill shownMissing refMissing s).lctc = s.lctc ∧
    (lineStep L fill shownMissing refMissing s).wcapLevel = s.wcapLevel := by simp [applyAt_frame .., fifoMin_frame .., lineOutput_frame .., readAhead_frame .., setRegFld_frame .., setScan_frame .., transmit_frame .., lineStep]

theorem odRead_frame (s : State) :
    (odRead s).2.pending = s.pending ∧
    (odRead s).2.fs = s.fs ∧
    (odRead s).2.scene = s.scene ∧
    (odRead s).2.jtag = s.jtag ∧
    (odRead s).2.boot = s.boot ∧
    (odRead s).2.period = s.period ∧
    (odRead s).2.pwr = s.pwr ∧
    (odRead s).2.scan = s.scan ∧
    (odRead s).2.lct = s.lct ∧
    (odRead s).2.tb = s.tb ∧
    (odRead s).2.tiles = s.tiles ∧
    (odRead s).2.handles = s.handles ∧
    (odRead s).2.dcx = s.dcx ∧
    (odRead s).2.mnt = s.mnt ∧
    (odRead s).2.comp = s.comp ∧
    (odRead s).2.thm = s.thm ∧
    (odRead s).2.gl = s.gl ∧
    (odRead s).2.link = s.link ∧
    (odRead s).2.ozd = s.ozd ∧
    (odRead s).2.lctc = s.lctc ∧
    (odRead s).2.msgq = s.msgq ∧
    (odRead s).2.wcapLevel = s.wcapLevel := by simp [tabRead_frame .., odRead]

theorem odWrite_frame (v : Word) (s : State) :
    (odWrite v s).pending = s.pending ∧
    (odWrite v s).fs = s.fs ∧
    (odWrite v s).scene = s.scene ∧
    (odWrite v s).jtag = s.jtag ∧
    (odWrite v s).boot = s.boot ∧
    (odWrite v s).period = s.period ∧
    (odWrite v s).pwr = s.pwr ∧
    (odWrite v s).scan = s.scan ∧
    (odWrite v s).lct = s.lct ∧
    (odWrite v s).tb = s.tb ∧
    (odWrite v s).tiles = s.tiles ∧
    (odWrite v s).handles = s.handles ∧
    (odWrite v s).dcx = s.dcx ∧
    (odWrite v s).mnt = s.mnt ∧
    (odWrite v s).comp = s.comp ∧
    (odWrite v s).thm = s.thm ∧
    (odWrite v s).gl = s.gl ∧
    (odWrite v s).link = s.link ∧
    (odWrite v s).ozd = s.ozd ∧
    (odWrite v s).lctc = s.lctc ∧
    (odWrite v s).msgq = s.msgq ∧
    (odWrite v s).wcapLevel = s.wcapLevel := by simp [tabWrite_frame .., odWrite]

theorem nsbRead_frame (s : State) :
    (nsbRead s).2.pending = s.pending ∧
    (nsbRead s).2.fs = s.fs ∧
    (nsbRead s).2.scene = s.scene ∧
    (nsbRead s).2.jtag = s.jtag ∧
    (nsbRead s).2.boot = s.boot ∧
    (nsbRead s).2.period = s.period ∧
    (nsbRead s).2.pwr = s.pwr ∧
    (nsbRead s).2.scan = s.scan ∧
    (nsbRead s).2.lct = s.lct ∧
    (nsbRead s).2.tb = s.tb ∧
    (nsbRead s).2.tiles = s.tiles ∧
    (nsbRead s).2.handles = s.handles ∧
    (nsbRead s).2.dcx = s.dcx ∧
    (nsbRead s).2.mnt = s.mnt ∧
    (nsbRead s).2.comp = s.comp ∧
    (nsbRead s).2.thm = s.thm ∧
    (nsbRead s).2.gl = s.gl ∧
    (nsbRead s).2.link = s.link ∧
    (nsbRead s).2.ozd = s.ozd ∧
    (nsbRead s).2.lctc = s.lctc ∧
    (nsbRead s).2.msgq = s.msgq ∧
    (nsbRead s).2.wcapLevel = s.wcapLevel := by simp [tabRead_frame .., nsbRead]

theorem nsbWrite_frame (v : Word) (s : State) :
    (nsbWrite v s).pending = s.pending ∧
    (nsbWrite v s).fs = s.fs ∧
    (nsbWrite v s).scene = s.scene ∧
    (nsbWrite v s).jtag = s.jtag ∧
    (nsbWrite v s).boot = s.boot ∧
    (nsbWrite v s).period = s.period ∧
    (nsbWrite v s).pwr = s.pwr ∧
    (nsbWrite v s).scan = s.scan ∧
    (nsbWrite v s).lct = s.lct ∧
    (nsbWrite v s).tb = s.tb ∧
    (nsbWrite v s).tiles = s.tiles ∧
    (nsbWrite v s).handles = s.handles ∧
    (nsbWrite v s).dcx = s.dcx ∧
    (nsbWrite v s).mnt = s.mnt ∧
    (nsbWrite v s).comp = s.comp ∧
    (nsbWrite v s).thm = s.thm ∧
    (nsbWrite v s).gl = s.gl ∧
    (nsbWrite v s).link = s.link ∧
    (nsbWrite v s).ozd = s.ozd ∧
    (nsbWrite v s).lctc = s.lctc ∧
    (nsbWrite v s).msgq = s.msgq ∧
    (nsbWrite v s).wcapLevel = s.wcapLevel := by simp [setRegN_frame .., setTab_frame .., nsbWrite]

theorem fifoMinRead_frame (s : State) :
    (fifoMinRead s).2.pending = s.pending ∧
    (fifoMinRead s).2.fs = s.fs ∧
    (fifoMinRead s).2.scene = s.scene ∧
    (fifoMinRead s).2.jtag = s.jtag ∧
    (fifoMinRead s).2.boot = s.boot ∧
    (fifoMinRead s).2.period = s.period ∧
    (fifoMinRead s).2.pwr = s.pwr ∧
    (fifoMinRead s).2.scan = s.scan ∧
    (fifoMinRead s).2.lct = s.lct ∧
    (fifoMinRead s).2.tb = s.tb ∧
    (fifoMinRead s).2.tiles = s.tiles ∧
    (fifoMinRead s).2.handles = s.handles ∧
    (fifoMinRead s).2.dcx = s.dcx ∧
    (fifoMinRead s).2.mnt = s.mnt ∧
    (fifoMinRead s).2.comp = s.comp ∧
    (fifoMinRead s).2.thm = s.thm ∧
    (fifoMinRead s).2.gl = s.gl ∧
    (fifoMinRead s).2.link = s.link ∧
    (fifoMinRead s).2.ozd = s.ozd ∧
    (fifoMinRead s).2.lctc = s.lctc ∧
    (fifoMinRead s).2.msgq = s.msgq ∧
    (fifoMinRead s).2.wcapLevel = s.wcapLevel := by simp [setRegN_frame .., fifoMinRead]

end Sys2Proof.Machine
end

