-- ==== Sys2Proof/Laws/FrameComposer.lean ====
section
/-!
SUPPORT. What each operation of Composer.lean leaves unchanged.
-/
namespace Sys2Proof.Machine

theorem setComp_frame (c : Comp) (s : State) :
    (setComp c s).pending = s.pending ∧
    (setComp c s).fs = s.fs ∧
    (setComp c s).scene = s.scene ∧
    (setComp c s).jtag = s.jtag ∧
    (setComp c s).boot = s.boot ∧
    (setComp c s).period = s.period ∧
    (setComp c s).pwr = s.pwr ∧
    (setComp c s).scan = s.scan ∧
    (setComp c s).lct = s.lct ∧
    (setComp c s).tb = s.tb ∧
    (setComp c s).tiles = s.tiles ∧
    (setComp c s).handles = s.handles ∧
    (setComp c s).dcx = s.dcx ∧
    (setComp c s).mnt = s.mnt ∧
    (setComp c s).thm = s.thm ∧
    (setComp c s).gl = s.gl ∧
    (setComp c s).link = s.link ∧
    (setComp c s).ozd = s.ozd ∧
    (setComp c s).lctc = s.lctc ∧
    (setComp c s).msgq = s.msgq ∧
    (setComp c s).wcapLevel = s.wcapLevel := by simp [setComp]

theorem setRole_frame (e role cause : Nat) (s : State) :
    (setRole e role cause s).pending = s.pending ∧
    (setRole e role cause s).fs = s.fs ∧
    (setRole e role cause s).scene = s.scene ∧
    (setRole e role cause s).jtag = s.jtag ∧
    (setRole e role cause s).boot = s.boot ∧
    (setRole e role cause s).period = s.period ∧
    (setRole e role cause s).pwr = s.pwr ∧
    (setRole e role cause s).scan = s.scan ∧
    (setRole e role cause s).lct = s.lct ∧
    (setRole e role cause s).tb = s.tb ∧
    (setRole e role cause s).tiles = s.tiles ∧
    (setRole e role cause s).handles = s.handles ∧
    (setRole e role cause s).dcx = s.dcx ∧
    (setRole e role cause s).mnt = s.mnt ∧
    (setRole e role cause s).comp = s.comp ∧
    (setRole e role cause s).thm = s.thm ∧
    (setRole e role cause s).gl = s.gl ∧
    (setRole e role cause s).link = s.link ∧
    (setRole e role cause s).ozd = s.ozd ∧
    (setRole e role cause s).lctc = s.lctc ∧
    (setRole e role cause s).wcapLevel = s.wcapLevel := by simp [raise_frame .., setRegN_frame .., setRole]

theorem endEver_frame (e : Nat) (s : State) :
    (endEver e s).pending = s.pending ∧
    (endEver e s).fs = s.fs ∧
    (endEver e s).scene = s.scene ∧
    (endEver e s).jtag = s.jtag ∧
    (endEver e s).boot = s.boot ∧
    (endEver e s).period = s.period ∧
    (endEver e s).pwr = s.pwr ∧
    (endEver e s).scan = s.scan ∧
    (endEver e s).lct = s.lct ∧
    (endEver e s).tb = s.tb ∧
    (endEver e s).tiles = s.tiles ∧
    (endEver e s).handles = s.handles ∧
    (endEver e s).dcx = s.dcx ∧
    (endEver e s).comp = s.comp ∧
    (endEver e s).thm = s.thm ∧
    (endEver e s).gl = s.gl ∧
    (endEver e s).link = s.link ∧
    (endEver e s).ozd = s.ozd ∧
    (endEver e s).lctc = s.lctc ∧
    (endEver e s).msgq = s.msgq ∧
    (endEver e s).wcapLevel = s.wcapLevel := by simp [endEver]

theorem retireEngine_frame (e role cause : Nat) (s : State) :
    (retireEngine e role cause s).pending = s.pending ∧
    (retireEngine e role cause s).fs = s.fs ∧
    (retireEngine e role cause s).scene = s.scene ∧
    (retireEngine e role cause s).jtag = s.jtag ∧
    (retireEngine e role cause s).boot = s.boot ∧
    (retireEngine e role cause s).period = s.period ∧
    (retireEngine e role cause s).pwr = s.pwr ∧
    (retireEngine e role cause s).scan = s.scan ∧
    (retireEngine e role cause s).lct = s.lct ∧
    (retireEngine e role cause s).tb = s.tb ∧
    (retireEngine e role cause s).tiles = s.tiles ∧
    (retireEngine e role cause s).handles = s.handles ∧
    (retireEngine e role cause s).dcx = s.dcx ∧
    (retireEngine e role cause s).thm = s.thm ∧
    (retireEngine e role cause s).gl = s.gl ∧
    (retireEngine e role cause s).link = s.link ∧
    (retireEngine e role cause s).lctc = s.lctc ∧
    (retireEngine e role cause s).wcapLevel = s.wcapLevel := by simp [counterAdd_frame .., endEver_frame .., raise_frame .., setComp_frame .., setRole_frame .., retireEngine]

theorem quarantineLoser_frame (e : Nat) (s : State) :
    (quarantineLoser e s).pending = s.pending ∧
    (quarantineLoser e s).fs = s.fs ∧
    (quarantineLoser e s).scene = s.scene ∧
    (quarantineLoser e s).jtag = s.jtag ∧
    (quarantineLoser e s).boot = s.boot ∧
    (quarantineLoser e s).period = s.period ∧
    (quarantineLoser e s).pwr = s.pwr ∧
    (quarantineLoser e s).scan = s.scan ∧
    (quarantineLoser e s).lct = s.lct ∧
    (quarantineLoser e s).tb = s.tb ∧
    (quarantineLoser e s).tiles = s.tiles ∧
    (quarantineLoser e s).handles = s.handles ∧
    (quarantineLoser e s).dcx = s.dcx ∧
    (quarantineLoser e s).thm = s.thm ∧
    (quarantineLoser e s).gl = s.gl ∧
    (quarantineLoser e s).link = s.link ∧
    (quarantineLoser e s).lctc = s.lctc ∧
    (quarantineLoser e s).wcapLevel = s.wcapLevel := by simp [retireEngine_frame .., quarantineLoser]

theorem askRole_frame (e role : Nat) (s : State) :
    (askRole e role s).pending = s.pending ∧
    (askRole e role s).fs = s.fs ∧
    (askRole e role s).scene = s.scene ∧
    (askRole e role s).jtag = s.jtag ∧
    (askRole e role s).boot = s.boot ∧
    (askRole e role s).period = s.period ∧
    (askRole e role s).pwr = s.pwr ∧
    (askRole e role s).scan = s.scan ∧
    (askRole e role s).lct = s.lct ∧
    (askRole e role s).tb = s.tb ∧
    (askRole e role s).tiles = s.tiles ∧
    (askRole e role s).handles = s.handles ∧
    (askRole e role s).dcx = s.dcx ∧
    (askRole e role s).mnt = s.mnt ∧
    (askRole e role s).thm = s.thm ∧
    (askRole e role s).gl = s.gl ∧
    (askRole e role s).link = s.link ∧
    (askRole e role s).ozd = s.ozd ∧
    (askRole e role s).lctc = s.lctc ∧
    (askRole e role s).msgq = s.msgq ∧
    (askRole e role s).wcapLevel = s.wcapLevel := by simp [setComp_frame .., askRole]

theorem applyRole_frame (s : State) (q : Nat × BitVec 3) :
    (applyRole s q).pending = s.pending ∧
    (applyRole s q).fs = s.fs ∧
    (applyRole s q).scene = s.scene ∧
    (applyRole s q).jtag = s.jtag ∧
    (applyRole s q).boot = s.boot ∧
    (applyRole s q).period = s.period ∧
    (applyRole s q).pwr = s.pwr ∧
    (applyRole s q).scan = s.scan ∧
    (applyRole s q).lct = s.lct ∧
    (applyRole s q).tb = s.tb ∧
    (applyRole s q).tiles = s.tiles ∧
    (applyRole s q).handles = s.handles ∧
    (applyRole s q).dcx = s.dcx ∧
    (applyRole s q).comp = s.comp ∧
    (applyRole s q).thm = s.thm ∧
    (applyRole s q).gl = s.gl ∧
    (applyRole s q).link = s.link ∧
    (applyRole s q).ozd = s.ozd ∧
    (applyRole s q).lctc = s.lctc ∧
    (applyRole s q).wcapLevel = s.wcapLevel := by simp [endEver_frame .., mntFinish_frame .., setRole_frame .., applyRole]

theorem startEver_frame (s : State) :
    (startEver s).pending = s.pending ∧
    (startEver s).fs = s.fs ∧
    (startEver s).scene = s.scene ∧
    (startEver s).jtag = s.jtag ∧
    (startEver s).boot = s.boot ∧
    (startEver s).period = s.period ∧
    (startEver s).pwr = s.pwr ∧
    (startEver s).scan = s.scan ∧
    (startEver s).lct = s.lct ∧
    (startEver s).tb = s.tb ∧
    (startEver s).tiles = s.tiles ∧
    (startEver s).handles = s.handles ∧
    (startEver s).dcx = s.dcx ∧
    (startEver s).thm = s.thm ∧
    (startEver s).gl = s.gl ∧
    (startEver s).link = s.link ∧
    (startEver s).ozd = s.ozd ∧
    (startEver s).lctc = s.lctc ∧
    (startEver s).msgq = s.msgq ∧
    (startEver s).wcapLevel = s.wcapLevel := by simp [askRole_frame .., startEver]

theorem applyRoles_frame (s : State) :
    (applyRoles s).pending = s.pending ∧
    (applyRoles s).fs = s.fs ∧
    (applyRoles s).scene = s.scene ∧
    (applyRoles s).jtag = s.jtag ∧
    (applyRoles s).boot = s.boot ∧
    (applyRoles s).period = s.period ∧
    (applyRoles s).pwr = s.pwr ∧
    (applyRoles s).scan = s.scan ∧
    (applyRoles s).lct = s.lct ∧
    (applyRoles s).tb = s.tb ∧
    (applyRoles s).tiles = s.tiles ∧
    (applyRoles s).handles = s.handles ∧
    (applyRoles s).dcx = s.dcx ∧
    (applyRoles s).thm = s.thm ∧
    (applyRoles s).gl = s.gl ∧
    (applyRoles s).link = s.link ∧
    (applyRoles s).ozd = s.ozd ∧
    (applyRoles s).lctc = s.lctc ∧
    (applyRoles s).wcapLevel = s.wcapLevel := by simp [applyRole_frame .., setComp_frame .., startEver_frame .., applyRoles]

theorem fillPlaces_frame (n : Nat) (s : State) :
    (fillPlaces n s).pending = s.pending ∧
    (fillPlaces n s).fs = s.fs ∧
    (fillPlaces n s).scene = s.scene ∧
    (fillPlaces n s).jtag = s.jtag ∧
    (fillPlaces n s).boot = s.boot ∧
    (fillPlaces n s).period = s.period ∧
    (fillPlaces n s).pwr = s.pwr ∧
    (fillPlaces n s).scan = s.scan ∧
    (fillPlaces n s).lct = s.lct ∧
    (fillPlaces n s).tb = s.tb ∧
    (fillPlaces n s).tiles = s.tiles ∧
    (fillPlaces n s).handles = s.handles ∧
    (fillPlaces n s).dcx = s.dcx ∧
    (fillPlaces n s).mnt = s.mnt ∧
    (fillPlaces n s).thm = s.thm ∧
    (fillPlaces n s).gl = s.gl ∧
    (fillPlaces n s).link = s.link ∧
    (fillPlaces n s).ozd = s.ozd ∧
    (fillPlaces n s).lctc = s.lctc ∧
    (fillPlaces n s).wcapLevel = s.wcapLevel := by
  induction n generalizing s with
  | zero => simp [setComp_frame .., setRole_frame .., fillPlaces]
  | succ n ih => unfold fillPlaces; (repeat' split) <;> simp [setComp_frame .., setRole_frame .., ih]

theorem reportTrunc_frame (lens : List Nat) (s : State) :
    (reportTrunc lens s).pending = s.pending ∧
    (reportTrunc lens s).fs = s.fs ∧
    (reportTrunc lens s).scene = s.scene ∧
    (reportTrunc lens s).jtag = s.jtag ∧
    (reportTrunc lens s).boot = s.boot ∧
    (reportTrunc lens s).period = s.period ∧
    (reportTrunc lens s).pwr = s.pwr ∧
    (reportTrunc lens s).scan = s.scan ∧
    (reportTrunc lens s).lct = s.lct ∧
    (reportTrunc lens s).tb = s.tb ∧
    (reportTrunc lens s).tiles = s.tiles ∧
    (reportTrunc lens s).handles = s.handles ∧
    (reportTrunc lens s).dcx = s.dcx ∧
    (reportTrunc lens s).mnt = s.mnt ∧
    (reportTrunc lens s).comp = s.comp ∧
    (reportTrunc lens s).thm = s.thm ∧
    (reportTrunc lens s).gl = s.gl ∧
    (reportTrunc lens s).link = s.link ∧
    (reportTrunc lens s).ozd = s.ozd ∧
    (reportTrunc lens s).lctc = s.lctc ∧
    (reportTrunc lens s).wcapLevel = s.wcapLevel := by simp only [reportTrunc]; (repeat' split) <;> simp [raise_frame ..]

theorem nextFrameNumber_frame (s : State) :
    (nextFrameNumber s).pending = s.pending ∧
    (nextFrameNumber s).fs = s.fs ∧
    (nextFrameNumber s).scene = s.scene ∧
    (nextFrameNumber s).jtag = s.jtag ∧
    (nextFrameNumber s).boot = s.boot ∧
    (nextFrameNumber s).period = s.period ∧
    (nextFrameNumber s).pwr = s.pwr ∧
    (nextFrameNumber s).scan = s.scan ∧
    (nextFrameNumber s).lct = s.lct ∧
    (nextFrameNumber s).tb = s.tb ∧
    (nextFrameNumber s).tiles = s.tiles ∧
    (nextFrameNumber s).handles = s.handles ∧
    (nextFrameNumber s).dcx = s.dcx ∧
    (nextFrameNumber s).mnt = s.mnt ∧
    (nextFrameNumber s).comp = s.comp ∧
    (nextFrameNumber s).thm = s.thm ∧
    (nextFrameNumber s).gl = s.gl ∧
    (nextFrameNumber s).link = s.link ∧
    (nextFrameNumber s).ozd = s.ozd ∧
    (nextFrameNumber s).lctc = s.lctc ∧
    (nextFrameNumber s).msgq = s.msgq ∧
    (nextFrameNumber s).wcapLevel = s.wcapLevel := by simp [setReg_frame .., nextFrameNumber]

theorem beginFrame_frame (s : State) :
    (beginFrame s).pending = s.pending ∧
    (beginFrame s).fs = s.fs ∧
    (beginFrame s).scene = s.scene ∧
    (beginFrame s).jtag = s.jtag ∧
    (beginFrame s).boot = s.boot ∧
    (beginFrame s).period = s.period ∧
    (beginFrame s).pwr = s.pwr ∧
    (beginFrame s).scan = s.scan ∧
    (beginFrame s).lct = s.lct ∧
    (beginFrame s).tb = s.tb ∧
    (beginFrame s).tiles = s.tiles ∧
    (beginFrame s).handles = s.handles ∧
    (beginFrame s).dcx = s.dcx ∧
    (beginFrame s).mnt = s.mnt ∧
    (beginFrame s).thm = s.thm ∧
    (beginFrame s).gl = s.gl ∧
    (beginFrame s).link = s.link ∧
    (beginFrame s).ozd = s.ozd ∧
    (beginFrame s).lctc = s.lctc ∧
    (beginFrame s).wcapLevel = s.wcapLevel := by simp [nextFrameNumber_frame .., reportTrunc_frame .., setComp_frame .., setReg_frame .., storeBound_frame .., takeStaging_frame .., beginFrame]

theorem checkMirror_frame (s : State) :
    (checkMirror s).pending = s.pending ∧
    (checkMirror s).fs = s.fs ∧
    (checkMirror s).scene = s.scene ∧
    (checkMirror s).jtag = s.jtag ∧
    (checkMirror s).boot = s.boot ∧
    (checkMirror s).period = s.period ∧
    (checkMirror s).pwr = s.pwr ∧
    (checkMirror s).scan = s.scan ∧
    (checkMirror s).lct = s.lct ∧
    (checkMirror s).tb = s.tb ∧
    (checkMirror s).tiles = s.tiles ∧
    (checkMirror s).handles = s.handles ∧
    (checkMirror s).dcx = s.dcx ∧
    (checkMirror s).mnt = s.mnt ∧
    (checkMirror s).comp = s.comp ∧
    (checkMirror s).thm = s.thm ∧
    (checkMirror s).gl = s.gl ∧
    (checkMirror s).link = s.link ∧
    (checkMirror s).ozd = s.ozd ∧
    (checkMirror s).lctc = s.lctc ∧
    (checkMirror s).msgq = s.msgq ∧
    (checkMirror s).wcapLevel = s.wcapLevel := by simp only [checkMirror]; (repeat' split) <;> simp

theorem texError_frame (s : State) (addr : Nat) :
    (texError s addr).pending = s.pending ∧
    (texError s addr).fs = s.fs ∧
    (texError s addr).scene = s.scene ∧
    (texError s addr).jtag = s.jtag ∧
    (texError s addr).boot = s.boot ∧
    (texError s addr).period = s.period ∧
    (texError s addr).pwr = s.pwr ∧
    (texError s addr).scan = s.scan ∧
    (texError s addr).lct = s.lct ∧
    (texError s addr).tb = s.tb ∧
    (texError s addr).tiles = s.tiles ∧
    (texError s addr).handles = s.handles ∧
    (texError s addr).dcx = s.dcx ∧
    (texError s addr).thm = s.thm ∧
    (texError s addr).gl = s.gl ∧
    (texError s addr).link = s.link ∧
    (texError s addr).ozd = s.ozd ∧
    (texError s addr).lctc = s.lctc ∧
    (texError s addr).wcapLevel = s.wcapLevel := by simp [bumpSat_frame .., raise_frame .., setComp_frame .., uncorr_frame .., texError]

theorem deliver_frame (a : ItemSig) (s : State) :
    (deliver a s).pending = s.pending ∧
    (deliver a s).jtag = s.jtag ∧
    (deliver a s).boot = s.boot ∧
    (deliver a s).period = s.period ∧
    (deliver a s).pwr = s.pwr ∧
    (deliver a s).scan = s.scan ∧
    (deliver a s).lct = s.lct ∧
    (deliver a s).tb = s.tb ∧
    (deliver a s).tiles = s.tiles ∧
    (deliver a s).handles = s.handles ∧
    (deliver a s).dcx = s.dcx ∧
    (deliver a s).thm = s.thm ∧
    (deliver a s).gl = s.gl ∧
    (deliver a s).link = s.link ∧
    (deliver a s).ozd = s.ozd ∧
    (deliver a s).lctc = s.lctc ∧
    (deliver a s).wcapLevel = s.wcapLevel := by simp [setComp_frame .., stageFor_frame .., writeTargets_frame .., deliver]

theorem replaceItem_frame (i : Nat) (s : State) :
    (replaceItem i s).pending = s.pending ∧
    (replaceItem i s).jtag = s.jtag ∧
    (replaceItem i s).boot = s.boot ∧
    (replaceItem i s).period = s.period ∧
    (replaceItem i s).pwr = s.pwr ∧
    (replaceItem i s).scan = s.scan ∧
    (replaceItem i s).lct = s.lct ∧
    (replaceItem i s).tb = s.tb ∧
    (replaceItem i s).tiles = s.tiles ∧
    (replaceItem i s).handles = s.handles ∧
    (replaceItem i s).dcx = s.dcx ∧
    (replaceItem i s).thm = s.thm ∧
    (replaceItem i s).gl = s.gl ∧
    (replaceItem i s).link = s.link ∧
    (replaceItem i s).ozd = s.ozd ∧
    (replaceItem i s).lctc = s.lctc ∧
    (replaceItem i s).wcapLevel = s.wcapLevel := by simp [bumpSat_frame .., copyTargets_frame .., setComp_frame .., stageFor_frame .., replaceItem]

theorem replaceAll_frame (is : List Nat) (s : State) :
    (replaceAll is s).pending = s.pending ∧
    (replaceAll is s).jtag = s.jtag ∧
    (replaceAll is s).boot = s.boot ∧
    (replaceAll is s).period = s.period ∧
    (replaceAll is s).pwr = s.pwr ∧
    (replaceAll is s).scan = s.scan ∧
    (replaceAll is s).lct = s.lct ∧
    (replaceAll is s).tb = s.tb ∧
    (replaceAll is s).tiles = s.tiles ∧
    (replaceAll is s).handles = s.handles ∧
    (replaceAll is s).dcx = s.dcx ∧
    (replaceAll is s).thm = s.thm ∧
    (replaceAll is s).gl = s.gl ∧
    (replaceAll is s).link = s.link ∧
    (replaceAll is s).ozd = s.ozd ∧
    (replaceAll is s).lctc = s.lctc ∧
    (replaceAll is s).wcapLevel = s.wcapLevel := by simp only [replaceAll]; (repeat' split) <;> simp [raise_frame .., replaceItem_frame ..]

theorem setAudit_frame (a : Audit) (s : State) :
    (setAudit a s).pending = s.pending ∧
    (setAudit a s).fs = s.fs ∧
    (setAudit a s).scene = s.scene ∧
    (setAudit a s).jtag = s.jtag ∧
    (setAudit a s).boot = s.boot ∧
    (setAudit a s).period = s.period ∧
    (setAudit a s).pwr = s.pwr ∧
    (setAudit a s).scan = s.scan ∧
    (setAudit a s).lct = s.lct ∧
    (setAudit a s).tb = s.tb ∧
    (setAudit a s).tiles = s.tiles ∧
    (setAudit a s).handles = s.handles ∧
    (setAudit a s).dcx = s.dcx ∧
    (setAudit a s).mnt = s.mnt ∧
    (setAudit a s).thm = s.thm ∧
    (setAudit a s).gl = s.gl ∧
    (setAudit a s).link = s.link ∧
    (setAudit a s).ozd = s.ozd ∧
    (setAudit a s).lctc = s.lctc ∧
    (setAudit a s).msgq = s.msgq ∧
    (setAudit a s).wcapLevel = s.wcapLevel := by simp [setComp_frame .., setAudit]

theorem compareAudit_frame (i : Nat) (s : State) :
    (compareAudit i s).pending = s.pending ∧
    (compareAudit i s).fs = s.fs ∧
    (compareAudit i s).scene = s.scene ∧
    (compareAudit i s).jtag = s.jtag ∧
    (compareAudit i s).boot = s.boot ∧
    (compareAudit i s).period = s.period ∧
    (compareAudit i s).pwr = s.pwr ∧
    (compareAudit i s).scan = s.scan ∧
    (compareAudit i s).lct = s.lct ∧
    (compareAudit i s).tb = s.tb ∧
    (compareAudit i s).tiles = s.tiles ∧
    (compareAudit i s).handles = s.handles ∧
    (compareAudit i s).dcx = s.dcx ∧
    (compareAudit i s).mnt = s.mnt ∧
    (compareAudit i s).thm = s.thm ∧
    (compareAudit i s).gl = s.gl ∧
    (compareAudit i s).link = s.link ∧
    (compareAudit i s).ozd = s.ozd ∧
    (compareAudit i s).lctc = s.lctc ∧
    (compareAudit i s).wcapLevel = s.wcapLevel := by simp only [compareAudit]; (repeat' split) <;> simp [bumpSat_frame .., bumpWrap_frame .., raise_frame .., setAudit_frame ..]

theorem redoOf_frame (e i : Nat) (s : State) :
    (redoOf e i s).pending = s.pending ∧
    (redoOf e i s).fs = s.fs ∧
    (redoOf e i s).scene = s.scene ∧
    (redoOf e i s).jtag = s.jtag ∧
    (redoOf e i s).boot = s.boot ∧
    (redoOf e i s).period = s.period ∧
    (redoOf e i s).pwr = s.pwr ∧
    (redoOf e i s).scan = s.scan ∧
    (redoOf e i s).lct = s.lct ∧
    (redoOf e i s).tb = s.tb ∧
    (redoOf e i s).tiles = s.tiles ∧
    (redoOf e i s).handles = s.handles ∧
    (redoOf e i s).dcx = s.dcx ∧
    (redoOf e i s).mnt = s.mnt ∧
    (redoOf e i s).thm = s.thm ∧
    (redoOf e i s).gl = s.gl ∧
    (redoOf e i s).link = s.link ∧
    (redoOf e i s).ozd = s.ozd ∧
    (redoOf e i s).lctc = s.lctc ∧
    (redoOf e i s).msgq = s.msgq ∧
    (redoOf e i s).wcapLevel = s.wcapLevel := by simp [setComp_frame .., redoOf]

theorem decideAudit_frame (t : ItemSig) (s : State) :
    (decideAudit t s).pending = s.pending ∧
    (decideAudit t s).jtag = s.jtag ∧
    (decideAudit t s).boot = s.boot ∧
    (decideAudit t s).period = s.period ∧
    (decideAudit t s).pwr = s.pwr ∧
    (decideAudit t s).scan = s.scan ∧
    (decideAudit t s).lct = s.lct ∧
    (decideAudit t s).tb = s.tb ∧
    (decideAudit t s).tiles = s.tiles ∧
    (decideAudit t s).handles = s.handles ∧
    (decideAudit t s).dcx = s.dcx ∧
    (decideAudit t s).thm = s.thm ∧
    (decideAudit t s).gl = s.gl ∧
    (decideAudit t s).link = s.link ∧
    (decideAudit t s).lctc = s.lctc ∧
    (decideAudit t s).wcapLevel = s.wcapLevel := by simp only [decideAudit]; (repeat' split) <;> simp [deliver_frame .., quarantineLoser_frame .., raise_frame .., redoOf_frame .., replaceAll_frame .., setAudit_frame ..]

theorem readEntries_frame (t : Nat) (s : State) :
    (readEntries t s).pending = s.pending ∧
    (readEntries t s).fs = s.fs ∧
    (readEntries t s).scene = s.scene ∧
    (readEntries t s).jtag = s.jtag ∧
    (readEntries t s).boot = s.boot ∧
    (readEntries t s).period = s.period ∧
    (readEntries t s).pwr = s.pwr ∧
    (readEntries t s).scan = s.scan ∧
    (readEntries t s).lct = s.lct ∧
    (readEntries t s).tb = s.tb ∧
    (readEntries t s).tiles = s.tiles ∧
    (readEntries t s).handles = s.handles ∧
    (readEntries t s).dcx = s.dcx ∧
    (readEntries t s).mnt = s.mnt ∧
    (readEntries t s).comp = s.comp ∧
    (readEntries t s).thm = s.thm ∧
    (readEntries t s).gl = s.gl ∧
    (readEntries t s).link = s.link ∧
    (readEntries t s).ozd = s.ozd ∧
    (readEntries t s).wcapLevel = s.wcapLevel := by simp [lctTouch_frame .., readEntries]

theorem coarseDone_frame (t : Nat) (s : State) :
    (coarseDone t s).pending = s.pending ∧
    (coarseDone t s).fs = s.fs ∧
    (coarseDone t s).scene = s.scene ∧
    (coarseDone t s).jtag = s.jtag ∧
    (coarseDone t s).boot = s.boot ∧
    (coarseDone t s).period = s.period ∧
    (coarseDone t s).pwr = s.pwr ∧
    (coarseDone t s).scan = s.scan ∧
    (coarseDone t s).lct = s.lct ∧
    (coarseDone t s).tb = s.tb ∧
    (coarseDone t s).tiles = s.tiles ∧
    (coarseDone t s).handles = s.handles ∧
    (coarseDone t s).dcx = s.dcx ∧
    (coarseDone t s).thm = s.thm ∧
    (coarseDone t s).gl = s.gl ∧
    (coarseDone t s).link = s.link ∧
    (coarseDone t s).ozd = s.ozd ∧
    (coarseDone t s).lctc = s.lctc ∧
    (coarseDone t s).wcapLevel = s.wcapLevel := by simp [setComp_frame .., texError_frame .., zoneAnalysis_frame .., coarseDone]

theorem workDone_frame (e : Nat) (w : Work) (upset : List (Nat × BitVec 18)) (s : State) :
    (workDone e w upset s).pending = s.pending ∧
    (workDone e w upset s).jtag = s.jtag ∧
    (workDone e w upset s).boot = s.boot ∧
    (workDone e w upset s).period = s.period ∧
    (workDone e w upset s).pwr = s.pwr ∧
    (workDone e w upset s).scan = s.scan ∧
    (workDone e w upset s).lct = s.lct ∧
    (workDone e w upset s).tb = s.tb ∧
    (workDone e w upset s).tiles = s.tiles ∧
    (workDone e w upset s).handles = s.handles ∧
    (workDone e w upset s).dcx = s.dcx ∧
    (workDone e w upset s).thm = s.thm ∧
    (workDone e w upset s).gl = s.gl ∧
    (workDone e w upset s).link = s.link ∧
    (workDone e w upset s).lctc = s.lctc ∧
    (workDone e w upset s).wcapLevel = s.wcapLevel := by simp only [workDone]; (repeat' split) <;> simp [bumpWrap_frame .., coarseDone_frame .., compareAudit_frame .., decideAudit_frame .., deliver_frame .., setComp_frame .., texError_frame ..]

theorem storeSignatures_frame (s : State) :
    (storeSignatures s).pending = s.pending ∧
    (storeSignatures s).fs = s.fs ∧
    (storeSignatures s).scene = s.scene ∧
    (storeSignatures s).jtag = s.jtag ∧
    (storeSignatures s).boot = s.boot ∧
    (storeSignatures s).period = s.period ∧
    (storeSignatures s).pwr = s.pwr ∧
    (storeSignatures s).scan = s.scan ∧
    (storeSignatures s).lct = s.lct ∧
    (storeSignatures s).tb = s.tb ∧
    (storeSignatures s).tiles = s.tiles ∧
    (storeSignatures s).handles = s.handles ∧
    (storeSignatures s).dcx = s.dcx ∧
    (storeSignatures s).mnt = s.mnt ∧
    (storeSignatures s).comp = s.comp ∧
    (storeSignatures s).thm = s.thm ∧
    (storeSignatures s).gl = s.gl ∧
    (storeSignatures s).link = s.link ∧
    (storeSignatures s).ozd = s.ozd ∧
    (storeSignatures s).lctc = s.lctc ∧
    (storeSignatures s).wcapLevel = s.wcapLevel := by simp [bumpSat_frame .., raise_frame .., setReg_frame .., storeSignatures]

theorem storeFcrc_frame (s : State) :
    (storeFcrc s).pending = s.pending ∧
    (storeFcrc s).fs = s.fs ∧
    (storeFcrc s).scene = s.scene ∧
    (storeFcrc s).jtag = s.jtag ∧
    (storeFcrc s).boot = s.boot ∧
    (storeFcrc s).period = s.period ∧
    (storeFcrc s).pwr = s.pwr ∧
    (storeFcrc s).scan = s.scan ∧
    (storeFcrc s).lct = s.lct ∧
    (storeFcrc s).tb = s.tb ∧
    (storeFcrc s).tiles = s.tiles ∧
    (storeFcrc s).handles = s.handles ∧
    (storeFcrc s).dcx = s.dcx ∧
    (storeFcrc s).mnt = s.mnt ∧
    (storeFcrc s).comp = s.comp ∧
    (storeFcrc s).thm = s.thm ∧
    (storeFcrc s).gl = s.gl ∧
    (storeFcrc s).link = s.link ∧
    (storeFcrc s).ozd = s.ozd ∧
    (storeFcrc s).lctc = s.lctc ∧
    (storeFcrc s).msgq = s.msgq ∧
    (storeFcrc s).wcapLevel = s.wcapLevel := by simp [setReg_frame .., storeFcrc]

theorem storeClips_frame (s : State) :
    (storeClips s).pending = s.pending ∧
    (storeClips s).fs = s.fs ∧
    (storeClips s).scene = s.scene ∧
    (storeClips s).jtag = s.jtag ∧
    (storeClips s).boot = s.boot ∧
    (storeClips s).period = s.period ∧
    (storeClips s).pwr = s.pwr ∧
    (storeClips s).scan = s.scan ∧
    (storeClips s).lct = s.lct ∧
    (storeClips s).tb = s.tb ∧
    (storeClips s).tiles = s.tiles ∧
    (storeClips s).handles = s.handles ∧
    (storeClips s).dcx = s.dcx ∧
    (storeClips s).mnt = s.mnt ∧
    (storeClips s).comp = s.comp ∧
    (storeClips s).thm = s.thm ∧
    (storeClips s).gl = s.gl ∧
    (storeClips s).link = s.link ∧
    (storeClips s).ozd = s.ozd ∧
    (storeClips s).lctc = s.lctc ∧
    (storeClips s).wcapLevel = s.wcapLevel := by simp [raise_frame .., setRegN_frame .., storeClips]

theorem verifyFrame_frame (s : State) (v : Nat × Nat) :
    (verifyFrame s v).pending = s.pending ∧
    (verifyFrame s v).fs = s.fs ∧
    (verifyFrame s v).scene = s.scene ∧
    (verifyFrame s v).jtag = s.jtag ∧
    (verifyFrame s v).boot = s.boot ∧
    (verifyFrame s v).period = s.period ∧
    (verifyFrame s v).pwr = s.pwr ∧
    (verifyFrame s v).scan = s.scan ∧
    (verifyFrame s v).lct = s.lct ∧
    (verifyFrame s v).tb = s.tb ∧
    (verifyFrame s v).tiles = s.tiles ∧
    (verifyFrame s v).handles = s.handles ∧
    (verifyFrame s v).dcx = s.dcx ∧
    (verifyFrame s v).mnt = s.mnt ∧
    (verifyFrame s v).thm = s.thm ∧
    (verifyFrame s v).gl = s.gl ∧
    (verifyFrame s v).link = s.link ∧
    (verifyFrame s v).ozd = s.ozd ∧
    (verifyFrame s v).lctc = s.lctc ∧
    (verifyFrame s v).msgq = s.msgq ∧
    (verifyFrame s v).wcapLevel = s.wcapLevel := by simp [askRole_frame .., setRegFld_frame .., verifyFrame]

theorem finishFrame_frame (s : State) :
    (finishFrame s).pending = s.pending ∧
    (finishFrame s).fs = s.fs ∧
    (finishFrame s).scene = s.scene ∧
    (finishFrame s).jtag = s.jtag ∧
    (finishFrame s).boot = s.boot ∧
    (finishFrame s).period = s.period ∧
    (finishFrame s).pwr = s.pwr ∧
    (finishFrame s).scan = s.scan ∧
    (finishFrame s).lct = s.lct ∧
    (finishFrame s).tb = s.tb ∧
    (finishFrame s).tiles = s.tiles ∧
    (finishFrame s).handles = s.handles ∧
    (finishFrame s).dcx = s.dcx ∧
    (finishFrame s).mnt = s.mnt ∧
    (finishFrame s).thm = s.thm ∧
    (finishFrame s).gl = s.gl ∧
    (finishFrame s).ozd = s.ozd ∧
    (finishFrame s).lctc = s.lctc ∧
    (finishFrame s).wcapLevel = s.wcapLevel := by simp [complete_frame .., setComp_frame .., setRegN_frame .., storeClips_frame .., storeFcrc_frame .., storeSignatures_frame .., verifyFrame_frame .., finishFrame]

theorem sunsetComp_frame (s : State) :
    (sunsetComp s).pending = s.pending ∧
    (sunsetComp s).jtag = s.jtag ∧
    (sunsetComp s).boot = s.boot ∧
    (sunsetComp s).period = s.period ∧
    (sunsetComp s).pwr = s.pwr ∧
    (sunsetComp s).scan = s.scan ∧
    (sunsetComp s).lct = s.lct ∧
    (sunsetComp s).tb = s.tb ∧
    (sunsetComp s).tiles = s.tiles ∧
    (sunsetComp s).handles = s.handles ∧
    (sunsetComp s).dcx = s.dcx ∧
    (sunsetComp s).thm = s.thm ∧
    (sunsetComp s).gl = s.gl ∧
    (sunsetComp s).ozd = s.ozd ∧
    (sunsetComp s).lctc = s.lctc ∧
    (sunsetComp s).wcapLevel = s.wcapLevel := by simp [checkMirror_frame .., finishFrame_frame .., replaceAll_frame .., setComp_frame .., sunsetComp]

theorem effEctl_frame (e cmd : Nat) (s : State) :
    (effEctl e cmd s).pending = s.pending ∧
    (effEctl e cmd s).fs = s.fs ∧
    (effEctl e cmd s).scene = s.scene ∧
    (effEctl e cmd s).jtag = s.jtag ∧
    (effEctl e cmd s).boot = s.boot ∧
    (effEctl e cmd s).period = s.period ∧
    (effEctl e cmd s).pwr = s.pwr ∧
    (effEctl e cmd s).scan = s.scan ∧
    (effEctl e cmd s).lct = s.lct ∧
    (effEctl e cmd s).tb = s.tb ∧
    (effEctl e cmd s).tiles = s.tiles ∧
    (effEctl e cmd s).handles = s.handles ∧
    (effEctl e cmd s).dcx = s.dcx ∧
    (effEctl e cmd s).thm = s.thm ∧
    (effEctl e cmd s).gl = s.gl ∧
    (effEctl e cmd s).link = s.link ∧
    (effEctl e cmd s).lctc = s.lctc ∧
    (effEctl e cmd s).wcapLevel = s.wcapLevel := by simp only [effEctl]; (repeat' split) <;> simp [askRole_frame .., mntPush_frame .., retireEngine_frame ..]

end Sys2Proof.Machine
end

