-- ==== Sys2Proof/Laws/FrameMemory.lean ====
section
/-!
SUPPORT. What each operation of Memory.lean leaves unchanged.
-/
namespace Sys2Proof.Machine

theorem refresh_frame (u : DramUnit) (s : State) :
    (refresh u s).pending = s.pending ∧
    (refresh u s).fs = s.fs ∧
    (refresh u s).scene = s.scene ∧
    (refresh u s).jtag = s.jtag ∧
    (refresh u s).boot = s.boot ∧
    (refresh u s).period = s.period ∧
    (refresh u s).pwr = s.pwr ∧
    (refresh u s).scan = s.scan ∧
    (refresh u s).lct = s.lct ∧
    (refresh u s).tb = s.tb ∧
    (refresh u s).tiles = s.tiles ∧
    (refresh u s).handles = s.handles ∧
    (refresh u s).dcx = s.dcx ∧
    (refresh u s).mnt = s.mnt ∧
    (refresh u s).comp = s.comp ∧
    (refresh u s).thm = s.thm ∧
    (refresh u s).gl = s.gl ∧
    (refresh u s).link = s.link ∧
    (refresh u s).ozd = s.ozd ∧
    (refresh u s).lctc = s.lctc ∧
    (refresh u s).msgq = s.msgq ∧
    (refresh u s).wcapLevel = s.wcapLevel := by simp only [refresh]; (repeat' split) <;> simp [bumpWrap_frame .., putDram_frame ..]

theorem setUnit_frame (u : DramUnit) (f : DramAux → DramAux) (s : State) :
    (setUnit u f s).pending = s.pending ∧
    (setUnit u f s).fs = s.fs ∧
    (setUnit u f s).scene = s.scene ∧
    (setUnit u f s).jtag = s.jtag ∧
    (setUnit u f s).boot = s.boot ∧
    (setUnit u f s).period = s.period ∧
    (setUnit u f s).pwr = s.pwr ∧
    (setUnit u f s).scan = s.scan ∧
    (setUnit u f s).lct = s.lct ∧
    (setUnit u f s).tb = s.tb ∧
    (setUnit u f s).tiles = s.tiles ∧
    (setUnit u f s).handles = s.handles ∧
    (setUnit u f s).dcx = s.dcx ∧
    (setUnit u f s).mnt = s.mnt ∧
    (setUnit u f s).comp = s.comp ∧
    (setUnit u f s).thm = s.thm ∧
    (setUnit u f s).gl = s.gl ∧
    (setUnit u f s).link = s.link ∧
    (setUnit u f s).ozd = s.ozd ∧
    (setUnit u f s).lctc = s.lctc ∧
    (setUnit u f s).msgq = s.msgq ∧
    (setUnit u f s).wcapLevel = s.wcapLevel := by simp [putDram_frame .., setUnit]

theorem urgentRefresh_frame (u : DramUnit) (s : State) :
    (urgentRefresh u s).pending = s.pending ∧
    (urgentRefresh u s).fs = s.fs ∧
    (urgentRefresh u s).scene = s.scene ∧
    (urgentRefresh u s).jtag = s.jtag ∧
    (urgentRefresh u s).boot = s.boot ∧
    (urgentRefresh u s).period = s.period ∧
    (urgentRefresh u s).pwr = s.pwr ∧
    (urgentRefresh u s).scan = s.scan ∧
    (urgentRefresh u s).lct = s.lct ∧
    (urgentRefresh u s).tb = s.tb ∧
    (urgentRefresh u s).tiles = s.tiles ∧
    (urgentRefresh u s).handles = s.handles ∧
    (urgentRefresh u s).dcx = s.dcx ∧
    (urgentRefresh u s).mnt = s.mnt ∧
    (urgentRefresh u s).comp = s.comp ∧
    (urgentRefresh u s).thm = s.thm ∧
    (urgentRefresh u s).gl = s.gl ∧
    (urgentRefresh u s).link = s.link ∧
    (urgentRefresh u s).ozd = s.ozd ∧
    (urgentRefresh u s).lctc = s.lctc ∧
    (urgentRefresh u s).wcapLevel = s.wcapLevel := by simp [bumpSat_frame .., raise_frame .., refresh_frame .., setUnit_frame .., tickFree_frame .., urgentRefresh]

theorem queueNeighbour_frame (k bank row : Nat) (s : State) :
    (queueNeighbour k bank row s).pending = s.pending ∧
    (queueNeighbour k bank row s).fs = s.fs ∧
    (queueNeighbour k bank row s).scene = s.scene ∧
    (queueNeighbour k bank row s).jtag = s.jtag ∧
    (queueNeighbour k bank row s).boot = s.boot ∧
    (queueNeighbour k bank row s).period = s.period ∧
    (queueNeighbour k bank row s).pwr = s.pwr ∧
    (queueNeighbour k bank row s).scan = s.scan ∧
    (queueNeighbour k bank row s).lct = s.lct ∧
    (queueNeighbour k bank row s).tb = s.tb ∧
    (queueNeighbour k bank row s).tiles = s.tiles ∧
    (queueNeighbour k bank row s).handles = s.handles ∧
    (queueNeighbour k bank row s).dcx = s.dcx ∧
    (queueNeighbour k bank row s).mnt = s.mnt ∧
    (queueNeighbour k bank row s).comp = s.comp ∧
    (queueNeighbour k bank row s).thm = s.thm ∧
    (queueNeighbour k bank row s).gl = s.gl ∧
    (queueNeighbour k bank row s).link = s.link ∧
    (queueNeighbour k bank row s).ozd = s.ozd ∧
    (queueNeighbour k bank row s).lctc = s.lctc ∧
    (queueNeighbour k bank row s).msgq = s.msgq ∧
    (queueNeighbour k bank row s).wcapLevel = s.wcapLevel := by simp [putDram_frame .., queueNeighbour]

theorem actFrame_frame (n bank row : Nat) (s : State) :
    (actFrame n bank row s).pending = s.pending ∧
    (actFrame n bank row s).fs = s.fs ∧
    (actFrame n bank row s).scene = s.scene ∧
    (actFrame n bank row s).jtag = s.jtag ∧
    (actFrame n bank row s).boot = s.boot ∧
    (actFrame n bank row s).period = s.period ∧
    (actFrame n bank row s).pwr = s.pwr ∧
    (actFrame n bank row s).scan = s.scan ∧
    (actFrame n bank row s).lct = s.lct ∧
    (actFrame n bank row s).tb = s.tb ∧
    (actFrame n bank row s).tiles = s.tiles ∧
    (actFrame n bank row s).handles = s.handles ∧
    (actFrame n bank row s).dcx = s.dcx ∧
    (actFrame n bank row s).mnt = s.mnt ∧
    (actFrame n bank row s).comp = s.comp ∧
    (actFrame n bank row s).thm = s.thm ∧
    (actFrame n bank row s).gl = s.gl ∧
    (actFrame n bank row s).link = s.link ∧
    (actFrame n bank row s).ozd = s.ozd ∧
    (actFrame n bank row s).lctc = s.lctc ∧
    (actFrame n bank row s).msgq = s.msgq ∧
    (actFrame n bank row s).wcapLevel = s.wcapLevel := by simp [queueNeighbour_frame .., actFrame]

theorem closeBank_frame (k bank : Nat) (s : State) :
    (closeBank k bank s).pending = s.pending ∧
    (closeBank k bank s).fs = s.fs ∧
    (closeBank k bank s).scene = s.scene ∧
    (closeBank k bank s).jtag = s.jtag ∧
    (closeBank k bank s).boot = s.boot ∧
    (closeBank k bank s).period = s.period ∧
    (closeBank k bank s).pwr = s.pwr ∧
    (closeBank k bank s).scan = s.scan ∧
    (closeBank k bank s).lct = s.lct ∧
    (closeBank k bank s).tb = s.tb ∧
    (closeBank k bank s).tiles = s.tiles ∧
    (closeBank k bank s).handles = s.handles ∧
    (closeBank k bank s).dcx = s.dcx ∧
    (closeBank k bank s).mnt = s.mnt ∧
    (closeBank k bank s).comp = s.comp ∧
    (closeBank k bank s).thm = s.thm ∧
    (closeBank k bank s).gl = s.gl ∧
    (closeBank k bank s).link = s.link ∧
    (closeBank k bank s).ozd = s.ozd ∧
    (closeBank k bank s).lctc = s.lctc ∧
    (closeBank k bank s).msgq = s.msgq ∧
    (closeBank k bank s).wcapLevel = s.wcapLevel := by simp [putDram_frame .., closeBank]

theorem issueNeighbour_frame (u : DramUnit) (s : State) :
    (issueNeighbour u s).pending = s.pending ∧
    (issueNeighbour u s).fs = s.fs ∧
    (issueNeighbour u s).scene = s.scene ∧
    (issueNeighbour u s).jtag = s.jtag ∧
    (issueNeighbour u s).boot = s.boot ∧
    (issueNeighbour u s).period = s.period ∧
    (issueNeighbour u s).pwr = s.pwr ∧
    (issueNeighbour u s).scan = s.scan ∧
    (issueNeighbour u s).lct = s.lct ∧
    (issueNeighbour u s).tb = s.tb ∧
    (issueNeighbour u s).tiles = s.tiles ∧
    (issueNeighbour u s).handles = s.handles ∧
    (issueNeighbour u s).dcx = s.dcx ∧
    (issueNeighbour u s).mnt = s.mnt ∧
    (issueNeighbour u s).comp = s.comp ∧
    (issueNeighbour u s).thm = s.thm ∧
    (issueNeighbour u s).gl = s.gl ∧
    (issueNeighbour u s).link = s.link ∧
    (issueNeighbour u s).ozd = s.ozd ∧
    (issueNeighbour u s).lctc = s.lctc ∧
    (issueNeighbour u s).msgq = s.msgq ∧
    (issueNeighbour u s).wcapLevel = s.wcapLevel := by simp only [issueNeighbour]; (repeat' split) <;> simp [actFrame_frame .., bumpWrap_frame .., closeBank_frame .., putDram_frame .., refresh_frame ..]

theorem actScene_frame (ch k bank row : Nat) (u : DramUnit) (s : State) :
    (actScene ch k bank row u s).pending = s.pending ∧
    (actScene ch k bank row u s).fs = s.fs ∧
    (actScene ch k bank row u s).scene = s.scene ∧
    (actScene ch k bank row u s).jtag = s.jtag ∧
    (actScene ch k bank row u s).boot = s.boot ∧
    (actScene ch k bank row u s).period = s.period ∧
    (actScene ch k bank row u s).pwr = s.pwr ∧
    (actScene ch k bank row u s).scan = s.scan ∧
    (actScene ch k bank row u s).lct = s.lct ∧
    (actScene ch k bank row u s).tb = s.tb ∧
    (actScene ch k bank row u s).tiles = s.tiles ∧
    (actScene ch k bank row u s).handles = s.handles ∧
    (actScene ch k bank row u s).dcx = s.dcx ∧
    (actScene ch k bank row u s).mnt = s.mnt ∧
    (actScene ch k bank row u s).comp = s.comp ∧
    (actScene ch k bank row u s).thm = s.thm ∧
    (actScene ch k bank row u s).gl = s.gl ∧
    (actScene ch k bank row u s).link = s.link ∧
    (actScene ch k bank row u s).ozd = s.ozd ∧
    (actScene ch k bank row u s).lctc = s.lctc ∧
    (actScene ch k bank row u s).msgq = s.msgq ∧
    (actScene ch k bank row u s).wcapLevel = s.wcapLevel := by simp [issueNeighbour_frame .., queueNeighbour_frame .., actScene]

theorem activate_frame (u : DramUnit) (bank row : Nat) (s : State) :
    (activate u bank row s).pending = s.pending ∧
    (activate u bank row s).fs = s.fs ∧
    (activate u bank row s).scene = s.scene ∧
    (activate u bank row s).jtag = s.jtag ∧
    (activate u bank row s).boot = s.boot ∧
    (activate u bank row s).period = s.period ∧
    (activate u bank row s).pwr = s.pwr ∧
    (activate u bank row s).scan = s.scan ∧
    (activate u bank row s).lct = s.lct ∧
    (activate u bank row s).tb = s.tb ∧
    (activate u bank row s).tiles = s.tiles ∧
    (activate u bank row s).handles = s.handles ∧
    (activate u bank row s).dcx = s.dcx ∧
    (activate u bank row s).mnt = s.mnt ∧
    (activate u bank row s).comp = s.comp ∧
    (activate u bank row s).thm = s.thm ∧
    (activate u bank row s).gl = s.gl ∧
    (activate u bank row s).link = s.link ∧
    (activate u bank row s).ozd = s.ozd ∧
    (activate u bank row s).lctc = s.lctc ∧
    (activate u bank row s).msgq = s.msgq ∧
    (activate u bank row s).wcapLevel = s.wcapLevel := by simp only [activate]; (repeat' split) <;> simp [actFrame_frame .., actScene_frame ..]

theorem loadNrr_frame (s : State) :
    (loadNrr s).pending = s.pending ∧
    (loadNrr s).fs = s.fs ∧
    (loadNrr s).scene = s.scene ∧
    (loadNrr s).jtag = s.jtag ∧
    (loadNrr s).boot = s.boot ∧
    (loadNrr s).period = s.period ∧
    (loadNrr s).pwr = s.pwr ∧
    (loadNrr s).scan = s.scan ∧
    (loadNrr s).lct = s.lct ∧
    (loadNrr s).tb = s.tb ∧
    (loadNrr s).tiles = s.tiles ∧
    (loadNrr s).handles = s.handles ∧
    (loadNrr s).dcx = s.dcx ∧
    (loadNrr s).mnt = s.mnt ∧
    (loadNrr s).comp = s.comp ∧
    (loadNrr s).thm = s.thm ∧
    (loadNrr s).gl = s.gl ∧
    (loadNrr s).link = s.link ∧
    (loadNrr s).ozd = s.ozd ∧
    (loadNrr s).lctc = s.lctc ∧
    (loadNrr s).msgq = s.msgq ∧
    (loadNrr s).wcapLevel = s.wcapLevel := by simp [loadNrr]

theorem applyErrs_frame (sys : MemSys) (c : Nat) (w : List Nat) (s : State) :
    (applyErrs sys c w s).pending = s.pending ∧
    (applyErrs sys c w s).jtag = s.jtag ∧
    (applyErrs sys c w s).boot = s.boot ∧
    (applyErrs sys c w s).period = s.period ∧
    (applyErrs sys c w s).pwr = s.pwr ∧
    (applyErrs sys c w s).scan = s.scan ∧
    (applyErrs sys c w s).lct = s.lct ∧
    (applyErrs sys c w s).tb = s.tb ∧
    (applyErrs sys c w s).tiles = s.tiles ∧
    (applyErrs sys c w s).handles = s.handles ∧
    (applyErrs sys c w s).dcx = s.dcx ∧
    (applyErrs sys c w s).mnt = s.mnt ∧
    (applyErrs sys c w s).comp = s.comp ∧
    (applyErrs sys c w s).thm = s.thm ∧
    (applyErrs sys c w s).gl = s.gl ∧
    (applyErrs sys c w s).link = s.link ∧
    (applyErrs sys c w s).ozd = s.ozd ∧
    (applyErrs sys c w s).lctc = s.lctc ∧
    (applyErrs sys c w s).msgq = s.msgq ∧
    (applyErrs sys c w s).wcapLevel = s.wcapLevel := by simp [setCells_frame .., applyErrs]

theorem spoil_frame (sys : MemSys) (c : Nat) (errs : SymErrs) (s : State) :
    (spoil sys c errs s).pending = s.pending ∧
    (spoil sys c errs s).jtag = s.jtag ∧
    (spoil sys c errs s).boot = s.boot ∧
    (spoil sys c errs s).period = s.period ∧
    (spoil sys c errs s).pwr = s.pwr ∧
    (spoil sys c errs s).scan = s.scan ∧
    (spoil sys c errs s).lct = s.lct ∧
    (spoil sys c errs s).tb = s.tb ∧
    (spoil sys c errs s).tiles = s.tiles ∧
    (spoil sys c errs s).handles = s.handles ∧
    (spoil sys c errs s).dcx = s.dcx ∧
    (spoil sys c errs s).mnt = s.mnt ∧
    (spoil sys c errs s).comp = s.comp ∧
    (spoil sys c errs s).thm = s.thm ∧
    (spoil sys c errs s).gl = s.gl ∧
    (spoil sys c errs s).link = s.link ∧
    (spoil sys c errs s).ozd = s.ozd ∧
    (spoil sys c errs s).lctc = s.lctc ∧
    (spoil sys c errs s).msgq = s.msgq ∧
    (spoil sys c errs s).wcapLevel = s.wcapLevel := by simp [applyErrs_frame .., setUE_frame .., spoil]

theorem tallyRow_frame (sys : MemSys) (off : Nat) (s : State) :
    (tallyRow sys off s).pending = s.pending ∧
    (tallyRow sys off s).fs = s.fs ∧
    (tallyRow sys off s).scene = s.scene ∧
    (tallyRow sys off s).jtag = s.jtag ∧
    (tallyRow sys off s).boot = s.boot ∧
    (tallyRow sys off s).period = s.period ∧
    (tallyRow sys off s).pwr = s.pwr ∧
    (tallyRow sys off s).scan = s.scan ∧
    (tallyRow sys off s).lct = s.lct ∧
    (tallyRow sys off s).tb = s.tb ∧
    (tallyRow sys off s).tiles = s.tiles ∧
    (tallyRow sys off s).handles = s.handles ∧
    (tallyRow sys off s).dcx = s.dcx ∧
    (tallyRow sys off s).comp = s.comp ∧
    (tallyRow sys off s).thm = s.thm ∧
    (tallyRow sys off s).gl = s.gl ∧
    (tallyRow sys off s).link = s.link ∧
    (tallyRow sys off s).ozd = s.ozd ∧
    (tallyRow sys off s).lctc = s.lctc ∧
    (tallyRow sys off s).wcapLevel = s.wcapLevel := by simp [listRow_frame .., setMem_frame .., tallyRow]

theorem countCorr_frame (sys : MemSys) (off : Nat) (s : State) :
    (countCorr sys off s).pending = s.pending ∧
    (countCorr sys off s).fs = s.fs ∧
    (countCorr sys off s).scene = s.scene ∧
    (countCorr sys off s).jtag = s.jtag ∧
    (countCorr sys off s).boot = s.boot ∧
    (countCorr sys off s).period = s.period ∧
    (countCorr sys off s).pwr = s.pwr ∧
    (countCorr sys off s).scan = s.scan ∧
    (countCorr sys off s).lct = s.lct ∧
    (countCorr sys off s).tb = s.tb ∧
    (countCorr sys off s).tiles = s.tiles ∧
    (countCorr sys off s).handles = s.handles ∧
    (countCorr sys off s).dcx = s.dcx ∧
    (countCorr sys off s).comp = s.comp ∧
    (countCorr sys off s).thm = s.thm ∧
    (countCorr sys off s).gl = s.gl ∧
    (countCorr sys off s).link = s.link ∧
    (countCorr sys off s).ozd = s.ozd ∧
    (countCorr sys off s).lctc = s.lctc ∧
    (countCorr sys off s).wcapLevel = s.wcapLevel := by simp only [countCorr]; (repeat' split) <;> simp [bumpSat_frame .., tallyRow_frame ..]

theorem demandRead_frame (sys : MemSys) (c reader : Nat) (errs : SymErrs) (s : State) :
    (demandRead sys c reader errs s).pending = s.pending ∧
    (demandRead sys c reader errs s).jtag = s.jtag ∧
    (demandRead sys c reader errs s).boot = s.boot ∧
    (demandRead sys c reader errs s).period = s.period ∧
    (demandRead sys c reader errs s).pwr = s.pwr ∧
    (demandRead sys c reader errs s).scan = s.scan ∧
    (demandRead sys c reader errs s).lct = s.lct ∧
    (demandRead sys c reader errs s).tb = s.tb ∧
    (demandRead sys c reader errs s).tiles = s.tiles ∧
    (demandRead sys c reader errs s).handles = s.handles ∧
    (demandRead sys c reader errs s).dcx = s.dcx ∧
    (demandRead sys c reader errs s).comp = s.comp ∧
    (demandRead sys c reader errs s).thm = s.thm ∧
    (demandRead sys c reader errs s).gl = s.gl ∧
    (demandRead sys c reader errs s).link = s.link ∧
    (demandRead sys c reader errs s).ozd = s.ozd ∧
    (demandRead sys c reader errs s).lctc = s.lctc ∧
    (demandRead sys c reader errs s).wcapLevel = s.wcapLevel := by simp only [demandRead]; (repeat' split) <;> simp [countCorr_frame .., setMem_frame .., spoil_frame .., uncorr_frame ..]

theorem partialWrite_frame (sys : MemSys) (c : Nat) (errs : SymErrs) (s : State) :
    (partialWrite sys c errs s).pending = s.pending ∧
    (partialWrite sys c errs s).jtag = s.jtag ∧
    (partialWrite sys c errs s).boot = s.boot ∧
    (partialWrite sys c errs s).period = s.period ∧
    (partialWrite sys c errs s).pwr = s.pwr ∧
    (partialWrite sys c errs s).scan = s.scan ∧
    (partialWrite sys c errs s).lct = s.lct ∧
    (partialWrite sys c errs s).tb = s.tb ∧
    (partialWrite sys c errs s).tiles = s.tiles ∧
    (partialWrite sys c errs s).handles = s.handles ∧
    (partialWrite sys c errs s).dcx = s.dcx ∧
    (partialWrite sys c errs s).comp = s.comp ∧
    (partialWrite sys c errs s).thm = s.thm ∧
    (partialWrite sys c errs s).gl = s.gl ∧
    (partialWrite sys c errs s).link = s.link ∧
    (partialWrite sys c errs s).ozd = s.ozd ∧
    (partialWrite sys c errs s).lctc = s.lctc ∧
    (partialWrite sys c errs s).wcapLevel = s.wcapLevel := by simp [partialUE_frame .., spoil_frame .., partialWrite]

theorem serveData_frame (sys : MemSys) (r : MemReq) (errs : SymErrs) (s : State) :
    (serveData sys r errs s).pending = s.pending ∧
    (serveData sys r errs s).jtag = s.jtag ∧
    (serveData sys r errs s).boot = s.boot ∧
    (serveData sys r errs s).period = s.period ∧
    (serveData sys r errs s).pwr = s.pwr ∧
    (serveData sys r errs s).scan = s.scan ∧
    (serveData sys r errs s).lct = s.lct ∧
    (serveData sys r errs s).tb = s.tb ∧
    (serveData sys r errs s).tiles = s.tiles ∧
    (serveData sys r errs s).handles = s.handles ∧
    (serveData sys r errs s).dcx = s.dcx ∧
    (serveData sys r errs s).comp = s.comp ∧
    (serveData sys r errs s).thm = s.thm ∧
    (serveData sys r errs s).gl = s.gl ∧
    (serveData sys r errs s).link = s.link ∧
    (serveData sys r errs s).ozd = s.ozd ∧
    (serveData sys r errs s).lctc = s.lctc ∧
    (serveData sys r errs s).wcapLevel = s.wcapLevel := by simp only [serveData]; (repeat' split) <;> simp [demandRead_frame .., partialWrite_frame ..]

theorem takeHeld_frame (u : DramUnit) (s : State) :
    (takeHeld u s).pending = s.pending ∧
    (takeHeld u s).fs = s.fs ∧
    (takeHeld u s).scene = s.scene ∧
    (takeHeld u s).jtag = s.jtag ∧
    (takeHeld u s).boot = s.boot ∧
    (takeHeld u s).period = s.period ∧
    (takeHeld u s).pwr = s.pwr ∧
    (takeHeld u s).scan = s.scan ∧
    (takeHeld u s).lct = s.lct ∧
    (takeHeld u s).tb = s.tb ∧
    (takeHeld u s).tiles = s.tiles ∧
    (takeHeld u s).handles = s.handles ∧
    (takeHeld u s).dcx = s.dcx ∧
    (takeHeld u s).mnt = s.mnt ∧
    (takeHeld u s).comp = s.comp ∧
    (takeHeld u s).thm = s.thm ∧
    (takeHeld u s).gl = s.gl ∧
    (takeHeld u s).link = s.link ∧
    (takeHeld u s).ozd = s.ozd ∧
    (takeHeld u s).lctc = s.lctc ∧
    (takeHeld u s).msgq = s.msgq ∧
    (takeHeld u s).wcapLevel = s.wcapLevel := by simp [putDram_frame .., takeHeld]

theorem arrive_frame (u : DramUnit) (s : State) (r : MemReq) :
    (arrive u s r).pending = s.pending ∧
    (arrive u s r).fs = s.fs ∧
    (arrive u s r).scene = s.scene ∧
    (arrive u s r).jtag = s.jtag ∧
    (arrive u s r).boot = s.boot ∧
    (arrive u s r).period = s.period ∧
    (arrive u s r).pwr = s.pwr ∧
    (arrive u s r).scan = s.scan ∧
    (arrive u s r).lct = s.lct ∧
    (arrive u s r).tb = s.tb ∧
    (arrive u s r).tiles = s.tiles ∧
    (arrive u s r).handles = s.handles ∧
    (arrive u s r).dcx = s.dcx ∧
    (arrive u s r).mnt = s.mnt ∧
    (arrive u s r).comp = s.comp ∧
    (arrive u s r).thm = s.thm ∧
    (arrive u s r).gl = s.gl ∧
    (arrive u s r).link = s.link ∧
    (arrive u s r).ozd = s.ozd ∧
    (arrive u s r).lctc = s.lctc ∧
    (arrive u s r).msgq = s.msgq ∧
    (arrive u s r).wcapLevel = s.wcapLevel := by simp [putDram_frame .., setUnit_frame .., arrive]

theorem openRow_frame (u : DramUnit) (r : MemReq) (s : State) :
    (openRow u r s).pending = s.pending ∧
    (openRow u r s).fs = s.fs ∧
    (openRow u r s).scene = s.scene ∧
    (openRow u r s).jtag = s.jtag ∧
    (openRow u r s).boot = s.boot ∧
    (openRow u r s).period = s.period ∧
    (openRow u r s).pwr = s.pwr ∧
    (openRow u r s).scan = s.scan ∧
    (openRow u r s).lct = s.lct ∧
    (openRow u r s).tb = s.tb ∧
    (openRow u r s).tiles = s.tiles ∧
    (openRow u r s).handles = s.handles ∧
    (openRow u r s).dcx = s.dcx ∧
    (openRow u r s).mnt = s.mnt ∧
    (openRow u r s).comp = s.comp ∧
    (openRow u r s).thm = s.thm ∧
    (openRow u r s).gl = s.gl ∧
    (openRow u r s).link = s.link ∧
    (openRow u r s).ozd = s.ozd ∧
    (openRow u r s).lctc = s.lctc ∧
    (openRow u r s).msgq = s.msgq ∧
    (openRow u r s).wcapLevel = s.wcapLevel := by simp [setUnit_frame .., openRow]

theorem issueReq_frame (u : DramUnit) (w : Waiting) (errs : SymErrs) (s : State) :
    (issueReq u w errs s).pending = s.pending ∧
    (issueReq u w errs s).jtag = s.jtag ∧
    (issueReq u w errs s).boot = s.boot ∧
    (issueReq u w errs s).period = s.period ∧
    (issueReq u w errs s).pwr = s.pwr ∧
    (issueReq u w errs s).scan = s.scan ∧
    (issueReq u w errs s).lct = s.lct ∧
    (issueReq u w errs s).tb = s.tb ∧
    (issueReq u w errs s).tiles = s.tiles ∧
    (issueReq u w errs s).handles = s.handles ∧
    (issueReq u w errs s).dcx = s.dcx ∧
    (issueReq u w errs s).comp = s.comp ∧
    (issueReq u w errs s).thm = s.thm ∧
    (issueReq u w errs s).gl = s.gl ∧
    (issueReq u w errs s).link = s.link ∧
    (issueReq u w errs s).ozd = s.ozd ∧
    (issueReq u w errs s).lctc = s.lctc ∧
    (issueReq u w errs s).wcapLevel = s.wcapLevel := by simp [activate_frame .., openRow_frame .., putDram_frame .., serveData_frame .., setUnit_frame .., takeHeld_frame .., issueReq]

theorem dueRefresh_frame (u : DramUnit) (s : State) :
    (dueRefresh u s).pending = s.pending ∧
    (dueRefresh u s).fs = s.fs ∧
    (dueRefresh u s).scene = s.scene ∧
    (dueRefresh u s).jtag = s.jtag ∧
    (dueRefresh u s).boot = s.boot ∧
    (dueRefresh u s).period = s.period ∧
    (dueRefresh u s).pwr = s.pwr ∧
    (dueRefresh u s).scan = s.scan ∧
    (dueRefresh u s).lct = s.lct ∧
    (dueRefresh u s).tb = s.tb ∧
    (dueRefresh u s).tiles = s.tiles ∧
    (dueRefresh u s).handles = s.handles ∧
    (dueRefresh u s).dcx = s.dcx ∧
    (dueRefresh u s).mnt = s.mnt ∧
    (dueRefresh u s).comp = s.comp ∧
    (dueRefresh u s).thm = s.thm ∧
    (dueRefresh u s).gl = s.gl ∧
    (dueRefresh u s).link = s.link ∧
    (dueRefresh u s).ozd = s.ozd ∧
    (dueRefresh u s).lctc = s.lctc ∧
    (dueRefresh u s).msgq = s.msgq ∧
    (dueRefresh u s).wcapLevel = s.wcapLevel := by simp [refresh_frame .., setUnit_frame .., dueRefresh]

theorem setChHot_frame (ch : Nat) (s : State) :
    (setChHot ch s).pending = s.pending ∧
    (setChHot ch s).fs = s.fs ∧
    (setChHot ch s).scene = s.scene ∧
    (setChHot ch s).jtag = s.jtag ∧
    (setChHot ch s).boot = s.boot ∧
    (setChHot ch s).period = s.period ∧
    (setChHot ch s).pwr = s.pwr ∧
    (setChHot ch s).scan = s.scan ∧
    (setChHot ch s).lct = s.lct ∧
    (setChHot ch s).tb = s.tb ∧
    (setChHot ch s).tiles = s.tiles ∧
    (setChHot ch s).handles = s.handles ∧
    (setChHot ch s).dcx = s.dcx ∧
    (setChHot ch s).mnt = s.mnt ∧
    (setChHot ch s).comp = s.comp ∧
    (setChHot ch s).thm = s.thm ∧
    (setChHot ch s).gl = s.gl ∧
    (setChHot ch s).link = s.link ∧
    (setChHot ch s).ozd = s.ozd ∧
    (setChHot ch s).lctc = s.lctc ∧
    (setChHot ch s).msgq = s.msgq ∧
    (setChHot ch s).wcapLevel = s.wcapLevel := by simp [setRegBit_frame .., setChHot]

theorem tempFrame_frame (stack : Nat) (t : BitVec 16) (s : State) :
    (tempFrame stack t s).pending = s.pending ∧
    (tempFrame stack t s).fs = s.fs ∧
    (tempFrame stack t s).scene = s.scene ∧
    (tempFrame stack t s).jtag = s.jtag ∧
    (tempFrame stack t s).boot = s.boot ∧
    (tempFrame stack t s).period = s.period ∧
    (tempFrame stack t s).pwr = s.pwr ∧
    (tempFrame stack t s).scan = s.scan ∧
    (tempFrame stack t s).lct = s.lct ∧
    (tempFrame stack t s).tb = s.tb ∧
    (tempFrame stack t s).tiles = s.tiles ∧
    (tempFrame stack t s).handles = s.handles ∧
    (tempFrame stack t s).dcx = s.dcx ∧
    (tempFrame stack t s).mnt = s.mnt ∧
    (tempFrame stack t s).comp = s.comp ∧
    (tempFrame stack t s).thm = s.thm ∧
    (tempFrame stack t s).gl = s.gl ∧
    (tempFrame stack t s).link = s.link ∧
    (tempFrame stack t s).ozd = s.ozd ∧
    (tempFrame stack t s).lctc = s.lctc ∧
    (tempFrame stack t s).wcapLevel = s.wcapLevel := by simp [putDram_frame .., raise_frame .., setRegBit_frame .., setRegFld_frame .., tempFrame]

theorem tempRank_frame (ch k : Nat) (t : BitVec 16) (code : Byte) (s : State) :
    (tempRank ch k t code s).pending = s.pending ∧
    (tempRank ch k t code s).fs = s.fs ∧
    (tempRank ch k t code s).scene = s.scene ∧
    (tempRank ch k t code s).jtag = s.jtag ∧
    (tempRank ch k t code s).boot = s.boot ∧
    (tempRank ch k t code s).period = s.period ∧
    (tempRank ch k t code s).pwr = s.pwr ∧
    (tempRank ch k t code s).scan = s.scan ∧
    (tempRank ch k t code s).lct = s.lct ∧
    (tempRank ch k t code s).tb = s.tb ∧
    (tempRank ch k t code s).tiles = s.tiles ∧
    (tempRank ch k t code s).handles = s.handles ∧
    (tempRank ch k t code s).dcx = s.dcx ∧
    (tempRank ch k t code s).mnt = s.mnt ∧
    (tempRank ch k t code s).comp = s.comp ∧
    (tempRank ch k t code s).thm = s.thm ∧
    (tempRank ch k t code s).gl = s.gl ∧
    (tempRank ch k t code s).link = s.link ∧
    (tempRank ch k t code s).ozd = s.ozd ∧
    (tempRank ch k t code s).lctc = s.lctc ∧
    (tempRank ch k t code s).wcapLevel = s.wcapLevel := by simp [putDram_frame .., raise_frame .., setChHot_frame .., tempRank]

theorem enterSr_frame (k : Nat) (s : State) :
    (enterSr k s).pending = s.pending ∧
    (enterSr k s).fs = s.fs ∧
    (enterSr k s).scene = s.scene ∧
    (enterSr k s).jtag = s.jtag ∧
    (enterSr k s).boot = s.boot ∧
    (enterSr k s).period = s.period ∧
    (enterSr k s).pwr = s.pwr ∧
    (enterSr k s).scan = s.scan ∧
    (enterSr k s).lct = s.lct ∧
    (enterSr k s).tb = s.tb ∧
    (enterSr k s).tiles = s.tiles ∧
    (enterSr k s).handles = s.handles ∧
    (enterSr k s).dcx = s.dcx ∧
    (enterSr k s).mnt = s.mnt ∧
    (enterSr k s).comp = s.comp ∧
    (enterSr k s).thm = s.thm ∧
    (enterSr k s).gl = s.gl ∧
    (enterSr k s).link = s.link ∧
    (enterSr k s).ozd = s.ozd ∧
    (enterSr k s).lctc = s.lctc ∧
    (enterSr k s).msgq = s.msgq ∧
    (enterSr k s).wcapLevel = s.wcapLevel := by simp [putDram_frame .., enterSr]

theorem exitSr_frame (k : Nat) (s : State) :
    (exitSr k s).pending = s.pending ∧
    (exitSr k s).fs = s.fs ∧
    (exitSr k s).scene = s.scene ∧
    (exitSr k s).jtag = s.jtag ∧
    (exitSr k s).boot = s.boot ∧
    (exitSr k s).period = s.period ∧
    (exitSr k s).pwr = s.pwr ∧
    (exitSr k s).scan = s.scan ∧
    (exitSr k s).lct = s.lct ∧
    (exitSr k s).tb = s.tb ∧
    (exitSr k s).tiles = s.tiles ∧
    (exitSr k s).handles = s.handles ∧
    (exitSr k s).dcx = s.dcx ∧
    (exitSr k s).mnt = s.mnt ∧
    (exitSr k s).comp = s.comp ∧
    (exitSr k s).thm = s.thm ∧
    (exitSr k s).gl = s.gl ∧
    (exitSr k s).link = s.link ∧
    (exitSr k s).ozd = s.ozd ∧
    (exitSr k s).lctc = s.lctc ∧
    (exitSr k s).msgq = s.msgq ∧
    (exitSr k s).wcapLevel = s.wcapLevel := by simp [putDram_frame .., exitSr]

theorem enterSrAll_frame (sys : MemSys) (s : State) :
    (enterSrAll sys s).pending = s.pending ∧
    (enterSrAll sys s).fs = s.fs ∧
    (enterSrAll sys s).scene = s.scene ∧
    (enterSrAll sys s).jtag = s.jtag ∧
    (enterSrAll sys s).boot = s.boot ∧
    (enterSrAll sys s).period = s.period ∧
    (enterSrAll sys s).pwr = s.pwr ∧
    (enterSrAll sys s).scan = s.scan ∧
    (enterSrAll sys s).lct = s.lct ∧
    (enterSrAll sys s).tb = s.tb ∧
    (enterSrAll sys s).tiles = s.tiles ∧
    (enterSrAll sys s).handles = s.handles ∧
    (enterSrAll sys s).dcx = s.dcx ∧
    (enterSrAll sys s).mnt = s.mnt ∧
    (enterSrAll sys s).comp = s.comp ∧
    (enterSrAll sys s).thm = s.thm ∧
    (enterSrAll sys s).gl = s.gl ∧
    (enterSrAll sys s).link = s.link ∧
    (enterSrAll sys s).ozd = s.ozd ∧
    (enterSrAll sys s).lctc = s.lctc ∧
    (enterSrAll sys s).msgq = s.msgq ∧
    (enterSrAll sys s).wcapLevel = s.wcapLevel := by simp [enterSr_frame .., enterSrAll]

theorem exitSrAll_frame (sys : MemSys) (s : State) :
    (exitSrAll sys s).pending = s.pending ∧
    (exitSrAll sys s).fs = s.fs ∧
    (exitSrAll sys s).scene = s.scene ∧
    (exitSrAll sys s).jtag = s.jtag ∧
    (exitSrAll sys s).boot = s.boot ∧
    (exitSrAll sys s).period = s.period ∧
    (exitSrAll sys s).pwr = s.pwr ∧
    (exitSrAll sys s).scan = s.scan ∧
    (exitSrAll sys s).lct = s.lct ∧
    (exitSrAll sys s).tb = s.tb ∧
    (exitSrAll sys s).tiles = s.tiles ∧
    (exitSrAll sys s).handles = s.handles ∧
    (exitSrAll sys s).dcx = s.dcx ∧
    (exitSrAll sys s).mnt = s.mnt ∧
    (exitSrAll sys s).comp = s.comp ∧
    (exitSrAll sys s).thm = s.thm ∧
    (exitSrAll sys s).gl = s.gl ∧
    (exitSrAll sys s).link = s.link ∧
    (exitSrAll sys s).ozd = s.ozd ∧
    (exitSrAll sys s).lctc = s.lctc ∧
    (exitSrAll sys s).msgq = s.msgq ∧
    (exitSrAll sys s).wcapLevel = s.wcapLevel := by simp only [exitSrAll]; (repeat' split) <;> simp [exitSr_frame ..]

theorem setUnverified_frame (sys : MemSys) (s : State) :
    (setUnverified sys s).pending = s.pending ∧
    (setUnverified sys s).fs = s.fs ∧
    (setUnverified sys s).scene = s.scene ∧
    (setUnverified sys s).jtag = s.jtag ∧
    (setUnverified sys s).boot = s.boot ∧
    (setUnverified sys s).period = s.period ∧
    (setUnverified sys s).pwr = s.pwr ∧
    (setUnverified sys s).scan = s.scan ∧
    (setUnverified sys s).lct = s.lct ∧
    (setUnverified sys s).tb = s.tb ∧
    (setUnverified sys s).tiles = s.tiles ∧
    (setUnverified sys s).handles = s.handles ∧
    (setUnverified sys s).dcx = s.dcx ∧
    (setUnverified sys s).mnt = s.mnt ∧
    (setUnverified sys s).comp = s.comp ∧
    (setUnverified sys s).thm = s.thm ∧
    (setUnverified sys s).gl = s.gl ∧
    (setUnverified sys s).link = s.link ∧
    (setUnverified sys s).ozd = s.ozd ∧
    (setUnverified sys s).lctc = s.lctc ∧
    (setUnverified sys s).msgq = s.msgq ∧
    (setUnverified sys s).wcapLevel = s.wcapLevel := by simp [setMem_frame .., setRegBit_frame .., setUnverified]

theorem scrubPassEnd_frame (sys : MemSys) (s : State) :
    (scrubPassEnd sys s).pending = s.pending ∧
    (scrubPassEnd sys s).fs = s.fs ∧
    (scrubPassEnd sys s).scene = s.scene ∧
    (scrubPassEnd sys s).jtag = s.jtag ∧
    (scrubPassEnd sys s).boot = s.boot ∧
    (scrubPassEnd sys s).period = s.period ∧
    (scrubPassEnd sys s).pwr = s.pwr ∧
    (scrubPassEnd sys s).scan = s.scan ∧
    (scrubPassEnd sys s).lct = s.lct ∧
    (scrubPassEnd sys s).tb = s.tb ∧
    (scrubPassEnd sys s).tiles = s.tiles ∧
    (scrubPassEnd sys s).handles = s.handles ∧
    (scrubPassEnd sys s).dcx = s.dcx ∧
    (scrubPassEnd sys s).mnt = s.mnt ∧
    (scrubPassEnd sys s).comp = s.comp ∧
    (scrubPassEnd sys s).thm = s.thm ∧
    (scrubPassEnd sys s).gl = s.gl ∧
    (scrubPassEnd sys s).link = s.link ∧
    (scrubPassEnd sys s).ozd = s.ozd ∧
    (scrubPassEnd sys s).lctc = s.lctc ∧
    (scrubPassEnd sys s).wcapLevel = s.wcapLevel := by simp [bumpWrap_frame .., raise_frame .., setMem_frame .., setRegBit_frame .., scrubPassEnd]

theorem scrubCw_frame (sys : MemSys) (c : Nat) (errs : SymErrs) (writeArrived : Bool) (s : State) :
    (scrubCw sys c errs writeArrived s).pending = s.pending ∧
    (scrubCw sys c errs writeArrived s).jtag = s.jtag ∧
    (scrubCw sys c errs writeArrived s).boot = s.boot ∧
    (scrubCw sys c errs writeArrived s).period = s.period ∧
    (scrubCw sys c errs writeArrived s).pwr = s.pwr ∧
    (scrubCw sys c errs writeArrived s).scan = s.scan ∧
    (scrubCw sys c errs writeArrived s).lct = s.lct ∧
    (scrubCw sys c errs writeArrived s).tb = s.tb ∧
    (scrubCw sys c errs writeArrived s).tiles = s.tiles ∧
    (scrubCw sys c errs writeArrived s).handles = s.handles ∧
    (scrubCw sys c errs writeArrived s).dcx = s.dcx ∧
    (scrubCw sys c errs writeArrived s).comp = s.comp ∧
    (scrubCw sys c errs writeArrived s).thm = s.thm ∧
    (scrubCw sys c errs writeArrived s).gl = s.gl ∧
    (scrubCw sys c errs writeArrived s).link = s.link ∧
    (scrubCw sys c errs writeArrived s).ozd = s.ozd ∧
    (scrubCw sys c errs writeArrived s).lctc = s.lctc ∧
    (scrubCw sys c errs writeArrived s).wcapLevel = s.wcapLevel := by simp only [scrubCw]; (repeat' split) <;> simp [applyErrs_frame .., countCorr_frame .., setMem_frame .., spoil_frame .., uncorr_frame ..]

theorem effPprCmd_frame (sys : MemSys) (v : Word) (s : State) :
    (effPprCmd sys v s).pending = s.pending ∧
    (effPprCmd sys v s).fs = s.fs ∧
    (effPprCmd sys v s).scene = s.scene ∧
    (effPprCmd sys v s).jtag = s.jtag ∧
    (effPprCmd sys v s).boot = s.boot ∧
    (effPprCmd sys v s).period = s.period ∧
    (effPprCmd sys v s).pwr = s.pwr ∧
    (effPprCmd sys v s).scan = s.scan ∧
    (effPprCmd sys v s).lct = s.lct ∧
    (effPprCmd sys v s).tb = s.tb ∧
    (effPprCmd sys v s).tiles = s.tiles ∧
    (effPprCmd sys v s).handles = s.handles ∧
    (effPprCmd sys v s).dcx = s.dcx ∧
    (effPprCmd sys v s).comp = s.comp ∧
    (effPprCmd sys v s).thm = s.thm ∧
    (effPprCmd sys v s).gl = s.gl ∧
    (effPprCmd sys v s).link = s.link ∧
    (effPprCmd sys v s).ozd = s.ozd ∧
    (effPprCmd sys v s).lctc = s.lctc ∧
    (effPprCmd sys v s).wcapLevel = s.wcapLevel := by simp [mntPush_frame .., rplSet_frame .., effPprCmd]

theorem pprCmd_frame (m : Master) (sys : MemSys) (v : Word) (s : State) :
    (pprCmd m sys v s).pending = s.pending ∧
    (pprCmd m sys v s).fs = s.fs ∧
    (pprCmd m sys v s).scene = s.scene ∧
    (pprCmd m sys v s).jtag = s.jtag ∧
    (pprCmd m sys v s).boot = s.boot ∧
    (pprCmd m sys v s).period = s.period ∧
    (pprCmd m sys v s).pwr = s.pwr ∧
    (pprCmd m sys v s).scan = s.scan ∧
    (pprCmd m sys v s).lct = s.lct ∧
    (pprCmd m sys v s).tb = s.tb ∧
    (pprCmd m sys v s).tiles = s.tiles ∧
    (pprCmd m sys v s).handles = s.handles ∧
    (pprCmd m sys v s).comp = s.comp ∧
    (pprCmd m sys v s).thm = s.thm ∧
    (pprCmd m sys v s).gl = s.gl ∧
    (pprCmd m sys v s).lctc = s.lctc ∧
    (pprCmd m sys v s).wcapLevel = s.wcapLevel := by simp [effPprCmd_frame .., pprCmd]

end Sys2Proof.Machine
end

