-- ==== Sys2Proof/Laws/FrameThermal.lean ====
section
/-!
SUPPORT. What each operation of Thermal.lean leaves unchanged.
-/
set_option linter.unnecessarySeqFocus false
set_option linter.unusedTactic false
namespace Sys2Proof.Machine

theorem setThm_frame (t : Thermal) (s : State) :
    (setThm t s).pending = s.pending ∧
    (setThm t s).fs = s.fs ∧
    (setThm t s).scene = s.scene ∧
    (setThm t s).jtag = s.jtag ∧
    (setThm t s).boot = s.boot ∧
    (setThm t s).period = s.period ∧
    (setThm t s).pwr = s.pwr ∧
    (setThm t s).scan = s.scan ∧
    (setThm t s).lct = s.lct ∧
    (setThm t s).tb = s.tb ∧
    (setThm t s).tiles = s.tiles ∧
    (setThm t s).handles = s.handles ∧
    (setThm t s).dcx = s.dcx ∧
    (setThm t s).mnt = s.mnt ∧
    (setThm t s).comp = s.comp ∧
    (setThm t s).gl = s.gl ∧
    (setThm t s).link = s.link ∧
    (setThm t s).ozd = s.ozd ∧
    (setThm t s).lctc = s.lctc ∧
    (setThm t s).msgq = s.msgq ∧
    (setThm t s).wcapLevel = s.wcapLevel := by simp [setThm]

theorem storeZone_frame (t : Int) (z : Nat) (s : State) :
    (storeZone t z s).pending = s.pending ∧
    (storeZone t z s).fs = s.fs ∧
    (storeZone t z s).scene = s.scene ∧
    (storeZone t z s).jtag = s.jtag ∧
    (storeZone t z s).boot = s.boot ∧
    (storeZone t z s).period = s.period ∧
    (storeZone t z s).pwr = s.pwr ∧
    (storeZone t z s).scan = s.scan ∧
    (storeZone t z s).lct = s.lct ∧
    (storeZone t z s).tb = s.tb ∧
    (storeZone t z s).tiles = s.tiles ∧
    (storeZone t z s).handles = s.handles ∧
    (storeZone t z s).dcx = s.dcx ∧
    (storeZone t z s).mnt = s.mnt ∧
    (storeZone t z s).comp = s.comp ∧
    (storeZone t z s).thm = s.thm ∧
    (storeZone t z s).gl = s.gl ∧
    (storeZone t z s).link = s.link ∧
    (storeZone t z s).ozd = s.ozd ∧
    (storeZone t z s).lctc = s.lctc ∧
    (storeZone t z s).msgq = s.msgq ∧
    (storeZone t z s).wcapLevel = s.wcapLevel := by simp [setRegN_frame .., storeZone]

theorem storeTemps_frame (s : State) :
    (storeTemps s).pending = s.pending ∧
    (storeTemps s).fs = s.fs ∧
    (storeTemps s).scene = s.scene ∧
    (storeTemps s).jtag = s.jtag ∧
    (storeTemps s).boot = s.boot ∧
    (storeTemps s).period = s.period ∧
    (storeTemps s).pwr = s.pwr ∧
    (storeTemps s).scan = s.scan ∧
    (storeTemps s).lct = s.lct ∧
    (storeTemps s).tb = s.tb ∧
    (storeTemps s).tiles = s.tiles ∧
    (storeTemps s).handles = s.handles ∧
    (storeTemps s).dcx = s.dcx ∧
    (storeTemps s).mnt = s.mnt ∧
    (storeTemps s).comp = s.comp ∧
    (storeTemps s).thm = s.thm ∧
    (storeTemps s).gl = s.gl ∧
    (storeTemps s).link = s.link ∧
    (storeTemps s).ozd = s.ozd ∧
    (storeTemps s).lctc = s.lctc ∧
    (storeTemps s).msgq = s.msgq ∧
    (storeTemps s).wcapLevel = s.wcapLevel := by simp [setRegN_frame .., storeZone_frame .., storeTemps]

theorem zoneFault_frame (z cause : Nat) (s : State) :
    (zoneFault z cause s).pending = s.pending ∧
    (zoneFault z cause s).fs = s.fs ∧
    (zoneFault z cause s).scene = s.scene ∧
    (zoneFault z cause s).jtag = s.jtag ∧
    (zoneFault z cause s).boot = s.boot ∧
    (zoneFault z cause s).period = s.period ∧
    (zoneFault z cause s).pwr = s.pwr ∧
    (zoneFault z cause s).scan = s.scan ∧
    (zoneFault z cause s).lct = s.lct ∧
    (zoneFault z cause s).tb = s.tb ∧
    (zoneFault z cause s).tiles = s.tiles ∧
    (zoneFault z cause s).handles = s.handles ∧
    (zoneFault z cause s).dcx = s.dcx ∧
    (zoneFault z cause s).mnt = s.mnt ∧
    (zoneFault z cause s).comp = s.comp ∧
    (zoneFault z cause s).thm = s.thm ∧
    (zoneFault z cause s).gl = s.gl ∧
    (zoneFault z cause s).link = s.link ∧
    (zoneFault z cause s).ozd = s.ozd ∧
    (zoneFault z cause s).lctc = s.lctc ∧
    (zoneFault z cause s).wcapLevel = s.wcapLevel := by simp [raise_frame .., setRegBit_frame .., zoneFault]

theorem stopComposer_frame (s : State) :
    (stopComposer s).pending = s.pending ∧
    (stopComposer s).fs = s.fs ∧
    (stopComposer s).scene = s.scene ∧
    (stopComposer s).jtag = s.jtag ∧
    (stopComposer s).boot = s.boot ∧
    (stopComposer s).period = s.period ∧
    (stopComposer s).pwr = s.pwr ∧
    (stopComposer s).scan = s.scan ∧
    (stopComposer s).lct = s.lct ∧
    (stopComposer s).tb = s.tb ∧
    (stopComposer s).tiles = s.tiles ∧
    (stopComposer s).handles = s.handles ∧
    (stopComposer s).dcx = s.dcx ∧
    (stopComposer s).mnt = s.mnt ∧
    (stopComposer s).thm = s.thm ∧
    (stopComposer s).gl = s.gl ∧
    (stopComposer s).link = s.link ∧
    (stopComposer s).ozd = s.ozd ∧
    (stopComposer s).lctc = s.lctc ∧
    (stopComposer s).msgq = s.msgq ∧
    (stopComposer s).wcapLevel = s.wcapLevel := by simp [setComp_frame .., stopComposer]

theorem askDark_frame (cause : Nat) (s : State) :
    (askDark cause s).pending = s.pending ∧
    (askDark cause s).fs = s.fs ∧
    (askDark cause s).scene = s.scene ∧
    (askDark cause s).jtag = s.jtag ∧
    (askDark cause s).boot = s.boot ∧
    (askDark cause s).period = s.period ∧
    (askDark cause s).pwr = s.pwr ∧
    (askDark cause s).lct = s.lct ∧
    (askDark cause s).tb = s.tb ∧
    (askDark cause s).handles = s.handles ∧
    (askDark cause s).dcx = s.dcx ∧
    (askDark cause s).mnt = s.mnt ∧
    (askDark cause s).comp = s.comp ∧
    (askDark cause s).thm = s.thm ∧
    (askDark cause s).link = s.link ∧
    (askDark cause s).ozd = s.ozd ∧
    (askDark cause s).lctc = s.lctc ∧
    (askDark cause s).msgq = s.msgq ∧
    (askDark cause s).wcapLevel = s.wcapLevel := by simp only [askDark]; (repeat' split) <;> simp [enterIdle_frame .., setScan_frame ..]

theorem orderlyShutdown_frame (cause : Nat) (s : State) :
    (orderlyShutdown cause s).pending = s.pending ∧
    (orderlyShutdown cause s).fs = s.fs ∧
    (orderlyShutdown cause s).scene = s.scene ∧
    (orderlyShutdown cause s).jtag = s.jtag ∧
    (orderlyShutdown cause s).boot = s.boot ∧
    (orderlyShutdown cause s).period = s.period ∧
    (orderlyShutdown cause s).lct = s.lct ∧
    (orderlyShutdown cause s).tb = s.tb ∧
    (orderlyShutdown cause s).handles = s.handles ∧
    (orderlyShutdown cause s).dcx = s.dcx ∧
    (orderlyShutdown cause s).mnt = s.mnt ∧
    (orderlyShutdown cause s).thm = s.thm ∧
    (orderlyShutdown cause s).link = s.link ∧
    (orderlyShutdown cause s).ozd = s.ozd ∧
    (orderlyShutdown cause s).lctc = s.lctc ∧
    (orderlyShutdown cause s).wcapLevel = s.wcapLevel := by simp [askDark_frame .., cancelCommit_frame .., raise_frame .., setRegFld_frame .., stopComposer_frame .., orderlyShutdown]

theorem idleLanes_frame (s : State) :
    (idleLanes s).pending = s.pending ∧
    (idleLanes s).fs = s.fs ∧
    (idleLanes s).scene = s.scene ∧
    (idleLanes s).jtag = s.jtag ∧
    (idleLanes s).boot = s.boot ∧
    (idleLanes s).period = s.period ∧
    (idleLanes s).pwr = s.pwr ∧
    (idleLanes s).scan = s.scan ∧
    (idleLanes s).lct = s.lct ∧
    (idleLanes s).tb = s.tb ∧
    (idleLanes s).tiles = s.tiles ∧
    (idleLanes s).handles = s.handles ∧
    (idleLanes s).dcx = s.dcx ∧
    (idleLanes s).mnt = s.mnt ∧
    (idleLanes s).comp = s.comp ∧
    (idleLanes s).thm = s.thm ∧
    (idleLanes s).gl = s.gl ∧
    (idleLanes s).link = s.link ∧
    (idleLanes s).ozd = s.ozd ∧
    (idleLanes s).lctc = s.lctc ∧
    (idleLanes s).msgq = s.msgq ∧
    (idleLanes s).wcapLevel = s.wcapLevel := by simp [setLaneState_frame .., idleLanes]

theorem hardwareTrip_frame (z : Nat) (s : State) :
    (hardwareTrip z s).pending = s.pending ∧
    (hardwareTrip z s).fs = s.fs ∧
    (hardwareTrip z s).scene = s.scene ∧
    (hardwareTrip z s).jtag = s.jtag ∧
    (hardwareTrip z s).period = s.period ∧
    (hardwareTrip z s).lct = s.lct ∧
    (hardwareTrip z s).tb = s.tb ∧
    (hardwareTrip z s).tiles = s.tiles ∧
    (hardwareTrip z s).handles = s.handles ∧
    (hardwareTrip z s).dcx = s.dcx ∧
    (hardwareTrip z s).mnt = s.mnt ∧
    (hardwareTrip z s).comp = s.comp ∧
    (hardwareTrip z s).thm = s.thm ∧
    (hardwareTrip z s).gl = s.gl ∧
    (hardwareTrip z s).link = s.link ∧
    (hardwareTrip z s).lctc = s.lctc ∧
    (hardwareTrip z s).msgq = s.msgq ∧
    (hardwareTrip z s).wcapLevel = s.wcapLevel := by simp [idleLanes_frame .., ozCut_frame .., setRegBit_frame .., setRegFld_frame .., hardwareTrip]

theorem writeLives_frame (s : State) :
    (writeLives s).pending = s.pending ∧
    (writeLives s).fs = s.fs ∧
    (writeLives s).scene = s.scene ∧
    (writeLives s).jtag = s.jtag ∧
    (writeLives s).boot = s.boot ∧
    (writeLives s).period = s.period ∧
    (writeLives s).pwr = s.pwr ∧
    (writeLives s).scan = s.scan ∧
    (writeLives s).lct = s.lct ∧
    (writeLives s).tb = s.tb ∧
    (writeLives s).tiles = s.tiles ∧
    (writeLives s).handles = s.handles ∧
    (writeLives s).dcx = s.dcx ∧
    (writeLives s).mnt = s.mnt ∧
    (writeLives s).comp = s.comp ∧
    (writeLives s).thm = s.thm ∧
    (writeLives s).gl = s.gl ∧
    (writeLives s).link = s.link ∧
    (writeLives s).lctc = s.lctc ∧
    (writeLives s).msgq = s.msgq ∧
    (writeLives s).wcapLevel = s.wcapLevel := by simp [writeLife_frame .., writeLives]

theorem loseMidnight_frame (s : State) :
    (loseMidnight s).pending = s.pending ∧
    (loseMidnight s).jtag = s.jtag ∧
    (loseMidnight s).boot = s.boot ∧
    (loseMidnight s).period = s.period ∧
    (loseMidnight s).pwr = s.pwr ∧
    (loseMidnight s).scan = s.scan ∧
    (loseMidnight s).tb = s.tb ∧
    (loseMidnight s).tiles = s.tiles ∧
    (loseMidnight s).handles = s.handles ∧
    (loseMidnight s).dcx = s.dcx ∧
    (loseMidnight s).mnt = s.mnt ∧
    (loseMidnight s).comp = s.comp ∧
    (loseMidnight s).gl = s.gl ∧
    (loseMidnight s).link = s.link ∧
    (loseMidnight s).ozd = s.ozd ∧
    (loseMidnight s).msgq = s.msgq ∧
    (loseMidnight s).wcapLevel = s.wcapLevel := by simp [loseMidnight]

theorem enterMidnight_frame (byShutdown : Bool) (s : State) :
    (enterMidnight byShutdown s).pending = s.pending ∧
    (enterMidnight byShutdown s).jtag = s.jtag ∧
    (enterMidnight byShutdown s).boot = s.boot ∧
    (enterMidnight byShutdown s).scan = s.scan ∧
    (enterMidnight byShutdown s).tb = s.tb ∧
    (enterMidnight byShutdown s).tiles = s.tiles ∧
    (enterMidnight byShutdown s).handles = s.handles ∧
    (enterMidnight byShutdown s).dcx = s.dcx ∧
    (enterMidnight byShutdown s).wcapLevel = s.wcapLevel := by simp [loseMidnight_frame .., ozFinish_frame .., raise_frame .., setRegBit_frame .., enterMidnight]

theorem shutdownRecords_frame (s : State) :
    (shutdownRecords s).pending = s.pending ∧
    (shutdownRecords s).jtag = s.jtag ∧
    (shutdownRecords s).scan = s.scan ∧
    (shutdownRecords s).tb = s.tb ∧
    (shutdownRecords s).tiles = s.tiles ∧
    (shutdownRecords s).handles = s.handles ∧
    (shutdownRecords s).dcx = s.dcx ∧
    (shutdownRecords s).wcapLevel = s.wcapLevel := by simp [counterAdd_frame .., enterMidnight_frame .., ozFlush_frame .., ozLog_frame .., setRegBit_frame .., setRegFld_frame .., writeLives_frame .., shutdownRecords]

theorem effThmCmd_frame (v : Word) (s : State) :
    (effThmCmd v s).pending = s.pending ∧
    (effThmCmd v s).fs = s.fs ∧
    (effThmCmd v s).scene = s.scene ∧
    (effThmCmd v s).jtag = s.jtag ∧
    (effThmCmd v s).boot = s.boot ∧
    (effThmCmd v s).period = s.period ∧
    (effThmCmd v s).lct = s.lct ∧
    (effThmCmd v s).tb = s.tb ∧
    (effThmCmd v s).handles = s.handles ∧
    (effThmCmd v s).dcx = s.dcx ∧
    (effThmCmd v s).mnt = s.mnt ∧
    (effThmCmd v s).thm = s.thm ∧
    (effThmCmd v s).link = s.link ∧
    (effThmCmd v s).ozd = s.ozd ∧
    (effThmCmd v s).lctc = s.lctc ∧
    (effThmCmd v s).wcapLevel = s.wcapLevel := by simp [orderlyShutdown_frame .., effThmCmd]

theorem setThrot_frame (on : Bool) (s : State) :
    (setThrot on s).pending = s.pending ∧
    (setThrot on s).fs = s.fs ∧
    (setThrot on s).scene = s.scene ∧
    (setThrot on s).jtag = s.jtag ∧
    (setThrot on s).boot = s.boot ∧
    (setThrot on s).period = s.period ∧
    (setThrot on s).pwr = s.pwr ∧
    (setThrot on s).scan = s.scan ∧
    (setThrot on s).lct = s.lct ∧
    (setThrot on s).tb = s.tb ∧
    (setThrot on s).tiles = s.tiles ∧
    (setThrot on s).handles = s.handles ∧
    (setThrot on s).dcx = s.dcx ∧
    (setThrot on s).mnt = s.mnt ∧
    (setThrot on s).comp = s.comp ∧
    (setThrot on s).thm = s.thm ∧
    (setThrot on s).gl = s.gl ∧
    (setThrot on s).link = s.link ∧
    (setThrot on s).ozd = s.ozd ∧
    (setThrot on s).lctc = s.lctc ∧
    (setThrot on s).wcapLevel = s.wcapLevel := by simp [raise_frame .., setRegBit_frame .., setThrot]

theorem setWarn_frame (on : Bool) (s : State) :
    (setWarn on s).pending = s.pending ∧
    (setWarn on s).fs = s.fs ∧
    (setWarn on s).scene = s.scene ∧
    (setWarn on s).jtag = s.jtag ∧
    (setWarn on s).boot = s.boot ∧
    (setWarn on s).period = s.period ∧
    (setWarn on s).pwr = s.pwr ∧
    (setWarn on s).scan = s.scan ∧
    (setWarn on s).lct = s.lct ∧
    (setWarn on s).tb = s.tb ∧
    (setWarn on s).tiles = s.tiles ∧
    (setWarn on s).handles = s.handles ∧
    (setWarn on s).dcx = s.dcx ∧
    (setWarn on s).mnt = s.mnt ∧
    (setWarn on s).comp = s.comp ∧
    (setWarn on s).thm = s.thm ∧
    (setWarn on s).gl = s.gl ∧
    (setWarn on s).link = s.link ∧
    (setWarn on s).ozd = s.ozd ∧
    (setWarn on s).lctc = s.lctc ∧
    (setWarn on s).wcapLevel = s.wcapLevel := by simp [raise_frame .., setRegBit_frame .., setWarn]

theorem thresholdStep_frame (i : Nat) (s : State) :
    (thresholdStep i s).pending = s.pending ∧
    (thresholdStep i s).fs = s.fs ∧
    (thresholdStep i s).scene = s.scene ∧
    (thresholdStep i s).jtag = s.jtag ∧
    (thresholdStep i s).boot = s.boot ∧
    (thresholdStep i s).period = s.period ∧
    (thresholdStep i s).lct = s.lct ∧
    (thresholdStep i s).tb = s.tb ∧
    (thresholdStep i s).handles = s.handles ∧
    (thresholdStep i s).dcx = s.dcx ∧
    (thresholdStep i s).mnt = s.mnt ∧
    (thresholdStep i s).link = s.link ∧
    (thresholdStep i s).ozd = s.ozd ∧
    (thresholdStep i s).lctc = s.lctc ∧
    (thresholdStep i s).wcapLevel = s.wcapLevel := by simp only [thresholdStep]; (repeat' split) <;> simp [orderlyShutdown_frame .., setThm_frame .., setThrot_frame .., setWarn_frame ..]

theorem effThreshold_frame (i : Nat) (v : Word) (s : State) :
    (effThreshold i v s).pending = s.pending ∧
    (effThreshold i v s).fs = s.fs ∧
    (effThreshold i v s).scene = s.scene ∧
    (effThreshold i v s).jtag = s.jtag ∧
    (effThreshold i v s).boot = s.boot ∧
    (effThreshold i v s).period = s.period ∧
    (effThreshold i v s).pwr = s.pwr ∧
    (effThreshold i v s).scan = s.scan ∧
    (effThreshold i v s).lct = s.lct ∧
    (effThreshold i v s).tb = s.tb ∧
    (effThreshold i v s).tiles = s.tiles ∧
    (effThreshold i v s).handles = s.handles ∧
    (effThreshold i v s).dcx = s.dcx ∧
    (effThreshold i v s).mnt = s.mnt ∧
    (effThreshold i v s).comp = s.comp ∧
    (effThreshold i v s).gl = s.gl ∧
    (effThreshold i v s).link = s.link ∧
    (effThreshold i v s).ozd = s.ozd ∧
    (effThreshold i v s).lctc = s.lctc ∧
    (effThreshold i v s).msgq = s.msgq ∧
    (effThreshold i v s).wcapLevel = s.wcapLevel := by simp [setReg_frame .., setThm_frame .., effThreshold]

theorem rangeStep_frame (s : State) :
    (rangeStep s).pending = s.pending ∧
    (rangeStep s).fs = s.fs ∧
    (rangeStep s).scene = s.scene ∧
    (rangeStep s).jtag = s.jtag ∧
    (rangeStep s).boot = s.boot ∧
    (rangeStep s).period = s.period ∧
    (rangeStep s).pwr = s.pwr ∧
    (rangeStep s).scan = s.scan ∧
    (rangeStep s).lct = s.lct ∧
    (rangeStep s).tb = s.tb ∧
    (rangeStep s).tiles = s.tiles ∧
    (rangeStep s).handles = s.handles ∧
    (rangeStep s).dcx = s.dcx ∧
    (rangeStep s).mnt = s.mnt ∧
    (rangeStep s).comp = s.comp ∧
    (rangeStep s).gl = s.gl ∧
    (rangeStep s).link = s.link ∧
    (rangeStep s).ozd = s.ozd ∧
    (rangeStep s).lctc = s.lctc ∧
    (rangeStep s).wcapLevel = s.wcapLevel := by simp [raise_frame .., setThm_frame .., rangeStep]

theorem refStep_frame (dev : Nat) (s : State) :
    (refStep dev s).pending = s.pending ∧
    (refStep dev s).fs = s.fs ∧
    (refStep dev s).scene = s.scene ∧
    (refStep dev s).jtag = s.jtag ∧
    (refStep dev s).boot = s.boot ∧
    (refStep dev s).period = s.period ∧
    (refStep dev s).pwr = s.pwr ∧
    (refStep dev s).scan = s.scan ∧
    (refStep dev s).lct = s.lct ∧
    (refStep dev s).tb = s.tb ∧
    (refStep dev s).tiles = s.tiles ∧
    (refStep dev s).handles = s.handles ∧
    (refStep dev s).dcx = s.dcx ∧
    (refStep dev s).mnt = s.mnt ∧
    (refStep dev s).comp = s.comp ∧
    (refStep dev s).gl = s.gl ∧
    (refStep dev s).link = s.link ∧
    (refStep dev s).ozd = s.ozd ∧
    (refStep dev s).lctc = s.lctc ∧
    (refStep dev s).wcapLevel = s.wcapLevel := by simp [raise_frame .., setThm_frame .., refStep]

theorem bringUp_frame (s : State) :
    (bringUp s).pending = s.pending ∧
    (bringUp s).fs = s.fs ∧
    (bringUp s).scene = s.scene ∧
    (bringUp s).jtag = s.jtag ∧
    (bringUp s).boot = s.boot ∧
    (bringUp s).period = s.period ∧
    (bringUp s).pwr = s.pwr ∧
    (bringUp s).scan = s.scan ∧
    (bringUp s).lct = s.lct ∧
    (bringUp s).tb = s.tb ∧
    (bringUp s).tiles = s.tiles ∧
    (bringUp s).handles = s.handles ∧
    (bringUp s).dcx = s.dcx ∧
    (bringUp s).mnt = s.mnt ∧
    (bringUp s).comp = s.comp ∧
    (bringUp s).gl = s.gl ∧
    (bringUp s).link = s.link ∧
    (bringUp s).ozd = s.ozd ∧
    (bringUp s).lctc = s.lctc ∧
    (bringUp s).msgq = s.msgq ∧
    (bringUp s).wcapLevel = s.wcapLevel := by simp [setThm_frame .., bringUp]

theorem takeTransmit_frame (u : Nat) (s : State) :
    (takeTransmit u s).pending = s.pending ∧
    (takeTransmit u s).fs = s.fs ∧
    (takeTransmit u s).scene = s.scene ∧
    (takeTransmit u s).jtag = s.jtag ∧
    (takeTransmit u s).boot = s.boot ∧
    (takeTransmit u s).period = s.period ∧
    (takeTransmit u s).pwr = s.pwr ∧
    (takeTransmit u s).scan = s.scan ∧
    (takeTransmit u s).lct = s.lct ∧
    (takeTransmit u s).tb = s.tb ∧
    (takeTransmit u s).tiles = s.tiles ∧
    (takeTransmit u s).handles = s.handles ∧
    (takeTransmit u s).dcx = s.dcx ∧
    (takeTransmit u s).mnt = s.mnt ∧
    (takeTransmit u s).comp = s.comp ∧
    (takeTransmit u s).gl = s.gl ∧
    (takeTransmit u s).link = s.link ∧
    (takeTransmit u s).ozd = s.ozd ∧
    (takeTransmit u s).lctc = s.lctc ∧
    (takeTransmit u s).msgq = s.msgq ∧
    (takeTransmit u s).wcapLevel = s.wcapLevel := by simp [setThm_frame .., takeTransmit]

theorem calAsk_frame (d : Nat) (host : Bool) (s : State) (u : Nat) :
    (calAsk d host s u).pending = s.pending ∧
    (calAsk d host s u).fs = s.fs ∧
    (calAsk d host s u).scene = s.scene ∧
    (calAsk d host s u).jtag = s.jtag ∧
    (calAsk d host s u).boot = s.boot ∧
    (calAsk d host s u).period = s.period ∧
    (calAsk d host s u).pwr = s.pwr ∧
    (calAsk d host s u).scan = s.scan ∧
    (calAsk d host s u).lct = s.lct ∧
    (calAsk d host s u).tb = s.tb ∧
    (calAsk d host s u).tiles = s.tiles ∧
    (calAsk d host s u).handles = s.handles ∧
    (calAsk d host s u).dcx = s.dcx ∧
    (calAsk d host s u).comp = s.comp ∧
    (calAsk d host s u).gl = s.gl ∧
    (calAsk d host s u).link = s.link ∧
    (calAsk d host s u).ozd = s.ozd ∧
    (calAsk d host s u).lctc = s.lctc ∧
    (calAsk d host s u).wcapLevel = s.wcapLevel := by simp [mntPush_frame .., setThm_frame .., calAsk]

theorem calPush_frame (d : Nat) (host : Bool) (s : State) :
    (calPush d host s).pending = s.pending ∧
    (calPush d host s).fs = s.fs ∧
    (calPush d host s).scene = s.scene ∧
    (calPush d host s).jtag = s.jtag ∧
    (calPush d host s).boot = s.boot ∧
    (calPush d host s).period = s.period ∧
    (calPush d host s).pwr = s.pwr ∧
    (calPush d host s).scan = s.scan ∧
    (calPush d host s).lct = s.lct ∧
    (calPush d host s).tb = s.tb ∧
    (calPush d host s).tiles = s.tiles ∧
    (calPush d host s).handles = s.handles ∧
    (calPush d host s).dcx = s.dcx ∧
    (calPush d host s).comp = s.comp ∧
    (calPush d host s).gl = s.gl ∧
    (calPush d host s).link = s.link ∧
    (calPush d host s).ozd = s.ozd ∧
    (calPush d host s).lctc = s.lctc ∧
    (calPush d host s).wcapLevel = s.wcapLevel := by simp [calAsk_frame .., calPush]

theorem calRequest_frame (d : Nat) (host : Bool) (s : State) :
    (calRequest d host s).pending = s.pending ∧
    (calRequest d host s).fs = s.fs ∧
    (calRequest d host s).scene = s.scene ∧
    (calRequest d host s).jtag = s.jtag ∧
    (calRequest d host s).boot = s.boot ∧
    (calRequest d host s).period = s.period ∧
    (calRequest d host s).pwr = s.pwr ∧
    (calRequest d host s).scan = s.scan ∧
    (calRequest d host s).lct = s.lct ∧
    (calRequest d host s).tb = s.tb ∧
    (calRequest d host s).tiles = s.tiles ∧
    (calRequest d host s).handles = s.handles ∧
    (calRequest d host s).dcx = s.dcx ∧
    (calRequest d host s).comp = s.comp ∧
    (calRequest d host s).gl = s.gl ∧
    (calRequest d host s).link = s.link ∧
    (calRequest d host s).ozd = s.ozd ∧
    (calRequest d host s).lctc = s.lctc ∧
    (calRequest d host s).wcapLevel = s.wcapLevel := by simp [calPush_frame .., setThm_frame .., calRequest]

theorem calTrigger_frame (s : State) :
    (calTrigger s).pending = s.pending ∧
    (calTrigger s).fs = s.fs ∧
    (calTrigger s).scene = s.scene ∧
    (calTrigger s).jtag = s.jtag ∧
    (calTrigger s).boot = s.boot ∧
    (calTrigger s).period = s.period ∧
    (calTrigger s).pwr = s.pwr ∧
    (calTrigger s).scan = s.scan ∧
    (calTrigger s).lct = s.lct ∧
    (calTrigger s).tb = s.tb ∧
    (calTrigger s).tiles = s.tiles ∧
    (calTrigger s).handles = s.handles ∧
    (calTrigger s).dcx = s.dcx ∧
    (calTrigger s).comp = s.comp ∧
    (calTrigger s).gl = s.gl ∧
    (calTrigger s).link = s.link ∧
    (calTrigger s).ozd = s.ozd ∧
    (calTrigger s).lctc = s.lctc ∧
    (calTrigger s).wcapLevel = s.wcapLevel := by simp [calRequest_frame .., calTrigger]

theorem storeTref_frame (d : Nat) (s : State) :
    (storeTref d s).pending = s.pending ∧
    (storeTref d s).fs = s.fs ∧
    (storeTref d s).scene = s.scene ∧
    (storeTref d s).jtag = s.jtag ∧
    (storeTref d s).boot = s.boot ∧
    (storeTref d s).period = s.period ∧
    (storeTref d s).pwr = s.pwr ∧
    (storeTref d s).scan = s.scan ∧
    (storeTref d s).lct = s.lct ∧
    (storeTref d s).tb = s.tb ∧
    (storeTref d s).tiles = s.tiles ∧
    (storeTref d s).handles = s.handles ∧
    (storeTref d s).dcx = s.dcx ∧
    (storeTref d s).mnt = s.mnt ∧
    (storeTref d s).comp = s.comp ∧
    (storeTref d s).thm = s.thm ∧
    (storeTref d s).gl = s.gl ∧
    (storeTref d s).link = s.link ∧
    (storeTref d s).ozd = s.ozd ∧
    (storeTref d s).lctc = s.lctc ∧
    (storeTref d s).msgq = s.msgq ∧
    (storeTref d s).wcapLevel = s.wcapLevel := by simp [setRegN_frame .., storeTref]

theorem calRecord_frame (d u : Nat) (ok : Bool) (s : State) :
    (calRecord d u ok s).pending = s.pending ∧
    (calRecord d u ok s).fs = s.fs ∧
    (calRecord d u ok s).scene = s.scene ∧
    (calRecord d u ok s).jtag = s.jtag ∧
    (calRecord d u ok s).boot = s.boot ∧
    (calRecord d u ok s).period = s.period ∧
    (calRecord d u ok s).pwr = s.pwr ∧
    (calRecord d u ok s).scan = s.scan ∧
    (calRecord d u ok s).lct = s.lct ∧
    (calRecord d u ok s).tb = s.tb ∧
    (calRecord d u ok s).tiles = s.tiles ∧
    (calRecord d u ok s).handles = s.handles ∧
    (calRecord d u ok s).dcx = s.dcx ∧
    (calRecord d u ok s).mnt = s.mnt ∧
    (calRecord d u ok s).comp = s.comp ∧
    (calRecord d u ok s).gl = s.gl ∧
    (calRecord d u ok s).link = s.link ∧
    (calRecord d u ok s).ozd = s.ozd ∧
    (calRecord d u ok s).lctc = s.lctc ∧
    (calRecord d u ok s).wcapLevel = s.wcapLevel := by simp only [calRecord]; (repeat' split) <;> simp [bumpSat_frame .., bumpWrap_frame .., dropRun_frame .., raise_frame .., setThm_frame .., storeTref_frame ..]

theorem calAdvance_frame (d u : Nat) (s : State) :
    (calAdvance d u s).pending = s.pending ∧
    (calAdvance d u s).fs = s.fs ∧
    (calAdvance d u s).scene = s.scene ∧
    (calAdvance d u s).jtag = s.jtag ∧
    (calAdvance d u s).boot = s.boot ∧
    (calAdvance d u s).period = s.period ∧
    (calAdvance d u s).pwr = s.pwr ∧
    (calAdvance d u s).scan = s.scan ∧
    (calAdvance d u s).lct = s.lct ∧
    (calAdvance d u s).tb = s.tb ∧
    (calAdvance d u s).tiles = s.tiles ∧
    (calAdvance d u s).handles = s.handles ∧
    (calAdvance d u s).dcx = s.dcx ∧
    (calAdvance d u s).comp = s.comp ∧
    (calAdvance d u s).gl = s.gl ∧
    (calAdvance d u s).link = s.link ∧
    (calAdvance d u s).ozd = s.ozd ∧
    (calAdvance d u s).lctc = s.lctc ∧
    (calAdvance d u s).wcapLevel = s.wcapLevel := by simp [calPush_frame .., raise_frame .., setThm_frame .., calAdvance]

theorem requestTrims_frame (s : State) (t : Nat) :
    (requestTrims s t).pending = s.pending ∧
    (requestTrims s t).fs = s.fs ∧
    (requestTrims s t).scene = s.scene ∧
    (requestTrims s t).jtag = s.jtag ∧
    (requestTrims s t).boot = s.boot ∧
    (requestTrims s t).period = s.period ∧
    (requestTrims s t).pwr = s.pwr ∧
    (requestTrims s t).scan = s.scan ∧
    (requestTrims s t).lct = s.lct ∧
    (requestTrims s t).tb = s.tb ∧
    (requestTrims s t).handles = s.handles ∧
    (requestTrims s t).dcx = s.dcx ∧
    (requestTrims s t).mnt = s.mnt ∧
    (requestTrims s t).comp = s.comp ∧
    (requestTrims s t).thm = s.thm ∧
    (requestTrims s t).gl = s.gl ∧
    (requestTrims s t).link = s.link ∧
    (requestTrims s t).ozd = s.ozd ∧
    (requestTrims s t).lctc = s.lctc ∧
    (requestTrims s t).msgq = s.msgq ∧
    (requestTrims s t).wcapLevel = s.wcapLevel := by simp [startTrims_frame .., requestTrims]

theorem effCalReq_frame (v : Word) (s : State) :
    (effCalReq v s).pending = s.pending ∧
    (effCalReq v s).fs = s.fs ∧
    (effCalReq v s).scene = s.scene ∧
    (effCalReq v s).jtag = s.jtag ∧
    (effCalReq v s).boot = s.boot ∧
    (effCalReq v s).period = s.period ∧
    (effCalReq v s).pwr = s.pwr ∧
    (effCalReq v s).scan = s.scan ∧
    (effCalReq v s).lct = s.lct ∧
    (effCalReq v s).tb = s.tb ∧
    (effCalReq v s).handles = s.handles ∧
    (effCalReq v s).dcx = s.dcx ∧
    (effCalReq v s).comp = s.comp ∧
    (effCalReq v s).gl = s.gl ∧
    (effCalReq v s).link = s.link ∧
    (effCalReq v s).ozd = s.ozd ∧
    (effCalReq v s).lctc = s.lctc ∧
    (effCalReq v s).wcapLevel = s.wcapLevel := by simp [calRequest_frame .., requestTrims_frame .., effCalReq]

theorem nextLed_frame (s : State) :
    (nextLed s).pending = s.pending ∧
    (nextLed s).fs = s.fs ∧
    (nextLed s).scene = s.scene ∧
    (nextLed s).jtag = s.jtag ∧
    (nextLed s).boot = s.boot ∧
    (nextLed s).period = s.period ∧
    (nextLed s).pwr = s.pwr ∧
    (nextLed s).scan = s.scan ∧
    (nextLed s).lct = s.lct ∧
    (nextLed s).tb = s.tb ∧
    (nextLed s).tiles = s.tiles ∧
    (nextLed s).handles = s.handles ∧
    (nextLed s).dcx = s.dcx ∧
    (nextLed s).mnt = s.mnt ∧
    (nextLed s).comp = s.comp ∧
    (nextLed s).thm = s.thm ∧
    (nextLed s).gl = s.gl ∧
    (nextLed s).link = s.link ∧
    (nextLed s).ozd = s.ozd ∧
    (nextLed s).lctc = s.lctc ∧
    (nextLed s).msgq = s.msgq ∧
    (nextLed s).wcapLevel = s.wcapLevel := by simp [setRegN_frame .., nextLed]

theorem ledRead_frame (s : State) :
    (ledRead s).2.pending = s.pending ∧
    (ledRead s).2.fs = s.fs ∧
    (ledRead s).2.scene = s.scene ∧
    (ledRead s).2.jtag = s.jtag ∧
    (ledRead s).2.boot = s.boot ∧
    (ledRead s).2.period = s.period ∧
    (ledRead s).2.pwr = s.pwr ∧
    (ledRead s).2.scan = s.scan ∧
    (ledRead s).2.lct = s.lct ∧
    (ledRead s).2.tb = s.tb ∧
    (ledRead s).2.tiles = s.tiles ∧
    (ledRead s).2.handles = s.handles ∧
    (ledRead s).2.dcx = s.dcx ∧
    (ledRead s).2.mnt = s.mnt ∧
    (ledRead s).2.comp = s.comp ∧
    (ledRead s).2.thm = s.thm ∧
    (ledRead s).2.gl = s.gl ∧
    (ledRead s).2.link = s.link ∧
    (ledRead s).2.ozd = s.ozd ∧
    (ledRead s).2.lctc = s.lctc ∧
    (ledRead s).2.msgq = s.msgq ∧
    (ledRead s).2.wcapLevel = s.wcapLevel := by simp [nextLed_frame .., ledRead]

theorem ledWrite_frame (v : Word) (s : State) :
    (ledWrite v s).pending = s.pending ∧
    (ledWrite v s).fs = s.fs ∧
    (ledWrite v s).scene = s.scene ∧
    (ledWrite v s).jtag = s.jtag ∧
    (ledWrite v s).boot = s.boot ∧
    (ledWrite v s).period = s.period ∧
    (ledWrite v s).pwr = s.pwr ∧
    (ledWrite v s).scan = s.scan ∧
    (ledWrite v s).lct = s.lct ∧
    (ledWrite v s).tb = s.tb ∧
    (ledWrite v s).tiles = s.tiles ∧
    (ledWrite v s).handles = s.handles ∧
    (ledWrite v s).dcx = s.dcx ∧
    (ledWrite v s).mnt = s.mnt ∧
    (ledWrite v s).comp = s.comp ∧
    (ledWrite v s).thm = s.thm ∧
    (ledWrite v s).gl = s.gl ∧
    (ledWrite v s).link = s.link ∧
    (ledWrite v s).ozd = s.ozd ∧
    (ledWrite v s).lctc = s.lctc ∧
    (ledWrite v s).msgq = s.msgq ∧
    (ledWrite v s).wcapLevel = s.wcapLevel := by simp [nextLed_frame .., setTab_frame .., ledWrite]

theorem takeSample_frame (codes : Vector (BitVec 12) 12) (z : Fin 12) (s : State) :
    (takeSample codes z s).pending = s.pending ∧
    (takeSample codes z s).fs = s.fs ∧
    (takeSample codes z s).scene = s.scene ∧
    (takeSample codes z s).jtag = s.jtag ∧
    (takeSample codes z s).boot = s.boot ∧
    (takeSample codes z s).period = s.period ∧
    (takeSample codes z s).pwr = s.pwr ∧
    (takeSample codes z s).scan = s.scan ∧
    (takeSample codes z s).lct = s.lct ∧
    (takeSample codes z s).tb = s.tb ∧
    (takeSample codes z s).tiles = s.tiles ∧
    (takeSample codes z s).handles = s.handles ∧
    (takeSample codes z s).dcx = s.dcx ∧
    (takeSample codes z s).mnt = s.mnt ∧
    (takeSample codes z s).comp = s.comp ∧
    (takeSample codes z s).gl = s.gl ∧
    (takeSample codes z s).link = s.link ∧
    (takeSample codes z s).ozd = s.ozd ∧
    (takeSample codes z s).lctc = s.lctc ∧
    (takeSample codes z s).wcapLevel = s.wcapLevel := by simp [setThm_frame .., zoneFault_frame .., takeSample]

theorem faultyShutdown_frame (s : State) :
    (faultyShutdown s).pending = s.pending ∧
    (faultyShutdown s).fs = s.fs ∧
    (faultyShutdown s).scene = s.scene ∧
    (faultyShutdown s).jtag = s.jtag ∧
    (faultyShutdown s).boot = s.boot ∧
    (faultyShutdown s).period = s.period ∧
    (faultyShutdown s).lct = s.lct ∧
    (faultyShutdown s).tb = s.tb ∧
    (faultyShutdown s).handles = s.handles ∧
    (faultyShutdown s).dcx = s.dcx ∧
    (faultyShutdown s).mnt = s.mnt ∧
    (faultyShutdown s).thm = s.thm ∧
    (faultyShutdown s).link = s.link ∧
    (faultyShutdown s).ozd = s.ozd ∧
    (faultyShutdown s).lctc = s.lctc ∧
    (faultyShutdown s).wcapLevel = s.wcapLevel := by simp [orderlyShutdown_frame .., faultyShutdown]

theorem compareTemps_frame (s : State) :
    (compareTemps s).pending = s.pending ∧
    (compareTemps s).fs = s.fs ∧
    (compareTemps s).scene = s.scene ∧
    (compareTemps s).jtag = s.jtag ∧
    (compareTemps s).boot = s.boot ∧
    (compareTemps s).period = s.period ∧
    (compareTemps s).lct = s.lct ∧
    (compareTemps s).tb = s.tb ∧
    (compareTemps s).handles = s.handles ∧
    (compareTemps s).dcx = s.dcx ∧
    (compareTemps s).link = s.link ∧
    (compareTemps s).ozd = s.ozd ∧
    (compareTemps s).lctc = s.lctc ∧
    (compareTemps s).wcapLevel = s.wcapLevel := by simp [bringUp_frame .., calTrigger_frame .., rangeStep_frame .., storeTemps_frame .., thresholdStep_frame .., compareTemps]

theorem bandFilter_frame (s : State) :
    (bandFilter s).pending = s.pending ∧
    (bandFilter s).fs = s.fs ∧
    (bandFilter s).scene = s.scene ∧
    (bandFilter s).jtag = s.jtag ∧
    (bandFilter s).boot = s.boot ∧
    (bandFilter s).period = s.period ∧
    (bandFilter s).pwr = s.pwr ∧
    (bandFilter s).lct = s.lct ∧
    (bandFilter s).tb = s.tb ∧
    (bandFilter s).tiles = s.tiles ∧
    (bandFilter s).handles = s.handles ∧
    (bandFilter s).dcx = s.dcx ∧
    (bandFilter s).mnt = s.mnt ∧
    (bandFilter s).comp = s.comp ∧
    (bandFilter s).thm = s.thm ∧
    (bandFilter s).gl = s.gl ∧
    (bandFilter s).link = s.link ∧
    (bandFilter s).ozd = s.ozd ∧
    (bandFilter s).lctc = s.lctc ∧
    (bandFilter s).msgq = s.msgq ∧
    (bandFilter s).wcapLevel = s.wcapLevel := by simp [setRegN_frame .., setScan_frame .., bandFilter]

theorem thermalSample_frame (codes : Vector (BitVec 12) 12) (dev : Nat) (s : State) :
    (thermalSample codes dev s).pending = s.pending ∧
    (thermalSample codes dev s).fs = s.fs ∧
    (thermalSample codes dev s).scene = s.scene ∧
    (thermalSample codes dev s).jtag = s.jtag ∧
    (thermalSample codes dev s).period = s.period ∧
    (thermalSample codes dev s).lct = s.lct ∧
    (thermalSample codes dev s).tb = s.tb ∧
    (thermalSample codes dev s).handles = s.handles ∧
    (thermalSample codes dev s).dcx = s.dcx ∧
    (thermalSample codes dev s).link = s.link ∧
    (thermalSample codes dev s).lctc = s.lctc ∧
    (thermalSample codes dev s).wcapLevel = s.wcapLevel := by simp only [thermalSample]; (repeat' split) <;> simp [bandFilter_frame .., compareTemps_frame .., faultyShutdown_frame .., hardwareTrip_frame .., refStep_frame .., setThm_frame .., takeSample_frame ..]

theorem crossCheck_frame (s : State) :
    (crossCheck s).pending = s.pending ∧
    (crossCheck s).fs = s.fs ∧
    (crossCheck s).scene = s.scene ∧
    (crossCheck s).jtag = s.jtag ∧
    (crossCheck s).boot = s.boot ∧
    (crossCheck s).period = s.period ∧
    (crossCheck s).lct = s.lct ∧
    (crossCheck s).tb = s.tb ∧
    (crossCheck s).handles = s.handles ∧
    (crossCheck s).dcx = s.dcx ∧
    (crossCheck s).mnt = s.mnt ∧
    (crossCheck s).link = s.link ∧
    (crossCheck s).ozd = s.ozd ∧
    (crossCheck s).lctc = s.lctc ∧
    (crossCheck s).wcapLevel = s.wcapLevel := by simp only [crossCheck]; (repeat' split) <;> simp [faultyShutdown_frame .., setThm_frame .., zoneFault_frame ..]

theorem effZcmd_frame (v : Word) (s : State) :
    (effZcmd v s).pending = s.pending ∧
    (effZcmd v s).fs = s.fs ∧
    (effZcmd v s).scene = s.scene ∧
    (effZcmd v s).jtag = s.jtag ∧
    (effZcmd v s).boot = s.boot ∧
    (effZcmd v s).period = s.period ∧
    (effZcmd v s).pwr = s.pwr ∧
    (effZcmd v s).scan = s.scan ∧
    (effZcmd v s).lct = s.lct ∧
    (effZcmd v s).tb = s.tb ∧
    (effZcmd v s).tiles = s.tiles ∧
    (effZcmd v s).handles = s.handles ∧
    (effZcmd v s).dcx = s.dcx ∧
    (effZcmd v s).mnt = s.mnt ∧
    (effZcmd v s).comp = s.comp ∧
    (effZcmd v s).gl = s.gl ∧
    (effZcmd v s).link = s.link ∧
    (effZcmd v s).ozd = s.ozd ∧
    (effZcmd v s).lctc = s.lctc ∧
    (effZcmd v s).wcapLevel = s.wcapLevel := by simp [raise_frame .., setRegBit_frame .., setThm_frame .., effZcmd]

theorem readThmMax_frame (s : State) :
    (readThmMax s).2.pending = s.pending ∧
    (readThmMax s).2.fs = s.fs ∧
    (readThmMax s).2.scene = s.scene ∧
    (readThmMax s).2.jtag = s.jtag ∧
    (readThmMax s).2.boot = s.boot ∧
    (readThmMax s).2.period = s.period ∧
    (readThmMax s).2.pwr = s.pwr ∧
    (readThmMax s).2.scan = s.scan ∧
    (readThmMax s).2.lct = s.lct ∧
    (readThmMax s).2.tb = s.tb ∧
    (readThmMax s).2.tiles = s.tiles ∧
    (readThmMax s).2.handles = s.handles ∧
    (readThmMax s).2.dcx = s.dcx ∧
    (readThmMax s).2.mnt = s.mnt ∧
    (readThmMax s).2.comp = s.comp ∧
    (readThmMax s).2.thm = s.thm ∧
    (readThmMax s).2.gl = s.gl ∧
    (readThmMax s).2.link = s.link ∧
    (readThmMax s).2.ozd = s.ozd ∧
    (readThmMax s).2.lctc = s.lctc ∧
    (readThmMax s).2.msgq = s.msgq ∧
    (readThmMax s).2.wcapLevel = s.wcapLevel := by simp [setRegN_frame .., readThmMax]

end Sys2Proof.Machine
end

