-- ==== Sys2Proof/Laws/FrameMaint.lean ====
section
/-!
SUPPORT. What each operation of Maint.lean leaves unchanged.
-/
namespace Sys2Proof.Machine

theorem setMnt_frame (m : Mnt) (s : State) :
    (setMnt m s).pending = s.pending ∧
    (setMnt m s).fs = s.fs ∧
    (setMnt m s).scene = s.scene ∧
    (setMnt m s).jtag = s.jtag ∧
    (setMnt m s).boot = s.boot ∧
    (setMnt m s).period = s.period ∧
    (setMnt m s).pwr = s.pwr ∧
    (setMnt m s).scan = s.scan ∧
    (setMnt m s).lct = s.lct ∧
    (setMnt m s).tb = s.tb ∧
    (setMnt m s).tiles = s.tiles ∧
    (setMnt m s).handles = s.handles ∧
    (setMnt m s).dcx = s.dcx ∧
    (setMnt m s).comp = s.comp ∧
    (setMnt m s).thm = s.thm ∧
    (setMnt m s).gl = s.gl ∧
    (setMnt m s).link = s.link ∧
    (setMnt m s).ozd = s.ozd ∧
    (setMnt m s).lctc = s.lctc ∧
    (setMnt m s).msgq = s.msgq ∧
    (setMnt m s).wcapLevel = s.wcapLevel := by simp [setMnt]

theorem markRunning_frame (q : MntReq) (s : State) :
    (markRunning q s).pending = s.pending ∧
    (markRunning q s).fs = s.fs ∧
    (markRunning q s).scene = s.scene ∧
    (markRunning q s).jtag = s.jtag ∧
    (markRunning q s).boot = s.boot ∧
    (markRunning q s).period = s.period ∧
    (markRunning q s).pwr = s.pwr ∧
    (markRunning q s).scan = s.scan ∧
    (markRunning q s).lct = s.lct ∧
    (markRunning q s).tb = s.tb ∧
    (markRunning q s).tiles = s.tiles ∧
    (markRunning q s).handles = s.handles ∧
    (markRunning q s).dcx = s.dcx ∧
    (markRunning q s).comp = s.comp ∧
    (markRunning q s).thm = s.thm ∧
    (markRunning q s).gl = s.gl ∧
    (markRunning q s).link = s.link ∧
    (markRunning q s).ozd = s.ozd ∧
    (markRunning q s).lctc = s.lctc ∧
    (markRunning q s).msgq = s.msgq ∧
    (markRunning q s).wcapLevel = s.wcapLevel := by simp [setMnt_frame .., markRunning]

theorem beginCal_frame (q : MntReq) (s : State) :
    (beginCal q s).pending = s.pending ∧
    (beginCal q s).fs = s.fs ∧
    (beginCal q s).scene = s.scene ∧
    (beginCal q s).jtag = s.jtag ∧
    (beginCal q s).boot = s.boot ∧
    (beginCal q s).period = s.period ∧
    (beginCal q s).pwr = s.pwr ∧
    (beginCal q s).scan = s.scan ∧
    (beginCal q s).lct = s.lct ∧
    (beginCal q s).tb = s.tb ∧
    (beginCal q s).tiles = s.tiles ∧
    (beginCal q s).handles = s.handles ∧
    (beginCal q s).dcx = s.dcx ∧
    (beginCal q s).mnt = s.mnt ∧
    (beginCal q s).comp = s.comp ∧
    (beginCal q s).gl = s.gl ∧
    (beginCal q s).link = s.link ∧
    (beginCal q s).ozd = s.ozd ∧
    (beginCal q s).lctc = s.lctc ∧
    (beginCal q s).msgq = s.msgq ∧
    (beginCal q s).wcapLevel = s.wcapLevel := by simp [setThm_frame .., beginCal]

theorem lend_frame (x l : Lane) (s : State) :
    (lend x l s).pending = s.pending ∧
    (lend x l s).fs = s.fs ∧
    (lend x l s).scene = s.scene ∧
    (lend x l s).jtag = s.jtag ∧
    (lend x l s).boot = s.boot ∧
    (lend x l s).period = s.period ∧
    (lend x l s).pwr = s.pwr ∧
    (lend x l s).scan = s.scan ∧
    (lend x l s).lct = s.lct ∧
    (lend x l s).tb = s.tb ∧
    (lend x l s).tiles = s.tiles ∧
    (lend x l s).handles = s.handles ∧
    (lend x l s).dcx = s.dcx ∧
    (lend x l s).mnt = s.mnt ∧
    (lend x l s).comp = s.comp ∧
    (lend x l s).thm = s.thm ∧
    (lend x l s).gl = s.gl ∧
    (lend x l s).link = s.link ∧
    (lend x l s).ozd = s.ozd ∧
    (lend x l s).lctc = s.lctc ∧
    (lend x l s).msgq = s.msgq ∧
    (lend x l s).wcapLevel = s.wcapLevel := by simp only [lend]; (repeat' split) <;> simp [askCopy_frame .., beginCopy_frame .., putAux_frame .., setLaneCopy_frame ..]

theorem verifyPanel_frame (n : Nat) (s : State) :
    (verifyPanel n s).pending = s.pending ∧
    (verifyPanel n s).fs = s.fs ∧
    (verifyPanel n s).scene = s.scene ∧
    (verifyPanel n s).jtag = s.jtag ∧
    (verifyPanel n s).boot = s.boot ∧
    (verifyPanel n s).period = s.period ∧
    (verifyPanel n s).pwr = s.pwr ∧
    (verifyPanel n s).scan = s.scan ∧
    (verifyPanel n s).lct = s.lct ∧
    (verifyPanel n s).tb = s.tb ∧
    (verifyPanel n s).tiles = s.tiles ∧
    (verifyPanel n s).handles = s.handles ∧
    (verifyPanel n s).dcx = s.dcx ∧
    (verifyPanel n s).mnt = s.mnt ∧
    (verifyPanel n s).comp = s.comp ∧
    (verifyPanel n s).thm = s.thm ∧
    (verifyPanel n s).gl = s.gl ∧
    (verifyPanel n s).link = s.link ∧
    (verifyPanel n s).ozd = s.ozd ∧
    (verifyPanel n s).lctc = s.lctc ∧
    (verifyPanel n s).msgq = s.msgq ∧
    (verifyPanel n s).wcapLevel = s.wcapLevel := by simp [setLaneRole_frame .., verifyPanel]

theorem startEffect_frame (q : MntReq) (s : State) :
    (startEffect q s).pending = s.pending ∧
    (startEffect q s).fs = s.fs ∧
    (startEffect q s).scene = s.scene ∧
    (startEffect q s).jtag = s.jtag ∧
    (startEffect q s).boot = s.boot ∧
    (startEffect q s).period = s.period ∧
    (startEffect q s).pwr = s.pwr ∧
    (startEffect q s).scan = s.scan ∧
    (startEffect q s).lct = s.lct ∧
    (startEffect q s).tb = s.tb ∧
    (startEffect q s).tiles = s.tiles ∧
    (startEffect q s).handles = s.handles ∧
    (startEffect q s).dcx = s.dcx ∧
    (startEffect q s).mnt = s.mnt ∧
    (startEffect q s).comp = s.comp ∧
    (startEffect q s).thm = s.thm ∧
    (startEffect q s).gl = s.gl ∧
    (startEffect q s).link = s.link ∧
    (startEffect q s).ozd = s.ozd ∧
    (startEffect q s).lctc = s.lctc ∧
    (startEffect q s).msgq = s.msgq ∧
    (startEffect q s).wcapLevel = s.wcapLevel := by simp [putDram_frame .., verifyPanel_frame .., startEffect]

theorem startActivity_frame (q : MntReq) (s : State) :
    (startActivity q s).pending = s.pending ∧
    (startActivity q s).fs = s.fs ∧
    (startActivity q s).scene = s.scene ∧
    (startActivity q s).jtag = s.jtag ∧
    (startActivity q s).boot = s.boot ∧
    (startActivity q s).period = s.period ∧
    (startActivity q s).pwr = s.pwr ∧
    (startActivity q s).scan = s.scan ∧
    (startActivity q s).lct = s.lct ∧
    (startActivity q s).tb = s.tb ∧
    (startActivity q s).tiles = s.tiles ∧
    (startActivity q s).handles = s.handles ∧
    (startActivity q s).dcx = s.dcx ∧
    (startActivity q s).comp = s.comp ∧
    (startActivity q s).gl = s.gl ∧
    (startActivity q s).link = s.link ∧
    (startActivity q s).ozd = s.ozd ∧
    (startActivity q s).lctc = s.lctc ∧
    (startActivity q s).wcapLevel = s.wcapLevel := by simp only [startActivity]; (repeat' split) <;> simp [beginCal_frame .., calAdvance_frame .., lend_frame .., markRunning_frame .., mntNoSpare_frame .., startEffect_frame ..]

theorem giveBack_frame (l : Lane) (s : State) :
    (giveBack l s).pending = s.pending ∧
    (giveBack l s).fs = s.fs ∧
    (giveBack l s).scene = s.scene ∧
    (giveBack l s).jtag = s.jtag ∧
    (giveBack l s).boot = s.boot ∧
    (giveBack l s).period = s.period ∧
    (giveBack l s).pwr = s.pwr ∧
    (giveBack l s).scan = s.scan ∧
    (giveBack l s).lct = s.lct ∧
    (giveBack l s).tb = s.tb ∧
    (giveBack l s).tiles = s.tiles ∧
    (giveBack l s).handles = s.handles ∧
    (giveBack l s).dcx = s.dcx ∧
    (giveBack l s).mnt = s.mnt ∧
    (giveBack l s).comp = s.comp ∧
    (giveBack l s).thm = s.thm ∧
    (giveBack l s).gl = s.gl ∧
    (giveBack l s).link = s.link ∧
    (giveBack l s).ozd = s.ozd ∧
    (giveBack l s).lctc = s.lctc ∧
    (giveBack l s).msgq = s.msgq ∧
    (giveBack l s).wcapLevel = s.wcapLevel := by simp only [giveBack]; (repeat' split) <;> simp [homeAgain_frame .., putAux_frame .., queueCmd_frame ..]

theorem endCal_frame (act unit : Nat) (pass : Bool) (s : State) :
    (endCal act unit pass s).pending = s.pending ∧
    (endCal act unit pass s).fs = s.fs ∧
    (endCal act unit pass s).scene = s.scene ∧
    (endCal act unit pass s).jtag = s.jtag ∧
    (endCal act unit pass s).boot = s.boot ∧
    (endCal act unit pass s).period = s.period ∧
    (endCal act unit pass s).pwr = s.pwr ∧
    (endCal act unit pass s).scan = s.scan ∧
    (endCal act unit pass s).lct = s.lct ∧
    (endCal act unit pass s).tb = s.tb ∧
    (endCal act unit pass s).tiles = s.tiles ∧
    (endCal act unit pass s).handles = s.handles ∧
    (endCal act unit pass s).dcx = s.dcx ∧
    (endCal act unit pass s).comp = s.comp ∧
    (endCal act unit pass s).gl = s.gl ∧
    (endCal act unit pass s).link = s.link ∧
    (endCal act unit pass s).ozd = s.ozd ∧
    (endCal act unit pass s).lctc = s.lctc ∧
    (endCal act unit pass s).wcapLevel = s.wcapLevel := by simp [calAdvance_frame .., calRecord_frame .., giveBack_frame .., mntFinish_frame .., endCal]

theorem logRepair_frame (sys : MemSys) (hard failed : Bool) (e : Word) (s : State) :
    (logRepair sys hard failed e s).pending = s.pending ∧
    (logRepair sys hard failed e s).fs = s.fs ∧
    (logRepair sys hard failed e s).scene = s.scene ∧
    (logRepair sys hard failed e s).jtag = s.jtag ∧
    (logRepair sys hard failed e s).boot = s.boot ∧
    (logRepair sys hard failed e s).period = s.period ∧
    (logRepair sys hard failed e s).pwr = s.pwr ∧
    (logRepair sys hard failed e s).scan = s.scan ∧
    (logRepair sys hard failed e s).lct = s.lct ∧
    (logRepair sys hard failed e s).tb = s.tb ∧
    (logRepair sys hard failed e s).tiles = s.tiles ∧
    (logRepair sys hard failed e s).handles = s.handles ∧
    (logRepair sys hard failed e s).dcx = s.dcx ∧
    (logRepair sys hard failed e s).mnt = s.mnt ∧
    (logRepair sys hard failed e s).comp = s.comp ∧
    (logRepair sys hard failed e s).thm = s.thm ∧
    (logRepair sys hard failed e s).gl = s.gl ∧
    (logRepair sys hard failed e s).link = s.link ∧
    (logRepair sys hard failed e s).lctc = s.lctc ∧
    (logRepair sys hard failed e s).msgq = s.msgq ∧
    (logRepair sys hard failed e s).wcapLevel = s.wcapLevel := by simp [ozLog_frame .., logRepair]

theorem repairDone_frame (sys : MemSys) (unit : Nat) (s : State) :
    (repairDone sys unit s).pending = s.pending ∧
    (repairDone sys unit s).fs = s.fs ∧
    (repairDone sys unit s).scene = s.scene ∧
    (repairDone sys unit s).jtag = s.jtag ∧
    (repairDone sys unit s).boot = s.boot ∧
    (repairDone sys unit s).period = s.period ∧
    (repairDone sys unit s).pwr = s.pwr ∧
    (repairDone sys unit s).scan = s.scan ∧
    (repairDone sys unit s).lct = s.lct ∧
    (repairDone sys unit s).tb = s.tb ∧
    (repairDone sys unit s).tiles = s.tiles ∧
    (repairDone sys unit s).handles = s.handles ∧
    (repairDone sys unit s).dcx = s.dcx ∧
    (repairDone sys unit s).mnt = s.mnt ∧
    (repairDone sys unit s).comp = s.comp ∧
    (repairDone sys unit s).thm = s.thm ∧
    (repairDone sys unit s).gl = s.gl ∧
    (repairDone sys unit s).link = s.link ∧
    (repairDone sys unit s).lctc = s.lctc ∧
    (repairDone sys unit s).wcapLevel = s.wcapLevel := by simp [logRepair_frame .., ozRecord_frame .., raise_frame .., rplSet_frame .., repairDone]

theorem repairFailed_frame (sys : MemSys) (unit : Nat) (s : State) :
    (repairFailed sys unit s).pending = s.pending ∧
    (repairFailed sys unit s).fs = s.fs ∧
    (repairFailed sys unit s).scene = s.scene ∧
    (repairFailed sys unit s).jtag = s.jtag ∧
    (repairFailed sys unit s).boot = s.boot ∧
    (repairFailed sys unit s).period = s.period ∧
    (repairFailed sys unit s).pwr = s.pwr ∧
    (repairFailed sys unit s).scan = s.scan ∧
    (repairFailed sys unit s).lct = s.lct ∧
    (repairFailed sys unit s).tb = s.tb ∧
    (repairFailed sys unit s).tiles = s.tiles ∧
    (repairFailed sys unit s).handles = s.handles ∧
    (repairFailed sys unit s).dcx = s.dcx ∧
    (repairFailed sys unit s).mnt = s.mnt ∧
    (repairFailed sys unit s).comp = s.comp ∧
    (repairFailed sys unit s).thm = s.thm ∧
    (repairFailed sys unit s).gl = s.gl ∧
    (repairFailed sys unit s).link = s.link ∧
    (repairFailed sys unit s).lctc = s.lctc ∧
    (repairFailed sys unit s).wcapLevel = s.wcapLevel := by simp [logRepair_frame .., raise_frame .., rplSet_frame .., repairFailed]

theorem endRepair_frame (sys : MemSys) (act unit : Nat) (pass : Bool) (s : State) :
    (endRepair sys act unit pass s).pending = s.pending ∧
    (endRepair sys act unit pass s).fs = s.fs ∧
    (endRepair sys act unit pass s).scene = s.scene ∧
    (endRepair sys act unit pass s).jtag = s.jtag ∧
    (endRepair sys act unit pass s).boot = s.boot ∧
    (endRepair sys act unit pass s).period = s.period ∧
    (endRepair sys act unit pass s).pwr = s.pwr ∧
    (endRepair sys act unit pass s).scan = s.scan ∧
    (endRepair sys act unit pass s).lct = s.lct ∧
    (endRepair sys act unit pass s).tb = s.tb ∧
    (endRepair sys act unit pass s).tiles = s.tiles ∧
    (endRepair sys act unit pass s).handles = s.handles ∧
    (endRepair sys act unit pass s).dcx = s.dcx ∧
    (endRepair sys act unit pass s).comp = s.comp ∧
    (endRepair sys act unit pass s).thm = s.thm ∧
    (endRepair sys act unit pass s).gl = s.gl ∧
    (endRepair sys act unit pass s).link = s.link ∧
    (endRepair sys act unit pass s).lctc = s.lctc ∧
    (endRepair sys act unit pass s).wcapLevel = s.wcapLevel := by simp only [endRepair]; (repeat' split) <;> simp [mntFinish_frame .., putDram_frame .., repairDone_frame .., repairFailed_frame ..]

theorem endDver_frame (e : Nat) (pass : Bool) (s : State) :
    (endDver e pass s).pending = s.pending ∧
    (endDver e pass s).fs = s.fs ∧
    (endDver e pass s).scene = s.scene ∧
    (endDver e pass s).jtag = s.jtag ∧
    (endDver e pass s).boot = s.boot ∧
    (endDver e pass s).period = s.period ∧
    (endDver e pass s).pwr = s.pwr ∧
    (endDver e pass s).scan = s.scan ∧
    (endDver e pass s).lct = s.lct ∧
    (endDver e pass s).tb = s.tb ∧
    (endDver e pass s).tiles = s.tiles ∧
    (endDver e pass s).handles = s.handles ∧
    (endDver e pass s).dcx = s.dcx ∧
    (endDver e pass s).comp = s.comp ∧
    (endDver e pass s).thm = s.thm ∧
    (endDver e pass s).gl = s.gl ∧
    (endDver e pass s).link = s.link ∧
    (endDver e pass s).ozd = s.ozd ∧
    (endDver e pass s).lctc = s.lctc ∧
    (endDver e pass s).wcapLevel = s.wcapLevel := by simp [mntFinish_frame .., setDeRole_frame .., endDver]

theorem endHver_frame (unit : Nat) (pass : Bool) (s : State) :
    (endHver unit pass s).pending = s.pending ∧
    (endHver unit pass s).fs = s.fs ∧
    (endHver unit pass s).scene = s.scene ∧
    (endHver unit pass s).jtag = s.jtag ∧
    (endHver unit pass s).boot = s.boot ∧
    (endHver unit pass s).period = s.period ∧
    (endHver unit pass s).pwr = s.pwr ∧
    (endHver unit pass s).scan = s.scan ∧
    (endHver unit pass s).lct = s.lct ∧
    (endHver unit pass s).tb = s.tb ∧
    (endHver unit pass s).tiles = s.tiles ∧
    (endHver unit pass s).handles = s.handles ∧
    (endHver unit pass s).dcx = s.dcx ∧
    (endHver unit pass s).mnt = s.mnt ∧
    (endHver unit pass s).comp = s.comp ∧
    (endHver unit pass s).thm = s.thm ∧
    (endHver unit pass s).gl = s.gl ∧
    (endHver unit pass s).link = s.link ∧
    (endHver unit pass s).ozd = s.ozd ∧
    (endHver unit pass s).lctc = s.lctc ∧
    (endHver unit pass s).wcapLevel = s.wcapLevel := by simp [bumpWrap_frame .., raise_frame .., verifyDone_frame .., endHver]

theorem endActivity_frame (act unit : Nat) (pass : Bool) (s : State) :
    (endActivity act unit pass s).pending = s.pending ∧
    (endActivity act unit pass s).fs = s.fs ∧
    (endActivity act unit pass s).scene = s.scene ∧
    (endActivity act unit pass s).jtag = s.jtag ∧
    (endActivity act unit pass s).boot = s.boot ∧
    (endActivity act unit pass s).period = s.period ∧
    (endActivity act unit pass s).pwr = s.pwr ∧
    (endActivity act unit pass s).scan = s.scan ∧
    (endActivity act unit pass s).lct = s.lct ∧
    (endActivity act unit pass s).tb = s.tb ∧
    (endActivity act unit pass s).tiles = s.tiles ∧
    (endActivity act unit pass s).handles = s.handles ∧
    (endActivity act unit pass s).dcx = s.dcx ∧
    (endActivity act unit pass s).comp = s.comp ∧
    (endActivity act unit pass s).gl = s.gl ∧
    (endActivity act unit pass s).link = s.link ∧
    (endActivity act unit pass s).lctc = s.lctc ∧
    (endActivity act unit pass s).wcapLevel = s.wcapLevel := by simp [endCal_frame .., endDver_frame .., endRepair_frame .., mntFinish_frame .., verifyDone_frame .., endActivity]

theorem leaveService_frame (e role : Nat) (s : State) :
    (leaveService e role s).pending = s.pending ∧
    (leaveService e role s).fs = s.fs ∧
    (leaveService e role s).scene = s.scene ∧
    (leaveService e role s).jtag = s.jtag ∧
    (leaveService e role s).boot = s.boot ∧
    (leaveService e role s).period = s.period ∧
    (leaveService e role s).pwr = s.pwr ∧
    (leaveService e role s).scan = s.scan ∧
    (leaveService e role s).lct = s.lct ∧
    (leaveService e role s).tb = s.tb ∧
    (leaveService e role s).tiles = s.tiles ∧
    (leaveService e role s).mnt = s.mnt ∧
    (leaveService e role s).comp = s.comp ∧
    (leaveService e role s).thm = s.thm ∧
    (leaveService e role s).gl = s.gl ∧
    (leaveService e role s).link = s.link ∧
    (leaveService e role s).ozd = s.ozd ∧
    (leaveService e role s).lctc = s.lctc ∧
    (leaveService e role s).wcapLevel = s.wcapLevel := by simp [failContext_frame .., raise_frame .., setDeRole_frame .., leaveService]

theorem dropDver_frame (e : Nat) (s : State) :
    (dropDver e s).pending = s.pending ∧
    (dropDver e s).fs = s.fs ∧
    (dropDver e s).scene = s.scene ∧
    (dropDver e s).jtag = s.jtag ∧
    (dropDver e s).boot = s.boot ∧
    (dropDver e s).period = s.period ∧
    (dropDver e s).pwr = s.pwr ∧
    (dropDver e s).scan = s.scan ∧
    (dropDver e s).lct = s.lct ∧
    (dropDver e s).tb = s.tb ∧
    (dropDver e s).tiles = s.tiles ∧
    (dropDver e s).handles = s.handles ∧
    (dropDver e s).dcx = s.dcx ∧
    (dropDver e s).comp = s.comp ∧
    (dropDver e s).thm = s.thm ∧
    (dropDver e s).gl = s.gl ∧
    (dropDver e s).link = s.link ∧
    (dropDver e s).ozd = s.ozd ∧
    (dropDver e s).lctc = s.lctc ∧
    (dropDver e s).msgq = s.msgq ∧
    (dropDver e s).wcapLevel = s.wcapLevel := by simp [setMnt_frame .., dropDver]

theorem effDecmd_frame (v : Word) (s : State) :
    (effDecmd v s).pending = s.pending ∧
    (effDecmd v s).fs = s.fs ∧
    (effDecmd v s).scene = s.scene ∧
    (effDecmd v s).jtag = s.jtag ∧
    (effDecmd v s).boot = s.boot ∧
    (effDecmd v s).period = s.period ∧
    (effDecmd v s).pwr = s.pwr ∧
    (effDecmd v s).scan = s.scan ∧
    (effDecmd v s).lct = s.lct ∧
    (effDecmd v s).tb = s.tb ∧
    (effDecmd v s).tiles = s.tiles ∧
    (effDecmd v s).comp = s.comp ∧
    (effDecmd v s).thm = s.thm ∧
    (effDecmd v s).gl = s.gl ∧
    (effDecmd v s).link = s.link ∧
    (effDecmd v s).ozd = s.ozd ∧
    (effDecmd v s).lctc = s.lctc ∧
    (effDecmd v s).wcapLevel = s.wcapLevel := by simp only [effDecmd]; (repeat' split) <;> simp [dropDver_frame .., leaveService_frame .., mntPush_frame .., setDeRole_frame ..]

end Sys2Proof.Machine
end

