-- ==== Sys2Proof/Laws/FrameMirror.lean ====
section
/-!
SUPPORT. What each operation of Mirror.lean leaves unchanged.
-/
set_option linter.unusedSimpArgs false
namespace Sys2Proof.Machine

theorem queueShown_frame (frame : Word) (s : State) :
    (queueShown frame s).pending = s.pending ∧
    (queueShown frame s).fs = s.fs ∧
    (queueShown frame s).scene = s.scene ∧
    (queueShown frame s).jtag = s.jtag ∧
    (queueShown frame s).boot = s.boot ∧
    (queueShown frame s).period = s.period ∧
    (queueShown frame s).pwr = s.pwr ∧
    (queueShown frame s).scan = s.scan ∧
    (queueShown frame s).lct = s.lct ∧
    (queueShown frame s).tb = s.tb ∧
    (queueShown frame s).tiles = s.tiles ∧
    (queueShown frame s).handles = s.handles ∧
    (queueShown frame s).dcx = s.dcx ∧
    (queueShown frame s).mnt = s.mnt ∧
    (queueShown frame s).comp = s.comp ∧
    (queueShown frame s).thm = s.thm ∧
    (queueShown frame s).gl = s.gl ∧
    (queueShown frame s).link = s.link ∧
    (queueShown frame s).ozd = s.ozd ∧
    (queueShown frame s).lctc = s.lctc ∧
    (queueShown frame s).msgq = s.msgq ∧
    (queueShown frame s).wcapLevel = s.wcapLevel := by simp [queueShown]

theorem neverShown_frame (frame : Word) (s : State) :
    (neverShown frame s).pending = s.pending ∧
    (neverShown frame s).fs = s.fs ∧
    (neverShown frame s).scene = s.scene ∧
    (neverShown frame s).jtag = s.jtag ∧
    (neverShown frame s).boot = s.boot ∧
    (neverShown frame s).period = s.period ∧
    (neverShown frame s).pwr = s.pwr ∧
    (neverShown frame s).scan = s.scan ∧
    (neverShown frame s).lct = s.lct ∧
    (neverShown frame s).tb = s.tb ∧
    (neverShown frame s).tiles = s.tiles ∧
    (neverShown frame s).handles = s.handles ∧
    (neverShown frame s).dcx = s.dcx ∧
    (neverShown frame s).mnt = s.mnt ∧
    (neverShown frame s).comp = s.comp ∧
    (neverShown frame s).thm = s.thm ∧
    (neverShown frame s).gl = s.gl ∧
    (neverShown frame s).link = s.link ∧
    (neverShown frame s).ozd = s.ozd ∧
    (neverShown frame s).lctc = s.lctc ∧
    (neverShown frame s).msgq = s.msgq ∧
    (neverShown frame s).wcapLevel = s.wcapLevel := by simp [neverShown]

theorem toShow_frame (frame : Word) (s : State) :
    (toShow frame s).pending = s.pending ∧
    (toShow frame s).fs = s.fs ∧
    (toShow frame s).scene = s.scene ∧
    (toShow frame s).jtag = s.jtag ∧
    (toShow frame s).boot = s.boot ∧
    (toShow frame s).pwr = s.pwr ∧
    (toShow frame s).scan = s.scan ∧
    (toShow frame s).lct = s.lct ∧
    (toShow frame s).tb = s.tb ∧
    (toShow frame s).tiles = s.tiles ∧
    (toShow frame s).handles = s.handles ∧
    (toShow frame s).dcx = s.dcx ∧
    (toShow frame s).mnt = s.mnt ∧
    (toShow frame s).comp = s.comp ∧
    (toShow frame s).thm = s.thm ∧
    (toShow frame s).gl = s.gl ∧
    (toShow frame s).link = s.link ∧
    (toShow frame s).ozd = s.ozd ∧
    (toShow frame s).lctc = s.lctc ∧
    (toShow frame s).msgq = s.msgq ∧
    (toShow frame s).wcapLevel = s.wcapLevel := by simp only [toShow]; (repeat' split) <;> simp [neverShown_frame ..]

theorem markShown_frame (s : State) :
    (markShown s).pending = s.pending ∧
    (markShown s).fs = s.fs ∧
    (markShown s).scene = s.scene ∧
    (markShown s).jtag = s.jtag ∧
    (markShown s).boot = s.boot ∧
    (markShown s).pwr = s.pwr ∧
    (markShown s).scan = s.scan ∧
    (markShown s).lct = s.lct ∧
    (markShown s).tb = s.tb ∧
    (markShown s).tiles = s.tiles ∧
    (markShown s).handles = s.handles ∧
    (markShown s).dcx = s.dcx ∧
    (markShown s).mnt = s.mnt ∧
    (markShown s).comp = s.comp ∧
    (markShown s).thm = s.thm ∧
    (markShown s).gl = s.gl ∧
    (markShown s).link = s.link ∧
    (markShown s).ozd = s.ozd ∧
    (markShown s).lctc = s.lctc ∧
    (markShown s).msgq = s.msgq ∧
    (markShown s).wcapLevel = s.wcapLevel := by simp only [markShown]; (repeat' split) <;> simp [queueShown_frame .., toShow_frame ..]

theorem sendVc1_frame (s : State) :
    (sendVc1 s).pending = s.pending ∧
    (sendVc1 s).fs = s.fs ∧
    (sendVc1 s).scene = s.scene ∧
    (sendVc1 s).jtag = s.jtag ∧
    (sendVc1 s).boot = s.boot ∧
    (sendVc1 s).period = s.period ∧
    (sendVc1 s).pwr = s.pwr ∧
    (sendVc1 s).scan = s.scan ∧
    (sendVc1 s).lct = s.lct ∧
    (sendVc1 s).tb = s.tb ∧
    (sendVc1 s).tiles = s.tiles ∧
    (sendVc1 s).handles = s.handles ∧
    (sendVc1 s).dcx = s.dcx ∧
    (sendVc1 s).mnt = s.mnt ∧
    (sendVc1 s).comp = s.comp ∧
    (sendVc1 s).thm = s.thm ∧
    (sendVc1 s).gl = s.gl ∧
    (sendVc1 s).ozd = s.ozd ∧
    (sendVc1 s).lctc = s.lctc ∧
    (sendVc1 s).msgq = s.msgq ∧
    (sendVc1 s).wcapLevel = s.wcapLevel := by simp only [sendVc1]; (repeat' split) <;> simp [sendNext_frame ..]

theorem sendVc2_frame (n m : Nat) (s : State) :
    (sendVc2 n m s).pending = s.pending ∧
    (sendVc2 n m s).fs = s.fs ∧
    (sendVc2 n m s).scene = s.scene ∧
    (sendVc2 n m s).jtag = s.jtag ∧
    (sendVc2 n m s).boot = s.boot ∧
    (sendVc2 n m s).period = s.period ∧
    (sendVc2 n m s).pwr = s.pwr ∧
    (sendVc2 n m s).scan = s.scan ∧
    (sendVc2 n m s).lct = s.lct ∧
    (sendVc2 n m s).tb = s.tb ∧
    (sendVc2 n m s).tiles = s.tiles ∧
    (sendVc2 n m s).handles = s.handles ∧
    (sendVc2 n m s).dcx = s.dcx ∧
    (sendVc2 n m s).mnt = s.mnt ∧
    (sendVc2 n m s).comp = s.comp ∧
    (sendVc2 n m s).thm = s.thm ∧
    (sendVc2 n m s).gl = s.gl ∧
    (sendVc2 n m s).ozd = s.ozd ∧
    (sendVc2 n m s).lctc = s.lctc ∧
    (sendVc2 n m s).msgq = s.msgq ∧
    (sendVc2 n m s).wcapLevel = s.wcapLevel := by
  induction n generalizing s with
  | zero => simp [sendNext_frame .., sendVc2]
  | succ n ih => unfold sendVc2; dsimp only; (repeat' split) <;> simp [sendNext_frame .., sendVc1_frame .., ih]

theorem setMir_frame (f : MirFrame) (s : State) :
    (setMir f s).pending = s.pending ∧
    (setMir f s).fs = s.fs ∧
    (setMir f s).scene = s.scene ∧
    (setMir f s).jtag = s.jtag ∧
    (setMir f s).boot = s.boot ∧
    (setMir f s).period = s.period ∧
    (setMir f s).pwr = s.pwr ∧
    (setMir f s).scan = s.scan ∧
    (setMir f s).lct = s.lct ∧
    (setMir f s).tb = s.tb ∧
    (setMir f s).tiles = s.tiles ∧
    (setMir f s).handles = s.handles ∧
    (setMir f s).dcx = s.dcx ∧
    (setMir f s).mnt = s.mnt ∧
    (setMir f s).comp = s.comp ∧
    (setMir f s).thm = s.thm ∧
    (setMir f s).gl = s.gl ∧
    (setMir f s).link = s.link ∧
    (setMir f s).ozd = s.ozd ∧
    (setMir f s).lctc = s.lctc ∧
    (setMir f s).msgq = s.msgq ∧
    (setMir f s).wcapLevel = s.wcapLevel := by simp [setMir]

theorem mirSent_frame (f : MirFrame) (s : State) :
    (mirSent f s).pending = s.pending ∧
    (mirSent f s).fs = s.fs ∧
    (mirSent f s).scene = s.scene ∧
    (mirSent f s).jtag = s.jtag ∧
    (mirSent f s).boot = s.boot ∧
    (mirSent f s).period = s.period ∧
    (mirSent f s).pwr = s.pwr ∧
    (mirSent f s).scan = s.scan ∧
    (mirSent f s).lct = s.lct ∧
    (mirSent f s).tb = s.tb ∧
    (mirSent f s).tiles = s.tiles ∧
    (mirSent f s).handles = s.handles ∧
    (mirSent f s).dcx = s.dcx ∧
    (mirSent f s).mnt = s.mnt ∧
    (mirSent f s).comp = s.comp ∧
    (mirSent f s).thm = s.thm ∧
    (mirSent f s).gl = s.gl ∧
    (mirSent f s).link = s.link ∧
    (mirSent f s).ozd = s.ozd ∧
    (mirSent f s).lctc = s.lctc ∧
    (mirSent f s).msgq = s.msgq ∧
    (mirSent f s).wcapLevel = s.wcapLevel := by simp [bumpWrap_frame .., setMir_frame .., mirSent]

theorem lineRead_frame (f : MirFrame) (s : State) :
    (lineRead f s).pending = s.pending ∧
    (lineRead f s).fs = s.fs ∧
    (lineRead f s).scene = s.scene ∧
    (lineRead f s).jtag = s.jtag ∧
    (lineRead f s).boot = s.boot ∧
    (lineRead f s).period = s.period ∧
    (lineRead f s).pwr = s.pwr ∧
    (lineRead f s).scan = s.scan ∧
    (lineRead f s).lct = s.lct ∧
    (lineRead f s).tb = s.tb ∧
    (lineRead f s).tiles = s.tiles ∧
    (lineRead f s).handles = s.handles ∧
    (lineRead f s).dcx = s.dcx ∧
    (lineRead f s).comp = s.comp ∧
    (lineRead f s).thm = s.thm ∧
    (lineRead f s).gl = s.gl ∧
    (lineRead f s).link = s.link ∧
    (lineRead f s).ozd = s.ozd ∧
    (lineRead f s).lctc = s.lctc ∧
    (lineRead f s).wcapLevel = s.wcapLevel := by simp [memRead_frame .., lineRead]

theorem mirPush_frame (f : MirFrame) (s : State) :
    (mirPush f s).pending = s.pending ∧
    (mirPush f s).fs = s.fs ∧
    (mirPush f s).scene = s.scene ∧
    (mirPush f s).jtag = s.jtag ∧
    (mirPush f s).boot = s.boot ∧
    (mirPush f s).period = s.period ∧
    (mirPush f s).pwr = s.pwr ∧
    (mirPush f s).scan = s.scan ∧
    (mirPush f s).lct = s.lct ∧
    (mirPush f s).tb = s.tb ∧
    (mirPush f s).tiles = s.tiles ∧
    (mirPush f s).handles = s.handles ∧
    (mirPush f s).dcx = s.dcx ∧
    (mirPush f s).comp = s.comp ∧
    (mirPush f s).thm = s.thm ∧
    (mirPush f s).gl = s.gl ∧
    (mirPush f s).ozd = s.ozd ∧
    (mirPush f s).lctc = s.lctc ∧
    (mirPush f s).wcapLevel = s.wcapLevel := by simp [lineRead_frame .., pushOut_frame .., putMsgq_frame .., setMir_frame .., mirPush]

theorem sendMir_frame (f : MirFrame) (s : State) :
    (sendMir f s).pending = s.pending ∧
    (sendMir f s).fs = s.fs ∧
    (sendMir f s).scene = s.scene ∧
    (sendMir f s).jtag = s.jtag ∧
    (sendMir f s).boot = s.boot ∧
    (sendMir f s).period = s.period ∧
    (sendMir f s).pwr = s.pwr ∧
    (sendMir f s).scan = s.scan ∧
    (sendMir f s).lct = s.lct ∧
    (sendMir f s).tb = s.tb ∧
    (sendMir f s).tiles = s.tiles ∧
    (sendMir f s).handles = s.handles ∧
    (sendMir f s).dcx = s.dcx ∧
    (sendMir f s).comp = s.comp ∧
    (sendMir f s).thm = s.thm ∧
    (sendMir f s).gl = s.gl ∧
    (sendMir f s).ozd = s.ozd ∧
    (sendMir f s).lctc = s.lctc ∧
    (sendMir f s).wcapLevel = s.wcapLevel := by simp [mirPush_frame .., mirSent_frame .., sendVc2_frame .., sendMir]

end Sys2Proof.Machine
end

