-- ==== Sys2Proof/Laws/FrameTime.lean ====
section
/-!
SUPPORT. What each operation of Time.lean leaves unchanged.
-/
set_option linter.unnecessarySeqFocus false
set_option linter.unusedSimpArgs false
set_option linter.unusedTactic false
namespace Sys2Proof.Machine

theorem chooseMaster_frame (x : Nat) (s : State) :
    (chooseMaster x s).pending = s.pending ∧
    (chooseMaster x s).fs = s.fs ∧
    (chooseMaster x s).scene = s.scene ∧
    (chooseMaster x s).jtag = s.jtag ∧
    (chooseMaster x s).boot = s.boot ∧
    (chooseMaster x s).period = s.period ∧
    (chooseMaster x s).pwr = s.pwr ∧
    (chooseMaster x s).scan = s.scan ∧
    (chooseMaster x s).lct = s.lct ∧
    (chooseMaster x s).tb = s.tb ∧
    (chooseMaster x s).tiles = s.tiles ∧
    (chooseMaster x s).handles = s.handles ∧
    (chooseMaster x s).dcx = s.dcx ∧
    (chooseMaster x s).mnt = s.mnt ∧
    (chooseMaster x s).comp = s.comp ∧
    (chooseMaster x s).thm = s.thm ∧
    (chooseMaster x s).gl = s.gl ∧
    (chooseMaster x s).link = s.link ∧
    (chooseMaster x s).ozd = s.ozd ∧
    (chooseMaster x s).lctc = s.lctc ∧
    (chooseMaster x s).msgq = s.msgq ∧
    (chooseMaster x s).wcapLevel = s.wcapLevel := by simp only [chooseMaster]; (repeat' split) <;> simp [putTrk_frame ..]

theorem startTracker_frame (x : Nat) (s : State) :
    (startTracker x s).pending = s.pending ∧
    (startTracker x s).fs = s.fs ∧
    (startTracker x s).scene = s.scene ∧
    (startTracker x s).jtag = s.jtag ∧
    (startTracker x s).boot = s.boot ∧
    (startTracker x s).period = s.period ∧
    (startTracker x s).pwr = s.pwr ∧
    (startTracker x s).scan = s.scan ∧
    (startTracker x s).lct = s.lct ∧
    (startTracker x s).tb = s.tb ∧
    (startTracker x s).tiles = s.tiles ∧
    (startTracker x s).handles = s.handles ∧
    (startTracker x s).dcx = s.dcx ∧
    (startTracker x s).mnt = s.mnt ∧
    (startTracker x s).comp = s.comp ∧
    (startTracker x s).thm = s.thm ∧
    (startTracker x s).gl = s.gl ∧
    (startTracker x s).link = s.link ∧
    (startTracker x s).ozd = s.ozd ∧
    (startTracker x s).lctc = s.lctc ∧
    (startTracker x s).msgq = s.msgq ∧
    (startTracker x s).wcapLevel = s.wcapLevel := by simp [chooseMaster_frame .., putTrk_frame .., startTracker]

theorem assignShadows_frame (s : State) :
    (assignShadows s).pending = s.pending ∧
    (assignShadows s).fs = s.fs ∧
    (assignShadows s).scene = s.scene ∧
    (assignShadows s).jtag = s.jtag ∧
    (assignShadows s).boot = s.boot ∧
    (assignShadows s).period = s.period ∧
    (assignShadows s).pwr = s.pwr ∧
    (assignShadows s).scan = s.scan ∧
    (assignShadows s).lct = s.lct ∧
    (assignShadows s).tiles = s.tiles ∧
    (assignShadows s).handles = s.handles ∧
    (assignShadows s).dcx = s.dcx ∧
    (assignShadows s).mnt = s.mnt ∧
    (assignShadows s).comp = s.comp ∧
    (assignShadows s).thm = s.thm ∧
    (assignShadows s).gl = s.gl ∧
    (assignShadows s).link = s.link ∧
    (assignShadows s).ozd = s.ozd ∧
    (assignShadows s).lctc = s.lctc ∧
    (assignShadows s).msgq = s.msgq ∧
    (assignShadows s).wcapLevel = s.wcapLevel := by
  unfold assignShadows
  exact foldl_inv (fun q => q.pending = s.pending ∧ q.fs = s.fs ∧ q.scene = s.scene ∧ q.jtag = s.jtag ∧ q.boot = s.boot ∧ q.period = s.period ∧ q.pwr = s.pwr ∧ q.scan = s.scan ∧ q.lct = s.lct ∧ q.tiles = s.tiles ∧ q.handles = s.handles ∧ q.dcx = s.dcx ∧ q.mnt = s.mnt ∧ q.comp = s.comp ∧ q.thm = s.thm ∧ q.gl = s.gl ∧ q.link = s.link ∧ q.ozd = s.ozd ∧ q.lctc = s.lctc ∧ q.msgq = s.msgq ∧ q.wcapLevel = s.wcapLevel) _
    (by intro q x h; dsimp only; (repeat' split) <;> simp_all [putTb_frame .., startTracker_frame ..]) _ _ (by simp [putTb_frame .., startTracker_frame ..])

theorem setTbState_frame (k : Nat) (x : TbState) (s : State) :
    (setTbState k x s).pending = s.pending ∧
    (setTbState k x s).fs = s.fs ∧
    (setTbState k x s).scene = s.scene ∧
    (setTbState k x s).jtag = s.jtag ∧
    (setTbState k x s).boot = s.boot ∧
    (setTbState k x s).period = s.period ∧
    (setTbState k x s).pwr = s.pwr ∧
    (setTbState k x s).scan = s.scan ∧
    (setTbState k x s).lct = s.lct ∧
    (setTbState k x s).tiles = s.tiles ∧
    (setTbState k x s).handles = s.handles ∧
    (setTbState k x s).dcx = s.dcx ∧
    (setTbState k x s).mnt = s.mnt ∧
    (setTbState k x s).comp = s.comp ∧
    (setTbState k x s).thm = s.thm ∧
    (setTbState k x s).gl = s.gl ∧
    (setTbState k x s).link = s.link ∧
    (setTbState k x s).ozd = s.ozd ∧
    (setTbState k x s).lctc = s.lctc ∧
    (setTbState k x s).wcapLevel = s.wcapLevel := by simp [putTb_frame .., raise_frame .., setTbState]

theorem toHoldover_frame (k : Nat) (s : State) :
    (toHoldover k s).pending = s.pending ∧
    (toHoldover k s).fs = s.fs ∧
    (toHoldover k s).scene = s.scene ∧
    (toHoldover k s).jtag = s.jtag ∧
    (toHoldover k s).boot = s.boot ∧
    (toHoldover k s).period = s.period ∧
    (toHoldover k s).pwr = s.pwr ∧
    (toHoldover k s).scan = s.scan ∧
    (toHoldover k s).lct = s.lct ∧
    (toHoldover k s).tiles = s.tiles ∧
    (toHoldover k s).handles = s.handles ∧
    (toHoldover k s).dcx = s.dcx ∧
    (toHoldover k s).mnt = s.mnt ∧
    (toHoldover k s).comp = s.comp ∧
    (toHoldover k s).thm = s.thm ∧
    (toHoldover k s).gl = s.gl ∧
    (toHoldover k s).link = s.link ∧
    (toHoldover k s).ozd = s.ozd ∧
    (toHoldover k s).lctc = s.lctc ∧
    (toHoldover k s).wcapLevel = s.wcapLevel := by simp [putTb_frame .., setTbState_frame .., toHoldover]

theorem toFree_frame (k : Nat) (s : State) :
    (toFree k s).pending = s.pending ∧
    (toFree k s).fs = s.fs ∧
    (toFree k s).scene = s.scene ∧
    (toFree k s).jtag = s.jtag ∧
    (toFree k s).boot = s.boot ∧
    (toFree k s).period = s.period ∧
    (toFree k s).pwr = s.pwr ∧
    (toFree k s).scan = s.scan ∧
    (toFree k s).lct = s.lct ∧
    (toFree k s).tiles = s.tiles ∧
    (toFree k s).handles = s.handles ∧
    (toFree k s).dcx = s.dcx ∧
    (toFree k s).mnt = s.mnt ∧
    (toFree k s).comp = s.comp ∧
    (toFree k s).thm = s.thm ∧
    (toFree k s).gl = s.gl ∧
    (toFree k s).link = s.link ∧
    (toFree k s).ozd = s.ozd ∧
    (toFree k s).lctc = s.lctc ∧
    (toFree k s).wcapLevel = s.wcapLevel := by simp [putTb_frame .., setTbState_frame .., toFree]

theorem changePrimary_frame (k : Nat) (s : State) :
    (changePrimary k s).pending = s.pending ∧
    (changePrimary k s).fs = s.fs ∧
    (changePrimary k s).scene = s.scene ∧
    (changePrimary k s).jtag = s.jtag ∧
    (changePrimary k s).boot = s.boot ∧
    (changePrimary k s).period = s.period ∧
    (changePrimary k s).pwr = s.pwr ∧
    (changePrimary k s).scan = s.scan ∧
    (changePrimary k s).lct = s.lct ∧
    (changePrimary k s).tiles = s.tiles ∧
    (changePrimary k s).handles = s.handles ∧
    (changePrimary k s).dcx = s.dcx ∧
    (changePrimary k s).mnt = s.mnt ∧
    (changePrimary k s).comp = s.comp ∧
    (changePrimary k s).thm = s.thm ∧
    (changePrimary k s).gl = s.gl ∧
    (changePrimary k s).link = s.link ∧
    (changePrimary k s).ozd = s.ozd ∧
    (changePrimary k s).lctc = s.lctc ∧
    (changePrimary k s).wcapLevel = s.wcapLevel := by simp only [changePrimary]; (repeat' split) <;> simp [putTb_frame .., startTracker_frame .., toFree_frame .., toHoldover_frame ..]

theorem stepTb_frame (k cause : Nat) (v : Nat) (d : Int) (s : State) :
    (stepTb k cause v d s).pending = s.pending ∧
    (stepTb k cause v d s).fs = s.fs ∧
    (stepTb k cause v d s).scene = s.scene ∧
    (stepTb k cause v d s).jtag = s.jtag ∧
    (stepTb k cause v d s).boot = s.boot ∧
    (stepTb k cause v d s).period = s.period ∧
    (stepTb k cause v d s).pwr = s.pwr ∧
    (stepTb k cause v d s).scan = s.scan ∧
    (stepTb k cause v d s).lct = s.lct ∧
    (stepTb k cause v d s).tiles = s.tiles ∧
    (stepTb k cause v d s).handles = s.handles ∧
    (stepTb k cause v d s).dcx = s.dcx ∧
    (stepTb k cause v d s).mnt = s.mnt ∧
    (stepTb k cause v d s).comp = s.comp ∧
    (stepTb k cause v d s).thm = s.thm ∧
    (stepTb k cause v d s).link = s.link ∧
    (stepTb k cause v d s).ozd = s.ozd ∧
    (stepTb k cause v d s).lctc = s.lctc ∧
    (stepTb k cause v d s).wcapLevel = s.wcapLevel := by simp [glCheck_frame .., putTb_frame .., raise_frame .., setTbState_frame .., stepTb]

theorem noteBig_frame (k : Nat) (o : Int) (s : State) :
    (noteBig k o s).pending = s.pending ∧
    (noteBig k o s).fs = s.fs ∧
    (noteBig k o s).scene = s.scene ∧
    (noteBig k o s).jtag = s.jtag ∧
    (noteBig k o s).boot = s.boot ∧
    (noteBig k o s).period = s.period ∧
    (noteBig k o s).pwr = s.pwr ∧
    (noteBig k o s).scan = s.scan ∧
    (noteBig k o s).lct = s.lct ∧
    (noteBig k o s).tiles = s.tiles ∧
    (noteBig k o s).handles = s.handles ∧
    (noteBig k o s).dcx = s.dcx ∧
    (noteBig k o s).mnt = s.mnt ∧
    (noteBig k o s).comp = s.comp ∧
    (noteBig k o s).thm = s.thm ∧
    (noteBig k o s).gl = s.gl ∧
    (noteBig k o s).link = s.link ∧
    (noteBig k o s).ozd = s.ozd ∧
    (noteBig k o s).lctc = s.lctc ∧
    (noteBig k o s).wcapLevel = s.wcapLevel := by simp [putTb_frame .., raise_frame .., noteBig]

theorem countLock_frame (k : Nat) (o : Int) (s : State) :
    (countLock k o s).pending = s.pending ∧
    (countLock k o s).fs = s.fs ∧
    (countLock k o s).scene = s.scene ∧
    (countLock k o s).jtag = s.jtag ∧
    (countLock k o s).boot = s.boot ∧
    (countLock k o s).period = s.period ∧
    (countLock k o s).pwr = s.pwr ∧
    (countLock k o s).scan = s.scan ∧
    (countLock k o s).lct = s.lct ∧
    (countLock k o s).tiles = s.tiles ∧
    (countLock k o s).handles = s.handles ∧
    (countLock k o s).dcx = s.dcx ∧
    (countLock k o s).mnt = s.mnt ∧
    (countLock k o s).comp = s.comp ∧
    (countLock k o s).thm = s.thm ∧
    (countLock k o s).gl = s.gl ∧
    (countLock k o s).link = s.link ∧
    (countLock k o s).ozd = s.ozd ∧
    (countLock k o s).lctc = s.lctc ∧
    (countLock k o s).wcapLevel = s.wcapLevel := by simp [putTb_frame .., setTbState_frame .., countLock]

theorem setOfs_frame (k : Nat) (o : Int) (s : State) :
    (setOfs k o s).pending = s.pending ∧
    (setOfs k o s).fs = s.fs ∧
    (setOfs k o s).scene = s.scene ∧
    (setOfs k o s).jtag = s.jtag ∧
    (setOfs k o s).boot = s.boot ∧
    (setOfs k o s).period = s.period ∧
    (setOfs k o s).pwr = s.pwr ∧
    (setOfs k o s).scan = s.scan ∧
    (setOfs k o s).lct = s.lct ∧
    (setOfs k o s).tb = s.tb ∧
    (setOfs k o s).tiles = s.tiles ∧
    (setOfs k o s).handles = s.handles ∧
    (setOfs k o s).dcx = s.dcx ∧
    (setOfs k o s).mnt = s.mnt ∧
    (setOfs k o s).comp = s.comp ∧
    (setOfs k o s).thm = s.thm ∧
    (setOfs k o s).gl = s.gl ∧
    (setOfs k o s).link = s.link ∧
    (setOfs k o s).ozd = s.ozd ∧
    (setOfs k o s).lctc = s.lctc ∧
    (setOfs k o s).msgq = s.msgq ∧
    (setOfs k o s).wcapLevel = s.wcapLevel := by simp [setRegN_frame .., setOfs]

theorem servo_frame (k : Nat) (o : Int) (s : State) :
    (servo k o s).pending = s.pending ∧
    (servo k o s).fs = s.fs ∧
    (servo k o s).scene = s.scene ∧
    (servo k o s).jtag = s.jtag ∧
    (servo k o s).boot = s.boot ∧
    (servo k o s).period = s.period ∧
    (servo k o s).pwr = s.pwr ∧
    (servo k o s).scan = s.scan ∧
    (servo k o s).lct = s.lct ∧
    (servo k o s).tiles = s.tiles ∧
    (servo k o s).handles = s.handles ∧
    (servo k o s).dcx = s.dcx ∧
    (servo k o s).mnt = s.mnt ∧
    (servo k o s).comp = s.comp ∧
    (servo k o s).thm = s.thm ∧
    (servo k o s).link = s.link ∧
    (servo k o s).ozd = s.ozd ∧
    (servo k o s).lctc = s.lctc ∧
    (servo k o s).wcapLevel = s.wcapLevel := by simp [countLock_frame .., noteBig_frame .., putTb_frame .., setOfs_frame .., setTbState_frame .., stepTb_frame .., servo]

theorem shadowUpdate_frame (k : Nat) (o : Int) (s : State) :
    (shadowUpdate k o s).pending = s.pending ∧
    (shadowUpdate k o s).fs = s.fs ∧
    (shadowUpdate k o s).scene = s.scene ∧
    (shadowUpdate k o s).jtag = s.jtag ∧
    (shadowUpdate k o s).boot = s.boot ∧
    (shadowUpdate k o s).period = s.period ∧
    (shadowUpdate k o s).pwr = s.pwr ∧
    (shadowUpdate k o s).scan = s.scan ∧
    (shadowUpdate k o s).lct = s.lct ∧
    (shadowUpdate k o s).tiles = s.tiles ∧
    (shadowUpdate k o s).handles = s.handles ∧
    (shadowUpdate k o s).dcx = s.dcx ∧
    (shadowUpdate k o s).mnt = s.mnt ∧
    (shadowUpdate k o s).comp = s.comp ∧
    (shadowUpdate k o s).thm = s.thm ∧
    (shadowUpdate k o s).gl = s.gl ∧
    (shadowUpdate k o s).link = s.link ∧
    (shadowUpdate k o s).ozd = s.ozd ∧
    (shadowUpdate k o s).lctc = s.lctc ∧
    (shadowUpdate k o s).msgq = s.msgq ∧
    (shadowUpdate k o s).wcapLevel = s.wcapLevel := by simp [putTb_frame .., shadowUpdate]

theorem measure_frame (x : Nat) (o : Int) (s : State) :
    (measure x o s).pending = s.pending ∧
    (measure x o s).fs = s.fs ∧
    (measure x o s).scene = s.scene ∧
    (measure x o s).jtag = s.jtag ∧
    (measure x o s).boot = s.boot ∧
    (measure x o s).period = s.period ∧
    (measure x o s).pwr = s.pwr ∧
    (measure x o s).scan = s.scan ∧
    (measure x o s).lct = s.lct ∧
    (measure x o s).tiles = s.tiles ∧
    (measure x o s).handles = s.handles ∧
    (measure x o s).dcx = s.dcx ∧
    (measure x o s).mnt = s.mnt ∧
    (measure x o s).comp = s.comp ∧
    (measure x o s).thm = s.thm ∧
    (measure x o s).link = s.link ∧
    (measure x o s).ozd = s.ozd ∧
    (measure x o s).lctc = s.lctc ∧
    (measure x o s).wcapLevel = s.wcapLevel := by simp only [measure]; (repeat' split) <;> simp [servo_frame .., shadowUpdate_frame ..]

theorem swapRoles_frame (k : Nat) (s : State) :
    (swapRoles k s).pending = s.pending ∧
    (swapRoles k s).fs = s.fs ∧
    (swapRoles k s).scene = s.scene ∧
    (swapRoles k s).jtag = s.jtag ∧
    (swapRoles k s).boot = s.boot ∧
    (swapRoles k s).period = s.period ∧
    (swapRoles k s).pwr = s.pwr ∧
    (swapRoles k s).scan = s.scan ∧
    (swapRoles k s).lct = s.lct ∧
    (swapRoles k s).tiles = s.tiles ∧
    (swapRoles k s).handles = s.handles ∧
    (swapRoles k s).dcx = s.dcx ∧
    (swapRoles k s).mnt = s.mnt ∧
    (swapRoles k s).comp = s.comp ∧
    (swapRoles k s).thm = s.thm ∧
    (swapRoles k s).gl = s.gl ∧
    (swapRoles k s).link = s.link ∧
    (swapRoles k s).ozd = s.ozd ∧
    (swapRoles k s).lctc = s.lctc ∧
    (swapRoles k s).wcapLevel = s.wcapLevel := by simp [putTb_frame .., raise_frame .., swapRoles]

theorem rechoose_frame (x : Nat) (s : State) :
    (rechoose x s).pending = s.pending ∧
    (rechoose x s).fs = s.fs ∧
    (rechoose x s).scene = s.scene ∧
    (rechoose x s).jtag = s.jtag ∧
    (rechoose x s).boot = s.boot ∧
    (rechoose x s).period = s.period ∧
    (rechoose x s).pwr = s.pwr ∧
    (rechoose x s).scan = s.scan ∧
    (rechoose x s).lct = s.lct ∧
    (rechoose x s).tb = s.tb ∧
    (rechoose x s).tiles = s.tiles ∧
    (rechoose x s).handles = s.handles ∧
    (rechoose x s).dcx = s.dcx ∧
    (rechoose x s).mnt = s.mnt ∧
    (rechoose x s).comp = s.comp ∧
    (rechoose x s).thm = s.thm ∧
    (rechoose x s).gl = s.gl ∧
    (rechoose x s).link = s.link ∧
    (rechoose x s).ozd = s.ozd ∧
    (rechoose x s).lctc = s.lctc ∧
    (rechoose x s).msgq = s.msgq ∧
    (rechoose x s).wcapLevel = s.wcapLevel := by simp [chooseMaster_frame .., putTrk_frame .., rechoose]

theorem loseSource_frame (x : Nat) (s : State) :
    (loseSource x s).pending = s.pending ∧
    (loseSource x s).fs = s.fs ∧
    (loseSource x s).scene = s.scene ∧
    (loseSource x s).jtag = s.jtag ∧
    (loseSource x s).boot = s.boot ∧
    (loseSource x s).period = s.period ∧
    (loseSource x s).pwr = s.pwr ∧
    (loseSource x s).scan = s.scan ∧
    (loseSource x s).lct = s.lct ∧
    (loseSource x s).tiles = s.tiles ∧
    (loseSource x s).handles = s.handles ∧
    (loseSource x s).dcx = s.dcx ∧
    (loseSource x s).mnt = s.mnt ∧
    (loseSource x s).comp = s.comp ∧
    (loseSource x s).thm = s.thm ∧
    (loseSource x s).gl = s.gl ∧
    (loseSource x s).link = s.link ∧
    (loseSource x s).ozd = s.ozd ∧
    (loseSource x s).lctc = s.lctc ∧
    (loseSource x s).wcapLevel = s.wcapLevel := by simp only [loseSource]; (repeat' split) <;> simp [putTb_frame .., rechoose_frame .., swapRoles_frame .., toHoldover_frame ..]

theorem setPps_frame (i : Nat) (p : Bool) (s : State) :
    (setPps i p s).pending = s.pending ∧
    (setPps i p s).fs = s.fs ∧
    (setPps i p s).scene = s.scene ∧
    (setPps i p s).jtag = s.jtag ∧
    (setPps i p s).boot = s.boot ∧
    (setPps i p s).period = s.period ∧
    (setPps i p s).pwr = s.pwr ∧
    (setPps i p s).scan = s.scan ∧
    (setPps i p s).lct = s.lct ∧
    (setPps i p s).tb = s.tb ∧
    (setPps i p s).tiles = s.tiles ∧
    (setPps i p s).handles = s.handles ∧
    (setPps i p s).dcx = s.dcx ∧
    (setPps i p s).mnt = s.mnt ∧
    (setPps i p s).comp = s.comp ∧
    (setPps i p s).thm = s.thm ∧
    (setPps i p s).link = s.link ∧
    (setPps i p s).ozd = s.ozd ∧
    (setPps i p s).lctc = s.lctc ∧
    (setPps i p s).wcapLevel = s.wcapLevel := by simp [raise_frame .., setPps]

theorem gotPtp_frame (p : Nat) (s : State) :
    (gotPtp p s).pending = s.pending ∧
    (gotPtp p s).fs = s.fs ∧
    (gotPtp p s).scene = s.scene ∧
    (gotPtp p s).jtag = s.jtag ∧
    (gotPtp p s).boot = s.boot ∧
    (gotPtp p s).period = s.period ∧
    (gotPtp p s).pwr = s.pwr ∧
    (gotPtp p s).scan = s.scan ∧
    (gotPtp p s).lct = s.lct ∧
    (gotPtp p s).tb = s.tb ∧
    (gotPtp p s).tiles = s.tiles ∧
    (gotPtp p s).handles = s.handles ∧
    (gotPtp p s).dcx = s.dcx ∧
    (gotPtp p s).mnt = s.mnt ∧
    (gotPtp p s).comp = s.comp ∧
    (gotPtp p s).thm = s.thm ∧
    (gotPtp p s).gl = s.gl ∧
    (gotPtp p s).link = s.link ∧
    (gotPtp p s).ozd = s.ozd ∧
    (gotPtp p s).lctc = s.lctc ∧
    (gotPtp p s).msgq = s.msgq ∧
    (gotPtp p s).wcapLevel = s.wcapLevel := by simp [bumpWrap_frame .., gotPtp]

@[simp] theorem onPort_pending (p : Nat) (h : PtpHdr) (f : State → State) (s : State) (hf : ∀ x0, (f x0).pending = x0.pending) :
    (onPort p h f s).pending = s.pending := by
  unfold onPort; (repeat' split) <;> simp [bumpSat_frame .., gotPtp_frame .., hf]

@[simp] theorem onPort_fs (p : Nat) (h : PtpHdr) (f : State → State) (s : State) (hf : ∀ x0, (f x0).fs = x0.fs) :
    (onPort p h f s).fs = s.fs := by
  unfold onPort; (repeat' split) <;> simp [bumpSat_frame .., gotPtp_frame .., hf]

@[simp] theorem onPort_scene (p : Nat) (h : PtpHdr) (f : State → State) (s : State) (hf : ∀ x0, (f x0).scene = x0.scene) :
    (onPort p h f s).scene = s.scene := by
  unfold onPort; (repeat' split) <;> simp [bumpSat_frame .., gotPtp_frame .., hf]

@[simp] theorem onPort_jtag (p : Nat) (h : PtpHdr) (f : State → State) (s : State) (hf : ∀ x0, (f x0).jtag = x0.jtag) :
    (onPort p h f s).jtag = s.jtag := by
  unfold onPort; (repeat' split) <;> simp [bumpSat_frame .., gotPtp_frame .., hf]

@[simp] theorem onPort_boot (p : Nat) (h : PtpHdr) (f : State → State) (s : State) (hf : ∀ x0, (f x0).boot = x0.boot) :
    (onPort p h f s).boot = s.boot := by
  unfold onPort; (repeat' split) <;> simp [bumpSat_frame .., gotPtp_frame .., hf]

@[simp] theorem onPort_period (p : Nat) (h : PtpHdr) (f : State → State) (s : State) (hf : ∀ x0, (f x0).period = x0.period) :
    (onPort p h f s).period = s.period := by
  unfold onPort; (repeat' split) <;> simp [bumpSat_frame .., gotPtp_frame .., hf]

@[simp] theorem onPort_pwr (p : Nat) (h : PtpHdr) (f : State → State) (s : State) (hf : ∀ x0, (f x0).pwr = x0.pwr) :
    (onPort p h f s).pwr = s.pwr := by
  unfold onPort; (repeat' split) <;> simp [bumpSat_frame .., gotPtp_frame .., hf]

@[simp] theorem onPort_scan (p : Nat) (h : PtpHdr) (f : State → State) (s : State) (hf : ∀ x0, (f x0).scan = x0.scan) :
    (onPort p h f s).scan = s.scan := by
  unfold onPort; (repeat' split) <;> simp [bumpSat_frame .., gotPtp_frame .., hf]

@[simp] theorem onPort_lct (p : Nat) (h : PtpHdr) (f : State → State) (s : State) (hf : ∀ x0, (f x0).lct = x0.lct) :
    (onPort p h f s).lct = s.lct := by
  unfold onPort; (repeat' split) <;> simp [bumpSat_frame .., gotPtp_frame .., hf]

@[simp] theorem onPort_tb (p : Nat) (h : PtpHdr) (f : State → State) (s : State) (hf : ∀ x0, (f x0).tb = x0.tb) :
    (onPort p h f s).tb = s.tb := by
  unfold onPort; (repeat' split) <;> simp [bumpSat_frame .., gotPtp_frame .., hf]

@[simp] theorem onPort_tiles (p : Nat) (h : PtpHdr) (f : State → State) (s : State) (hf : ∀ x0, (f x0).tiles = x0.tiles) :
    (onPort p h f s).tiles = s.tiles := by
  unfold onPort; (repeat' split) <;> simp [bumpSat_frame .., gotPtp_frame .., hf]

@[simp] theorem onPort_handles (p : Nat) (h : PtpHdr) (f : State → State) (s : State) (hf : ∀ x0, (f x0).handles = x0.handles) :
    (onPort p h f s).handles = s.handles := by
  unfold onPort; (repeat' split) <;> simp [bumpSat_frame .., gotPtp_frame .., hf]

@[simp] theorem onPort_dcx (p : Nat) (h : PtpHdr) (f : State → State) (s : State) (hf : ∀ x0, (f x0).dcx = x0.dcx) :
    (onPort p h f s).dcx = s.dcx := by
  unfold onPort; (repeat' split) <;> simp [bumpSat_frame .., gotPtp_frame .., hf]

@[simp] theorem onPort_mnt (p : Nat) (h : PtpHdr) (f : State → State) (s : State) (hf : ∀ x0, (f x0).mnt = x0.mnt) :
    (onPort p h f s).mnt = s.mnt := by
  unfold onPort; (repeat' split) <;> simp [bumpSat_frame .., gotPtp_frame .., hf]

@[simp] theorem onPort_comp (p : Nat) (h : PtpHdr) (f : State → State) (s : State) (hf : ∀ x0, (f x0).comp = x0.comp) :
    (onPort p h f s).comp = s.comp := by
  unfold onPort; (repeat' split) <;> simp [bumpSat_frame .., gotPtp_frame .., hf]

@[simp] theorem onPort_thm (p : Nat) (h : PtpHdr) (f : State → State) (s : State) (hf : ∀ x0, (f x0).thm = x0.thm) :
    (onPort p h f s).thm = s.thm := by
  unfold onPort; (repeat' split) <;> simp [bumpSat_frame .., gotPtp_frame .., hf]

@[simp] theorem onPort_gl (p : Nat) (h : PtpHdr) (f : State → State) (s : State) (hf : ∀ x0, (f x0).gl = x0.gl) :
    (onPort p h f s).gl = s.gl := by
  unfold onPort; (repeat' split) <;> simp [bumpSat_frame .., gotPtp_frame .., hf]

@[simp] theorem onPort_link (p : Nat) (h : PtpHdr) (f : State → State) (s : State) (hf : ∀ x0, (f x0).link = x0.link) :
    (onPort p h f s).link = s.link := by
  unfold onPort; (repeat' split) <;> simp [bumpSat_frame .., gotPtp_frame .., hf]

@[simp] theorem onPort_ozd (p : Nat) (h : PtpHdr) (f : State → State) (s : State) (hf : ∀ x0, (f x0).ozd = x0.ozd) :
    (onPort p h f s).ozd = s.ozd := by
  unfold onPort; (repeat' split) <;> simp [bumpSat_frame .., gotPtp_frame .., hf]

@[simp] theorem onPort_lctc (p : Nat) (h : PtpHdr) (f : State → State) (s : State) (hf : ∀ x0, (f x0).lctc = x0.lctc) :
    (onPort p h f s).lctc = s.lctc := by
  unfold onPort; (repeat' split) <;> simp [bumpSat_frame .., gotPtp_frame .., hf]

@[simp] theorem onPort_msgq (p : Nat) (h : PtpHdr) (f : State → State) (s : State) (hf : ∀ x0, (f x0).msgq = x0.msgq) :
    (onPort p h f s).msgq = s.msgq := by
  unfold onPort; (repeat' split) <;> simp [bumpSat_frame .., gotPtp_frame .., hf]

@[simp] theorem onPort_wcapLevel (p : Nat) (h : PtpHdr) (f : State → State) (s : State) (hf : ∀ x0, (f x0).wcapLevel = x0.wcapLevel) :
    (onPort p h f s).wcapLevel = s.wcapLevel := by
  unfold onPort; (repeat' split) <;> simp [bumpSat_frame .., gotPtp_frame .., hf]

theorem setLdly_frame (p : Nat) (d : Int) (s : State) :
    (setLdly p d s).pending = s.pending ∧
    (setLdly p d s).fs = s.fs ∧
    (setLdly p d s).scene = s.scene ∧
    (setLdly p d s).jtag = s.jtag ∧
    (setLdly p d s).boot = s.boot ∧
    (setLdly p d s).period = s.period ∧
    (setLdly p d s).pwr = s.pwr ∧
    (setLdly p d s).scan = s.scan ∧
    (setLdly p d s).lct = s.lct ∧
    (setLdly p d s).tb = s.tb ∧
    (setLdly p d s).tiles = s.tiles ∧
    (setLdly p d s).handles = s.handles ∧
    (setLdly p d s).dcx = s.dcx ∧
    (setLdly p d s).mnt = s.mnt ∧
    (setLdly p d s).comp = s.comp ∧
    (setLdly p d s).thm = s.thm ∧
    (setLdly p d s).gl = s.gl ∧
    (setLdly p d s).link = s.link ∧
    (setLdly p d s).ozd = s.ozd ∧
    (setLdly p d s).lctc = s.lctc ∧
    (setLdly p d s).msgq = s.msgq ∧
    (setLdly p d s).wcapLevel = s.wcapLevel := by simp [setRegN_frame .., setLdly]

theorem syncDone_frame (x p : Nat) (t1 t2 : Int) (s : State) :
    (syncDone x p t1 t2 s).pending = s.pending ∧
    (syncDone x p t1 t2 s).fs = s.fs ∧
    (syncDone x p t1 t2 s).scene = s.scene ∧
    (syncDone x p t1 t2 s).jtag = s.jtag ∧
    (syncDone x p t1 t2 s).boot = s.boot ∧
    (syncDone x p t1 t2 s).period = s.period ∧
    (syncDone x p t1 t2 s).pwr = s.pwr ∧
    (syncDone x p t1 t2 s).scan = s.scan ∧
    (syncDone x p t1 t2 s).lct = s.lct ∧
    (syncDone x p t1 t2 s).tiles = s.tiles ∧
    (syncDone x p t1 t2 s).handles = s.handles ∧
    (syncDone x p t1 t2 s).dcx = s.dcx ∧
    (syncDone x p t1 t2 s).mnt = s.mnt ∧
    (syncDone x p t1 t2 s).comp = s.comp ∧
    (syncDone x p t1 t2 s).thm = s.thm ∧
    (syncDone x p t1 t2 s).link = s.link ∧
    (syncDone x p t1 t2 s).ozd = s.ozd ∧
    (syncDone x p t1 t2 s).lctc = s.lctc ∧
    (syncDone x p t1 t2 s).wcapLevel = s.wcapLevel := by simp only [syncDone]; (repeat' split) <;> simp [measure_frame .., putTrk_frame ..]

theorem syncTrk_frame (x p : Nat) (h : PtpHdr) (origin : Int) (twoStep : Bool) (s : State) :
    (syncTrk x p h origin twoStep s).pending = s.pending ∧
    (syncTrk x p h origin twoStep s).fs = s.fs ∧
    (syncTrk x p h origin twoStep s).scene = s.scene ∧
    (syncTrk x p h origin twoStep s).jtag = s.jtag ∧
    (syncTrk x p h origin twoStep s).boot = s.boot ∧
    (syncTrk x p h origin twoStep s).period = s.period ∧
    (syncTrk x p h origin twoStep s).pwr = s.pwr ∧
    (syncTrk x p h origin twoStep s).scan = s.scan ∧
    (syncTrk x p h origin twoStep s).lct = s.lct ∧
    (syncTrk x p h origin twoStep s).tiles = s.tiles ∧
    (syncTrk x p h origin twoStep s).handles = s.handles ∧
    (syncTrk x p h origin twoStep s).dcx = s.dcx ∧
    (syncTrk x p h origin twoStep s).mnt = s.mnt ∧
    (syncTrk x p h origin twoStep s).comp = s.comp ∧
    (syncTrk x p h origin twoStep s).thm = s.thm ∧
    (syncTrk x p h origin twoStep s).link = s.link ∧
    (syncTrk x p h origin twoStep s).ozd = s.ozd ∧
    (syncTrk x p h origin twoStep s).lctc = s.lctc ∧
    (syncTrk x p h origin twoStep s).wcapLevel = s.wcapLevel := by simp only [syncTrk]; (repeat' split) <;> simp [putTrk_frame .., syncDone_frame ..]

theorem followTrk_frame (x p : Nat) (h : PtpHdr) (origin : Int) (s : State) :
    (followTrk x p h origin s).pending = s.pending ∧
    (followTrk x p h origin s).fs = s.fs ∧
    (followTrk x p h origin s).scene = s.scene ∧
    (followTrk x p h origin s).jtag = s.jtag ∧
    (followTrk x p h origin s).boot = s.boot ∧
    (followTrk x p h origin s).period = s.period ∧
    (followTrk x p h origin s).pwr = s.pwr ∧
    (followTrk x p h origin s).scan = s.scan ∧
    (followTrk x p h origin s).lct = s.lct ∧
    (followTrk x p h origin s).tiles = s.tiles ∧
    (followTrk x p h origin s).handles = s.handles ∧
    (followTrk x p h origin s).dcx = s.dcx ∧
    (followTrk x p h origin s).mnt = s.mnt ∧
    (followTrk x p h origin s).comp = s.comp ∧
    (followTrk x p h origin s).thm = s.thm ∧
    (followTrk x p h origin s).link = s.link ∧
    (followTrk x p h origin s).ozd = s.ozd ∧
    (followTrk x p h origin s).lctc = s.lctc ∧
    (followTrk x p h origin s).wcapLevel = s.wcapLevel := by simp only [followTrk]; (repeat' split) <;> simp [syncDone_frame ..]

theorem delayTrk_frame (x p : Nat) (h : PtpHdr) (receipt : Int) (s : State) :
    (delayTrk x p h receipt s).pending = s.pending ∧
    (delayTrk x p h receipt s).fs = s.fs ∧
    (delayTrk x p h receipt s).scene = s.scene ∧
    (delayTrk x p h receipt s).jtag = s.jtag ∧
    (delayTrk x p h receipt s).boot = s.boot ∧
    (delayTrk x p h receipt s).period = s.period ∧
    (delayTrk x p h receipt s).pwr = s.pwr ∧
    (delayTrk x p h receipt s).scan = s.scan ∧
    (delayTrk x p h receipt s).lct = s.lct ∧
    (delayTrk x p h receipt s).tb = s.tb ∧
    (delayTrk x p h receipt s).tiles = s.tiles ∧
    (delayTrk x p h receipt s).handles = s.handles ∧
    (delayTrk x p h receipt s).dcx = s.dcx ∧
    (delayTrk x p h receipt s).mnt = s.mnt ∧
    (delayTrk x p h receipt s).comp = s.comp ∧
    (delayTrk x p h receipt s).thm = s.thm ∧
    (delayTrk x p h receipt s).gl = s.gl ∧
    (delayTrk x p h receipt s).link = s.link ∧
    (delayTrk x p h receipt s).ozd = s.ozd ∧
    (delayTrk x p h receipt s).lctc = s.lctc ∧
    (delayTrk x p h receipt s).msgq = s.msgq ∧
    (delayTrk x p h receipt s).wcapLevel = s.wcapLevel := by simp only [delayTrk]; (repeat' split) <;> simp [putTrk_frame .., setLdly_frame ..]

@[simp] theorem eachTracker_pending (f : Nat → State → State) (s : State) (hf : ∀ x0 x1, (f x0 x1).pending = x1.pending) :
    (eachTracker f s).pending = s.pending := by
  unfold eachTracker; (repeat' split) <;> simp [hf]

@[simp] theorem eachTracker_fs (f : Nat → State → State) (s : State) (hf : ∀ x0 x1, (f x0 x1).fs = x1.fs) :
    (eachTracker f s).fs = s.fs := by
  unfold eachTracker; (repeat' split) <;> simp [hf]

@[simp] theorem eachTracker_scene (f : Nat → State → State) (s : State) (hf : ∀ x0 x1, (f x0 x1).scene = x1.scene) :
    (eachTracker f s).scene = s.scene := by
  unfold eachTracker; (repeat' split) <;> simp [hf]

@[simp] theorem eachTracker_jtag (f : Nat → State → State) (s : State) (hf : ∀ x0 x1, (f x0 x1).jtag = x1.jtag) :
    (eachTracker f s).jtag = s.jtag := by
  unfold eachTracker; (repeat' split) <;> simp [hf]

@[simp] theorem eachTracker_boot (f : Nat → State → State) (s : State) (hf : ∀ x0 x1, (f x0 x1).boot = x1.boot) :
    (eachTracker f s).boot = s.boot := by
  unfold eachTracker; (repeat' split) <;> simp [hf]

@[simp] theorem eachTracker_period (f : Nat → State → State) (s : State) (hf : ∀ x0 x1, (f x0 x1).period = x1.period) :
    (eachTracker f s).period = s.period := by
  unfold eachTracker; (repeat' split) <;> simp [hf]

@[simp] theorem eachTracker_pwr (f : Nat → State → State) (s : State) (hf : ∀ x0 x1, (f x0 x1).pwr = x1.pwr) :
    (eachTracker f s).pwr = s.pwr := by
  unfold eachTracker; (repeat' split) <;> simp [hf]

@[simp] theorem eachTracker_scan (f : Nat → State → State) (s : State) (hf : ∀ x0 x1, (f x0 x1).scan = x1.scan) :
    (eachTracker f s).scan = s.scan := by
  unfold eachTracker; (repeat' split) <;> simp [hf]

@[simp] theorem eachTracker_lct (f : Nat → State → State) (s : State) (hf : ∀ x0 x1, (f x0 x1).lct = x1.lct) :
    (eachTracker f s).lct = s.lct := by
  unfold eachTracker; (repeat' split) <;> simp [hf]

@[simp] theorem eachTracker_tb (f : Nat → State → State) (s : State) (hf : ∀ x0 x1, (f x0 x1).tb = x1.tb) :
    (eachTracker f s).tb = s.tb := by
  unfold eachTracker; (repeat' split) <;> simp [hf]

@[simp] theorem eachTracker_tiles (f : Nat → State → State) (s : State) (hf : ∀ x0 x1, (f x0 x1).tiles = x1.tiles) :
    (eachTracker f s).tiles = s.tiles := by
  unfold eachTracker; (repeat' split) <;> simp [hf]

@[simp] theorem eachTracker_handles (f : Nat → State → State) (s : State) (hf : ∀ x0 x1, (f x0 x1).handles = x1.handles) :
    (eachTracker f s).handles = s.handles := by
  unfold eachTracker; (repeat' split) <;> simp [hf]

@[simp] theorem eachTracker_dcx (f : Nat → State → State) (s : State) (hf : ∀ x0 x1, (f x0 x1).dcx = x1.dcx) :
    (eachTracker f s).dcx = s.dcx := by
  unfold eachTracker; (repeat' split) <;> simp [hf]

@[simp] theorem eachTracker_mnt (f : Nat → State → State) (s : State) (hf : ∀ x0 x1, (f x0 x1).mnt = x1.mnt) :
    (eachTracker f s).mnt = s.mnt := by
  unfold eachTracker; (repeat' split) <;> simp [hf]

@[simp] theorem eachTracker_comp (f : Nat → State → State) (s : State) (hf : ∀ x0 x1, (f x0 x1).comp = x1.comp) :
    (eachTracker f s).comp = s.comp := by
  unfold eachTracker; (repeat' split) <;> simp [hf]

@[simp] theorem eachTracker_thm (f : Nat → State → State) (s : State) (hf : ∀ x0 x1, (f x0 x1).thm = x1.thm) :
    (eachTracker f s).thm = s.thm := by
  unfold eachTracker; (repeat' split) <;> simp [hf]

@[simp] theorem eachTracker_gl (f : Nat → State → State) (s : State) (hf : ∀ x0 x1, (f x0 x1).gl = x1.gl) :
    (eachTracker f s).gl = s.gl := by
  unfold eachTracker; (repeat' split) <;> simp [hf]

@[simp] theorem eachTracker_link (f : Nat → State → State) (s : State) (hf : ∀ x0 x1, (f x0 x1).link = x1.link) :
    (eachTracker f s).link = s.link := by
  unfold eachTracker; (repeat' split) <;> simp [hf]

@[simp] theorem eachTracker_ozd (f : Nat → State → State) (s : State) (hf : ∀ x0 x1, (f x0 x1).ozd = x1.ozd) :
    (eachTracker f s).ozd = s.ozd := by
  unfold eachTracker; (repeat' split) <;> simp [hf]

@[simp] theorem eachTracker_lctc (f : Nat → State → State) (s : State) (hf : ∀ x0 x1, (f x0 x1).lctc = x1.lctc) :
    (eachTracker f s).lctc = s.lctc := by
  unfold eachTracker; (repeat' split) <;> simp [hf]

@[simp] theorem eachTracker_msgq (f : Nat → State → State) (s : State) (hf : ∀ x0 x1, (f x0 x1).msgq = x1.msgq) :
    (eachTracker f s).msgq = s.msgq := by
  unfold eachTracker; (repeat' split) <;> simp [hf]

@[simp] theorem eachTracker_wcapLevel (f : Nat → State → State) (s : State) (hf : ∀ x0 x1, (f x0 x1).wcapLevel = x1.wcapLevel) :
    (eachTracker f s).wcapLevel = s.wcapLevel := by
  unfold eachTracker; (repeat' split) <;> simp [hf]

theorem queueTx_frame (p : Nat) (e : TxTs) (s : State) :
    (queueTx p e s).pending = s.pending ∧
    (queueTx p e s).fs = s.fs ∧
    (queueTx p e s).scene = s.scene ∧
    (queueTx p e s).jtag = s.jtag ∧
    (queueTx p e s).boot = s.boot ∧
    (queueTx p e s).period = s.period ∧
    (queueTx p e s).pwr = s.pwr ∧
    (queueTx p e s).scan = s.scan ∧
    (queueTx p e s).lct = s.lct ∧
    (queueTx p e s).tb = s.tb ∧
    (queueTx p e s).tiles = s.tiles ∧
    (queueTx p e s).handles = s.handles ∧
    (queueTx p e s).dcx = s.dcx ∧
    (queueTx p e s).mnt = s.mnt ∧
    (queueTx p e s).comp = s.comp ∧
    (queueTx p e s).thm = s.thm ∧
    (queueTx p e s).gl = s.gl ∧
    (queueTx p e s).link = s.link ∧
    (queueTx p e s).ozd = s.ozd ∧
    (queueTx p e s).lctc = s.lctc ∧
    (queueTx p e s).wcapLevel = s.wcapLevel := by simp [putEth_frame .., raise_frame .., queueTx]

theorem sendPtp_frame (p typ : Nat) (domain : BitVec 8) (seq : BitVec 16) (corr stamp : Int) (s : State) :
    (sendPtp p typ domain seq corr stamp s).pending = s.pending ∧
    (sendPtp p typ domain seq corr stamp s).fs = s.fs ∧
    (sendPtp p typ domain seq corr stamp s).scene = s.scene ∧
    (sendPtp p typ domain seq corr stamp s).jtag = s.jtag ∧
    (sendPtp p typ domain seq corr stamp s).boot = s.boot ∧
    (sendPtp p typ domain seq corr stamp s).period = s.period ∧
    (sendPtp p typ domain seq corr stamp s).pwr = s.pwr ∧
    (sendPtp p typ domain seq corr stamp s).scan = s.scan ∧
    (sendPtp p typ domain seq corr stamp s).lct = s.lct ∧
    (sendPtp p typ domain seq corr stamp s).tb = s.tb ∧
    (sendPtp p typ domain seq corr stamp s).tiles = s.tiles ∧
    (sendPtp p typ domain seq corr stamp s).handles = s.handles ∧
    (sendPtp p typ domain seq corr stamp s).dcx = s.dcx ∧
    (sendPtp p typ domain seq corr stamp s).mnt = s.mnt ∧
    (sendPtp p typ domain seq corr stamp s).comp = s.comp ∧
    (sendPtp p typ domain seq corr stamp s).thm = s.thm ∧
    (sendPtp p typ domain seq corr stamp s).gl = s.gl ∧
    (sendPtp p typ domain seq corr stamp s).link = s.link ∧
    (sendPtp p typ domain seq corr stamp s).ozd = s.ozd ∧
    (sendPtp p typ domain seq corr stamp s).lctc = s.lctc ∧
    (sendPtp p typ domain seq corr stamp s).msgq = s.msgq ∧
    (sendPtp p typ domain seq corr stamp s).wcapLevel = s.wcapLevel := by simp [putEth_frame .., sendPtp]

theorem sendEvent_frame (p k typ : Nat) (domain : BitVec 8) (seq : BitVec 16) (corr stamp : Int) (s : State) :
    (sendEvent p k typ domain seq corr stamp s).pending = s.pending ∧
    (sendEvent p k typ domain seq corr stamp s).fs = s.fs ∧
    (sendEvent p k typ domain seq corr stamp s).scene = s.scene ∧
    (sendEvent p k typ domain seq corr stamp s).jtag = s.jtag ∧
    (sendEvent p k typ domain seq corr stamp s).boot = s.boot ∧
    (sendEvent p k typ domain seq corr stamp s).period = s.period ∧
    (sendEvent p k typ domain seq corr stamp s).pwr = s.pwr ∧
    (sendEvent p k typ domain seq corr stamp s).scan = s.scan ∧
    (sendEvent p k typ domain seq corr stamp s).lct = s.lct ∧
    (sendEvent p k typ domain seq corr stamp s).tb = s.tb ∧
    (sendEvent p k typ domain seq corr stamp s).tiles = s.tiles ∧
    (sendEvent p k typ domain seq corr stamp s).handles = s.handles ∧
    (sendEvent p k typ domain seq corr stamp s).dcx = s.dcx ∧
    (sendEvent p k typ domain seq corr stamp s).mnt = s.mnt ∧
    (sendEvent p k typ domain seq corr stamp s).comp = s.comp ∧
    (sendEvent p k typ domain seq corr stamp s).thm = s.thm ∧
    (sendEvent p k typ domain seq corr stamp s).gl = s.gl ∧
    (sendEvent p k typ domain seq corr stamp s).link = s.link ∧
    (sendEvent p k typ domain seq corr stamp s).ozd = s.ozd ∧
    (sendEvent p k typ domain seq corr stamp s).lctc = s.lctc ∧
    (sendEvent p k typ domain seq corr stamp s).wcapLevel = s.wcapLevel := by simp [queueTx_frame .., sendPtp_frame .., sendEvent]

theorem answerPdelay_frame (p : Nat) (h : PtpHdr) (s : State) :
    (answerPdelay p h s).pending = s.pending ∧
    (answerPdelay p h s).fs = s.fs ∧
    (answerPdelay p h s).scene = s.scene ∧
    (answerPdelay p h s).jtag = s.jtag ∧
    (answerPdelay p h s).boot = s.boot ∧
    (answerPdelay p h s).period = s.period ∧
    (answerPdelay p h s).pwr = s.pwr ∧
    (answerPdelay p h s).scan = s.scan ∧
    (answerPdelay p h s).lct = s.lct ∧
    (answerPdelay p h s).tb = s.tb ∧
    (answerPdelay p h s).tiles = s.tiles ∧
    (answerPdelay p h s).handles = s.handles ∧
    (answerPdelay p h s).dcx = s.dcx ∧
    (answerPdelay p h s).mnt = s.mnt ∧
    (answerPdelay p h s).comp = s.comp ∧
    (answerPdelay p h s).thm = s.thm ∧
    (answerPdelay p h s).gl = s.gl ∧
    (answerPdelay p h s).link = s.link ∧
    (answerPdelay p h s).ozd = s.ozd ∧
    (answerPdelay p h s).lctc = s.lctc ∧
    (answerPdelay p h s).wcapLevel = s.wcapLevel := by simp [sendEvent_frame .., sendPtp_frame .., answerPdelay]

theorem takePdelay_frame (p : Nat) (h : PtpHdr) (t2 t3 : Int) (s : State) :
    (takePdelay p h t2 t3 s).pending = s.pending ∧
    (takePdelay p h t2 t3 s).fs = s.fs ∧
    (takePdelay p h t2 t3 s).scene = s.scene ∧
    (takePdelay p h t2 t3 s).jtag = s.jtag ∧
    (takePdelay p h t2 t3 s).boot = s.boot ∧
    (takePdelay p h t2 t3 s).period = s.period ∧
    (takePdelay p h t2 t3 s).pwr = s.pwr ∧
    (takePdelay p h t2 t3 s).scan = s.scan ∧
    (takePdelay p h t2 t3 s).lct = s.lct ∧
    (takePdelay p h t2 t3 s).tb = s.tb ∧
    (takePdelay p h t2 t3 s).tiles = s.tiles ∧
    (takePdelay p h t2 t3 s).handles = s.handles ∧
    (takePdelay p h t2 t3 s).dcx = s.dcx ∧
    (takePdelay p h t2 t3 s).mnt = s.mnt ∧
    (takePdelay p h t2 t3 s).comp = s.comp ∧
    (takePdelay p h t2 t3 s).thm = s.thm ∧
    (takePdelay p h t2 t3 s).gl = s.gl ∧
    (takePdelay p h t2 t3 s).link = s.link ∧
    (takePdelay p h t2 t3 s).ozd = s.ozd ∧
    (takePdelay p h t2 t3 s).lctc = s.lctc ∧
    (takePdelay p h t2 t3 s).msgq = s.msgq ∧
    (takePdelay p h t2 t3 s).wcapLevel = s.wcapLevel := by simp only [takePdelay]; (repeat' split) <;> simp [putEth_frame .., setLdly_frame ..]

theorem takeAnnounce_frame (p : Nat) (m : AnnounceMsg) (s : State) :
    (takeAnnounce p m s).pending = s.pending ∧
    (takeAnnounce p m s).fs = s.fs ∧
    (takeAnnounce p m s).scene = s.scene ∧
    (takeAnnounce p m s).jtag = s.jtag ∧
    (takeAnnounce p m s).boot = s.boot ∧
    (takeAnnounce p m s).period = s.period ∧
    (takeAnnounce p m s).pwr = s.pwr ∧
    (takeAnnounce p m s).scan = s.scan ∧
    (takeAnnounce p m s).lct = s.lct ∧
    (takeAnnounce p m s).tb = s.tb ∧
    (takeAnnounce p m s).tiles = s.tiles ∧
    (takeAnnounce p m s).handles = s.handles ∧
    (takeAnnounce p m s).dcx = s.dcx ∧
    (takeAnnounce p m s).mnt = s.mnt ∧
    (takeAnnounce p m s).comp = s.comp ∧
    (takeAnnounce p m s).thm = s.thm ∧
    (takeAnnounce p m s).gl = s.gl ∧
    (takeAnnounce p m s).link = s.link ∧
    (takeAnnounce p m s).ozd = s.ozd ∧
    (takeAnnounce p m s).lctc = s.lctc ∧
    (takeAnnounce p m s).msgq = s.msgq ∧
    (takeAnnounce p m s).wcapLevel = s.wcapLevel := by simp [chooseMaster_frame .., putEth_frame .., takeAnnounce]

theorem effTbCmd_frame (k cmd : Nat) (s : State) :
    (effTbCmd k cmd s).pending = s.pending ∧
    (effTbCmd k cmd s).fs = s.fs ∧
    (effTbCmd k cmd s).scene = s.scene ∧
    (effTbCmd k cmd s).jtag = s.jtag ∧
    (effTbCmd k cmd s).boot = s.boot ∧
    (effTbCmd k cmd s).period = s.period ∧
    (effTbCmd k cmd s).pwr = s.pwr ∧
    (effTbCmd k cmd s).scan = s.scan ∧
    (effTbCmd k cmd s).lct = s.lct ∧
    (effTbCmd k cmd s).tiles = s.tiles ∧
    (effTbCmd k cmd s).handles = s.handles ∧
    (effTbCmd k cmd s).dcx = s.dcx ∧
    (effTbCmd k cmd s).mnt = s.mnt ∧
    (effTbCmd k cmd s).comp = s.comp ∧
    (effTbCmd k cmd s).thm = s.thm ∧
    (effTbCmd k cmd s).link = s.link ∧
    (effTbCmd k cmd s).ozd = s.ozd ∧
    (effTbCmd k cmd s).lctc = s.lctc ∧
    (effTbCmd k cmd s).wcapLevel = s.wcapLevel := by simp [putTb_frame .., setTbState_frame .., stepTb_frame .., swapRoles_frame .., effTbCmd]

theorem tbCmd_frame (m : Master) (k : Nat) (cmd : Nat) (s : State) :
    (tbCmd m k cmd s).pending = s.pending ∧
    (tbCmd m k cmd s).fs = s.fs ∧
    (tbCmd m k cmd s).scene = s.scene ∧
    (tbCmd m k cmd s).jtag = s.jtag ∧
    (tbCmd m k cmd s).boot = s.boot ∧
    (tbCmd m k cmd s).period = s.period ∧
    (tbCmd m k cmd s).pwr = s.pwr ∧
    (tbCmd m k cmd s).scan = s.scan ∧
    (tbCmd m k cmd s).lct = s.lct ∧
    (tbCmd m k cmd s).tiles = s.tiles ∧
    (tbCmd m k cmd s).handles = s.handles ∧
    (tbCmd m k cmd s).mnt = s.mnt ∧
    (tbCmd m k cmd s).comp = s.comp ∧
    (tbCmd m k cmd s).thm = s.thm ∧
    (tbCmd m k cmd s).lctc = s.lctc ∧
    (tbCmd m k cmd s).wcapLevel = s.wcapLevel := by simp [effTbCmd_frame .., tbCmd]

theorem effTbPri_frame (k : Nat) (v : Word) (s : State) :
    (effTbPri k v s).pending = s.pending ∧
    (effTbPri k v s).fs = s.fs ∧
    (effTbPri k v s).scene = s.scene ∧
    (effTbPri k v s).jtag = s.jtag ∧
    (effTbPri k v s).boot = s.boot ∧
    (effTbPri k v s).period = s.period ∧
    (effTbPri k v s).pwr = s.pwr ∧
    (effTbPri k v s).scan = s.scan ∧
    (effTbPri k v s).lct = s.lct ∧
    (effTbPri k v s).tiles = s.tiles ∧
    (effTbPri k v s).handles = s.handles ∧
    (effTbPri k v s).dcx = s.dcx ∧
    (effTbPri k v s).mnt = s.mnt ∧
    (effTbPri k v s).comp = s.comp ∧
    (effTbPri k v s).thm = s.thm ∧
    (effTbPri k v s).gl = s.gl ∧
    (effTbPri k v s).link = s.link ∧
    (effTbPri k v s).ozd = s.ozd ∧
    (effTbPri k v s).lctc = s.lctc ∧
    (effTbPri k v s).wcapLevel = s.wcapLevel := by simp [changePrimary_frame .., setReg_frame .., effTbPri]

theorem effTbPid_frame (k w : Nat) (v : Word) (s : State) :
    (effTbPid k w v s).pending = s.pending ∧
    (effTbPid k w v s).fs = s.fs ∧
    (effTbPid k w v s).scene = s.scene ∧
    (effTbPid k w v s).jtag = s.jtag ∧
    (effTbPid k w v s).boot = s.boot ∧
    (effTbPid k w v s).period = s.period ∧
    (effTbPid k w v s).pwr = s.pwr ∧
    (effTbPid k w v s).scan = s.scan ∧
    (effTbPid k w v s).lct = s.lct ∧
    (effTbPid k w v s).tiles = s.tiles ∧
    (effTbPid k w v s).handles = s.handles ∧
    (effTbPid k w v s).dcx = s.dcx ∧
    (effTbPid k w v s).mnt = s.mnt ∧
    (effTbPid k w v s).comp = s.comp ∧
    (effTbPid k w v s).thm = s.thm ∧
    (effTbPid k w v s).gl = s.gl ∧
    (effTbPid k w v s).link = s.link ∧
    (effTbPid k w v s).ozd = s.ozd ∧
    (effTbPid k w v s).lctc = s.lctc ∧
    (effTbPid k w v s).wcapLevel = s.wcapLevel := by simp [changePrimary_frame .., setReg_frame .., effTbPid]

theorem effTbShd_frame (k a : Nat) (v : Word) (s : State) :
    (effTbShd k a v s).pending = s.pending ∧
    (effTbShd k a v s).fs = s.fs ∧
    (effTbShd k a v s).scene = s.scene ∧
    (effTbShd k a v s).jtag = s.jtag ∧
    (effTbShd k a v s).boot = s.boot ∧
    (effTbShd k a v s).period = s.period ∧
    (effTbShd k a v s).pwr = s.pwr ∧
    (effTbShd k a v s).scan = s.scan ∧
    (effTbShd k a v s).lct = s.lct ∧
    (effTbShd k a v s).tiles = s.tiles ∧
    (effTbShd k a v s).handles = s.handles ∧
    (effTbShd k a v s).dcx = s.dcx ∧
    (effTbShd k a v s).mnt = s.mnt ∧
    (effTbShd k a v s).comp = s.comp ∧
    (effTbShd k a v s).thm = s.thm ∧
    (effTbShd k a v s).gl = s.gl ∧
    (effTbShd k a v s).link = s.link ∧
    (effTbShd k a v s).ozd = s.ozd ∧
    (effTbShd k a v s).lctc = s.lctc ∧
    (effTbShd k a v s).msgq = s.msgq ∧
    (effTbShd k a v s).wcapLevel = s.wcapLevel := by simp only [effTbShd]; (repeat' split) <;> simp [putTb_frame .., setReg_frame .., startTracker_frame ..]

theorem effTbCtl_frame (k : Nat) (v : Word) (s : State) :
    (effTbCtl k v s).pending = s.pending ∧
    (effTbCtl k v s).fs = s.fs ∧
    (effTbCtl k v s).scene = s.scene ∧
    (effTbCtl k v s).jtag = s.jtag ∧
    (effTbCtl k v s).boot = s.boot ∧
    (effTbCtl k v s).period = s.period ∧
    (effTbCtl k v s).pwr = s.pwr ∧
    (effTbCtl k v s).scan = s.scan ∧
    (effTbCtl k v s).lct = s.lct ∧
    (effTbCtl k v s).tiles = s.tiles ∧
    (effTbCtl k v s).handles = s.handles ∧
    (effTbCtl k v s).dcx = s.dcx ∧
    (effTbCtl k v s).mnt = s.mnt ∧
    (effTbCtl k v s).comp = s.comp ∧
    (effTbCtl k v s).thm = s.thm ∧
    (effTbCtl k v s).link = s.link ∧
    (effTbCtl k v s).ozd = s.ozd ∧
    (effTbCtl k v s).lctc = s.lctc ∧
    (effTbCtl k v s).wcapLevel = s.wcapLevel := by simp [assignShadows_frame .., glCheck_frame .., setReg_frame .., startTracker_frame .., toFree_frame .., effTbCtl]

theorem readTbNs_frame (m k : Nat) (s : State) :
    (readTbNs m k s).2.pending = s.pending ∧
    (readTbNs m k s).2.fs = s.fs ∧
    (readTbNs m k s).2.scene = s.scene ∧
    (readTbNs m k s).2.jtag = s.jtag ∧
    (readTbNs m k s).2.boot = s.boot ∧
    (readTbNs m k s).2.period = s.period ∧
    (readTbNs m k s).2.pwr = s.pwr ∧
    (readTbNs m k s).2.scan = s.scan ∧
    (readTbNs m k s).2.lct = s.lct ∧
    (readTbNs m k s).2.tb = s.tb ∧
    (readTbNs m k s).2.tiles = s.tiles ∧
    (readTbNs m k s).2.handles = s.handles ∧
    (readTbNs m k s).2.dcx = s.dcx ∧
    (readTbNs m k s).2.mnt = s.mnt ∧
    (readTbNs m k s).2.comp = s.comp ∧
    (readTbNs m k s).2.thm = s.thm ∧
    (readTbNs m k s).2.gl = s.gl ∧
    (readTbNs m k s).2.link = s.link ∧
    (readTbNs m k s).2.ozd = s.ozd ∧
    (readTbNs m k s).2.lctc = s.lctc ∧
    (readTbNs m k s).2.msgq = s.msgq ∧
    (readTbNs m k s).2.wcapLevel = s.wcapLevel := by simp [holdHigh_frame .., readTbNs]

theorem readTxq_frame (m p : Nat) (s : State) :
    (readTxq m p s).2.pending = s.pending ∧
    (readTxq m p s).2.fs = s.fs ∧
    (readTxq m p s).2.scene = s.scene ∧
    (readTxq m p s).2.jtag = s.jtag ∧
    (readTxq m p s).2.boot = s.boot ∧
    (readTxq m p s).2.period = s.period ∧
    (readTxq m p s).2.pwr = s.pwr ∧
    (readTxq m p s).2.scan = s.scan ∧
    (readTxq m p s).2.lct = s.lct ∧
    (readTxq m p s).2.tb = s.tb ∧
    (readTxq m p s).2.tiles = s.tiles ∧
    (readTxq m p s).2.handles = s.handles ∧
    (readTxq m p s).2.dcx = s.dcx ∧
    (readTxq m p s).2.mnt = s.mnt ∧
    (readTxq m p s).2.comp = s.comp ∧
    (readTxq m p s).2.thm = s.thm ∧
    (readTxq m p s).2.gl = s.gl ∧
    (readTxq m p s).2.link = s.link ∧
    (readTxq m p s).2.ozd = s.ozd ∧
    (readTxq m p s).2.lctc = s.lctc ∧
    (readTxq m p s).2.msgq = s.msgq ∧
    (readTxq m p s).2.wcapLevel = s.wcapLevel := by simp [holdHigh_frame .., putEth_frame .., readTxq]

theorem trigStart_frame (k : Nat) (s : State) :
    (trigStart k s).pending = s.pending ∧
    (trigStart k s).fs = s.fs ∧
    (trigStart k s).scene = s.scene ∧
    (trigStart k s).jtag = s.jtag ∧
    (trigStart k s).boot = s.boot ∧
    (trigStart k s).period = s.period ∧
    (trigStart k s).pwr = s.pwr ∧
    (trigStart k s).scan = s.scan ∧
    (trigStart k s).lct = s.lct ∧
    (trigStart k s).tb = s.tb ∧
    (trigStart k s).tiles = s.tiles ∧
    (trigStart k s).handles = s.handles ∧
    (trigStart k s).dcx = s.dcx ∧
    (trigStart k s).mnt = s.mnt ∧
    (trigStart k s).comp = s.comp ∧
    (trigStart k s).thm = s.thm ∧
    (trigStart k s).gl = s.gl ∧
    (trigStart k s).link = s.link ∧
    (trigStart k s).ozd = s.ozd ∧
    (trigStart k s).lctc = s.lctc ∧
    (trigStart k s).msgq = s.msgq ∧
    (trigStart k s).wcapLevel = s.wcapLevel := by simp [putTrig_frame .., trigStart]

theorem trigRate_frame (s : State) :
    (trigRate s).pending = s.pending ∧
    (trigRate s).fs = s.fs ∧
    (trigRate s).scene = s.scene ∧
    (trigRate s).jtag = s.jtag ∧
    (trigRate s).boot = s.boot ∧
    (trigRate s).period = s.period ∧
    (trigRate s).pwr = s.pwr ∧
    (trigRate s).scan = s.scan ∧
    (trigRate s).lct = s.lct ∧
    (trigRate s).tb = s.tb ∧
    (trigRate s).tiles = s.tiles ∧
    (trigRate s).handles = s.handles ∧
    (trigRate s).dcx = s.dcx ∧
    (trigRate s).mnt = s.mnt ∧
    (trigRate s).comp = s.comp ∧
    (trigRate s).thm = s.thm ∧
    (trigRate s).gl = s.gl ∧
    (trigRate s).link = s.link ∧
    (trigRate s).ozd = s.ozd ∧
    (trigRate s).lctc = s.lctc ∧
    (trigRate s).msgq = s.msgq ∧
    (trigRate s).wcapLevel = s.wcapLevel := by simp [trigStart_frame .., trigRate]

theorem trigApply_frame (k : Nat) (fresh again : Bool) (s : State) :
    (trigApply k fresh again s).pending = s.pending ∧
    (trigApply k fresh again s).fs = s.fs ∧
    (trigApply k fresh again s).scene = s.scene ∧
    (trigApply k fresh again s).jtag = s.jtag ∧
    (trigApply k fresh again s).boot = s.boot ∧
    (trigApply k fresh again s).period = s.period ∧
    (trigApply k fresh again s).pwr = s.pwr ∧
    (trigApply k fresh again s).scan = s.scan ∧
    (trigApply k fresh again s).lct = s.lct ∧
    (trigApply k fresh again s).tb = s.tb ∧
    (trigApply k fresh again s).tiles = s.tiles ∧
    (trigApply k fresh again s).handles = s.handles ∧
    (trigApply k fresh again s).dcx = s.dcx ∧
    (trigApply k fresh again s).mnt = s.mnt ∧
    (trigApply k fresh again s).comp = s.comp ∧
    (trigApply k fresh again s).thm = s.thm ∧
    (trigApply k fresh again s).gl = s.gl ∧
    (trigApply k fresh again s).link = s.link ∧
    (trigApply k fresh again s).ozd = s.ozd ∧
    (trigApply k fresh again s).lctc = s.lctc ∧
    (trigApply k fresh again s).msgq = s.msgq ∧
    (trigApply k fresh again s).wcapLevel = s.wcapLevel := by simp [putTrig_frame .., trigStart_frame .., trigApply]

theorem trigReach_frame {k : Nat} {x : Int} {s t : State} (h : trigReach k x s = some t) : t.pending = s.pending ∧
    t.fs = s.fs ∧
    t.scene = s.scene ∧
    t.jtag = s.jtag ∧
    t.boot = s.boot ∧
    t.period = s.period ∧
    t.pwr = s.pwr ∧
    t.scan = s.scan ∧
    t.lct = s.lct ∧
    t.tiles = s.tiles ∧
    t.handles = s.handles ∧
    t.dcx = s.dcx ∧
    t.mnt = s.mnt ∧
    t.comp = s.comp ∧
    t.thm = s.thm ∧
    t.link = s.link ∧
    t.lctc = s.lctc ∧
    t.msgq = s.msgq := by
  unfold trigReach at h
  split at h
  · simp [passTime_frame ..] at h; simp [passTime_frame .., ← h]
  · split at h
    · exact reachPsi_frame h
    · dsimp only at h
      split at h
      · simp [passTime_frame ..] at h
      · simp [passTime_frame ..] at h; simp [passTime_frame .., ← h]

theorem trigPulse_frame (k : Nat) (gap : Option Int) (s : State) :
    (trigPulse k gap s).pending = s.pending ∧
    (trigPulse k gap s).fs = s.fs ∧
    (trigPulse k gap s).scene = s.scene ∧
    (trigPulse k gap s).jtag = s.jtag ∧
    (trigPulse k gap s).boot = s.boot ∧
    (trigPulse k gap s).period = s.period ∧
    (trigPulse k gap s).pwr = s.pwr ∧
    (trigPulse k gap s).scan = s.scan ∧
    (trigPulse k gap s).lct = s.lct ∧
    (trigPulse k gap s).tb = s.tb ∧
    (trigPulse k gap s).tiles = s.tiles ∧
    (trigPulse k gap s).handles = s.handles ∧
    (trigPulse k gap s).dcx = s.dcx ∧
    (trigPulse k gap s).mnt = s.mnt ∧
    (trigPulse k gap s).comp = s.comp ∧
    (trigPulse k gap s).thm = s.thm ∧
    (trigPulse k gap s).gl = s.gl ∧
    (trigPulse k gap s).link = s.link ∧
    (trigPulse k gap s).ozd = s.ozd ∧
    (trigPulse k gap s).lctc = s.lctc ∧
    (trigPulse k gap s).msgq = s.msgq ∧
    (trigPulse k gap s).wcapLevel = s.wcapLevel := by simp [bumpWrap_frame .., putTrig_frame .., trigPulse]

theorem trigMiss_frame (k n : Nat) (s : State) :
    (trigMiss k n s).pending = s.pending ∧
    (trigMiss k n s).fs = s.fs ∧
    (trigMiss k n s).scene = s.scene ∧
    (trigMiss k n s).jtag = s.jtag ∧
    (trigMiss k n s).boot = s.boot ∧
    (trigMiss k n s).period = s.period ∧
    (trigMiss k n s).pwr = s.pwr ∧
    (trigMiss k n s).scan = s.scan ∧
    (trigMiss k n s).lct = s.lct ∧
    (trigMiss k n s).tb = s.tb ∧
    (trigMiss k n s).tiles = s.tiles ∧
    (trigMiss k n s).handles = s.handles ∧
    (trigMiss k n s).dcx = s.dcx ∧
    (trigMiss k n s).mnt = s.mnt ∧
    (trigMiss k n s).comp = s.comp ∧
    (trigMiss k n s).thm = s.thm ∧
    (trigMiss k n s).gl = s.gl ∧
    (trigMiss k n s).link = s.link ∧
    (trigMiss k n s).ozd = s.ozd ∧
    (trigMiss k n s).lctc = s.lctc ∧
    (trigMiss k n s).wcapLevel = s.wcapLevel := by simp [bumpBySat_frame .., raise_frame .., trigMiss]

theorem firePeriodic_frame (k : Nat) (s : State) :
    (firePeriodic k s).pending = s.pending ∧
    (firePeriodic k s).fs = s.fs ∧
    (firePeriodic k s).scene = s.scene ∧
    (firePeriodic k s).jtag = s.jtag ∧
    (firePeriodic k s).boot = s.boot ∧
    (firePeriodic k s).period = s.period ∧
    (firePeriodic k s).pwr = s.pwr ∧
    (firePeriodic k s).scan = s.scan ∧
    (firePeriodic k s).lct = s.lct ∧
    (firePeriodic k s).tiles = s.tiles ∧
    (firePeriodic k s).handles = s.handles ∧
    (firePeriodic k s).dcx = s.dcx ∧
    (firePeriodic k s).mnt = s.mnt ∧
    (firePeriodic k s).comp = s.comp ∧
    (firePeriodic k s).thm = s.thm ∧
    (firePeriodic k s).link = s.link ∧
    (firePeriodic k s).lctc = s.lctc := by
  unfold firePeriodic
  dsimp only
  (repeat' split) <;> first
    | (rename_i h; have h1 := trigReach_frame h; simp [putTrig_frame .., trigMiss_frame .., trigPulse_frame ..] at h1; simp [putTrig_frame .., trigMiss_frame .., trigPulse_frame .., h1])
    | simp [putTrig_frame .., trigMiss_frame .., trigPulse_frame ..]

end Sys2Proof.Machine
end

