-- ==== Sys2Proof/Laws/FrameOzide.lean ====
section
/-!
SUPPORT. What each operation of Ozide.lean leaves unchanged.
-/
set_option linter.unusedSimpArgs false
namespace Sys2Proof.Machine

theorem loadKeys_frame (s : State) :
    (loadKeys s).pending = s.pending ∧
    (loadKeys s).fs = s.fs ∧
    (loadKeys s).scene = s.scene ∧
    (loadKeys s).jtag = s.jtag ∧
    (loadKeys s).boot = s.boot ∧
    (loadKeys s).period = s.period ∧
    (loadKeys s).pwr = s.pwr ∧
    (loadKeys s).scan = s.scan ∧
    (loadKeys s).lct = s.lct ∧
    (loadKeys s).tb = s.tb ∧
    (loadKeys s).tiles = s.tiles ∧
    (loadKeys s).handles = s.handles ∧
    (loadKeys s).dcx = s.dcx ∧
    (loadKeys s).mnt = s.mnt ∧
    (loadKeys s).comp = s.comp ∧
    (loadKeys s).thm = s.thm ∧
    (loadKeys s).gl = s.gl ∧
    (loadKeys s).link = s.link ∧
    (loadKeys s).lctc = s.lctc ∧
    (loadKeys s).msgq = s.msgq ∧
    (loadKeys s).wcapLevel = s.wcapLevel := by simp [loadKeys]

theorem windowStore_frame (word : Nat) (v : DWord) (s : State) :
    (windowStore word v s).pending = s.pending ∧
    (windowStore word v s).fs = s.fs ∧
    (windowStore word v s).scene = s.scene ∧
    (windowStore word v s).jtag = s.jtag ∧
    (windowStore word v s).boot = s.boot ∧
    (windowStore word v s).period = s.period ∧
    (windowStore word v s).pwr = s.pwr ∧
    (windowStore word v s).scan = s.scan ∧
    (windowStore word v s).lct = s.lct ∧
    (windowStore word v s).tb = s.tb ∧
    (windowStore word v s).tiles = s.tiles ∧
    (windowStore word v s).handles = s.handles ∧
    (windowStore word v s).dcx = s.dcx ∧
    (windowStore word v s).mnt = s.mnt ∧
    (windowStore word v s).comp = s.comp ∧
    (windowStore word v s).thm = s.thm ∧
    (windowStore word v s).gl = s.gl ∧
    (windowStore word v s).link = s.link ∧
    (windowStore word v s).lctc = s.lctc ∧
    (windowStore word v s).wcapLevel = s.wcapLevel := by simp [loadKeys_frame .., ozPut_frame .., ozReadAt_frame .., windowStore]

theorem windowHalf_frame (m : Nat) (word : Nat) (high : Bool) (v : Word) (s : State) :
    (windowHalf m word high v s).pending = s.pending ∧
    (windowHalf m word high v s).fs = s.fs ∧
    (windowHalf m word high v s).scene = s.scene ∧
    (windowHalf m word high v s).jtag = s.jtag ∧
    (windowHalf m word high v s).boot = s.boot ∧
    (windowHalf m word high v s).period = s.period ∧
    (windowHalf m word high v s).pwr = s.pwr ∧
    (windowHalf m word high v s).scan = s.scan ∧
    (windowHalf m word high v s).lct = s.lct ∧
    (windowHalf m word high v s).tb = s.tb ∧
    (windowHalf m word high v s).tiles = s.tiles ∧
    (windowHalf m word high v s).handles = s.handles ∧
    (windowHalf m word high v s).dcx = s.dcx ∧
    (windowHalf m word high v s).mnt = s.mnt ∧
    (windowHalf m word high v s).comp = s.comp ∧
    (windowHalf m word high v s).thm = s.thm ∧
    (windowHalf m word high v s).gl = s.gl ∧
    (windowHalf m word high v s).link = s.link ∧
    (windowHalf m word high v s).lctc = s.lctc ∧
    (windowHalf m word high v s).wcapLevel = s.wcapLevel := by simp only [windowHalf]; (repeat' split) <;> simp [windowStore_frame ..]

theorem windowWriteAt_frame (m word : Nat) (high : Bool) (v : Word) (s : State) :
    (windowWriteAt m word high v s).2.pending = s.pending ∧
    (windowWriteAt m word high v s).2.fs = s.fs ∧
    (windowWriteAt m word high v s).2.scene = s.scene ∧
    (windowWriteAt m word high v s).2.jtag = s.jtag ∧
    (windowWriteAt m word high v s).2.boot = s.boot ∧
    (windowWriteAt m word high v s).2.period = s.period ∧
    (windowWriteAt m word high v s).2.pwr = s.pwr ∧
    (windowWriteAt m word high v s).2.scan = s.scan ∧
    (windowWriteAt m word high v s).2.lct = s.lct ∧
    (windowWriteAt m word high v s).2.tb = s.tb ∧
    (windowWriteAt m word high v s).2.tiles = s.tiles ∧
    (windowWriteAt m word high v s).2.handles = s.handles ∧
    (windowWriteAt m word high v s).2.dcx = s.dcx ∧
    (windowWriteAt m word high v s).2.mnt = s.mnt ∧
    (windowWriteAt m word high v s).2.comp = s.comp ∧
    (windowWriteAt m word high v s).2.thm = s.thm ∧
    (windowWriteAt m word high v s).2.gl = s.gl ∧
    (windowWriteAt m word high v s).2.link = s.link ∧
    (windowWriteAt m word high v s).2.lctc = s.lctc ∧
    (windowWriteAt m word high v s).2.wcapLevel = s.wcapLevel := by simp only [windowWriteAt]; (repeat' split) <;> simp [windowHalf_frame ..]

theorem windowReads_frame (s : State) (m page : Nat) :
    (windowReads s m page).2.pending = s.pending ∧
    (windowReads s m page).2.fs = s.fs ∧
    (windowReads s m page).2.scene = s.scene ∧
    (windowReads s m page).2.jtag = s.jtag ∧
    (windowReads s m page).2.boot = s.boot ∧
    (windowReads s m page).2.period = s.period ∧
    (windowReads s m page).2.pwr = s.pwr ∧
    (windowReads s m page).2.scan = s.scan ∧
    (windowReads s m page).2.lct = s.lct ∧
    (windowReads s m page).2.tb = s.tb ∧
    (windowReads s m page).2.tiles = s.tiles ∧
    (windowReads s m page).2.handles = s.handles ∧
    (windowReads s m page).2.dcx = s.dcx ∧
    (windowReads s m page).2.mnt = s.mnt ∧
    (windowReads s m page).2.comp = s.comp ∧
    (windowReads s m page).2.thm = s.thm ∧
    (windowReads s m page).2.gl = s.gl ∧
    (windowReads s m page).2.link = s.link ∧
    (windowReads s m page).2.ozd = s.ozd ∧
    (windowReads s m page).2.lctc = s.lctc ∧
    (windowReads s m page).2.msgq = s.msgq ∧
    (windowReads s m page).2.wcapLevel = s.wcapLevel := by simp only [windowReads]; (repeat' split) <;> simp [bumpSat_frame ..]

theorem windowReadAt_frame (m word : Nat) (high : Bool) (s : State) :
    (windowReadAt m word high s).2.pending = s.pending ∧
    (windowReadAt m word high s).2.fs = s.fs ∧
    (windowReadAt m word high s).2.scene = s.scene ∧
    (windowReadAt m word high s).2.jtag = s.jtag ∧
    (windowReadAt m word high s).2.boot = s.boot ∧
    (windowReadAt m word high s).2.period = s.period ∧
    (windowReadAt m word high s).2.pwr = s.pwr ∧
    (windowReadAt m word high s).2.scan = s.scan ∧
    (windowReadAt m word high s).2.lct = s.lct ∧
    (windowReadAt m word high s).2.tb = s.tb ∧
    (windowReadAt m word high s).2.tiles = s.tiles ∧
    (windowReadAt m word high s).2.handles = s.handles ∧
    (windowReadAt m word high s).2.dcx = s.dcx ∧
    (windowReadAt m word high s).2.mnt = s.mnt ∧
    (windowReadAt m word high s).2.comp = s.comp ∧
    (windowReadAt m word high s).2.thm = s.thm ∧
    (windowReadAt m word high s).2.gl = s.gl ∧
    (windowReadAt m word high s).2.link = s.link ∧
    (windowReadAt m word high s).2.lctc = s.lctc ∧
    (windowReadAt m word high s).2.wcapLevel = s.wcapLevel := by simp only [windowReadAt]; (repeat' split) <;> simp [holdHigh_frame .., ozTouch_frame .., takeHigh_frame .., windowReads_frame ..]

theorem windowWrite_frame (m : Master) (word : Nat) (high : Bool) (v : Word) (s : State) :
    (windowWrite m word high v s).pending = s.pending ∧
    (windowWrite m word high v s).fs = s.fs ∧
    (windowWrite m word high v s).scene = s.scene ∧
    (windowWrite m word high v s).jtag = s.jtag ∧
    (windowWrite m word high v s).boot = s.boot ∧
    (windowWrite m word high v s).period = s.period ∧
    (windowWrite m word high v s).pwr = s.pwr ∧
    (windowWrite m word high v s).scan = s.scan ∧
    (windowWrite m word high v s).lct = s.lct ∧
    (windowWrite m word high v s).tb = s.tb ∧
    (windowWrite m word high v s).tiles = s.tiles ∧
    (windowWrite m word high v s).handles = s.handles ∧
    (windowWrite m word high v s).mnt = s.mnt ∧
    (windowWrite m word high v s).comp = s.comp ∧
    (windowWrite m word high v s).thm = s.thm ∧
    (windowWrite m word high v s).gl = s.gl ∧
    (windowWrite m word high v s).lctc = s.lctc ∧
    (windowWrite m word high v s).wcapLevel = s.wcapLevel := by
  have h1 := windowWriteAt_frame m.val word high v s
  unfold windowWrite
  dsimp only
  repeat' split
  all_goals try (simp [answer_frame .., holdOrBusy_frame .., noteM0_frame .., violate_frame ..]; done)
  all_goals (rename_i h2; rw [h2] at h1; simp [answer_frame .., holdOrBusy_frame .., noteM0_frame .., violate_frame ..] at h1; simp [answer_frame .., holdOrBusy_frame .., noteM0_frame .., violate_frame .., h1])

theorem windowRead_frame (m : Master) (word : Nat) (high : Bool) (s : State) :
    (windowRead m word high s).pending = s.pending ∧
    (windowRead m word high s).fs = s.fs ∧
    (windowRead m word high s).scene = s.scene ∧
    (windowRead m word high s).jtag = s.jtag ∧
    (windowRead m word high s).boot = s.boot ∧
    (windowRead m word high s).period = s.period ∧
    (windowRead m word high s).pwr = s.pwr ∧
    (windowRead m word high s).scan = s.scan ∧
    (windowRead m word high s).lct = s.lct ∧
    (windowRead m word high s).tb = s.tb ∧
    (windowRead m word high s).tiles = s.tiles ∧
    (windowRead m word high s).handles = s.handles ∧
    (windowRead m word high s).dcx = s.dcx ∧
    (windowRead m word high s).mnt = s.mnt ∧
    (windowRead m word high s).comp = s.comp ∧
    (windowRead m word high s).thm = s.thm ∧
    (windowRead m word high s).gl = s.gl ∧
    (windowRead m word high s).link = s.link ∧
    (windowRead m word high s).lctc = s.lctc ∧
    (windowRead m word high s).wcapLevel = s.wcapLevel := by simp only [windowRead]; (repeat' split) <;> simp [answer_frame .., holdOrBusy_frame .., windowReadAt_frame ..]

theorem lockOut_frame (m p : Nat) (write : Bool) (s : State) :
    (lockOut m p write s).pending = s.pending ∧
    (lockOut m p write s).fs = s.fs ∧
    (lockOut m p write s).scene = s.scene ∧
    (lockOut m p write s).jtag = s.jtag ∧
    (lockOut m p write s).boot = s.boot ∧
    (lockOut m p write s).period = s.period ∧
    (lockOut m p write s).pwr = s.pwr ∧
    (lockOut m p write s).scan = s.scan ∧
    (lockOut m p write s).lct = s.lct ∧
    (lockOut m p write s).tb = s.tb ∧
    (lockOut m p write s).tiles = s.tiles ∧
    (lockOut m p write s).handles = s.handles ∧
    (lockOut m p write s).dcx = s.dcx ∧
    (lockOut m p write s).mnt = s.mnt ∧
    (lockOut m p write s).comp = s.comp ∧
    (lockOut m p write s).thm = s.thm ∧
    (lockOut m p write s).gl = s.gl ∧
    (lockOut m p write s).link = s.link ∧
    (lockOut m p write s).lctc = s.lctc ∧
    (lockOut m p write s).wcapLevel = s.wcapLevel := by simp [counterAdd_frame .., ozLog_frame .., raise_frame .., setRegBit_frame .., lockOut]

theorem effUnlKey_frame (m : Nat) (v : Word) (s : State) :
    (effUnlKey m v s).pending = s.pending ∧
    (effUnlKey m v s).fs = s.fs ∧
    (effUnlKey m v s).scene = s.scene ∧
    (effUnlKey m v s).jtag = s.jtag ∧
    (effUnlKey m v s).boot = s.boot ∧
    (effUnlKey m v s).period = s.period ∧
    (effUnlKey m v s).pwr = s.pwr ∧
    (effUnlKey m v s).scan = s.scan ∧
    (effUnlKey m v s).lct = s.lct ∧
    (effUnlKey m v s).tb = s.tb ∧
    (effUnlKey m v s).tiles = s.tiles ∧
    (effUnlKey m v s).handles = s.handles ∧
    (effUnlKey m v s).dcx = s.dcx ∧
    (effUnlKey m v s).mnt = s.mnt ∧
    (effUnlKey m v s).comp = s.comp ∧
    (effUnlKey m v s).thm = s.thm ∧
    (effUnlKey m v s).gl = s.gl ∧
    (effUnlKey m v s).link = s.link ∧
    (effUnlKey m v s).lctc = s.lctc ∧
    (effUnlKey m v s).wcapLevel = s.wcapLevel := by simp [lockOut_frame .., effUnlKey]

theorem effRelock_frame (m : Nat) (v : Word) (s : State) :
    (effRelock m v s).pending = s.pending ∧
    (effRelock m v s).fs = s.fs ∧
    (effRelock m v s).scene = s.scene ∧
    (effRelock m v s).jtag = s.jtag ∧
    (effRelock m v s).boot = s.boot ∧
    (effRelock m v s).period = s.period ∧
    (effRelock m v s).pwr = s.pwr ∧
    (effRelock m v s).scan = s.scan ∧
    (effRelock m v s).lct = s.lct ∧
    (effRelock m v s).tb = s.tb ∧
    (effRelock m v s).tiles = s.tiles ∧
    (effRelock m v s).handles = s.handles ∧
    (effRelock m v s).dcx = s.dcx ∧
    (effRelock m v s).mnt = s.mnt ∧
    (effRelock m v s).comp = s.comp ∧
    (effRelock m v s).thm = s.thm ∧
    (effRelock m v s).gl = s.gl ∧
    (effRelock m v s).link = s.link ∧
    (effRelock m v s).lctc = s.lctc ∧
    (effRelock m v s).msgq = s.msgq ∧
    (effRelock m v s).wcapLevel = s.wcapLevel := by simp [effRelock]

theorem endGrants_frame (m : Nat) (s : State) :
    (endGrants m s).pending = s.pending ∧
    (endGrants m s).fs = s.fs ∧
    (endGrants m s).scene = s.scene ∧
    (endGrants m s).jtag = s.jtag ∧
    (endGrants m s).boot = s.boot ∧
    (endGrants m s).period = s.period ∧
    (endGrants m s).pwr = s.pwr ∧
    (endGrants m s).scan = s.scan ∧
    (endGrants m s).lct = s.lct ∧
    (endGrants m s).tb = s.tb ∧
    (endGrants m s).tiles = s.tiles ∧
    (endGrants m s).handles = s.handles ∧
    (endGrants m s).dcx = s.dcx ∧
    (endGrants m s).mnt = s.mnt ∧
    (endGrants m s).comp = s.comp ∧
    (endGrants m s).thm = s.thm ∧
    (endGrants m s).gl = s.gl ∧
    (endGrants m s).link = s.link ∧
    (endGrants m s).lctc = s.lctc ∧
    (endGrants m s).msgq = s.msgq ∧
    (endGrants m s).wcapLevel = s.wcapLevel := by simp [endGrants]

theorem effCtrCmd_frame (v : Word) (s : State) :
    (effCtrCmd v s).pending = s.pending ∧
    (effCtrCmd v s).fs = s.fs ∧
    (effCtrCmd v s).scene = s.scene ∧
    (effCtrCmd v s).jtag = s.jtag ∧
    (effCtrCmd v s).boot = s.boot ∧
    (effCtrCmd v s).period = s.period ∧
    (effCtrCmd v s).pwr = s.pwr ∧
    (effCtrCmd v s).scan = s.scan ∧
    (effCtrCmd v s).lct = s.lct ∧
    (effCtrCmd v s).tb = s.tb ∧
    (effCtrCmd v s).tiles = s.tiles ∧
    (effCtrCmd v s).handles = s.handles ∧
    (effCtrCmd v s).dcx = s.dcx ∧
    (effCtrCmd v s).mnt = s.mnt ∧
    (effCtrCmd v s).comp = s.comp ∧
    (effCtrCmd v s).thm = s.thm ∧
    (effCtrCmd v s).gl = s.gl ∧
    (effCtrCmd v s).link = s.link ∧
    (effCtrCmd v s).lctc = s.lctc ∧
    (effCtrCmd v s).wcapLevel = s.wcapLevel := by simp [counterAdd_frame .., effCtrCmd]

end Sys2Proof.Machine
end

