-- ==== Sys2Proof/Laws/FrameImage.lean ====
section
/-!
SUPPORT. What each operation of Image.lean leaves unchanged.
-/
namespace Sys2Proof.Machine

theorem bootStore_frame (q : Nat × Word) (s : State) :
    (bootStore q s).pending = s.pending ∧
    (bootStore q s).fs = s.fs ∧
    (bootStore q s).scene = s.scene ∧
    (bootStore q s).jtag = s.jtag ∧
    (bootStore q s).boot = s.boot ∧
    (bootStore q s).period = s.period ∧
    (bootStore q s).pwr = s.pwr ∧
    (bootStore q s).scan = s.scan ∧
    (bootStore q s).lct = s.lct ∧
    (bootStore q s).tb = s.tb ∧
    (bootStore q s).tiles = s.tiles ∧
    (bootStore q s).handles = s.handles ∧
    (bootStore q s).dcx = s.dcx ∧
    (bootStore q s).mnt = s.mnt ∧
    (bootStore q s).comp = s.comp ∧
    (bootStore q s).thm = s.thm ∧
    (bootStore q s).gl = s.gl ∧
    (bootStore q s).link = s.link ∧
    (bootStore q s).ozd = s.ozd ∧
    (bootStore q s).lctc = s.lctc ∧
    (bootStore q s).msgq = s.msgq ∧
    (bootStore q s).wcapLevel = s.wcapLevel := by simp only [bootStore]; (repeat' split) <;> simp [setReg_frame ..]

end Sys2Proof.Machine
end

