-- ==== Sys2Proof/Laws/FrameReset.lean ====
section
/-!
SUPPORT. What each operation of Reset.lean leaves unchanged.
-/
set_option linter.unusedSimpArgs false
namespace Sys2Proof.Machine

theorem mirForget_frame (p : Nat → Bool) (s : State) :
    (mirForget p s).pending = s.pending ∧
    (mirForget p s).fs = s.fs ∧
    (mirForget p s).scene = s.scene ∧
    (mirForget p s).jtag = s.jtag ∧
    (mirForget p s).boot = s.boot ∧
    (mirForget p s).period = s.period ∧
    (mirForget p s).pwr = s.pwr ∧
    (mirForget p s).scan = s.scan ∧
    (mirForget p s).lct = s.lct ∧
    (mirForget p s).tb = s.tb ∧
    (mirForget p s).tiles = s.tiles ∧
    (mirForget p s).handles = s.handles ∧
    (mirForget p s).dcx = s.dcx ∧
    (mirForget p s).mnt = s.mnt ∧
    (mirForget p s).comp = s.comp ∧
    (mirForget p s).thm = s.thm ∧
    (mirForget p s).gl = s.gl ∧
    (mirForget p s).link = s.link ∧
    (mirForget p s).ozd = s.ozd ∧
    (mirForget p s).lctc = s.lctc ∧
    (mirForget p s).msgq = s.msgq ∧
    (mirForget p s).wcapLevel = s.wcapLevel := by simp [mirForget]

theorem linkForget_frame (s : State) :
    (linkForget s).pending = s.pending ∧
    (linkForget s).fs = s.fs ∧
    (linkForget s).scene = s.scene ∧
    (linkForget s).jtag = s.jtag ∧
    (linkForget s).boot = s.boot ∧
    (linkForget s).period = s.period ∧
    (linkForget s).pwr = s.pwr ∧
    (linkForget s).scan = s.scan ∧
    (linkForget s).lct = s.lct ∧
    (linkForget s).tb = s.tb ∧
    (linkForget s).tiles = s.tiles ∧
    (linkForget s).handles = s.handles ∧
    (linkForget s).mnt = s.mnt ∧
    (linkForget s).comp = s.comp ∧
    (linkForget s).thm = s.thm ∧
    (linkForget s).gl = s.gl ∧
    (linkForget s).ozd = s.ozd ∧
    (linkForget s).lctc = s.lctc ∧
    (linkForget s).wcapLevel = s.wcapLevel := by simp [putDcx_frame .., putMsgq_frame .., linkForget]

theorem laneRetrain_frame (l : Lane) (s : State) :
    (laneRetrain l s).pending = s.pending ∧
    (laneRetrain l s).fs = s.fs ∧
    (laneRetrain l s).scene = s.scene ∧
    (laneRetrain l s).jtag = s.jtag ∧
    (laneRetrain l s).boot = s.boot ∧
    (laneRetrain l s).period = s.period ∧
    (laneRetrain l s).pwr = s.pwr ∧
    (laneRetrain l s).scan = s.scan ∧
    (laneRetrain l s).lct = s.lct ∧
    (laneRetrain l s).tb = s.tb ∧
    (laneRetrain l s).tiles = s.tiles ∧
    (laneRetrain l s).handles = s.handles ∧
    (laneRetrain l s).dcx = s.dcx ∧
    (laneRetrain l s).mnt = s.mnt ∧
    (laneRetrain l s).comp = s.comp ∧
    (laneRetrain l s).gl = s.gl ∧
    (laneRetrain l s).link = s.link ∧
    (laneRetrain l s).ozd = s.ozd ∧
    (laneRetrain l s).lctc = s.lctc ∧
    (laneRetrain l s).msgq = s.msgq ∧
    (laneRetrain l s).wcapLevel = s.wcapLevel := by simp [putAux_frame .., setLaneRole_frame .., startTrain_frame .., takeTransmit_frame .., laneRetrain]

theorem linkReset_frame (s : State) :
    (linkReset s).pending = s.pending ∧
    (linkReset s).fs = s.fs ∧
    (linkReset s).scene = s.scene ∧
    (linkReset s).jtag = s.jtag ∧
    (linkReset s).boot = s.boot ∧
    (linkReset s).period = s.period ∧
    (linkReset s).pwr = s.pwr ∧
    (linkReset s).scan = s.scan ∧
    (linkReset s).lct = s.lct ∧
    (linkReset s).tb = s.tb ∧
    (linkReset s).tiles = s.tiles ∧
    (linkReset s).handles = s.handles ∧
    (linkReset s).mnt = s.mnt ∧
    (linkReset s).comp = s.comp ∧
    (linkReset s).gl = s.gl ∧
    (linkReset s).ozd = s.ozd ∧
    (linkReset s).lctc = s.lctc ∧
    (linkReset s).wcapLevel = s.wcapLevel := by simp [abortMirror_frame .., bumpSat_frame .., laneRetrain_frame .., linkForget_frame .., mirForget_frame .., raise_frame .., setRegN_frame .., linkReset]

theorem masterReset_frame (k : Nat) (s : State) :
    (masterReset k s).pending = s.pending ∧
    (masterReset k s).fs = s.fs ∧
    (masterReset k s).scene = s.scene ∧
    (masterReset k s).jtag = s.jtag ∧
    (masterReset k s).boot = s.boot ∧
    (masterReset k s).period = s.period ∧
    (masterReset k s).pwr = s.pwr ∧
    (masterReset k s).scan = s.scan ∧
    (masterReset k s).lct = s.lct ∧
    (masterReset k s).tb = s.tb ∧
    (masterReset k s).tiles = s.tiles ∧
    (masterReset k s).handles = s.handles ∧
    (masterReset k s).mnt = s.mnt ∧
    (masterReset k s).comp = s.comp ∧
    (masterReset k s).thm = s.thm ∧
    (masterReset k s).gl = s.gl ∧
    (masterReset k s).lctc = s.lctc ∧
    (masterReset k s).wcapLevel = s.wcapLevel := by simp [abortMirror_frame .., endGrants_frame .., mirForget_frame .., putDcx_frame .., putMsgq_frame .., setRegBit_frame .., setRegN_frame .., updateInitAll_frame .., masterReset]

theorem blockRegs_frame (p : Nat) (s : State) :
    (blockRegs p s).pending = s.pending ∧
    (blockRegs p s).fs = s.fs ∧
    (blockRegs p s).scene = s.scene ∧
    (blockRegs p s).jtag = s.jtag ∧
    (blockRegs p s).boot = s.boot ∧
    (blockRegs p s).period = s.period ∧
    (blockRegs p s).pwr = s.pwr ∧
    (blockRegs p s).scan = s.scan ∧
    (blockRegs p s).lct = s.lct ∧
    (blockRegs p s).tb = s.tb ∧
    (blockRegs p s).tiles = s.tiles ∧
    (blockRegs p s).handles = s.handles ∧
    (blockRegs p s).dcx = s.dcx ∧
    (blockRegs p s).mnt = s.mnt ∧
    (blockRegs p s).comp = s.comp ∧
    (blockRegs p s).thm = s.thm ∧
    (blockRegs p s).gl = s.gl ∧
    (blockRegs p s).link = s.link ∧
    (blockRegs p s).ozd = s.ozd ∧
    (blockRegs p s).lctc = s.lctc ∧
    (blockRegs p s).msgq = s.msgq ∧
    (blockRegs p s).wcapLevel = s.wcapLevel := by
  unfold blockRegs
  exact foldl_inv (fun q => q.pending = s.pending ∧ q.fs = s.fs ∧ q.scene = s.scene ∧ q.jtag = s.jtag ∧ q.boot = s.boot ∧ q.period = s.period ∧ q.pwr = s.pwr ∧ q.scan = s.scan ∧ q.lct = s.lct ∧ q.tb = s.tb ∧ q.tiles = s.tiles ∧ q.handles = s.handles ∧ q.dcx = s.dcx ∧ q.mnt = s.mnt ∧ q.comp = s.comp ∧ q.thm = s.thm ∧ q.gl = s.gl ∧ q.link = s.link ∧ q.ozd = s.ozd ∧ q.lctc = s.lctc ∧ q.msgq = s.msgq ∧ q.wcapLevel = s.wcapLevel) _
    (by intro q x h; (repeat' split) <;> simp_all [bootStore_frame ..]) _ _ (by simp [bootStore_frame ..])

theorem clearTab_frame (t : Nat) (s : State) :
    (clearTab t s).pending = s.pending ∧
    (clearTab t s).fs = s.fs ∧
    (clearTab t s).scene = s.scene ∧
    (clearTab t s).jtag = s.jtag ∧
    (clearTab t s).boot = s.boot ∧
    (clearTab t s).period = s.period ∧
    (clearTab t s).pwr = s.pwr ∧
    (clearTab t s).scan = s.scan ∧
    (clearTab t s).lct = s.lct ∧
    (clearTab t s).tb = s.tb ∧
    (clearTab t s).tiles = s.tiles ∧
    (clearTab t s).handles = s.handles ∧
    (clearTab t s).dcx = s.dcx ∧
    (clearTab t s).mnt = s.mnt ∧
    (clearTab t s).comp = s.comp ∧
    (clearTab t s).thm = s.thm ∧
    (clearTab t s).gl = s.gl ∧
    (clearTab t s).link = s.link ∧
    (clearTab t s).ozd = s.ozd ∧
    (clearTab t s).lctc = s.lctc ∧
    (clearTab t s).msgq = s.msgq ∧
    (clearTab t s).wcapLevel = s.wcapLevel := by simp [clearTab]

theorem applyLedset_frame (s : State) :
    (applyLedset s).pending = s.pending ∧
    (applyLedset s).fs = s.fs ∧
    (applyLedset s).scene = s.scene ∧
    (applyLedset s).jtag = s.jtag ∧
    (applyLedset s).boot = s.boot ∧
    (applyLedset s).period = s.period ∧
    (applyLedset s).pwr = s.pwr ∧
    (applyLedset s).scan = s.scan ∧
    (applyLedset s).lct = s.lct ∧
    (applyLedset s).tb = s.tb ∧
    (applyLedset s).tiles = s.tiles ∧
    (applyLedset s).handles = s.handles ∧
    (applyLedset s).dcx = s.dcx ∧
    (applyLedset s).mnt = s.mnt ∧
    (applyLedset s).comp = s.comp ∧
    (applyLedset s).thm = s.thm ∧
    (applyLedset s).gl = s.gl ∧
    (applyLedset s).link = s.link ∧
    (applyLedset s).ozd = s.ozd ∧
    (applyLedset s).lctc = s.lctc ∧
    (applyLedset s).msgq = s.msgq ∧
    (applyLedset s).wcapLevel = s.wcapLevel := by simp only [applyLedset]; (repeat' split) <;> simp [setTab_frame ..]

theorem clearLanes_frame (l : List Lane) (s : State) :
    (clearLanes l s).pending = s.pending ∧
    (clearLanes l s).fs = s.fs ∧
    (clearLanes l s).scene = s.scene ∧
    (clearLanes l s).jtag = s.jtag ∧
    (clearLanes l s).boot = s.boot ∧
    (clearLanes l s).period = s.period ∧
    (clearLanes l s).pwr = s.pwr ∧
    (clearLanes l s).scan = s.scan ∧
    (clearLanes l s).lct = s.lct ∧
    (clearLanes l s).tb = s.tb ∧
    (clearLanes l s).tiles = s.tiles ∧
    (clearLanes l s).handles = s.handles ∧
    (clearLanes l s).dcx = s.dcx ∧
    (clearLanes l s).mnt = s.mnt ∧
    (clearLanes l s).comp = s.comp ∧
    (clearLanes l s).thm = s.thm ∧
    (clearLanes l s).gl = s.gl ∧
    (clearLanes l s).link = s.link ∧
    (clearLanes l s).ozd = s.ozd ∧
    (clearLanes l s).lctc = s.lctc ∧
    (clearLanes l s).msgq = s.msgq ∧
    (clearLanes l s).wcapLevel = s.wcapLevel := by simp [putAux_frame .., clearLanes]

theorem dropFrame_frame (s : State) :
    (dropFrame s).pending = s.pending ∧
    (dropFrame s).fs = s.fs ∧
    (dropFrame s).scene = s.scene ∧
    (dropFrame s).jtag = s.jtag ∧
    (dropFrame s).boot = s.boot ∧
    (dropFrame s).period = s.period ∧
    (dropFrame s).pwr = s.pwr ∧
    (dropFrame s).scan = s.scan ∧
    (dropFrame s).lct = s.lct ∧
    (dropFrame s).tb = s.tb ∧
    (dropFrame s).tiles = s.tiles ∧
    (dropFrame s).handles = s.handles ∧
    (dropFrame s).dcx = s.dcx ∧
    (dropFrame s).mnt = s.mnt ∧
    (dropFrame s).thm = s.thm ∧
    (dropFrame s).gl = s.gl ∧
    (dropFrame s).link = s.link ∧
    (dropFrame s).ozd = s.ozd ∧
    (dropFrame s).lctc = s.lctc ∧
    (dropFrame s).msgq = s.msgq ∧
    (dropFrame s).wcapLevel = s.wcapLevel := by simp [setComp_frame .., dropFrame]

theorem clearContexts_frame (s : State) :
    (clearContexts s).pending = s.pending ∧
    (clearContexts s).fs = s.fs ∧
    (clearContexts s).scene = s.scene ∧
    (clearContexts s).jtag = s.jtag ∧
    (clearContexts s).boot = s.boot ∧
    (clearContexts s).period = s.period ∧
    (clearContexts s).pwr = s.pwr ∧
    (clearContexts s).scan = s.scan ∧
    (clearContexts s).lct = s.lct ∧
    (clearContexts s).tb = s.tb ∧
    (clearContexts s).tiles = s.tiles ∧
    (clearContexts s).handles = s.handles ∧
    (clearContexts s).mnt = s.mnt ∧
    (clearContexts s).comp = s.comp ∧
    (clearContexts s).thm = s.thm ∧
    (clearContexts s).gl = s.gl ∧
    (clearContexts s).link = s.link ∧
    (clearContexts s).ozd = s.ozd ∧
    (clearContexts s).lctc = s.lctc ∧
    (clearContexts s).msgq = s.msgq ∧
    (clearContexts s).wcapLevel = s.wcapLevel := by simp [setRegFld_frame .., clearContexts]

theorem clearMem_frame (sys : MemSys) (s : State) :
    (clearMem sys s).pending = s.pending ∧
    (clearMem sys s).fs = s.fs ∧
    (clearMem sys s).scene = s.scene ∧
    (clearMem sys s).jtag = s.jtag ∧
    (clearMem sys s).boot = s.boot ∧
    (clearMem sys s).period = s.period ∧
    (clearMem sys s).pwr = s.pwr ∧
    (clearMem sys s).scan = s.scan ∧
    (clearMem sys s).lct = s.lct ∧
    (clearMem sys s).tb = s.tb ∧
    (clearMem sys s).tiles = s.tiles ∧
    (clearMem sys s).handles = s.handles ∧
    (clearMem sys s).dcx = s.dcx ∧
    (clearMem sys s).mnt = s.mnt ∧
    (clearMem sys s).comp = s.comp ∧
    (clearMem sys s).thm = s.thm ∧
    (clearMem sys s).gl = s.gl ∧
    (clearMem sys s).link = s.link ∧
    (clearMem sys s).ozd = s.ozd ∧
    (clearMem sys s).lctc = s.lctc ∧
    (clearMem sys s).msgq = s.msgq ∧
    (clearMem sys s).wcapLevel = s.wcapLevel := by simp only [clearMem]; (repeat' split) <;> simp [loadNrr_frame .., putDram_frame ..]

theorem unitReset_frame (p : Nat) (s : State) :
    (unitReset p s).pending = s.pending ∧
    (unitReset p s).fs = s.fs ∧
    (unitReset p s).scene = s.scene ∧
    (unitReset p s).jtag = s.jtag ∧
    (unitReset p s).boot = s.boot ∧
    (unitReset p s).period = s.period ∧
    (unitReset p s).lct = s.lct := by simp [applyLedset_frame .., assignShadows_frame .., auditRestart_frame .., clearContexts_frame .., clearLanes_frame .., clearMem_frame .., clearTab_frame .., dcxPark_frame .., dropFrame_frame .., linkReset_frame .., putEth_frame .., putMsgq_frame .., putTile_frame .., setScan_frame .., unitReset]

theorem scanReset_frame (s t : State) :
    (scanReset s t).pending = t.pending ∧
    (scanReset s t).fs = t.fs ∧
    (scanReset s t).scene = t.scene ∧
    (scanReset s t).jtag = t.jtag ∧
    (scanReset s t).boot = t.boot ∧
    (scanReset s t).period = t.period ∧
    (scanReset s t).pwr = t.pwr ∧
    (scanReset s t).lct = t.lct ∧
    (scanReset s t).tb = t.tb ∧
    (scanReset s t).tiles = t.tiles ∧
    (scanReset s t).handles = t.handles ∧
    (scanReset s t).dcx = t.dcx ∧
    (scanReset s t).mnt = t.mnt ∧
    (scanReset s t).comp = t.comp ∧
    (scanReset s t).thm = t.thm ∧
    (scanReset s t).link = t.link ∧
    (scanReset s t).ozd = t.ozd ∧
    (scanReset s t).lctc = t.lctc ∧
    (scanReset s t).msgq = t.msgq ∧
    (scanReset s t).wcapLevel = t.wcapLevel := by simp [setRegFld_frame .., setScanState_frame .., trigRate_frame .., scanReset]

theorem blockReset_frame (p : Nat) (s : State) :
    (blockReset p s).pending = s.pending ∧
    (blockReset p s).fs = s.fs ∧
    (blockReset p s).scene = s.scene ∧
    (blockReset p s).jtag = s.jtag ∧
    (blockReset p s).boot = s.boot ∧
    (blockReset p s).period = s.period ∧
    (blockReset p s).lct = s.lct := by simp [blockRegs_frame .., scanReset_frame .., setRegFld_frame .., unitReset_frame .., blockReset]

theorem askBlockReset_frame (p : Nat) (s : State) :
    (askBlockReset p s).pending = s.pending ∧
    (askBlockReset p s).fs = s.fs ∧
    (askBlockReset p s).scene = s.scene ∧
    (askBlockReset p s).jtag = s.jtag ∧
    (askBlockReset p s).boot = s.boot ∧
    (askBlockReset p s).period = s.period ∧
    (askBlockReset p s).lct = s.lct := by simp [blockReset_frame .., askBlockReset]

theorem effPageCtl_frame (p : Nat) (v : Word) (s : State) :
    (effPageCtl p v s).pending = s.pending ∧
    (effPageCtl p v s).fs = s.fs ∧
    (effPageCtl p v s).scene = s.scene ∧
    (effPageCtl p v s).jtag = s.jtag ∧
    (effPageCtl p v s).boot = s.boot ∧
    (effPageCtl p v s).period = s.period ∧
    (effPageCtl p v s).lct = s.lct := by simp [askBlockReset_frame .., setReg_frame .., effPageCtl]

@[simp] theorem kept_frame (s : State) :
    (kept s).pending = s.pending := by simp [kept]

@[simp] theorem powerOnReset_frame (s : State) :
    (powerOnReset s).pending = s.pending := by simp [kept_frame .., ozCut_frame .., powerOnReset]

theorem keepMem_frame (s : State) (fsOk smOk : Bool) (t : State) :
    (keepMem s fsOk smOk t).pending = t.pending ∧
    (keepMem s fsOk smOk t).jtag = t.jtag ∧
    (keepMem s fsOk smOk t).boot = t.boot ∧
    (keepMem s fsOk smOk t).period = t.period ∧
    (keepMem s fsOk smOk t).pwr = t.pwr ∧
    (keepMem s fsOk smOk t).scan = t.scan ∧
    (keepMem s fsOk smOk t).lct = t.lct ∧
    (keepMem s fsOk smOk t).tb = t.tb ∧
    (keepMem s fsOk smOk t).tiles = t.tiles ∧
    (keepMem s fsOk smOk t).handles = t.handles ∧
    (keepMem s fsOk smOk t).dcx = t.dcx ∧
    (keepMem s fsOk smOk t).mnt = t.mnt ∧
    (keepMem s fsOk smOk t).comp = t.comp ∧
    (keepMem s fsOk smOk t).thm = t.thm ∧
    (keepMem s fsOk smOk t).gl = t.gl ∧
    (keepMem s fsOk smOk t).link = t.link ∧
    (keepMem s fsOk smOk t).ozd = t.ozd ∧
    (keepMem s fsOk smOk t).lctc = t.lctc ∧
    (keepMem s fsOk smOk t).msgq = t.msgq ∧
    (keepMem s fsOk smOk t).wcapLevel = t.wcapLevel := by simp [setUnverified_frame .., keepMem]

@[simp] theorem warmReset_frame (kind ctr : Nat) (supply : Bool) (s : State) :
    (warmReset kind ctr supply s).pending = s.pending := by simp [keepMem_frame .., kept_frame .., ozFinish_frame .., setReg_frame .., setRegFld_frame .., warmReset]

@[simp] theorem chipReset_frame (m : Nat) (s : State) :
    (chipReset m s).pending = s.pending := by simp [chipReset]

@[simp] theorem effChip_frame (m : Nat) (v : Word) (s : State) :
    (effChip m v s).pending = s.pending := by simp [effChip]

theorem effMaster_frame (v : Word) (s : State) :
    (effMaster v s).pending = s.pending ∧
    (effMaster v s).fs = s.fs ∧
    (effMaster v s).scene = s.scene ∧
    (effMaster v s).jtag = s.jtag ∧
    (effMaster v s).boot = s.boot ∧
    (effMaster v s).period = s.period ∧
    (effMaster v s).pwr = s.pwr ∧
    (effMaster v s).scan = s.scan ∧
    (effMaster v s).lct = s.lct ∧
    (effMaster v s).tb = s.tb ∧
    (effMaster v s).tiles = s.tiles ∧
    (effMaster v s).handles = s.handles ∧
    (effMaster v s).mnt = s.mnt ∧
    (effMaster v s).comp = s.comp ∧
    (effMaster v s).thm = s.thm ∧
    (effMaster v s).gl = s.gl ∧
    (effMaster v s).lctc = s.lctc ∧
    (effMaster v s).wcapLevel = s.wcapLevel := by simp [masterReset_frame .., effMaster]

@[simp] theorem writeSysRst_frame (m : Master) (v : Word) (s : State) :
    (writeSysRst m v s).pending = s.pending := by simp [effMaster_frame .., writeSysRst]

end Sys2Proof.Machine
end

