-- ==== Sys2Proof/Laws/FramePower.lean ====
section
/-!
SUPPORT. What each operation of Power.lean leaves unchanged.
-/
namespace Sys2Proof.Machine

theorem setPwr_frame (p : Power) (s : State) :
    (setPwr p s).pending = s.pending ∧
    (setPwr p s).fs = s.fs ∧
    (setPwr p s).scene = s.scene ∧
    (setPwr p s).jtag = s.jtag ∧
    (setPwr p s).boot = s.boot ∧
    (setPwr p s).period = s.period ∧
    (setPwr p s).scan = s.scan ∧
    (setPwr p s).lct = s.lct ∧
    (setPwr p s).tb = s.tb ∧
    (setPwr p s).tiles = s.tiles ∧
    (setPwr p s).handles = s.handles ∧
    (setPwr p s).dcx = s.dcx ∧
    (setPwr p s).mnt = s.mnt ∧
    (setPwr p s).comp = s.comp ∧
    (setPwr p s).thm = s.thm ∧
    (setPwr p s).gl = s.gl ∧
    (setPwr p s).link = s.link ∧
    (setPwr p s).ozd = s.ozd ∧
    (setPwr p s).lctc = s.lctc ∧
    (setPwr p s).msgq = s.msgq ∧
    (setPwr p s).wcapLevel = s.wcapLevel := by simp [setPwr]

theorem effPwrReq_frame (v : Word) (s : State) :
    (effPwrReq v s).pending = s.pending ∧
    (effPwrReq v s).fs = s.fs ∧
    (effPwrReq v s).scene = s.scene ∧
    (effPwrReq v s).jtag = s.jtag ∧
    (effPwrReq v s).boot = s.boot ∧
    (effPwrReq v s).period = s.period ∧
    (effPwrReq v s).scan = s.scan ∧
    (effPwrReq v s).lct = s.lct ∧
    (effPwrReq v s).tb = s.tb ∧
    (effPwrReq v s).tiles = s.tiles ∧
    (effPwrReq v s).handles = s.handles ∧
    (effPwrReq v s).dcx = s.dcx ∧
    (effPwrReq v s).mnt = s.mnt ∧
    (effPwrReq v s).comp = s.comp ∧
    (effPwrReq v s).thm = s.thm ∧
    (effPwrReq v s).gl = s.gl ∧
    (effPwrReq v s).link = s.link ∧
    (effPwrReq v s).ozd = s.ozd ∧
    (effPwrReq v s).lctc = s.lctc ∧
    (effPwrReq v s).msgq = s.msgq ∧
    (effPwrReq v s).wcapLevel = s.wcapLevel := by simp [setPwr_frame .., setReg_frame .., effPwrReq]

theorem changeState_frame (new : PState) (src : Nat) (s : State) :
    (changeState new src s).pending = s.pending ∧
    (changeState new src s).fs = s.fs ∧
    (changeState new src s).scene = s.scene ∧
    (changeState new src s).jtag = s.jtag ∧
    (changeState new src s).boot = s.boot ∧
    (changeState new src s).period = s.period ∧
    (changeState new src s).scan = s.scan ∧
    (changeState new src s).lct = s.lct ∧
    (changeState new src s).tb = s.tb ∧
    (changeState new src s).tiles = s.tiles ∧
    (changeState new src s).handles = s.handles ∧
    (changeState new src s).dcx = s.dcx ∧
    (changeState new src s).mnt = s.mnt ∧
    (changeState new src s).comp = s.comp ∧
    (changeState new src s).thm = s.thm ∧
    (changeState new src s).gl = s.gl ∧
    (changeState new src s).link = s.link ∧
    (changeState new src s).ozd = s.ozd ∧
    (changeState new src s).lctc = s.lctc ∧
    (changeState new src s).wcapLevel = s.wcapLevel := by simp [raise_frame .., setPwr_frame .., changeState]

theorem abortForNight_frame (q : MntReq) (s : State) :
    (abortForNight q s).pending = s.pending ∧
    (abortForNight q s).fs = s.fs ∧
    (abortForNight q s).scene = s.scene ∧
    (abortForNight q s).jtag = s.jtag ∧
    (abortForNight q s).boot = s.boot ∧
    (abortForNight q s).period = s.period ∧
    (abortForNight q s).pwr = s.pwr ∧
    (abortForNight q s).scan = s.scan ∧
    (abortForNight q s).lct = s.lct ∧
    (abortForNight q s).tb = s.tb ∧
    (abortForNight q s).tiles = s.tiles ∧
    (abortForNight q s).handles = s.handles ∧
    (abortForNight q s).dcx = s.dcx ∧
    (abortForNight q s).comp = s.comp ∧
    (abortForNight q s).gl = s.gl ∧
    (abortForNight q s).link = s.link ∧
    (abortForNight q s).ozd = s.ozd ∧
    (abortForNight q s).lctc = s.lctc ∧
    (abortForNight q s).wcapLevel = s.wcapLevel := by simp [giveBack_frame .., laneEvent_frame .., mntAbort_frame .., putDram_frame .., abortForNight]

theorem abortsForNight_frame (s : State) :
    (abortsForNight s).pending = s.pending ∧
    (abortsForNight s).fs = s.fs ∧
    (abortsForNight s).scene = s.scene ∧
    (abortsForNight s).jtag = s.jtag ∧
    (abortsForNight s).boot = s.boot ∧
    (abortsForNight s).period = s.period ∧
    (abortsForNight s).pwr = s.pwr ∧
    (abortsForNight s).scan = s.scan ∧
    (abortsForNight s).lct = s.lct ∧
    (abortsForNight s).tb = s.tb ∧
    (abortsForNight s).tiles = s.tiles ∧
    (abortsForNight s).handles = s.handles ∧
    (abortsForNight s).dcx = s.dcx ∧
    (abortsForNight s).comp = s.comp ∧
    (abortsForNight s).gl = s.gl ∧
    (abortsForNight s).link = s.link ∧
    (abortsForNight s).ozd = s.ozd ∧
    (abortsForNight s).lctc = s.lctc ∧
    (abortsForNight s).wcapLevel = s.wcapLevel := by simp [abortForNight_frame .., abortsForNight]

theorem darkHostLanes_frame (s : State) :
    (darkHostLanes s).pending = s.pending ∧
    (darkHostLanes s).fs = s.fs ∧
    (darkHostLanes s).scene = s.scene ∧
    (darkHostLanes s).jtag = s.jtag ∧
    (darkHostLanes s).boot = s.boot ∧
    (darkHostLanes s).period = s.period ∧
    (darkHostLanes s).pwr = s.pwr ∧
    (darkHostLanes s).scan = s.scan ∧
    (darkHostLanes s).lct = s.lct ∧
    (darkHostLanes s).tb = s.tb ∧
    (darkHostLanes s).tiles = s.tiles ∧
    (darkHostLanes s).handles = s.handles ∧
    (darkHostLanes s).dcx = s.dcx ∧
    (darkHostLanes s).mnt = s.mnt ∧
    (darkHostLanes s).comp = s.comp ∧
    (darkHostLanes s).thm = s.thm ∧
    (darkHostLanes s).gl = s.gl ∧
    (darkHostLanes s).link = s.link ∧
    (darkHostLanes s).ozd = s.ozd ∧
    (darkHostLanes s).lctc = s.lctc ∧
    (darkHostLanes s).msgq = s.msgq ∧
    (darkHostLanes s).wcapLevel = s.wcapLevel := by simp [setLaneState_frame .., darkHostLanes]

theorem nightFall_frame (s : State) :
    (nightFall s).pending = s.pending ∧
    (nightFall s).fs = s.fs ∧
    (nightFall s).scene = s.scene ∧
    (nightFall s).jtag = s.jtag ∧
    (nightFall s).boot = s.boot ∧
    (nightFall s).period = s.period ∧
    (nightFall s).lct = s.lct ∧
    (nightFall s).tb = s.tb ∧
    (nightFall s).handles = s.handles ∧
    (nightFall s).comp = s.comp ∧
    (nightFall s).ozd = s.ozd ∧
    (nightFall s).lctc = s.lctc ∧
    (nightFall s).wcapLevel = s.wcapLevel := by simp [abortsForNight_frame .., changeState_frame .., darkHostLanes_frame .., enterSrAll_frame .., linkReset_frame .., seedTicks_frame .., setPwr_frame .., setRegFld_frame .., setScan_frame .., tellTimes_frame .., trigRate_frame .., nightFall]

theorem nightEnd_frame (s : State) :
    (nightEnd s).pending = s.pending ∧
    (nightEnd s).fs = s.fs ∧
    (nightEnd s).scene = s.scene ∧
    (nightEnd s).jtag = s.jtag ∧
    (nightEnd s).boot = s.boot ∧
    (nightEnd s).period = s.period ∧
    (nightEnd s).lct = s.lct ∧
    (nightEnd s).tb = s.tb ∧
    (nightEnd s).handles = s.handles ∧
    (nightEnd s).mnt = s.mnt ∧
    (nightEnd s).comp = s.comp ∧
    (nightEnd s).ozd = s.ozd ∧
    (nightEnd s).lctc = s.lctc ∧
    (nightEnd s).wcapLevel = s.wcapLevel := by simp [changeState_frame .., exitSrAll_frame .., linkReset_frame .., seedTicks_frame .., setPwr_frame .., setRegFld_frame .., setScan_frame .., setScanState_frame .., tellTimes_frame .., trigRate_frame .., nightEnd]

theorem powerChange_frame (s : State) :
    (powerChange s).pending = s.pending ∧
    (powerChange s).jtag = s.jtag ∧
    (powerChange s).boot = s.boot ∧
    (powerChange s).tb = s.tb ∧
    (powerChange s).handles = s.handles ∧
    (powerChange s).wcapLevel = s.wcapLevel := by simp only [powerChange]; (repeat' split) <;> simp [enterMidnight_frame .., nightEnd_frame .., nightFall_frame .., writeLives_frame ..]

theorem noteWake_frame (src : Nat) (s : State) :
    (noteWake src s).pending = s.pending ∧
    (noteWake src s).fs = s.fs ∧
    (noteWake src s).scene = s.scene ∧
    (noteWake src s).jtag = s.jtag ∧
    (noteWake src s).boot = s.boot ∧
    (noteWake src s).period = s.period ∧
    (noteWake src s).pwr = s.pwr ∧
    (noteWake src s).scan = s.scan ∧
    (noteWake src s).lct = s.lct ∧
    (noteWake src s).tb = s.tb ∧
    (noteWake src s).tiles = s.tiles ∧
    (noteWake src s).handles = s.handles ∧
    (noteWake src s).dcx = s.dcx ∧
    (noteWake src s).mnt = s.mnt ∧
    (noteWake src s).comp = s.comp ∧
    (noteWake src s).thm = s.thm ∧
    (noteWake src s).gl = s.gl ∧
    (noteWake src s).link = s.link ∧
    (noteWake src s).ozd = s.ozd ∧
    (noteWake src s).lctc = s.lctc ∧
    (noteWake src s).msgq = s.msgq ∧
    (noteWake src s).wcapLevel = s.wcapLevel := by simp [setRegFld_frame .., noteWake]

@[simp] theorem wake_frame (src : Fin 3) (s : State) :
    (wake src s).pending = s.pending := by simp [noteWake_frame .., setPwr_frame .., wake]

theorem supplyWarning_frame (rail : Fin 8) (below : Bool) (mv : Nat) (s : State) :
    (supplyWarning rail below mv s).pending = s.pending ∧
    (supplyWarning rail below mv s).fs = s.fs ∧
    (supplyWarning rail below mv s).scene = s.scene ∧
    (supplyWarning rail below mv s).jtag = s.jtag ∧
    (supplyWarning rail below mv s).boot = s.boot ∧
    (supplyWarning rail below mv s).period = s.period ∧
    (supplyWarning rail below mv s).scan = s.scan ∧
    (supplyWarning rail below mv s).lct = s.lct ∧
    (supplyWarning rail below mv s).tb = s.tb ∧
    (supplyWarning rail below mv s).tiles = s.tiles ∧
    (supplyWarning rail below mv s).handles = s.handles ∧
    (supplyWarning rail below mv s).dcx = s.dcx ∧
    (supplyWarning rail below mv s).mnt = s.mnt ∧
    (supplyWarning rail below mv s).comp = s.comp ∧
    (supplyWarning rail below mv s).thm = s.thm ∧
    (supplyWarning rail below mv s).gl = s.gl ∧
    (supplyWarning rail below mv s).link = s.link ∧
    (supplyWarning rail below mv s).ozd = s.ozd ∧
    (supplyWarning rail below mv s).lctc = s.lctc ∧
    (supplyWarning rail below mv s).wcapLevel = s.wcapLevel := by simp [raise_frame .., setPwr_frame .., setRegBit_frame .., supplyWarning]

@[simp] theorem heldResets_frame (s : State) :
    (heldResets s).pending = s.pending := by simp only [heldResets]; (repeat' split) <;> simp [blockReset_frame .., setPwr_frame ..]

@[simp] theorem dipRecovered_frame (d : Dip) (minMv durUs : Nat) (s : State) :
    (dipRecovered d minMv durUs s).pending = s.pending := by simp [bumpSat_frame .., counterAdd_frame .., ozFlush_frame .., ozLog_frame .., raise_frame .., setPwr_frame .., setRegN_frame .., dipRecovered]

end Sys2Proof.Machine
end

