-- ==== Sys2Proof/Laws/FramePeriod.lean ====
section
/-!
SUPPORT. What each operation of Period.lean leaves unchanged.
-/
set_option linter.unusedSimpArgs false
namespace Sys2Proof.Machine

theorem setPeriod_frame (p : Period) (s : State) :
    (setPeriod p s).pending = s.pending ∧
    (setPeriod p s).fs = s.fs ∧
    (setPeriod p s).scene = s.scene ∧
    (setPeriod p s).jtag = s.jtag ∧
    (setPeriod p s).boot = s.boot ∧
    (setPeriod p s).pwr = s.pwr ∧
    (setPeriod p s).scan = s.scan ∧
    (setPeriod p s).lct = s.lct ∧
    (setPeriod p s).tb = s.tb ∧
    (setPeriod p s).tiles = s.tiles ∧
    (setPeriod p s).handles = s.handles ∧
    (setPeriod p s).dcx = s.dcx ∧
    (setPeriod p s).mnt = s.mnt ∧
    (setPeriod p s).comp = s.comp ∧
    (setPeriod p s).thm = s.thm ∧
    (setPeriod p s).gl = s.gl ∧
    (setPeriod p s).link = s.link ∧
    (setPeriod p s).ozd = s.ozd ∧
    (setPeriod p s).lctc = s.lctc ∧
    (setPeriod p s).msgq = s.msgq ∧
    (setPeriod p s).wcapLevel = s.wcapLevel := by simp [setPeriod]

theorem storeBudget_frame (nr : List Nat) (s : State) :
    (storeBudget nr s).pending = s.pending ∧
    (storeBudget nr s).fs = s.fs ∧
    (storeBudget nr s).scene = s.scene ∧
    (storeBudget nr s).jtag = s.jtag ∧
    (storeBudget nr s).boot = s.boot ∧
    (storeBudget nr s).period = s.period ∧
    (storeBudget nr s).pwr = s.pwr ∧
    (storeBudget nr s).scan = s.scan ∧
    (storeBudget nr s).lct = s.lct ∧
    (storeBudget nr s).tb = s.tb ∧
    (storeBudget nr s).tiles = s.tiles ∧
    (storeBudget nr s).handles = s.handles ∧
    (storeBudget nr s).dcx = s.dcx ∧
    (storeBudget nr s).mnt = s.mnt ∧
    (storeBudget nr s).comp = s.comp ∧
    (storeBudget nr s).thm = s.thm ∧
    (storeBudget nr s).gl = s.gl ∧
    (storeBudget nr s).link = s.link ∧
    (storeBudget nr s).ozd = s.ozd ∧
    (storeBudget nr s).lctc = s.lctc ∧
    (storeBudget nr s).msgq = s.msgq ∧
    (storeBudget nr s).wcapLevel = s.wcapLevel := by simp [setRegN_frame .., storeBudget]

theorem swapRegs_frame (s : State) :
    (swapRegs s).pending = s.pending ∧
    (swapRegs s).fs = s.fs ∧
    (swapRegs s).scene = s.scene ∧
    (swapRegs s).jtag = s.jtag ∧
    (swapRegs s).boot = s.boot ∧
    (swapRegs s).period = s.period ∧
    (swapRegs s).pwr = s.pwr ∧
    (swapRegs s).scan = s.scan ∧
    (swapRegs s).lct = s.lct ∧
    (swapRegs s).tb = s.tb ∧
    (swapRegs s).tiles = s.tiles ∧
    (swapRegs s).handles = s.handles ∧
    (swapRegs s).dcx = s.dcx ∧
    (swapRegs s).mnt = s.mnt ∧
    (swapRegs s).comp = s.comp ∧
    (swapRegs s).thm = s.thm ∧
    (swapRegs s).gl = s.gl ∧
    (swapRegs s).link = s.link ∧
    (swapRegs s).ozd = s.ozd ∧
    (swapRegs s).lctc = s.lctc ∧
    (swapRegs s).msgq = s.msgq ∧
    (swapRegs s).wcapLevel = s.wcapLevel := by simp [swapRegs]

theorem swapTables_frame (s : State) :
    (swapTables s).pending = s.pending ∧
    (swapTables s).fs = s.fs ∧
    (swapTables s).scene = s.scene ∧
    (swapTables s).jtag = s.jtag ∧
    (swapTables s).boot = s.boot ∧
    (swapTables s).period = s.period ∧
    (swapTables s).pwr = s.pwr ∧
    (swapTables s).scan = s.scan ∧
    (swapTables s).lct = s.lct ∧
    (swapTables s).tb = s.tb ∧
    (swapTables s).tiles = s.tiles ∧
    (swapTables s).handles = s.handles ∧
    (swapTables s).dcx = s.dcx ∧
    (swapTables s).mnt = s.mnt ∧
    (swapTables s).comp = s.comp ∧
    (swapTables s).thm = s.thm ∧
    (swapTables s).gl = s.gl ∧
    (swapTables s).link = s.link ∧
    (swapTables s).ozd = s.ozd ∧
    (swapTables s).lctc = s.lctc ∧
    (swapTables s).msgq = s.msgq ∧
    (swapTables s).wcapLevel = s.wcapLevel := by simp [swapTab_frame .., swapTables]

theorem applyTriggers_frame (before s : State) :
    (applyTriggers before s).pending = s.pending ∧
    (applyTriggers before s).fs = s.fs ∧
    (applyTriggers before s).scene = s.scene ∧
    (applyTriggers before s).jtag = s.jtag ∧
    (applyTriggers before s).boot = s.boot ∧
    (applyTriggers before s).period = s.period ∧
    (applyTriggers before s).pwr = s.pwr ∧
    (applyTriggers before s).scan = s.scan ∧
    (applyTriggers before s).lct = s.lct ∧
    (applyTriggers before s).tb = s.tb ∧
    (applyTriggers before s).tiles = s.tiles ∧
    (applyTriggers before s).handles = s.handles ∧
    (applyTriggers before s).dcx = s.dcx ∧
    (applyTriggers before s).mnt = s.mnt ∧
    (applyTriggers before s).comp = s.comp ∧
    (applyTriggers before s).thm = s.thm ∧
    (applyTriggers before s).gl = s.gl ∧
    (applyTriggers before s).link = s.link ∧
    (applyTriggers before s).ozd = s.ozd ∧
    (applyTriggers before s).lctc = s.lctc ∧
    (applyTriggers before s).msgq = s.msgq ∧
    (applyTriggers before s).wcapLevel = s.wcapLevel := by simp [trigApply_frame .., applyTriggers]

theorem stampPages_frame (seq : Nat) (s : State) :
    (stampPages seq s).pending = s.pending ∧
    (stampPages seq s).fs = s.fs ∧
    (stampPages seq s).scene = s.scene ∧
    (stampPages seq s).jtag = s.jtag ∧
    (stampPages seq s).boot = s.boot ∧
    (stampPages seq s).period = s.period ∧
    (stampPages seq s).pwr = s.pwr ∧
    (stampPages seq s).scan = s.scan ∧
    (stampPages seq s).lct = s.lct ∧
    (stampPages seq s).tb = s.tb ∧
    (stampPages seq s).tiles = s.tiles ∧
    (stampPages seq s).handles = s.handles ∧
    (stampPages seq s).dcx = s.dcx ∧
    (stampPages seq s).mnt = s.mnt ∧
    (stampPages seq s).comp = s.comp ∧
    (stampPages seq s).thm = s.thm ∧
    (stampPages seq s).gl = s.gl ∧
    (stampPages seq s).link = s.link ∧
    (stampPages seq s).ozd = s.ozd ∧
    (stampPages seq s).lctc = s.lctc ∧
    (stampPages seq s).msgq = s.msgq ∧
    (stampPages seq s).wcapLevel = s.wcapLevel := by simp [setRegN_frame .., stampPages]

theorem applyCommit_frame (nr : List Nat) (s : State) :
    (applyCommit nr s).pending = s.pending ∧
    (applyCommit nr s).fs = s.fs ∧
    (applyCommit nr s).scene = s.scene ∧
    (applyCommit nr s).jtag = s.jtag ∧
    (applyCommit nr s).boot = s.boot ∧
    (applyCommit nr s).period = s.period ∧
    (applyCommit nr s).pwr = s.pwr ∧
    (applyCommit nr s).scan = s.scan ∧
    (applyCommit nr s).lct = s.lct ∧
    (applyCommit nr s).tb = s.tb ∧
    (applyCommit nr s).tiles = s.tiles ∧
    (applyCommit nr s).dcx = s.dcx ∧
    (applyCommit nr s).mnt = s.mnt ∧
    (applyCommit nr s).comp = s.comp ∧
    (applyCommit nr s).thm = s.thm ∧
    (applyCommit nr s).link = s.link ∧
    (applyCommit nr s).ozd = s.ozd ∧
    (applyCommit nr s).lctc = s.lctc ∧
    (applyCommit nr s).wcapLevel = s.wcapLevel := by simp [applyTriggers_frame .., bindBufs_frame .., bumpWrap_frame .., glCheck_frame .., raise_frame .., setRegFld_frame .., setRegN_frame .., stampPages_frame .., swapContexts_frame .., swapRegs_frame .., swapTables_frame .., applyCommit]

theorem refuseCommit_frame (mask : Nat) (s : State) :
    (refuseCommit mask s).pending = s.pending ∧
    (refuseCommit mask s).fs = s.fs ∧
    (refuseCommit mask s).scene = s.scene ∧
    (refuseCommit mask s).jtag = s.jtag ∧
    (refuseCommit mask s).boot = s.boot ∧
    (refuseCommit mask s).period = s.period ∧
    (refuseCommit mask s).pwr = s.pwr ∧
    (refuseCommit mask s).scan = s.scan ∧
    (refuseCommit mask s).lct = s.lct ∧
    (refuseCommit mask s).tb = s.tb ∧
    (refuseCommit mask s).tiles = s.tiles ∧
    (refuseCommit mask s).handles = s.handles ∧
    (refuseCommit mask s).dcx = s.dcx ∧
    (refuseCommit mask s).mnt = s.mnt ∧
    (refuseCommit mask s).comp = s.comp ∧
    (refuseCommit mask s).thm = s.thm ∧
    (refuseCommit mask s).gl = s.gl ∧
    (refuseCommit mask s).link = s.link ∧
    (refuseCommit mask s).ozd = s.ozd ∧
    (refuseCommit mask s).lctc = s.lctc ∧
    (refuseCommit mask s).wcapLevel = s.wcapLevel := by simp [bumpWrap_frame .., raise_frame .., setRegFld_frame .., refuseCommit]

theorem waitForParts_frame (s : State) :
    (waitForParts s).pending = s.pending ∧
    (waitForParts s).fs = s.fs ∧
    (waitForParts s).scene = s.scene ∧
    (waitForParts s).jtag = s.jtag ∧
    (waitForParts s).boot = s.boot ∧
    (waitForParts s).period = s.period ∧
    (waitForParts s).pwr = s.pwr ∧
    (waitForParts s).scan = s.scan ∧
    (waitForParts s).lct = s.lct ∧
    (waitForParts s).tb = s.tb ∧
    (waitForParts s).tiles = s.tiles ∧
    (waitForParts s).handles = s.handles ∧
    (waitForParts s).dcx = s.dcx ∧
    (waitForParts s).mnt = s.mnt ∧
    (waitForParts s).comp = s.comp ∧
    (waitForParts s).thm = s.thm ∧
    (waitForParts s).gl = s.gl ∧
    (waitForParts s).link = s.link ∧
    (waitForParts s).ozd = s.ozd ∧
    (waitForParts s).lctc = s.lctc ∧
    (waitForParts s).wcapLevel = s.wcapLevel := by simp [raise_frame .., refuseCommit_frame .., setRegFld_frame .., waitForParts]

theorem decideCommit_frame (s : State) :
    (decideCommit s).pending = s.pending ∧
    (decideCommit s).fs = s.fs ∧
    (decideCommit s).scene = s.scene ∧
    (decideCommit s).jtag = s.jtag ∧
    (decideCommit s).boot = s.boot ∧
    (decideCommit s).period = s.period ∧
    (decideCommit s).pwr = s.pwr ∧
    (decideCommit s).scan = s.scan ∧
    (decideCommit s).lct = s.lct ∧
    (decideCommit s).tb = s.tb ∧
    (decideCommit s).tiles = s.tiles ∧
    (decideCommit s).dcx = s.dcx ∧
    (decideCommit s).mnt = s.mnt ∧
    (decideCommit s).comp = s.comp ∧
    (decideCommit s).thm = s.thm ∧
    (decideCommit s).link = s.link ∧
    (decideCommit s).ozd = s.ozd ∧
    (decideCommit s).lctc = s.lctc ∧
    (decideCommit s).wcapLevel = s.wcapLevel := by simp [applyCommit_frame .., raise_frame .., refuseCommit_frame .., reportNotReady_frame .., setRegBit_frame .., storeBudget_frame .., tickFree_frame .., waitForParts_frame .., decideCommit]

theorem setRepeat_frame (b : Bool) (s : State) :
    (setRepeat b s).pending = s.pending ∧
    (setRepeat b s).fs = s.fs ∧
    (setRepeat b s).scene = s.scene ∧
    (setRepeat b s).jtag = s.jtag ∧
    (setRepeat b s).boot = s.boot ∧
    (setRepeat b s).period = s.period ∧
    (setRepeat b s).pwr = s.pwr ∧
    (setRepeat b s).scan = s.scan ∧
    (setRepeat b s).lct = s.lct ∧
    (setRepeat b s).tb = s.tb ∧
    (setRepeat b s).tiles = s.tiles ∧
    (setRepeat b s).handles = s.handles ∧
    (setRepeat b s).dcx = s.dcx ∧
    (setRepeat b s).mnt = s.mnt ∧
    (setRepeat b s).comp = s.comp ∧
    (setRepeat b s).thm = s.thm ∧
    (setRepeat b s).gl = s.gl ∧
    (setRepeat b s).link = s.link ∧
    (setRepeat b s).ozd = s.ozd ∧
    (setRepeat b s).lctc = s.lctc ∧
    (setRepeat b s).msgq = s.msgq ∧
    (setRepeat b s).wcapLevel = s.wcapLevel := by simp [setRegBit_frame .., setRepeat]

theorem rotate_frame (s : State) :
    (rotate s).pending = s.pending ∧
    (rotate s).fs = s.fs ∧
    (rotate s).scene = s.scene ∧
    (rotate s).jtag = s.jtag ∧
    (rotate s).boot = s.boot ∧
    (rotate s).pwr = s.pwr ∧
    (rotate s).lct = s.lct ∧
    (rotate s).tb = s.tb ∧
    (rotate s).tiles = s.tiles ∧
    (rotate s).handles = s.handles ∧
    (rotate s).dcx = s.dcx ∧
    (rotate s).mnt = s.mnt ∧
    (rotate s).thm = s.thm ∧
    (rotate s).gl = s.gl ∧
    (rotate s).link = s.link ∧
    (rotate s).ozd = s.ozd ∧
    (rotate s).lctc = s.lctc ∧
    (rotate s).msgq = s.msgq ∧
    (rotate s).wcapLevel = s.wcapLevel := by simp [setComp_frame .., setRegN_frame .., setRepeat_frame .., setScan_frame .., setScanState_frame .., toShow_frame .., rotate]

theorem rotateIfDone_frame (s : State) :
    (rotateIfDone s).pending = s.pending ∧
    (rotateIfDone s).fs = s.fs ∧
    (rotateIfDone s).scene = s.scene ∧
    (rotateIfDone s).jtag = s.jtag ∧
    (rotateIfDone s).boot = s.boot ∧
    (rotateIfDone s).pwr = s.pwr ∧
    (rotateIfDone s).lct = s.lct ∧
    (rotateIfDone s).tb = s.tb ∧
    (rotateIfDone s).tiles = s.tiles ∧
    (rotateIfDone s).handles = s.handles ∧
    (rotateIfDone s).dcx = s.dcx ∧
    (rotateIfDone s).mnt = s.mnt ∧
    (rotateIfDone s).thm = s.thm ∧
    (rotateIfDone s).gl = s.gl ∧
    (rotateIfDone s).ozd = s.ozd ∧
    (rotateIfDone s).lctc = s.lctc ∧
    (rotateIfDone s).msgq = s.msgq ∧
    (rotateIfDone s).wcapLevel = s.wcapLevel := by simp [rotate_frame .., setRepeat_frame .., rotateIfDone]

theorem latchBand_frame (s : State) :
    (latchBand s).pending = s.pending ∧
    (latchBand s).fs = s.fs ∧
    (latchBand s).scene = s.scene ∧
    (latchBand s).jtag = s.jtag ∧
    (latchBand s).boot = s.boot ∧
    (latchBand s).period = s.period ∧
    (latchBand s).pwr = s.pwr ∧
    (latchBand s).scan = s.scan ∧
    (latchBand s).lct = s.lct ∧
    (latchBand s).tb = s.tb ∧
    (latchBand s).tiles = s.tiles ∧
    (latchBand s).handles = s.handles ∧
    (latchBand s).dcx = s.dcx ∧
    (latchBand s).mnt = s.mnt ∧
    (latchBand s).comp = s.comp ∧
    (latchBand s).thm = s.thm ∧
    (latchBand s).gl = s.gl ∧
    (latchBand s).link = s.link ∧
    (latchBand s).ozd = s.ozd ∧
    (latchBand s).lctc = s.lctc ∧
    (latchBand s).wcapLevel = s.wcapLevel := by simp [raise_frame .., setRegFld_frame .., latchBand]

theorem restOfSunrise_frame (s : State) :
    (restOfSunrise s).pending = s.pending ∧
    (restOfSunrise s).fs = s.fs ∧
    (restOfSunrise s).scene = s.scene ∧
    (restOfSunrise s).jtag = s.jtag ∧
    (restOfSunrise s).boot = s.boot ∧
    (restOfSunrise s).period = s.period ∧
    (restOfSunrise s).pwr = s.pwr ∧
    (restOfSunrise s).scan = s.scan ∧
    (restOfSunrise s).lct = s.lct ∧
    (restOfSunrise s).tb = s.tb ∧
    (restOfSunrise s).tiles = s.tiles ∧
    (restOfSunrise s).handles = s.handles ∧
    (restOfSunrise s).dcx = s.dcx ∧
    (restOfSunrise s).thm = s.thm ∧
    (restOfSunrise s).gl = s.gl ∧
    (restOfSunrise s).link = s.link ∧
    (restOfSunrise s).ozd = s.ozd ∧
    (restOfSunrise s).lctc = s.lctc ∧
    (restOfSunrise s).wcapLevel = s.wcapLevel := by simp [applyRoles_frame .., latchBand_frame .., storeBound_frame .., restOfSunrise]

theorem startComposition_frame (s : State) :
    (startComposition s).pending = s.pending ∧
    (startComposition s).fs = s.fs ∧
    (startComposition s).scene = s.scene ∧
    (startComposition s).jtag = s.jtag ∧
    (startComposition s).boot = s.boot ∧
    (startComposition s).period = s.period ∧
    (startComposition s).pwr = s.pwr ∧
    (startComposition s).scan = s.scan ∧
    (startComposition s).tb = s.tb ∧
    (startComposition s).tiles = s.tiles ∧
    (startComposition s).handles = s.handles ∧
    (startComposition s).dcx = s.dcx ∧
    (startComposition s).thm = s.thm ∧
    (startComposition s).gl = s.gl ∧
    (startComposition s).link = s.link ∧
    (startComposition s).ozd = s.ozd ∧
    (startComposition s).wcapLevel = s.wcapLevel := by unfold startComposition; dsimp only; (repeat' split) <;> simp [applyRoles_frame .., beginFrame_frame .., fillPlaces_frame .., keepRects_frame .., lctApply_frame .., *]

theorem reportOverrun_frame (s : State) :
    (reportOverrun s).pending = s.pending ∧
    (reportOverrun s).fs = s.fs ∧
    (reportOverrun s).scene = s.scene ∧
    (reportOverrun s).jtag = s.jtag ∧
    (reportOverrun s).boot = s.boot ∧
    (reportOverrun s).period = s.period ∧
    (reportOverrun s).pwr = s.pwr ∧
    (reportOverrun s).scan = s.scan ∧
    (reportOverrun s).lct = s.lct ∧
    (reportOverrun s).tb = s.tb ∧
    (reportOverrun s).tiles = s.tiles ∧
    (reportOverrun s).handles = s.handles ∧
    (reportOverrun s).dcx = s.dcx ∧
    (reportOverrun s).mnt = s.mnt ∧
    (reportOverrun s).comp = s.comp ∧
    (reportOverrun s).thm = s.thm ∧
    (reportOverrun s).gl = s.gl ∧
    (reportOverrun s).link = s.link ∧
    (reportOverrun s).ozd = s.ozd ∧
    (reportOverrun s).lctc = s.lctc ∧
    (reportOverrun s).wcapLevel = s.wcapLevel := by simp [bumpSat_frame .., raise_frame .., reportOverrun]

theorem beginModeChange_frame (m : ModeChange) (s : State) :
    (beginModeChange m s).pending = s.pending ∧
    (beginModeChange m s).fs = s.fs ∧
    (beginModeChange m s).scene = s.scene ∧
    (beginModeChange m s).jtag = s.jtag ∧
    (beginModeChange m s).boot = s.boot ∧
    (beginModeChange m s).period = s.period ∧
    (beginModeChange m s).pwr = s.pwr ∧
    (beginModeChange m s).lct = s.lct ∧
    (beginModeChange m s).tb = s.tb ∧
    (beginModeChange m s).tiles = s.tiles ∧
    (beginModeChange m s).handles = s.handles ∧
    (beginModeChange m s).dcx = s.dcx ∧
    (beginModeChange m s).mnt = s.mnt ∧
    (beginModeChange m s).comp = s.comp ∧
    (beginModeChange m s).thm = s.thm ∧
    (beginModeChange m s).gl = s.gl ∧
    (beginModeChange m s).link = s.link ∧
    (beginModeChange m s).ozd = s.ozd ∧
    (beginModeChange m s).lctc = s.lctc ∧
    (beginModeChange m s).msgq = s.msgq ∧
    (beginModeChange m s).wcapLevel = s.wcapLevel := by simp [setScan_frame .., beginModeChange]

theorem endModeChange_frame (m : ModeChange) (s : State) :
    (endModeChange m s).pending = s.pending ∧
    (endModeChange m s).fs = s.fs ∧
    (endModeChange m s).scene = s.scene ∧
    (endModeChange m s).jtag = s.jtag ∧
    (endModeChange m s).boot = s.boot ∧
    (endModeChange m s).period = s.period ∧
    (endModeChange m s).pwr = s.pwr ∧
    (endModeChange m s).lct = s.lct ∧
    (endModeChange m s).tb = s.tb ∧
    (endModeChange m s).tiles = s.tiles ∧
    (endModeChange m s).handles = s.handles ∧
    (endModeChange m s).dcx = s.dcx ∧
    (endModeChange m s).mnt = s.mnt ∧
    (endModeChange m s).comp = s.comp ∧
    (endModeChange m s).thm = s.thm ∧
    (endModeChange m s).gl = s.gl ∧
    (endModeChange m s).link = s.link ∧
    (endModeChange m s).ozd = s.ozd ∧
    (endModeChange m s).lctc = s.lctc ∧
    (endModeChange m s).wcapLevel = s.wcapLevel := by simp [raise_frame .., setScanState_frame .., setScan_frame .., endModeChange]

theorem storeDuty_frame (s : State) :
    (storeDuty s).pending = s.pending ∧
    (storeDuty s).fs = s.fs ∧
    (storeDuty s).scene = s.scene ∧
    (storeDuty s).jtag = s.jtag ∧
    (storeDuty s).boot = s.boot ∧
    (storeDuty s).period = s.period ∧
    (storeDuty s).pwr = s.pwr ∧
    (storeDuty s).scan = s.scan ∧
    (storeDuty s).lct = s.lct ∧
    (storeDuty s).tb = s.tb ∧
    (storeDuty s).tiles = s.tiles ∧
    (storeDuty s).handles = s.handles ∧
    (storeDuty s).dcx = s.dcx ∧
    (storeDuty s).mnt = s.mnt ∧
    (storeDuty s).comp = s.comp ∧
    (storeDuty s).thm = s.thm ∧
    (storeDuty s).gl = s.gl ∧
    (storeDuty s).link = s.link ∧
    (storeDuty s).ozd = s.ozd ∧
    (storeDuty s).lctc = s.lctc ∧
    (storeDuty s).msgq = s.msgq ∧
    (storeDuty s).wcapLevel = s.wcapLevel := by simp [setRegFld_frame .., storeDuty]

theorem setAcc_frame (a : Nat) (s : State) :
    (setAcc a s).pending = s.pending ∧
    (setAcc a s).fs = s.fs ∧
    (setAcc a s).scene = s.scene ∧
    (setAcc a s).jtag = s.jtag ∧
    (setAcc a s).boot = s.boot ∧
    (setAcc a s).period = s.period ∧
    (setAcc a s).pwr = s.pwr ∧
    (setAcc a s).scan = s.scan ∧
    (setAcc a s).lct = s.lct ∧
    (setAcc a s).tb = s.tb ∧
    (setAcc a s).tiles = s.tiles ∧
    (setAcc a s).handles = s.handles ∧
    (setAcc a s).dcx = s.dcx ∧
    (setAcc a s).mnt = s.mnt ∧
    (setAcc a s).comp = s.comp ∧
    (setAcc a s).gl = s.gl ∧
    (setAcc a s).link = s.link ∧
    (setAcc a s).ozd = s.ozd ∧
    (setAcc a s).lctc = s.lctc ∧
    (setAcc a s).msgq = s.msgq ∧
    (setAcc a s).wcapLevel = s.wcapLevel := by simp [setThm_frame .., setAcc]

theorem nightDue_frame (s : State) :
    (nightDue s).pending = s.pending ∧
    (nightDue s).fs = s.fs ∧
    (nightDue s).scene = s.scene ∧
    (nightDue s).jtag = s.jtag ∧
    (nightDue s).boot = s.boot ∧
    (nightDue s).period = s.period ∧
    (nightDue s).lct = s.lct ∧
    (nightDue s).tb = s.tb ∧
    (nightDue s).handles = s.handles ∧
    (nightDue s).dcx = s.dcx ∧
    (nightDue s).mnt = s.mnt ∧
    (nightDue s).thm = s.thm ∧
    (nightDue s).link = s.link ∧
    (nightDue s).ozd = s.ozd ∧
    (nightDue s).lctc = s.lctc ∧
    (nightDue s).msgq = s.msgq ∧
    (nightDue s).wcapLevel = s.wcapLevel := by simp [enterIdle_frame .., setPwr_frame .., stopComposer_frame .., nightDue]

theorem midnightDue_frame (s : State) :
    (midnightDue s).pending = s.pending ∧
    (midnightDue s).fs = s.fs ∧
    (midnightDue s).scene = s.scene ∧
    (midnightDue s).jtag = s.jtag ∧
    (midnightDue s).boot = s.boot ∧
    (midnightDue s).period = s.period ∧
    (midnightDue s).lct = s.lct ∧
    (midnightDue s).tb = s.tb ∧
    (midnightDue s).handles = s.handles ∧
    (midnightDue s).dcx = s.dcx ∧
    (midnightDue s).mnt = s.mnt ∧
    (midnightDue s).thm = s.thm ∧
    (midnightDue s).link = s.link ∧
    (midnightDue s).ozd = s.ozd ∧
    (midnightDue s).lctc = s.lctc ∧
    (midnightDue s).msgq = s.msgq ∧
    (midnightDue s).wcapLevel = s.wcapLevel := by simp [askDark_frame .., setPwr_frame .., stopComposer_frame .., midnightDue]

theorem powerRequest_frame (s : State) :
    (powerRequest s).pending = s.pending ∧
    (powerRequest s).fs = s.fs ∧
    (powerRequest s).scene = s.scene ∧
    (powerRequest s).jtag = s.jtag ∧
    (powerRequest s).boot = s.boot ∧
    (powerRequest s).lct = s.lct ∧
    (powerRequest s).tb = s.tb ∧
    (powerRequest s).handles = s.handles ∧
    (powerRequest s).dcx = s.dcx ∧
    (powerRequest s).mnt = s.mnt ∧
    (powerRequest s).thm = s.thm ∧
    (powerRequest s).ozd = s.ozd ∧
    (powerRequest s).lctc = s.lctc ∧
    (powerRequest s).wcapLevel = s.wcapLevel := by simp only [powerRequest]; (repeat' split) <;> simp [changeState_frame .., midnightDue_frame .., nightDue_frame .., rotateIfDone_frame .., setPwr_frame ..]

theorem repeatSunrise_frame (reseeded : Bool) (s : State) :
    (repeatSunrise reseeded s).pending = s.pending ∧
    (repeatSunrise reseeded s).fs = s.fs ∧
    (repeatSunrise reseeded s).scene = s.scene ∧
    (repeatSunrise reseeded s).jtag = s.jtag ∧
    (repeatSunrise reseeded s).boot = s.boot ∧
    (repeatSunrise reseeded s).period = s.period ∧
    (repeatSunrise reseeded s).pwr = s.pwr ∧
    (repeatSunrise reseeded s).scan = s.scan ∧
    (repeatSunrise reseeded s).lct = s.lct ∧
    (repeatSunrise reseeded s).tb = s.tb ∧
    (repeatSunrise reseeded s).tiles = s.tiles ∧
    (repeatSunrise reseeded s).handles = s.handles ∧
    (repeatSunrise reseeded s).dcx = s.dcx ∧
    (repeatSunrise reseeded s).thm = s.thm ∧
    (repeatSunrise reseeded s).gl = s.gl ∧
    (repeatSunrise reseeded s).link = s.link ∧
    (repeatSunrise reseeded s).ozd = s.ozd ∧
    (repeatSunrise reseeded s).lctc = s.lctc ∧
    (repeatSunrise reseeded s).wcapLevel = s.wcapLevel := by simp [reportOverrun_frame .., restOfSunrise_frame .., setRepeat_frame .., repeatSunrise]

theorem throttledSunrise_frame (s : State) :
    (throttledSunrise s).pending = s.pending ∧
    (throttledSunrise s).fs = s.fs ∧
    (throttledSunrise s).scene = s.scene ∧
    (throttledSunrise s).jtag = s.jtag ∧
    (throttledSunrise s).boot = s.boot ∧
    (throttledSunrise s).period = s.period ∧
    (throttledSunrise s).pwr = s.pwr ∧
    (throttledSunrise s).scan = s.scan ∧
    (throttledSunrise s).lct = s.lct ∧
    (throttledSunrise s).tb = s.tb ∧
    (throttledSunrise s).tiles = s.tiles ∧
    (throttledSunrise s).handles = s.handles ∧
    (throttledSunrise s).dcx = s.dcx ∧
    (throttledSunrise s).thm = s.thm ∧
    (throttledSunrise s).gl = s.gl ∧
    (throttledSunrise s).link = s.link ∧
    (throttledSunrise s).ozd = s.ozd ∧
    (throttledSunrise s).lctc = s.lctc ∧
    (throttledSunrise s).wcapLevel = s.wcapLevel := by simp [bumpSat_frame .., restOfSunrise_frame .., setRepeat_frame .., throttledSunrise]

theorem tablelessSunrise_frame (s : State) :
    (tablelessSunrise s).pending = s.pending ∧
    (tablelessSunrise s).fs = s.fs ∧
    (tablelessSunrise s).scene = s.scene ∧
    (tablelessSunrise s).jtag = s.jtag ∧
    (tablelessSunrise s).boot = s.boot ∧
    (tablelessSunrise s).period = s.period ∧
    (tablelessSunrise s).pwr = s.pwr ∧
    (tablelessSunrise s).scan = s.scan ∧
    (tablelessSunrise s).lct = s.lct ∧
    (tablelessSunrise s).tb = s.tb ∧
    (tablelessSunrise s).tiles = s.tiles ∧
    (tablelessSunrise s).dcx = s.dcx ∧
    (tablelessSunrise s).thm = s.thm ∧
    (tablelessSunrise s).link = s.link ∧
    (tablelessSunrise s).ozd = s.ozd ∧
    (tablelessSunrise s).lctc = s.lctc ∧
    (tablelessSunrise s).wcapLevel = s.wcapLevel := by simp [decideCommit_frame .., restOfSunrise_frame .., setRepeat_frame .., tablelessSunrise]

theorem fullSunrise_frame (acc : Nat) (s : State) :
    (fullSunrise acc s).pending = s.pending ∧
    (fullSunrise acc s).fs = s.fs ∧
    (fullSunrise acc s).scene = s.scene ∧
    (fullSunrise acc s).jtag = s.jtag ∧
    (fullSunrise acc s).boot = s.boot ∧
    (fullSunrise acc s).pwr = s.pwr ∧
    (fullSunrise acc s).tb = s.tb ∧
    (fullSunrise acc s).tiles = s.tiles ∧
    (fullSunrise acc s).dcx = s.dcx ∧
    (fullSunrise acc s).ozd = s.ozd ∧
    (fullSunrise acc s).wcapLevel = s.wcapLevel := by simp only [fullSunrise]; (repeat' split) <;> simp [beginModeChange_frame .., decideCommit_frame .., latchBand_frame .., restOfSunrise_frame .., rotateIfDone_frame .., setAcc_frame .., startComposition_frame ..]

theorem firstSunrise_frame (reseeded : Bool) (s : State) :
    (firstSunrise reseeded s).pending = s.pending ∧
    (firstSunrise reseeded s).fs = s.fs ∧
    (firstSunrise reseeded s).scene = s.scene ∧
    (firstSunrise reseeded s).jtag = s.jtag ∧
    (firstSunrise reseeded s).boot = s.boot ∧
    (firstSunrise reseeded s).period = s.period ∧
    (firstSunrise reseeded s).pwr = s.pwr ∧
    (firstSunrise reseeded s).scan = s.scan ∧
    (firstSunrise reseeded s).tb = s.tb ∧
    (firstSunrise reseeded s).tiles = s.tiles ∧
    (firstSunrise reseeded s).handles = s.handles ∧
    (firstSunrise reseeded s).dcx = s.dcx ∧
    (firstSunrise reseeded s).thm = s.thm ∧
    (firstSunrise reseeded s).gl = s.gl ∧
    (firstSunrise reseeded s).link = s.link ∧
    (firstSunrise reseeded s).ozd = s.ozd ∧
    (firstSunrise reseeded s).wcapLevel = s.wcapLevel := by simp [latchBand_frame .., repeatSunrise_frame .., setRepeat_frame .., startComposition_frame .., firstSunrise]

theorem sunrise_frame (reseeded first : Bool) (s : State) :
    (sunrise reseeded first s).pending = s.pending ∧
    (sunrise reseeded first s).fs = s.fs ∧
    (sunrise reseeded first s).scene = s.scene ∧
    (sunrise reseeded first s).jtag = s.jtag ∧
    (sunrise reseeded first s).boot = s.boot ∧
    (sunrise reseeded first s).pwr = s.pwr ∧
    (sunrise reseeded first s).tb = s.tb ∧
    (sunrise reseeded first s).tiles = s.tiles ∧
    (sunrise reseeded first s).dcx = s.dcx ∧
    (sunrise reseeded first s).ozd = s.ozd ∧
    (sunrise reseeded first s).wcapLevel = s.wcapLevel := by simp [firstSunrise_frame .., fullSunrise_frame .., repeatSunrise_frame .., setAcc_frame .., tablelessSunrise_frame .., throttledSunrise_frame .., sunrise]

theorem boundaryMarks_frame (s : State) :
    (boundaryMarks s).pending = s.pending ∧
    (boundaryMarks s).fs = s.fs ∧
    (boundaryMarks s).scene = s.scene ∧
    (boundaryMarks s).jtag = s.jtag ∧
    (boundaryMarks s).boot = s.boot ∧
    (boundaryMarks s).pwr = s.pwr ∧
    (boundaryMarks s).tb = s.tb ∧
    (boundaryMarks s).tiles = s.tiles ∧
    (boundaryMarks s).dcx = s.dcx ∧
    (boundaryMarks s).ozd = s.ozd ∧
    (boundaryMarks s).wcapLevel = s.wcapLevel := by simp [loadPin_frame .., setPeriod_frame .., setReg_frame .., sunrise_frame .., boundaryMarks]

theorem nextBoundary_frame (s : State) :
    (nextBoundary s).pending = s.pending ∧
    (nextBoundary s).fs = s.fs ∧
    (nextBoundary s).scene = s.scene ∧
    (nextBoundary s).jtag = s.jtag ∧
    (nextBoundary s).boot = s.boot ∧
    (nextBoundary s).period = s.period ∧
    (nextBoundary s).pwr = s.pwr ∧
    (nextBoundary s).lct = s.lct ∧
    (nextBoundary s).tb = s.tb ∧
    (nextBoundary s).tiles = s.tiles ∧
    (nextBoundary s).handles = s.handles ∧
    (nextBoundary s).dcx = s.dcx ∧
    (nextBoundary s).mnt = s.mnt ∧
    (nextBoundary s).comp = s.comp ∧
    (nextBoundary s).thm = s.thm ∧
    (nextBoundary s).link = s.link ∧
    (nextBoundary s).ozd = s.ozd ∧
    (nextBoundary s).lctc = s.lctc ∧
    (nextBoundary s).wcapLevel = s.wcapLevel := by simp [reseedTicks_frame .., setScan_frame .., nextBoundary]

theorem boundary_frame (s : State) :
    (boundary s).pending = s.pending ∧
    (boundary s).fs = s.fs ∧
    (boundary s).scene = s.scene ∧
    (boundary s).jtag = s.jtag ∧
    (boundary s).boot = s.boot ∧
    (boundary s).tb = s.tb ∧
    (boundary s).dcx = s.dcx ∧
    (boundary s).wcapLevel = s.wcapLevel := by simp only [boundary]; (repeat' split) <;> simp [boundaryMarks_frame .., endFrame_frame .., endModeChange_frame .., markShown_frame .., nextBoundary_frame .., powerRequest_frame .., slotTick_frame .., storeDuty_frame .., sunrise_frame .., tickOut_frame ..]

end Sys2Proof.Machine
end

