-- ==== Sys2Proof/Laws/FrameAccess.lean ====
section
/-!
SUPPORT. What each operation of Access.lean leaves unchanged.
-/
namespace Sys2Proof.Machine

theorem storeReg_frame (a : Nat) (v : Word) (s : State) :
    (storeReg a v s).pending = s.pending ∧
    (storeReg a v s).fs = s.fs ∧
    (storeReg a v s).scene = s.scene ∧
    (storeReg a v s).jtag = s.jtag ∧
    (storeReg a v s).boot = s.boot ∧
    (storeReg a v s).period = s.period ∧
    (storeReg a v s).pwr = s.pwr ∧
    (storeReg a v s).scan = s.scan ∧
    (storeReg a v s).lct = s.lct ∧
    (storeReg a v s).tb = s.tb ∧
    (storeReg a v s).tiles = s.tiles ∧
    (storeReg a v s).handles = s.handles ∧
    (storeReg a v s).dcx = s.dcx ∧
    (storeReg a v s).mnt = s.mnt ∧
    (storeReg a v s).comp = s.comp ∧
    (storeReg a v s).thm = s.thm ∧
    (storeReg a v s).gl = s.gl ∧
    (storeReg a v s).link = s.link ∧
    (storeReg a v s).ozd = s.ozd ∧
    (storeReg a v s).lctc = s.lctc ∧
    (storeReg a v s).msgq = s.msgq ∧
    (storeReg a v s).wcapLevel = s.wcapLevel := by simp only [storeReg]; (repeat' split) <;> simp [setDirty_frame .., setReg_frame ..]

theorem effEvtEn_frame (p : Nat) (v : Word) (s : State) :
    (effEvtEn p v s).pending = s.pending ∧
    (effEvtEn p v s).fs = s.fs ∧
    (effEvtEn p v s).scene = s.scene ∧
    (effEvtEn p v s).jtag = s.jtag ∧
    (effEvtEn p v s).boot = s.boot ∧
    (effEvtEn p v s).period = s.period ∧
    (effEvtEn p v s).pwr = s.pwr ∧
    (effEvtEn p v s).scan = s.scan ∧
    (effEvtEn p v s).lct = s.lct ∧
    (effEvtEn p v s).tb = s.tb ∧
    (effEvtEn p v s).tiles = s.tiles ∧
    (effEvtEn p v s).handles = s.handles ∧
    (effEvtEn p v s).dcx = s.dcx ∧
    (effEvtEn p v s).mnt = s.mnt ∧
    (effEvtEn p v s).comp = s.comp ∧
    (effEvtEn p v s).thm = s.thm ∧
    (effEvtEn p v s).gl = s.gl ∧
    (effEvtEn p v s).link = s.link ∧
    (effEvtEn p v s).ozd = s.ozd ∧
    (effEvtEn p v s).lctc = s.lctc ∧
    (effEvtEn p v s).wcapLevel = s.wcapLevel := by simp [queuePending_frame .., setReg_frame .., effEvtEn]

theorem effHead_frame (p o : Nat) (v : Word) (s : State) :
    (effHead p o v s).pending = s.pending ∧
    (effHead p o v s).fs = s.fs ∧
    (effHead p o v s).scene = s.scene ∧
    (effHead p o v s).jtag = s.jtag ∧
    (effHead p o v s).boot = s.boot ∧
    (effHead p o v s).period = s.period ∧
    (effHead p o v s).lct = s.lct := by simp only [effHead]; (repeat' split) <;> simp [effEvtEn_frame .., effOwner_frame .., effPageCtl_frame .., storeReg_frame ..]

theorem effPage00_frame (o : Nat) (v : Word) (s : State) :
    (effPage00 o v s).pending = s.pending ∧
    (effPage00 o v s).fs = s.fs ∧
    (effPage00 o v s).scene = s.scene ∧
    (effPage00 o v s).jtag = s.jtag ∧
    (effPage00 o v s).boot = s.boot ∧
    (effPage00 o v s).period = s.period ∧
    (effPage00 o v s).pwr = s.pwr ∧
    (effPage00 o v s).scan = s.scan ∧
    (effPage00 o v s).lct = s.lct ∧
    (effPage00 o v s).tb = s.tb ∧
    (effPage00 o v s).tiles = s.tiles ∧
    (effPage00 o v s).handles = s.handles ∧
    (effPage00 o v s).dcx = s.dcx ∧
    (effPage00 o v s).mnt = s.mnt ∧
    (effPage00 o v s).comp = s.comp ∧
    (effPage00 o v s).thm = s.thm ∧
    (effPage00 o v s).gl = s.gl ∧
    (effPage00 o v s).link = s.link ∧
    (effPage00 o v s).ozd = s.ozd ∧
    (effPage00 o v s).lctc = s.lctc ∧
    (effPage00 o v s).msgq = s.msgq ∧
    (effPage00 o v s).wcapLevel = s.wcapLevel := by simp [storeReg_frame .., effPage00]

theorem effPage01_frame (o : Nat) (v : Word) (s : State) :
    (effPage01 o v s).pending = s.pending ∧
    (effPage01 o v s).fs = s.fs ∧
    (effPage01 o v s).scene = s.scene ∧
    (effPage01 o v s).jtag = s.jtag ∧
    (effPage01 o v s).boot = s.boot ∧
    (effPage01 o v s).period = s.period ∧
    (effPage01 o v s).pwr = s.pwr ∧
    (effPage01 o v s).scan = s.scan ∧
    (effPage01 o v s).lct = s.lct ∧
    (effPage01 o v s).tb = s.tb ∧
    (effPage01 o v s).tiles = s.tiles ∧
    (effPage01 o v s).handles = s.handles ∧
    (effPage01 o v s).dcx = s.dcx ∧
    (effPage01 o v s).mnt = s.mnt ∧
    (effPage01 o v s).comp = s.comp ∧
    (effPage01 o v s).thm = s.thm ∧
    (effPage01 o v s).gl = s.gl ∧
    (effPage01 o v s).ozd = s.ozd ∧
    (effPage01 o v s).lctc = s.lctc ∧
    (effPage01 o v s).wcapLevel = s.wcapLevel := by simp only [effPage01]; (repeat' split) <;> simp [effThaw_frame .., storeReg_frame ..]

theorem effPage03_frame (m : Master) (o : Nat) (v : Word) (s : State) :
    (effPage03 m o v s).pending = s.pending ∧
    (effPage03 m o v s).fs = s.fs ∧
    (effPage03 m o v s).scene = s.scene ∧
    (effPage03 m o v s).jtag = s.jtag ∧
    (effPage03 m o v s).boot = s.boot ∧
    (effPage03 m o v s).period = s.period ∧
    (effPage03 m o v s).pwr = s.pwr ∧
    (effPage03 m o v s).scan = s.scan ∧
    (effPage03 m o v s).lct = s.lct ∧
    (effPage03 m o v s).tb = s.tb ∧
    (effPage03 m o v s).tiles = s.tiles ∧
    (effPage03 m o v s).handles = s.handles ∧
    (effPage03 m o v s).dcx = s.dcx ∧
    (effPage03 m o v s).mnt = s.mnt ∧
    (effPage03 m o v s).comp = s.comp ∧
    (effPage03 m o v s).thm = s.thm ∧
    (effPage03 m o v s).gl = s.gl ∧
    (effPage03 m o v s).link = s.link ∧
    (effPage03 m o v s).ozd = s.ozd ∧
    (effPage03 m o v s).lctc = s.lctc ∧
    (effPage03 m o v s).msgq = s.msgq ∧
    (effPage03 m o v s).wcapLevel = s.wcapLevel := by simp only [effPage03]; (repeat' split) <;> simp [effCmtCancel_frame .., effCmtReady_frame .., effCmtReq_frame .., storeReg_frame ..]

theorem effPage04_frame (o : Nat) (v : Word) (s : State) :
    (effPage04 o v s).pending = s.pending ∧
    (effPage04 o v s).fs = s.fs ∧
    (effPage04 o v s).scene = s.scene ∧
    (effPage04 o v s).jtag = s.jtag ∧
    (effPage04 o v s).boot = s.boot ∧
    (effPage04 o v s).period = s.period ∧
    (effPage04 o v s).pwr = s.pwr ∧
    (effPage04 o v s).scan = s.scan ∧
    (effPage04 o v s).lct = s.lct ∧
    (effPage04 o v s).tb = s.tb ∧
    (effPage04 o v s).tiles = s.tiles ∧
    (effPage04 o v s).handles = s.handles ∧
    (effPage04 o v s).dcx = s.dcx ∧
    (effPage04 o v s).comp = s.comp ∧
    (effPage04 o v s).gl = s.gl ∧
    (effPage04 o v s).link = s.link ∧
    (effPage04 o v s).lctc = s.lctc ∧
    (effPage04 o v s).wcapLevel = s.wcapLevel := by simp [effLctl_frame .., storeReg_frame .., effPage04]

theorem effPage06_frame (m : Master) (p o : Nat) (v : Word) (s : State) :
    (effPage06 m p o v s).pending = s.pending ∧
    (effPage06 m p o v s).fs = s.fs ∧
    (effPage06 m p o v s).scene = s.scene ∧
    (effPage06 m p o v s).jtag = s.jtag ∧
    (effPage06 m p o v s).boot = s.boot ∧
    (effPage06 m p o v s).period = s.period ∧
    (effPage06 m p o v s).pwr = s.pwr ∧
    (effPage06 m p o v s).scan = s.scan ∧
    (effPage06 m p o v s).lct = s.lct ∧
    (effPage06 m p o v s).tb = s.tb ∧
    (effPage06 m p o v s).tiles = s.tiles ∧
    (effPage06 m p o v s).handles = s.handles ∧
    (effPage06 m p o v s).dcx = s.dcx ∧
    (effPage06 m p o v s).comp = s.comp ∧
    (effPage06 m p o v s).gl = s.gl ∧
    (effPage06 m p o v s).link = s.link ∧
    (effPage06 m p o v s).lctc = s.lctc ∧
    (effPage06 m p o v s).wcapLevel = s.wcapLevel := by simp [effDrvreg_frame .., effLctl_frame .., effPsbSel_frame .., storeReg_frame .., effPage06]

theorem effPage0C_frame (o : Nat) (v : Word) (s : State) :
    (effPage0C o v s).pending = s.pending ∧
    (effPage0C o v s).fs = s.fs ∧
    (effPage0C o v s).scene = s.scene ∧
    (effPage0C o v s).jtag = s.jtag ∧
    (effPage0C o v s).boot = s.boot ∧
    (effPage0C o v s).period = s.period ∧
    (effPage0C o v s).pwr = s.pwr ∧
    (effPage0C o v s).scan = s.scan ∧
    (effPage0C o v s).lct = s.lct ∧
    (effPage0C o v s).tb = s.tb ∧
    (effPage0C o v s).tiles = s.tiles ∧
    (effPage0C o v s).mnt = s.mnt ∧
    (effPage0C o v s).comp = s.comp ∧
    (effPage0C o v s).thm = s.thm ∧
    (effPage0C o v s).gl = s.gl ∧
    (effPage0C o v s).link = s.link ∧
    (effPage0C o v s).ozd = s.ozd ∧
    (effPage0C o v s).lctc = s.lctc ∧
    (effPage0C o v s).wcapLevel = s.wcapLevel := by simp only [effPage0C]; (repeat' split) <;> simp [effCtxCmd_frame .., storeReg_frame ..]

theorem effPage1E_frame (o : Nat) (v : Word) (s : State) :
    (effPage1E o v s).pending = s.pending ∧
    (effPage1E o v s).fs = s.fs ∧
    (effPage1E o v s).scene = s.scene ∧
    (effPage1E o v s).jtag = s.jtag ∧
    (effPage1E o v s).boot = s.boot ∧
    (effPage1E o v s).period = s.period ∧
    (effPage1E o v s).pwr = s.pwr ∧
    (effPage1E o v s).scan = s.scan ∧
    (effPage1E o v s).lct = s.lct ∧
    (effPage1E o v s).tb = s.tb ∧
    (effPage1E o v s).tiles = s.tiles ∧
    (effPage1E o v s).dcx = s.dcx ∧
    (effPage1E o v s).mnt = s.mnt ∧
    (effPage1E o v s).comp = s.comp ∧
    (effPage1E o v s).thm = s.thm ∧
    (effPage1E o v s).gl = s.gl ∧
    (effPage1E o v s).link = s.link ∧
    (effPage1E o v s).ozd = s.ozd ∧
    (effPage1E o v s).lctc = s.lctc ∧
    (effPage1E o v s).wcapLevel = s.wcapLevel := by simp only [effPage1E]; (repeat' split) <;> simp [cmxWrite_frame .., effBufCmd_frame .., eotfWrite_frame .., storeReg_frame ..]

theorem effPage1F_frame (m : Master) (o : Nat) (v : Word) (s : State) :
    (effPage1F m o v s).pending = s.pending ∧
    (effPage1F m o v s).fs = s.fs ∧
    (effPage1F m o v s).scene = s.scene ∧
    (effPage1F m o v s).jtag = s.jtag ∧
    (effPage1F m o v s).boot = s.boot ∧
    (effPage1F m o v s).period = s.period ∧
    (effPage1F m o v s).pwr = s.pwr ∧
    (effPage1F m o v s).scan = s.scan ∧
    (effPage1F m o v s).lct = s.lct ∧
    (effPage1F m o v s).tb = s.tb ∧
    (effPage1F m o v s).tiles = s.tiles ∧
    (effPage1F m o v s).handles = s.handles ∧
    (effPage1F m o v s).mnt = s.mnt ∧
    (effPage1F m o v s).comp = s.comp ∧
    (effPage1F m o v s).thm = s.thm ∧
    (effPage1F m o v s).gl = s.gl ∧
    (effPage1F m o v s).wcapLevel = s.wcapLevel := by simp only [effPage1F]; (repeat' split) <;> simp [effCrcExp_frame .., effLctAudit_frame .., effLctCtl_frame .., lctWriteHi_frame .., storeReg_frame ..]

theorem effPage20_frame (o : Nat) (v : Word) (s : State) :
    (effPage20 o v s).pending = s.pending ∧
    (effPage20 o v s).fs = s.fs ∧
    (effPage20 o v s).scene = s.scene ∧
    (effPage20 o v s).jtag = s.jtag ∧
    (effPage20 o v s).boot = s.boot ∧
    (effPage20 o v s).period = s.period ∧
    (effPage20 o v s).pwr = s.pwr ∧
    (effPage20 o v s).scan = s.scan ∧
    (effPage20 o v s).lct = s.lct ∧
    (effPage20 o v s).tb = s.tb ∧
    (effPage20 o v s).tiles = s.tiles ∧
    (effPage20 o v s).handles = s.handles ∧
    (effPage20 o v s).dcx = s.dcx ∧
    (effPage20 o v s).mnt = s.mnt ∧
    (effPage20 o v s).thm = s.thm ∧
    (effPage20 o v s).gl = s.gl ∧
    (effPage20 o v s).link = s.link ∧
    (effPage20 o v s).ozd = s.ozd ∧
    (effPage20 o v s).lctc = s.lctc ∧
    (effPage20 o v s).msgq = s.msgq ∧
    (effPage20 o v s).wcapLevel = s.wcapLevel := by simp only [effPage20]; (repeat' split) <;> simp [setComp_frame .., storeReg_frame ..]

theorem effPage21_frame (p o : Nat) (v : Word) (s : State) :
    (effPage21 p o v s).pending = s.pending ∧
    (effPage21 p o v s).fs = s.fs ∧
    (effPage21 p o v s).scene = s.scene ∧
    (effPage21 p o v s).jtag = s.jtag ∧
    (effPage21 p o v s).boot = s.boot ∧
    (effPage21 p o v s).period = s.period ∧
    (effPage21 p o v s).pwr = s.pwr ∧
    (effPage21 p o v s).scan = s.scan ∧
    (effPage21 p o v s).lct = s.lct ∧
    (effPage21 p o v s).tb = s.tb ∧
    (effPage21 p o v s).tiles = s.tiles ∧
    (effPage21 p o v s).handles = s.handles ∧
    (effPage21 p o v s).dcx = s.dcx ∧
    (effPage21 p o v s).thm = s.thm ∧
    (effPage21 p o v s).gl = s.gl ∧
    (effPage21 p o v s).link = s.link ∧
    (effPage21 p o v s).lctc = s.lctc ∧
    (effPage21 p o v s).wcapLevel = s.wcapLevel := by simp [effEctl_frame .., storeReg_frame .., effPage21]

theorem effPage26_frame (o : Nat) (v : Word) (s : State) :
    (effPage26 o v s).pending = s.pending ∧
    (effPage26 o v s).fs = s.fs ∧
    (effPage26 o v s).scene = s.scene ∧
    (effPage26 o v s).jtag = s.jtag ∧
    (effPage26 o v s).boot = s.boot ∧
    (effPage26 o v s).period = s.period ∧
    (effPage26 o v s).pwr = s.pwr ∧
    (effPage26 o v s).scan = s.scan ∧
    (effPage26 o v s).lct = s.lct ∧
    (effPage26 o v s).tb = s.tb ∧
    (effPage26 o v s).tiles = s.tiles ∧
    (effPage26 o v s).handles = s.handles ∧
    (effPage26 o v s).dcx = s.dcx ∧
    (effPage26 o v s).mnt = s.mnt ∧
    (effPage26 o v s).comp = s.comp ∧
    (effPage26 o v s).thm = s.thm ∧
    (effPage26 o v s).gl = s.gl ∧
    (effPage26 o v s).link = s.link ∧
    (effPage26 o v s).ozd = s.ozd ∧
    (effPage26 o v s).lctc = s.lctc ∧
    (effPage26 o v s).msgq = s.msgq ∧
    (effPage26 o v s).wcapLevel = s.wcapLevel := by simp only [effPage26]; (repeat' split) <;> simp [mtbWrite_frame .., sprWrite_frame .., storeReg_frame .., xfrWrite_frame ..]

theorem effPage28_frame (o : Nat) (v : Word) (s : State) :
    (effPage28 o v s).pending = s.pending ∧
    (effPage28 o v s).fs = s.fs ∧
    (effPage28 o v s).scene = s.scene ∧
    (effPage28 o v s).jtag = s.jtag ∧
    (effPage28 o v s).boot = s.boot ∧
    (effPage28 o v s).period = s.period ∧
    (effPage28 o v s).pwr = s.pwr ∧
    (effPage28 o v s).scan = s.scan ∧
    (effPage28 o v s).lct = s.lct ∧
    (effPage28 o v s).tb = s.tb ∧
    (effPage28 o v s).tiles = s.tiles ∧
    (effPage28 o v s).handles = s.handles ∧
    (effPage28 o v s).dcx = s.dcx ∧
    (effPage28 o v s).mnt = s.mnt ∧
    (effPage28 o v s).comp = s.comp ∧
    (effPage28 o v s).thm = s.thm ∧
    (effPage28 o v s).gl = s.gl ∧
    (effPage28 o v s).link = s.link ∧
    (effPage28 o v s).ozd = s.ozd ∧
    (effPage28 o v s).lctc = s.lctc ∧
    (effPage28 o v s).msgq = s.msgq ∧
    (effPage28 o v s).wcapLevel = s.wcapLevel := by simp only [effPage28]; (repeat' split) <;> simp [odWrite_frame .., storeReg_frame ..]

theorem effPage29_frame (o : Nat) (v : Word) (s : State) :
    (effPage29 o v s).pending = s.pending ∧
    (effPage29 o v s).fs = s.fs ∧
    (effPage29 o v s).scene = s.scene ∧
    (effPage29 o v s).jtag = s.jtag ∧
    (effPage29 o v s).boot = s.boot ∧
    (effPage29 o v s).period = s.period ∧
    (effPage29 o v s).pwr = s.pwr ∧
    (effPage29 o v s).scan = s.scan ∧
    (effPage29 o v s).lct = s.lct ∧
    (effPage29 o v s).tb = s.tb ∧
    (effPage29 o v s).tiles = s.tiles ∧
    (effPage29 o v s).handles = s.handles ∧
    (effPage29 o v s).dcx = s.dcx ∧
    (effPage29 o v s).mnt = s.mnt ∧
    (effPage29 o v s).comp = s.comp ∧
    (effPage29 o v s).thm = s.thm ∧
    (effPage29 o v s).gl = s.gl ∧
    (effPage29 o v s).link = s.link ∧
    (effPage29 o v s).ozd = s.ozd ∧
    (effPage29 o v s).lctc = s.lctc ∧
    (effPage29 o v s).msgq = s.msgq ∧
    (effPage29 o v s).wcapLevel = s.wcapLevel := by simp only [effPage29]; (repeat' split) <;> simp [nsbWrite_frame .., storeReg_frame ..]

theorem effPage2A_frame (o : Nat) (v : Word) (s : State) :
    (effPage2A o v s).pending = s.pending ∧
    (effPage2A o v s).fs = s.fs ∧
    (effPage2A o v s).scene = s.scene ∧
    (effPage2A o v s).jtag = s.jtag ∧
    (effPage2A o v s).boot = s.boot ∧
    (effPage2A o v s).period = s.period ∧
    (effPage2A o v s).pwr = s.pwr ∧
    (effPage2A o v s).scan = s.scan ∧
    (effPage2A o v s).lct = s.lct ∧
    (effPage2A o v s).tb = s.tb ∧
    (effPage2A o v s).tiles = s.tiles ∧
    (effPage2A o v s).handles = s.handles ∧
    (effPage2A o v s).dcx = s.dcx ∧
    (effPage2A o v s).mnt = s.mnt ∧
    (effPage2A o v s).comp = s.comp ∧
    (effPage2A o v s).thm = s.thm ∧
    (effPage2A o v s).gl = s.gl ∧
    (effPage2A o v s).link = s.link ∧
    (effPage2A o v s).ozd = s.ozd ∧
    (effPage2A o v s).lctc = s.lctc ∧
    (effPage2A o v s).msgq = s.msgq ∧
    (effPage2A o v s).wcapLevel = s.wcapLevel := by simp only [effPage2A]; (repeat' split) <;> simp [storeReg_frame .., tcWrite_frame ..]

theorem effPage2B_frame (p o : Nat) (v : Word) (s : State) :
    (effPage2B p o v s).pending = s.pending ∧
    (effPage2B p o v s).fs = s.fs ∧
    (effPage2B p o v s).scene = s.scene ∧
    (effPage2B p o v s).jtag = s.jtag ∧
    (effPage2B p o v s).boot = s.boot ∧
    (effPage2B p o v s).period = s.period ∧
    (effPage2B p o v s).pwr = s.pwr ∧
    (effPage2B p o v s).scan = s.scan ∧
    (effPage2B p o v s).lct = s.lct ∧
    (effPage2B p o v s).tb = s.tb ∧
    (effPage2B p o v s).handles = s.handles ∧
    (effPage2B p o v s).dcx = s.dcx ∧
    (effPage2B p o v s).comp = s.comp ∧
    (effPage2B p o v s).thm = s.thm ∧
    (effPage2B p o v s).gl = s.gl ∧
    (effPage2B p o v s).link = s.link ∧
    (effPage2B p o v s).ozd = s.ozd ∧
    (effPage2B p o v s).lctc = s.lctc ∧
    (effPage2B p o v s).wcapLevel = s.wcapLevel := by simp [effTctl_frame .., storeReg_frame .., effPage2B]

theorem effMemCtl_frame (sys : MemSys) (v : Word) (s : State) :
    (effMemCtl sys v s).pending = s.pending ∧
    (effMemCtl sys v s).fs = s.fs ∧
    (effMemCtl sys v s).scene = s.scene ∧
    (effMemCtl sys v s).jtag = s.jtag ∧
    (effMemCtl sys v s).boot = s.boot ∧
    (effMemCtl sys v s).period = s.period ∧
    (effMemCtl sys v s).pwr = s.pwr ∧
    (effMemCtl sys v s).scan = s.scan ∧
    (effMemCtl sys v s).lct = s.lct ∧
    (effMemCtl sys v s).tb = s.tb ∧
    (effMemCtl sys v s).tiles = s.tiles ∧
    (effMemCtl sys v s).handles = s.handles ∧
    (effMemCtl sys v s).dcx = s.dcx ∧
    (effMemCtl sys v s).comp = s.comp ∧
    (effMemCtl sys v s).thm = s.thm ∧
    (effMemCtl sys v s).gl = s.gl ∧
    (effMemCtl sys v s).link = s.link ∧
    (effMemCtl sys v s).ozd = s.ozd ∧
    (effMemCtl sys v s).lctc = s.lctc ∧
    (effMemCtl sys v s).wcapLevel = s.wcapLevel := by simp [mntPush_frame .., storeReg_frame .., effMemCtl]

theorem effMemPage_frame (sys : MemSys) (o : Nat) (v : Word) (s : State) :
    (effMemPage sys o v s).pending = s.pending ∧
    (effMemPage sys o v s).fs = s.fs ∧
    (effMemPage sys o v s).scene = s.scene ∧
    (effMemPage sys o v s).jtag = s.jtag ∧
    (effMemPage sys o v s).boot = s.boot ∧
    (effMemPage sys o v s).period = s.period ∧
    (effMemPage sys o v s).pwr = s.pwr ∧
    (effMemPage sys o v s).scan = s.scan ∧
    (effMemPage sys o v s).lct = s.lct ∧
    (effMemPage sys o v s).tb = s.tb ∧
    (effMemPage sys o v s).tiles = s.tiles ∧
    (effMemPage sys o v s).handles = s.handles ∧
    (effMemPage sys o v s).dcx = s.dcx ∧
    (effMemPage sys o v s).comp = s.comp ∧
    (effMemPage sys o v s).thm = s.thm ∧
    (effMemPage sys o v s).gl = s.gl ∧
    (effMemPage sys o v s).link = s.link ∧
    (effMemPage sys o v s).ozd = s.ozd ∧
    (effMemPage sys o v s).lctc = s.lctc ∧
    (effMemPage sys o v s).wcapLevel = s.wcapLevel := by simp only [effMemPage]; (repeat' split) <;> simp [effMemCtl_frame .., effPprCmd_frame .., setMem_frame .., setRegBit_frame .., storeReg_frame ..]

theorem effPage32_frame (p o : Nat) (v : Word) (s : State) :
    (effPage32 p o v s).pending = s.pending ∧
    (effPage32 p o v s).fs = s.fs ∧
    (effPage32 p o v s).scene = s.scene ∧
    (effPage32 p o v s).jtag = s.jtag ∧
    (effPage32 p o v s).boot = s.boot ∧
    (effPage32 p o v s).period = s.period ∧
    (effPage32 p o v s).pwr = s.pwr ∧
    (effPage32 p o v s).scan = s.scan ∧
    (effPage32 p o v s).lct = s.lct ∧
    (effPage32 p o v s).tb = s.tb ∧
    (effPage32 p o v s).tiles = s.tiles ∧
    (effPage32 p o v s).handles = s.handles ∧
    (effPage32 p o v s).dcx = s.dcx ∧
    (effPage32 p o v s).mnt = s.mnt ∧
    (effPage32 p o v s).comp = s.comp ∧
    (effPage32 p o v s).thm = s.thm ∧
    (effPage32 p o v s).gl = s.gl ∧
    (effPage32 p o v s).link = s.link ∧
    (effPage32 p o v s).ozd = s.ozd ∧
    (effPage32 p o v s).lctc = s.lctc ∧
    (effPage32 p o v s).msgq = s.msgq ∧
    (effPage32 p o v s).wcapLevel = s.wcapLevel := by simp only [effPage32]; (repeat' split) <;> simp [putEth_frame .., storeReg_frame ..]

theorem effPage34_frame (o : Nat) (v : Word) (s : State) :
    (effPage34 o v s).pending = s.pending ∧
    (effPage34 o v s).fs = s.fs ∧
    (effPage34 o v s).scene = s.scene ∧
    (effPage34 o v s).jtag = s.jtag ∧
    (effPage34 o v s).boot = s.boot ∧
    (effPage34 o v s).period = s.period ∧
    (effPage34 o v s).pwr = s.pwr ∧
    (effPage34 o v s).scan = s.scan ∧
    (effPage34 o v s).lct = s.lct ∧
    (effPage34 o v s).tiles = s.tiles ∧
    (effPage34 o v s).handles = s.handles ∧
    (effPage34 o v s).dcx = s.dcx ∧
    (effPage34 o v s).mnt = s.mnt ∧
    (effPage34 o v s).comp = s.comp ∧
    (effPage34 o v s).thm = s.thm ∧
    (effPage34 o v s).link = s.link ∧
    (effPage34 o v s).ozd = s.ozd ∧
    (effPage34 o v s).lctc = s.lctc ∧
    (effPage34 o v s).wcapLevel = s.wcapLevel := by simp only [effPage34]; (repeat' split) <;> simp [effTbCmd_frame .., effTbCtl_frame .., effTbPid_frame .., effTbPri_frame .., effTbShd_frame .., storeReg_frame ..]

theorem effPage36_frame (o : Nat) (v : Word) (s : State) :
    (effPage36 o v s).pending = s.pending ∧
    (effPage36 o v s).fs = s.fs ∧
    (effPage36 o v s).scene = s.scene ∧
    (effPage36 o v s).jtag = s.jtag ∧
    (effPage36 o v s).boot = s.boot ∧
    (effPage36 o v s).period = s.period ∧
    (effPage36 o v s).pwr = s.pwr ∧
    (effPage36 o v s).scan = s.scan ∧
    (effPage36 o v s).lct = s.lct ∧
    (effPage36 o v s).tb = s.tb ∧
    (effPage36 o v s).tiles = s.tiles ∧
    (effPage36 o v s).handles = s.handles ∧
    (effPage36 o v s).dcx = s.dcx ∧
    (effPage36 o v s).mnt = s.mnt ∧
    (effPage36 o v s).comp = s.comp ∧
    (effPage36 o v s).gl = s.gl ∧
    (effPage36 o v s).link = s.link ∧
    (effPage36 o v s).ozd = s.ozd ∧
    (effPage36 o v s).lctc = s.lctc ∧
    (effPage36 o v s).wcapLevel = s.wcapLevel := by simp only [effPage36]; (repeat' split) <;> simp [effThreshold_frame .., effZcmd_frame .., storeReg_frame ..]

theorem effPage37_frame (o : Nat) (v : Word) (s : State) :
    (effPage37 o v s).pending = s.pending ∧
    (effPage37 o v s).fs = s.fs ∧
    (effPage37 o v s).scene = s.scene ∧
    (effPage37 o v s).jtag = s.jtag ∧
    (effPage37 o v s).boot = s.boot ∧
    (effPage37 o v s).period = s.period ∧
    (effPage37 o v s).pwr = s.pwr ∧
    (effPage37 o v s).scan = s.scan ∧
    (effPage37 o v s).lct = s.lct ∧
    (effPage37 o v s).tb = s.tb ∧
    (effPage37 o v s).handles = s.handles ∧
    (effPage37 o v s).dcx = s.dcx ∧
    (effPage37 o v s).comp = s.comp ∧
    (effPage37 o v s).gl = s.gl ∧
    (effPage37 o v s).link = s.link ∧
    (effPage37 o v s).ozd = s.ozd ∧
    (effPage37 o v s).lctc = s.lctc ∧
    (effPage37 o v s).wcapLevel = s.wcapLevel := by simp only [effPage37]; (repeat' split) <;> simp [effCalReq_frame .., ledWrite_frame .., storeReg_frame ..]

theorem effPage38_frame (o : Nat) (v : Word) (s : State) :
    (effPage38 o v s).pending = s.pending ∧
    (effPage38 o v s).fs = s.fs ∧
    (effPage38 o v s).scene = s.scene ∧
    (effPage38 o v s).jtag = s.jtag ∧
    (effPage38 o v s).boot = s.boot ∧
    (effPage38 o v s).period = s.period ∧
    (effPage38 o v s).scan = s.scan ∧
    (effPage38 o v s).lct = s.lct ∧
    (effPage38 o v s).tb = s.tb ∧
    (effPage38 o v s).tiles = s.tiles ∧
    (effPage38 o v s).handles = s.handles ∧
    (effPage38 o v s).dcx = s.dcx ∧
    (effPage38 o v s).mnt = s.mnt ∧
    (effPage38 o v s).comp = s.comp ∧
    (effPage38 o v s).thm = s.thm ∧
    (effPage38 o v s).gl = s.gl ∧
    (effPage38 o v s).link = s.link ∧
    (effPage38 o v s).ozd = s.ozd ∧
    (effPage38 o v s).lctc = s.lctc ∧
    (effPage38 o v s).msgq = s.msgq ∧
    (effPage38 o v s).wcapLevel = s.wcapLevel := by simp only [effPage38]; (repeat' split) <;> simp [effPwrReq_frame .., storeReg_frame ..]

theorem effPage39_frame (m : Master) (o : Nat) (v : Word) (s : State) :
    (effPage39 m o v s).pending = s.pending ∧
    (effPage39 m o v s).fs = s.fs ∧
    (effPage39 m o v s).scene = s.scene ∧
    (effPage39 m o v s).jtag = s.jtag ∧
    (effPage39 m o v s).boot = s.boot ∧
    (effPage39 m o v s).period = s.period ∧
    (effPage39 m o v s).pwr = s.pwr ∧
    (effPage39 m o v s).scan = s.scan ∧
    (effPage39 m o v s).lct = s.lct ∧
    (effPage39 m o v s).tb = s.tb ∧
    (effPage39 m o v s).tiles = s.tiles ∧
    (effPage39 m o v s).handles = s.handles ∧
    (effPage39 m o v s).dcx = s.dcx ∧
    (effPage39 m o v s).mnt = s.mnt ∧
    (effPage39 m o v s).comp = s.comp ∧
    (effPage39 m o v s).thm = s.thm ∧
    (effPage39 m o v s).gl = s.gl ∧
    (effPage39 m o v s).link = s.link ∧
    (effPage39 m o v s).lctc = s.lctc ∧
    (effPage39 m o v s).wcapLevel = s.wcapLevel := by simp only [effPage39]; (repeat' split) <;> simp [effCtrCmd_frame .., effRelock_frame .., effUnlKey_frame .., storeReg_frame ..]

theorem effPage3A_frame (o : Nat) (v : Word) (s : State) :
    (effPage3A o v s).pending = s.pending ∧
    (effPage3A o v s).fs = s.fs ∧
    (effPage3A o v s).scene = s.scene ∧
    (effPage3A o v s).jtag = s.jtag ∧
    (effPage3A o v s).boot = s.boot ∧
    (effPage3A o v s).period = s.period ∧
    (effPage3A o v s).pwr = s.pwr ∧
    (effPage3A o v s).scan = s.scan ∧
    (effPage3A o v s).lct = s.lct ∧
    (effPage3A o v s).tb = s.tb ∧
    (effPage3A o v s).tiles = s.tiles ∧
    (effPage3A o v s).comp = s.comp ∧
    (effPage3A o v s).thm = s.thm ∧
    (effPage3A o v s).gl = s.gl ∧
    (effPage3A o v s).link = s.link ∧
    (effPage3A o v s).ozd = s.ozd ∧
    (effPage3A o v s).lctc = s.lctc ∧
    (effPage3A o v s).wcapLevel = s.wcapLevel := by simp only [effPage3A]; (repeat' split) <;> simp [effDecmd_frame .., storeReg_frame ..]

theorem effPage_frame (m : Master) (a : Nat) (v : Word) (s : State) :
    (effPage m a v s).pending = s.pending ∧
    (effPage m a v s).fs = s.fs ∧
    (effPage m a v s).scene = s.scene ∧
    (effPage m a v s).jtag = s.jtag ∧
    (effPage m a v s).boot = s.boot ∧
    (effPage m a v s).period = s.period ∧
    (effPage m a v s).lct = s.lct := by simp only [effPage]; (repeat' split) <;> simp [effHead_frame .., effMemPage_frame .., effPage00_frame .., effPage01_frame .., effPage03_frame .., effPage04_frame .., effPage06_frame .., effPage0C_frame .., effPage1E_frame .., effPage1F_frame .., effPage20_frame .., effPage21_frame .., effPage26_frame .., effPage28_frame .., effPage29_frame .., effPage2A_frame .., effPage2B_frame .., effPage32_frame .., effPage34_frame .., effPage36_frame .., effPage37_frame .., effPage38_frame .., effPage39_frame .., effPage3A_frame .., storeReg_frame ..]

theorem refuseAccess_frame (m : Master) (a reason : Nat) (write : Bool) (op : HeldOp) (s : State) :
    (refuseAccess m a reason write op s).pending = s.pending ∧
    (refuseAccess m a reason write op s).fs = s.fs ∧
    (refuseAccess m a reason write op s).scene = s.scene ∧
    (refuseAccess m a reason write op s).jtag = s.jtag ∧
    (refuseAccess m a reason write op s).boot = s.boot ∧
    (refuseAccess m a reason write op s).period = s.period ∧
    (refuseAccess m a reason write op s).pwr = s.pwr ∧
    (refuseAccess m a reason write op s).scan = s.scan ∧
    (refuseAccess m a reason write op s).lct = s.lct ∧
    (refuseAccess m a reason write op s).tb = s.tb ∧
    (refuseAccess m a reason write op s).tiles = s.tiles ∧
    (refuseAccess m a reason write op s).handles = s.handles ∧
    (refuseAccess m a reason write op s).mnt = s.mnt ∧
    (refuseAccess m a reason write op s).comp = s.comp ∧
    (refuseAccess m a reason write op s).thm = s.thm ∧
    (refuseAccess m a reason write op s).gl = s.gl ∧
    (refuseAccess m a reason write op s).lctc = s.lctc ∧
    (refuseAccess m a reason write op s).wcapLevel = s.wcapLevel := by simp only [refuseAccess]; (repeat' split) <;> simp [answer_frame .., holdOrBusy_frame .., violate_frame ..]

@[simp] theorem writePage_frame (m : Master) (a : Nat) (v : Word) (s : State) :
    (writePage m a v s).pending = s.pending := by simp [effPage_frame .., effThmCmd_frame .., noteM0_frame .., refuseAccess_frame .., writePage]

@[simp] theorem writeReg_frame (m : Master) (a : Nat) (v : Word) (s : State) :
    (writeReg m a v s).pending = s.pending := by simp only [writeReg]; (repeat' split) <;> simp [ctxWrite_frame .., noteM0_frame .., refuseAccess_frame .., windowWrite_frame ..]

theorem pairRead_frame (m a : Nat) (s : State) :
    (pairRead m a s).2.pending = s.pending ∧
    (pairRead m a s).2.fs = s.fs ∧
    (pairRead m a s).2.scene = s.scene ∧
    (pairRead m a s).2.jtag = s.jtag ∧
    (pairRead m a s).2.boot = s.boot ∧
    (pairRead m a s).2.period = s.period ∧
    (pairRead m a s).2.pwr = s.pwr ∧
    (pairRead m a s).2.scan = s.scan ∧
    (pairRead m a s).2.lct = s.lct ∧
    (pairRead m a s).2.tb = s.tb ∧
    (pairRead m a s).2.tiles = s.tiles ∧
    (pairRead m a s).2.handles = s.handles ∧
    (pairRead m a s).2.dcx = s.dcx ∧
    (pairRead m a s).2.mnt = s.mnt ∧
    (pairRead m a s).2.comp = s.comp ∧
    (pairRead m a s).2.thm = s.thm ∧
    (pairRead m a s).2.gl = s.gl ∧
    (pairRead m a s).2.link = s.link ∧
    (pairRead m a s).2.ozd = s.ozd ∧
    (pairRead m a s).2.lctc = s.lctc ∧
    (pairRead m a s).2.msgq = s.msgq ∧
    (pairRead m a s).2.wcapLevel = s.wcapLevel := by simp only [pairRead]; (repeat' split) <;> simp [holdHigh_frame .., takeHigh_frame ..]

theorem readEff_frame (m a : Nat) (s : State) :
    (readEff m a s).2.pending = s.pending ∧
    (readEff m a s).2.fs = s.fs ∧
    (readEff m a s).2.scene = s.scene ∧
    (readEff m a s).2.jtag = s.jtag ∧
    (readEff m a s).2.boot = s.boot ∧
    (readEff m a s).2.period = s.period ∧
    (readEff m a s).2.pwr = s.pwr ∧
    (readEff m a s).2.scan = s.scan ∧
    (readEff m a s).2.lct = s.lct ∧
    (readEff m a s).2.tb = s.tb ∧
    (readEff m a s).2.tiles = s.tiles ∧
    (readEff m a s).2.handles = s.handles ∧
    (readEff m a s).2.dcx = s.dcx ∧
    (readEff m a s).2.mnt = s.mnt ∧
    (readEff m a s).2.comp = s.comp ∧
    (readEff m a s).2.thm = s.thm ∧
    (readEff m a s).2.gl = s.gl ∧
    (readEff m a s).2.link = s.link ∧
    (readEff m a s).2.ozd = s.ozd ∧
    (readEff m a s).2.lctc = s.lctc ∧
    (readEff m a s).2.msgq = s.msgq ∧
    (readEff m a s).2.wcapLevel = s.wcapLevel := by
  simp only [readEff, apply_ite Prod.snd]
  simp [cmxRead_frame .., eotfRead_frame .., fifoMinRead_frame .., ledRead_frame .., mtbRead_frame .., nsbRead_frame .., odRead_frame .., pairRead_frame .., readTbNs_frame .., readThmMax_frame .., readTxq_frame .., sprRead_frame .., tcRead_frame .., xfrRead_frame .., zdataRead_frame ..]

theorem readPage_frame (m : Master) (a : Nat) (s : State) :
    (readPage m a s).pending = s.pending ∧
    (readPage m a s).fs = s.fs ∧
    (readPage m a s).scene = s.scene ∧
    (readPage m a s).jtag = s.jtag ∧
    (readPage m a s).boot = s.boot ∧
    (readPage m a s).period = s.period ∧
    (readPage m a s).pwr = s.pwr ∧
    (readPage m a s).scan = s.scan ∧
    (readPage m a s).tb = s.tb ∧
    (readPage m a s).tiles = s.tiles ∧
    (readPage m a s).handles = s.handles ∧
    (readPage m a s).comp = s.comp ∧
    (readPage m a s).thm = s.thm ∧
    (readPage m a s).gl = s.gl ∧
    (readPage m a s).wcapLevel = s.wcapLevel := by simp [lctReadHi_frame .., lctReadLo_frame .., readEff_frame .., readPage]

theorem readReg_frame (m : Master) (a : Nat) (s : State) :
    (readReg m a s).pending = s.pending ∧
    (readReg m a s).fs = s.fs ∧
    (readReg m a s).scene = s.scene ∧
    (readReg m a s).jtag = s.jtag ∧
    (readReg m a s).boot = s.boot ∧
    (readReg m a s).period = s.period ∧
    (readReg m a s).pwr = s.pwr ∧
    (readReg m a s).scan = s.scan ∧
    (readReg m a s).tb = s.tb ∧
    (readReg m a s).tiles = s.tiles ∧
    (readReg m a s).handles = s.handles ∧
    (readReg m a s).comp = s.comp ∧
    (readReg m a s).thm = s.thm ∧
    (readReg m a s).gl = s.gl ∧
    (readReg m a s).wcapLevel = s.wcapLevel := by simp only [readReg]; (repeat' split) <;> simp [readPage_frame .., refuseAccess_frame .., windowRead_frame ..]

end Sys2Proof.Machine
end

