-- ==== Sys2Proof/Laws/FrameHostReq.lean ====
section
/-!
SUPPORT. What each operation of HostReq.lean leaves unchanged.
-/
set_option linter.unusedSimpArgs false
namespace Sys2Proof.Machine

theorem takeReq_frame (q : RxTxn) (s : State) :
    (takeReq q s).pending = s.pending ∧
    (takeReq q s).fs = s.fs ∧
    (takeReq q s).scene = s.scene ∧
    (takeReq q s).jtag = s.jtag ∧
    (takeReq q s).boot = s.boot ∧
    (takeReq q s).period = s.period ∧
    (takeReq q s).pwr = s.pwr ∧
    (takeReq q s).scan = s.scan ∧
    (takeReq q s).lct = s.lct ∧
    (takeReq q s).tb = s.tb ∧
    (takeReq q s).tiles = s.tiles ∧
    (takeReq q s).handles = s.handles ∧
    (takeReq q s).dcx = s.dcx ∧
    (takeReq q s).mnt = s.mnt ∧
    (takeReq q s).comp = s.comp ∧
    (takeReq q s).thm = s.thm ∧
    (takeReq q s).gl = s.gl ∧
    (takeReq q s).ozd = s.ozd ∧
    (takeReq q s).lctc = s.lctc ∧
    (takeReq q s).msgq = s.msgq ∧
    (takeReq q s).wcapLevel = s.wcapLevel := by simp [setLink_frame .., takeReq]

theorem freeReq_frame (q : RxTxn) (s : State) :
    (freeReq q s).pending = s.pending ∧
    (freeReq q s).fs = s.fs ∧
    (freeReq q s).scene = s.scene ∧
    (freeReq q s).jtag = s.jtag ∧
    (freeReq q s).boot = s.boot ∧
    (freeReq q s).period = s.period ∧
    (freeReq q s).pwr = s.pwr ∧
    (freeReq q s).scan = s.scan ∧
    (freeReq q s).lct = s.lct ∧
    (freeReq q s).tb = s.tb ∧
    (freeReq q s).tiles = s.tiles ∧
    (freeReq q s).handles = s.handles ∧
    (freeReq q s).dcx = s.dcx ∧
    (freeReq q s).mnt = s.mnt ∧
    (freeReq q s).comp = s.comp ∧
    (freeReq q s).thm = s.thm ∧
    (freeReq q s).gl = s.gl ∧
    (freeReq q s).ozd = s.ozd ∧
    (freeReq q s).lctc = s.lctc ∧
    (freeReq q s).msgq = s.msgq ∧
    (freeReq q s).wcapLevel = s.wcapLevel := by simp [freeFlits_frame .., freeReq]

theorem noteRseq_frame (r : Req) (s : State) :
    (noteRseq r s).pending = s.pending ∧
    (noteRseq r s).fs = s.fs ∧
    (noteRseq r s).scene = s.scene ∧
    (noteRseq r s).jtag = s.jtag ∧
    (noteRseq r s).boot = s.boot ∧
    (noteRseq r s).period = s.period ∧
    (noteRseq r s).pwr = s.pwr ∧
    (noteRseq r s).scan = s.scan ∧
    (noteRseq r s).lct = s.lct ∧
    (noteRseq r s).tb = s.tb ∧
    (noteRseq r s).tiles = s.tiles ∧
    (noteRseq r s).handles = s.handles ∧
    (noteRseq r s).dcx = s.dcx ∧
    (noteRseq r s).mnt = s.mnt ∧
    (noteRseq r s).comp = s.comp ∧
    (noteRseq r s).thm = s.thm ∧
    (noteRseq r s).gl = s.gl ∧
    (noteRseq r s).ozd = s.ozd ∧
    (noteRseq r s).lctc = s.lctc ∧
    (noteRseq r s).msgq = s.msgq ∧
    (noteRseq r s).wcapLevel = s.wcapLevel := by simp [setLink_frame .., noteRseq]

@[simp] theorem runReq_pending (typ : Nat) (r : Req) (eff : RxTxn → State → State) (s : State) (heff : ∀ x0 x1, (eff x0 x1).pending = x1.pending) :
    (runReq typ r eff s).pending = s.pending := by
  unfold runReq; (repeat' split) <;> simp [freeReq_frame .., nak_frame .., noteRseq_frame .., takeReq_frame .., violateReq_frame .., heff]

@[simp] theorem runReq_fs (typ : Nat) (r : Req) (eff : RxTxn → State → State) (s : State) (heff : ∀ x0 x1, (eff x0 x1).fs = x1.fs) :
    (runReq typ r eff s).fs = s.fs := by
  unfold runReq; (repeat' split) <;> simp [freeReq_frame .., nak_frame .., noteRseq_frame .., takeReq_frame .., violateReq_frame .., heff]

@[simp] theorem runReq_scene (typ : Nat) (r : Req) (eff : RxTxn → State → State) (s : State) (heff : ∀ x0 x1, (eff x0 x1).scene = x1.scene) :
    (runReq typ r eff s).scene = s.scene := by
  unfold runReq; (repeat' split) <;> simp [freeReq_frame .., nak_frame .., noteRseq_frame .., takeReq_frame .., violateReq_frame .., heff]

@[simp] theorem runReq_jtag (typ : Nat) (r : Req) (eff : RxTxn → State → State) (s : State) (heff : ∀ x0 x1, (eff x0 x1).jtag = x1.jtag) :
    (runReq typ r eff s).jtag = s.jtag := by
  unfold runReq; (repeat' split) <;> simp [freeReq_frame .., nak_frame .., noteRseq_frame .., takeReq_frame .., violateReq_frame .., heff]

@[simp] theorem runReq_boot (typ : Nat) (r : Req) (eff : RxTxn → State → State) (s : State) (heff : ∀ x0 x1, (eff x0 x1).boot = x1.boot) :
    (runReq typ r eff s).boot = s.boot := by
  unfold runReq; (repeat' split) <;> simp [freeReq_frame .., nak_frame .., noteRseq_frame .., takeReq_frame .., violateReq_frame .., heff]

@[simp] theorem runReq_period (typ : Nat) (r : Req) (eff : RxTxn → State → State) (s : State) (heff : ∀ x0 x1, (eff x0 x1).period = x1.period) :
    (runReq typ r eff s).period = s.period := by
  unfold runReq; (repeat' split) <;> simp [freeReq_frame .., nak_frame .., noteRseq_frame .., takeReq_frame .., violateReq_frame .., heff]

@[simp] theorem runReq_pwr (typ : Nat) (r : Req) (eff : RxTxn → State → State) (s : State) (heff : ∀ x0 x1, (eff x0 x1).pwr = x1.pwr) :
    (runReq typ r eff s).pwr = s.pwr := by
  unfold runReq; (repeat' split) <;> simp [freeReq_frame .., nak_frame .., noteRseq_frame .., takeReq_frame .., violateReq_frame .., heff]

@[simp] theorem runReq_scan (typ : Nat) (r : Req) (eff : RxTxn → State → State) (s : State) (heff : ∀ x0 x1, (eff x0 x1).scan = x1.scan) :
    (runReq typ r eff s).scan = s.scan := by
  unfold runReq; (repeat' split) <;> simp [freeReq_frame .., nak_frame .., noteRseq_frame .., takeReq_frame .., violateReq_frame .., heff]

@[simp] theorem runReq_lct (typ : Nat) (r : Req) (eff : RxTxn → State → State) (s : State) (heff : ∀ x0 x1, (eff x0 x1).lct = x1.lct) :
    (runReq typ r eff s).lct = s.lct := by
  unfold runReq; (repeat' split) <;> simp [freeReq_frame .., nak_frame .., noteRseq_frame .., takeReq_frame .., violateReq_frame .., heff]

@[simp] theorem runReq_tb (typ : Nat) (r : Req) (eff : RxTxn → State → State) (s : State) (heff : ∀ x0 x1, (eff x0 x1).tb = x1.tb) :
    (runReq typ r eff s).tb = s.tb := by
  unfold runReq; (repeat' split) <;> simp [freeReq_frame .., nak_frame .., noteRseq_frame .., takeReq_frame .., violateReq_frame .., heff]

@[simp] theorem runReq_tiles (typ : Nat) (r : Req) (eff : RxTxn → State → State) (s : State) (heff : ∀ x0 x1, (eff x0 x1).tiles = x1.tiles) :
    (runReq typ r eff s).tiles = s.tiles := by
  unfold runReq; (repeat' split) <;> simp [freeReq_frame .., nak_frame .., noteRseq_frame .., takeReq_frame .., violateReq_frame .., heff]

@[simp] theorem runReq_handles (typ : Nat) (r : Req) (eff : RxTxn → State → State) (s : State) (heff : ∀ x0 x1, (eff x0 x1).handles = x1.handles) :
    (runReq typ r eff s).handles = s.handles := by
  unfold runReq; (repeat' split) <;> simp [freeReq_frame .., nak_frame .., noteRseq_frame .., takeReq_frame .., violateReq_frame .., heff]

@[simp] theorem runReq_mnt (typ : Nat) (r : Req) (eff : RxTxn → State → State) (s : State) (heff : ∀ x0 x1, (eff x0 x1).mnt = x1.mnt) :
    (runReq typ r eff s).mnt = s.mnt := by
  unfold runReq; (repeat' split) <;> simp [freeReq_frame .., nak_frame .., noteRseq_frame .., takeReq_frame .., violateReq_frame .., heff]

@[simp] theorem runReq_comp (typ : Nat) (r : Req) (eff : RxTxn → State → State) (s : State) (heff : ∀ x0 x1, (eff x0 x1).comp = x1.comp) :
    (runReq typ r eff s).comp = s.comp := by
  unfold runReq; (repeat' split) <;> simp [freeReq_frame .., nak_frame .., noteRseq_frame .., takeReq_frame .., violateReq_frame .., heff]

@[simp] theorem runReq_thm (typ : Nat) (r : Req) (eff : RxTxn → State → State) (s : State) (heff : ∀ x0 x1, (eff x0 x1).thm = x1.thm) :
    (runReq typ r eff s).thm = s.thm := by
  unfold runReq; (repeat' split) <;> simp [freeReq_frame .., nak_frame .., noteRseq_frame .., takeReq_frame .., violateReq_frame .., heff]

@[simp] theorem runReq_gl (typ : Nat) (r : Req) (eff : RxTxn → State → State) (s : State) (heff : ∀ x0 x1, (eff x0 x1).gl = x1.gl) :
    (runReq typ r eff s).gl = s.gl := by
  unfold runReq; (repeat' split) <;> simp [freeReq_frame .., nak_frame .., noteRseq_frame .., takeReq_frame .., violateReq_frame .., heff]

@[simp] theorem runReq_lctc (typ : Nat) (r : Req) (eff : RxTxn → State → State) (s : State) (heff : ∀ x0 x1, (eff x0 x1).lctc = x1.lctc) :
    (runReq typ r eff s).lctc = s.lctc := by
  unfold runReq; (repeat' split) <;> simp [freeReq_frame .., nak_frame .., noteRseq_frame .., takeReq_frame .., violateReq_frame .., heff]

@[simp] theorem runReq_wcapLevel (typ : Nat) (r : Req) (eff : RxTxn → State → State) (s : State) (heff : ∀ x0 x1, (eff x0 x1).wcapLevel = x1.wcapLevel) :
    (runReq typ r eff s).wcapLevel = s.wcapLevel := by
  unfold runReq; (repeat' split) <;> simp [freeReq_frame .., nak_frame .., noteRseq_frame .., takeReq_frame .., violateReq_frame .., heff]

theorem holdTxn_frame (q : RxTxn) (w : HoldWhy) (isWrite : Bool) (i : Nat) (got : List Byte) (s : State) :
    (holdTxn q w isWrite i got s).pending = s.pending ∧
    (holdTxn q w isWrite i got s).fs = s.fs ∧
    (holdTxn q w isWrite i got s).scene = s.scene ∧
    (holdTxn q w isWrite i got s).jtag = s.jtag ∧
    (holdTxn q w isWrite i got s).boot = s.boot ∧
    (holdTxn q w isWrite i got s).period = s.period ∧
    (holdTxn q w isWrite i got s).pwr = s.pwr ∧
    (holdTxn q w isWrite i got s).scan = s.scan ∧
    (holdTxn q w isWrite i got s).lct = s.lct ∧
    (holdTxn q w isWrite i got s).tb = s.tb ∧
    (holdTxn q w isWrite i got s).tiles = s.tiles ∧
    (holdTxn q w isWrite i got s).handles = s.handles ∧
    (holdTxn q w isWrite i got s).dcx = s.dcx ∧
    (holdTxn q w isWrite i got s).mnt = s.mnt ∧
    (holdTxn q w isWrite i got s).comp = s.comp ∧
    (holdTxn q w isWrite i got s).thm = s.thm ∧
    (holdTxn q w isWrite i got s).gl = s.gl ∧
    (holdTxn q w isWrite i got s).ozd = s.ozd ∧
    (holdTxn q w isWrite i got s).lctc = s.lctc ∧
    (holdTxn q w isWrite i got s).msgq = s.msgq ∧
    (holdTxn q w isWrite i got s).wcapLevel = s.wcapLevel := by simp [holdAccess_frame .., setLink_frame .., holdTxn]

theorem endTxn_frame (q : RxTxn) (isWrite : Bool) (got : List Byte) (s : State) :
    (endTxn q isWrite got s).pending = s.pending ∧
    (endTxn q isWrite got s).fs = s.fs ∧
    (endTxn q isWrite got s).scene = s.scene ∧
    (endTxn q isWrite got s).jtag = s.jtag ∧
    (endTxn q isWrite got s).boot = s.boot ∧
    (endTxn q isWrite got s).period = s.period ∧
    (endTxn q isWrite got s).pwr = s.pwr ∧
    (endTxn q isWrite got s).scan = s.scan ∧
    (endTxn q isWrite got s).lct = s.lct ∧
    (endTxn q isWrite got s).tb = s.tb ∧
    (endTxn q isWrite got s).tiles = s.tiles ∧
    (endTxn q isWrite got s).handles = s.handles ∧
    (endTxn q isWrite got s).dcx = s.dcx ∧
    (endTxn q isWrite got s).mnt = s.mnt ∧
    (endTxn q isWrite got s).comp = s.comp ∧
    (endTxn q isWrite got s).thm = s.thm ∧
    (endTxn q isWrite got s).gl = s.gl ∧
    (endTxn q isWrite got s).ozd = s.ozd ∧
    (endTxn q isWrite got s).lctc = s.lctc ∧
    (endTxn q isWrite got s).msgq = s.msgq ∧
    (endTxn q isWrite got s).wcapLevel = s.wcapLevel := by simp [complete_frame .., freeReq_frame .., endTxn]

@[simp] theorem accessOne_frame (q : RxTxn) (isWrite : Bool) (i : Nat) (s : State) :
    (accessOne q isWrite i s).pending = s.pending := by simp [readReg_frame .., accessOne]

@[simp] theorem accessAll_frame (q : RxTxn) (w : Bool) (n i : Nat) (got : List Byte) (s : State) :
    (accessAll q w n i got s).pending = s.pending := by
  induction n generalizing i got s with
  | zero => simp [endTxn_frame .., freeReq_frame .., holdTxn_frame .., nak_frame .., accessAll]
  | succ n ih => unfold accessAll; dsimp only; (repeat' split) <;> simp [endTxn_frame .., freeReq_frame .., holdTxn_frame .., nak_frame .., ih]

@[simp] theorem regsTxn_frame (q : RxTxn) (isWrite : Bool) (s : State) :
    (regsTxn q isWrite s).pending = s.pending := by simp [regsTxn]

theorem memTxn_frame (typ : Nat) (q : RxTxn) (sys : MemSys) (off : Nat) (s : State) :
    (memTxn typ q sys off s).pending = s.pending ∧
    (memTxn typ q sys off s).fs = s.fs ∧
    (memTxn typ q sys off s).scene = s.scene ∧
    (memTxn typ q sys off s).jtag = s.jtag ∧
    (memTxn typ q sys off s).boot = s.boot ∧
    (memTxn typ q sys off s).period = s.period ∧
    (memTxn typ q sys off s).pwr = s.pwr ∧
    (memTxn typ q sys off s).scan = s.scan ∧
    (memTxn typ q sys off s).lct = s.lct ∧
    (memTxn typ q sys off s).tb = s.tb ∧
    (memTxn typ q sys off s).tiles = s.tiles ∧
    (memTxn typ q sys off s).handles = s.handles ∧
    (memTxn typ q sys off s).dcx = s.dcx ∧
    (memTxn typ q sys off s).comp = s.comp ∧
    (memTxn typ q sys off s).thm = s.thm ∧
    (memTxn typ q sys off s).gl = s.gl ∧
    (memTxn typ q sys off s).ozd = s.ozd ∧
    (memTxn typ q sys off s).lctc = s.lctc ∧
    (memTxn typ q sys off s).wcapLevel = s.wcapLevel := by simp [complete_frame .., freeReq_frame .., memRead_frame .., nak_frame .., memTxn]

theorem denyTxn_frame (typ reason : Nat) (q : RxTxn) (s : State) :
    (denyTxn typ reason q s).pending = s.pending ∧
    (denyTxn typ reason q s).fs = s.fs ∧
    (denyTxn typ reason q s).scene = s.scene ∧
    (denyTxn typ reason q s).jtag = s.jtag ∧
    (denyTxn typ reason q s).boot = s.boot ∧
    (denyTxn typ reason q s).period = s.period ∧
    (denyTxn typ reason q s).pwr = s.pwr ∧
    (denyTxn typ reason q s).scan = s.scan ∧
    (denyTxn typ reason q s).lct = s.lct ∧
    (denyTxn typ reason q s).tb = s.tb ∧
    (denyTxn typ reason q s).tiles = s.tiles ∧
    (denyTxn typ reason q s).handles = s.handles ∧
    (denyTxn typ reason q s).mnt = s.mnt ∧
    (denyTxn typ reason q s).comp = s.comp ∧
    (denyTxn typ reason q s).thm = s.thm ∧
    (denyTxn typ reason q s).gl = s.gl ∧
    (denyTxn typ reason q s).lctc = s.lctc ∧
    (denyTxn typ reason q s).wcapLevel = s.wcapLevel := by simp [freeReq_frame .., violateReq_frame .., denyTxn]

@[simp] theorem effRd_frame (q : RxTxn) (s : State) :
    (effRd q s).pending = s.pending := by simp only [effRd]; (repeat' split) <;> simp [denyTxn_frame .., memTxn_frame ..]

@[simp] theorem effWr_frame (q : RxTxn) (s : State) :
    (effWr q s).pending = s.pending := by simp only [effWr]; (repeat' split) <;> simp [capWrite_frame .., denyTxn_frame .., freeReq_frame ..]

theorem effBput_frame (q : RxTxn) (s : State) :
    (effBput q s).pending = s.pending ∧
    (effBput q s).fs = s.fs ∧
    (effBput q s).scene = s.scene ∧
    (effBput q s).jtag = s.jtag ∧
    (effBput q s).boot = s.boot ∧
    (effBput q s).period = s.period ∧
    (effBput q s).pwr = s.pwr ∧
    (effBput q s).scan = s.scan ∧
    (effBput q s).lct = s.lct ∧
    (effBput q s).tb = s.tb ∧
    (effBput q s).tiles = s.tiles ∧
    (effBput q s).handles = s.handles ∧
    (effBput q s).mnt = s.mnt ∧
    (effBput q s).comp = s.comp ∧
    (effBput q s).thm = s.thm ∧
    (effBput q s).gl = s.gl ∧
    (effBput q s).lctc = s.lctc ∧
    (effBput q s).wcapLevel = s.wcapLevel := by simp [bputAccept_frame .., denyTxn_frame .., freeReq_frame .., nak_frame .., effBput]

theorem effBget_frame (q : RxTxn) (s : State) :
    (effBget q s).pending = s.pending ∧
    (effBget q s).fs = s.fs ∧
    (effBget q s).scene = s.scene ∧
    (effBget q s).jtag = s.jtag ∧
    (effBget q s).boot = s.boot ∧
    (effBget q s).period = s.period ∧
    (effBget q s).pwr = s.pwr ∧
    (effBget q s).scan = s.scan ∧
    (effBget q s).lct = s.lct ∧
    (effBget q s).tb = s.tb ∧
    (effBget q s).tiles = s.tiles ∧
    (effBget q s).handles = s.handles ∧
    (effBget q s).dcx = s.dcx ∧
    (effBget q s).comp = s.comp ∧
    (effBget q s).thm = s.thm ∧
    (effBget q s).gl = s.gl ∧
    (effBget q s).ozd = s.ozd ∧
    (effBget q s).lctc = s.lctc ∧
    (effBget q s).wcapLevel = s.wcapLevel := by simp [freeReq_frame .., memTxn_frame .., nak_frame .., effBget]

@[simp] theorem resumeTxn_frame (r : Req) (isWrite : Bool) (i : Nat) (got : List Byte) (s : State) :
    (resumeTxn r isWrite i got s).pending = s.pending := by simp only [resumeTxn]; (repeat' split) <;> simp [freeReq_frame .., nak_frame .., takeReq_frame ..]

@[simp] theorem replayHeld_frame (h : Held) (s : State) :
    (replayHeld h s).pending = s.pending := by simp only [replayHeld]; (repeat' split) <;> simp [holdAccess_frame .., readReg_frame ..]

@[simp] theorem replayAllHeld_frame (s : State) :
    (replayAllHeld s).pending = s.pending := by simp [replayAllHeld]

@[simp] theorem recordFlush_frame (s : State) :
    (recordFlush s).pending = s.pending := by simp [ozFlush_frame .., reportStore_frame .., recordFlush]

end Sys2Proof.Machine
end

