-- ==== Sys2Proof/Laws/FrameBoot.lean ====
section
/-!
SUPPORT. What each operation of Boot.lean leaves unchanged.
-/
namespace Sys2Proof.Machine

theorem resolveTwin_frame (page magic part block : Nat) (s : State) :
    (resolveTwin page magic part block s).pending = s.pending ∧
    (resolveTwin page magic part block s).fs = s.fs ∧
    (resolveTwin page magic part block s).scene = s.scene ∧
    (resolveTwin page magic part block s).jtag = s.jtag ∧
    (resolveTwin page magic part block s).boot = s.boot ∧
    (resolveTwin page magic part block s).period = s.period ∧
    (resolveTwin page magic part block s).pwr = s.pwr ∧
    (resolveTwin page magic part block s).scan = s.scan ∧
    (resolveTwin page magic part block s).lct = s.lct ∧
    (resolveTwin page magic part block s).tb = s.tb ∧
    (resolveTwin page magic part block s).tiles = s.tiles ∧
    (resolveTwin page magic part block s).handles = s.handles ∧
    (resolveTwin page magic part block s).dcx = s.dcx ∧
    (resolveTwin page magic part block s).mnt = s.mnt ∧
    (resolveTwin page magic part block s).comp = s.comp ∧
    (resolveTwin page magic part block s).thm = s.thm ∧
    (resolveTwin page magic part block s).gl = s.gl ∧
    (resolveTwin page magic part block s).link = s.link ∧
    (resolveTwin page magic part block s).lctc = s.lctc ∧
    (resolveTwin page magic part block s).wcapLevel = s.wcapLevel := by simp only [resolveTwin]; (repeat' split) <;> simp [ozLog_frame .., ozRecord_frame .., raise_frame ..]

theorem ringTwin_frame (page slots key part block : Nat) (s : State) :
    (ringTwin page slots key part block s).pending = s.pending ∧
    (ringTwin page slots key part block s).fs = s.fs ∧
    (ringTwin page slots key part block s).scene = s.scene ∧
    (ringTwin page slots key part block s).jtag = s.jtag ∧
    (ringTwin page slots key part block s).boot = s.boot ∧
    (ringTwin page slots key part block s).period = s.period ∧
    (ringTwin page slots key part block s).pwr = s.pwr ∧
    (ringTwin page slots key part block s).scan = s.scan ∧
    (ringTwin page slots key part block s).lct = s.lct ∧
    (ringTwin page slots key part block s).tb = s.tb ∧
    (ringTwin page slots key part block s).tiles = s.tiles ∧
    (ringTwin page slots key part block s).handles = s.handles ∧
    (ringTwin page slots key part block s).dcx = s.dcx ∧
    (ringTwin page slots key part block s).mnt = s.mnt ∧
    (ringTwin page slots key part block s).comp = s.comp ∧
    (ringTwin page slots key part block s).thm = s.thm ∧
    (ringTwin page slots key part block s).gl = s.gl ∧
    (ringTwin page slots key part block s).link = s.link ∧
    (ringTwin page slots key part block s).ozd = s.ozd ∧
    (ringTwin page slots key part block s).lctc = s.lctc ∧
    (ringTwin page slots key part block s).wcapLevel = s.wcapLevel := by simp only [ringTwin]; (repeat' split) <;> simp [raise_frame ..]

theorem resolveCfg_frame (s : State) :
    (resolveCfg s).pending = s.pending ∧
    (resolveCfg s).fs = s.fs ∧
    (resolveCfg s).scene = s.scene ∧
    (resolveCfg s).jtag = s.jtag ∧
    (resolveCfg s).boot = s.boot ∧
    (resolveCfg s).period = s.period ∧
    (resolveCfg s).pwr = s.pwr ∧
    (resolveCfg s).scan = s.scan ∧
    (resolveCfg s).lct = s.lct ∧
    (resolveCfg s).tb = s.tb ∧
    (resolveCfg s).tiles = s.tiles ∧
    (resolveCfg s).handles = s.handles ∧
    (resolveCfg s).dcx = s.dcx ∧
    (resolveCfg s).mnt = s.mnt ∧
    (resolveCfg s).comp = s.comp ∧
    (resolveCfg s).thm = s.thm ∧
    (resolveCfg s).gl = s.gl ∧
    (resolveCfg s).link = s.link ∧
    (resolveCfg s).lctc = s.lctc ∧
    (resolveCfg s).wcapLevel = s.wcapLevel := by simp only [resolveCfg]; (repeat' split) <;> simp [ozLog_frame .., ozRecord_frame .., raise_frame ..]

theorem loadP1_frame (s : State) :
    (loadP1 s).pending = s.pending ∧
    (loadP1 s).fs = s.fs ∧
    (loadP1 s).scene = s.scene ∧
    (loadP1 s).jtag = s.jtag ∧
    (loadP1 s).period = s.period ∧
    (loadP1 s).pwr = s.pwr ∧
    (loadP1 s).scan = s.scan ∧
    (loadP1 s).lct = s.lct ∧
    (loadP1 s).tb = s.tb ∧
    (loadP1 s).tiles = s.tiles ∧
    (loadP1 s).handles = s.handles ∧
    (loadP1 s).dcx = s.dcx ∧
    (loadP1 s).mnt = s.mnt ∧
    (loadP1 s).comp = s.comp ∧
    (loadP1 s).gl = s.gl ∧
    (loadP1 s).link = s.link ∧
    (loadP1 s).ozd = s.ozd ∧
    (loadP1 s).lctc = s.lctc ∧
    (loadP1 s).msgq = s.msgq ∧
    (loadP1 s).wcapLevel = s.wcapLevel := by simp [loadP1]

theorem loadTable_frame (s : State) :
    (loadTable s).pending = s.pending ∧
    (loadTable s).fs = s.fs ∧
    (loadTable s).scene = s.scene ∧
    (loadTable s).jtag = s.jtag ∧
    (loadTable s).boot = s.boot ∧
    (loadTable s).period = s.period ∧
    (loadTable s).pwr = s.pwr ∧
    (loadTable s).scan = s.scan ∧
    (loadTable s).lct = s.lct ∧
    (loadTable s).tb = s.tb ∧
    (loadTable s).tiles = s.tiles ∧
    (loadTable s).handles = s.handles ∧
    (loadTable s).dcx = s.dcx ∧
    (loadTable s).mnt = s.mnt ∧
    (loadTable s).comp = s.comp ∧
    (loadTable s).thm = s.thm ∧
    (loadTable s).gl = s.gl ∧
    (loadTable s).link = s.link ∧
    (loadTable s).lctc = s.lctc ∧
    (loadTable s).msgq = s.msgq ∧
    (loadTable s).wcapLevel = s.wcapLevel := by simp [loadTable]

theorem touchScan_frame (s : State) :
    (touchScan s).pending = s.pending ∧
    (touchScan s).fs = s.fs ∧
    (touchScan s).scene = s.scene ∧
    (touchScan s).jtag = s.jtag ∧
    (touchScan s).boot = s.boot ∧
    (touchScan s).period = s.period ∧
    (touchScan s).pwr = s.pwr ∧
    (touchScan s).scan = s.scan ∧
    (touchScan s).lct = s.lct ∧
    (touchScan s).tb = s.tb ∧
    (touchScan s).tiles = s.tiles ∧
    (touchScan s).handles = s.handles ∧
    (touchScan s).dcx = s.dcx ∧
    (touchScan s).mnt = s.mnt ∧
    (touchScan s).comp = s.comp ∧
    (touchScan s).thm = s.thm ∧
    (touchScan s).gl = s.gl ∧
    (touchScan s).link = s.link ∧
    (touchScan s).lctc = s.lctc ∧
    (touchScan s).wcapLevel = s.wcapLevel := by simp [ozReads_frame .., touchScan]

theorem ozErrors_frame (s : State) :
    (ozErrors s).pending = s.pending ∧
    (ozErrors s).fs = s.fs ∧
    (ozErrors s).scene = s.scene ∧
    (ozErrors s).jtag = s.jtag ∧
    (ozErrors s).boot = { s.boot with scanErrs := [] } ∧
    (ozErrors s).period = s.period ∧
    (ozErrors s).pwr = s.pwr ∧
    (ozErrors s).scan = s.scan ∧
    (ozErrors s).lct = s.lct ∧
    (ozErrors s).tb = s.tb ∧
    (ozErrors s).tiles = s.tiles ∧
    (ozErrors s).handles = s.handles ∧
    (ozErrors s).dcx = s.dcx ∧
    (ozErrors s).mnt = s.mnt ∧
    (ozErrors s).comp = s.comp ∧
    (ozErrors s).thm = s.thm ∧
    (ozErrors s).gl = s.gl ∧
    (ozErrors s).link = s.link ∧
    (ozErrors s).lctc = s.lctc ∧
    (ozErrors s).msgq = s.msgq ∧
    (ozErrors s).wcapLevel = s.wcapLevel := by simp [ozErrors]

theorem loadLogHead_frame (s : State) :
    (loadLogHead s).pending = s.pending ∧
    (loadLogHead s).fs = s.fs ∧
    (loadLogHead s).scene = s.scene ∧
    (loadLogHead s).jtag = s.jtag ∧
    (loadLogHead s).boot = s.boot ∧
    (loadLogHead s).period = s.period ∧
    (loadLogHead s).pwr = s.pwr ∧
    (loadLogHead s).scan = s.scan ∧
    (loadLogHead s).lct = s.lct ∧
    (loadLogHead s).tb = s.tb ∧
    (loadLogHead s).tiles = s.tiles ∧
    (loadLogHead s).handles = s.handles ∧
    (loadLogHead s).dcx = s.dcx ∧
    (loadLogHead s).mnt = s.mnt ∧
    (loadLogHead s).comp = s.comp ∧
    (loadLogHead s).thm = s.thm ∧
    (loadLogHead s).gl = s.gl ∧
    (loadLogHead s).link = s.link ∧
    (loadLogHead s).lctc = s.lctc ∧
    (loadLogHead s).msgq = s.msgq ∧
    (loadLogHead s).wcapLevel = s.wcapLevel := by simp [loadLogHead]

theorem scanLives_frame (s : State) :
    (scanLives s).pending = s.pending ∧
    (scanLives s).fs = s.fs ∧
    (scanLives s).scene = s.scene ∧
    (scanLives s).jtag = s.jtag ∧
    (scanLives s).boot = s.boot ∧
    (scanLives s).period = s.period ∧
    (scanLives s).pwr = s.pwr ∧
    (scanLives s).scan = s.scan ∧
    (scanLives s).lct = s.lct ∧
    (scanLives s).tb = s.tb ∧
    (scanLives s).tiles = s.tiles ∧
    (scanLives s).handles = s.handles ∧
    (scanLives s).dcx = s.dcx ∧
    (scanLives s).mnt = s.mnt ∧
    (scanLives s).comp = s.comp ∧
    (scanLives s).thm = s.thm ∧
    (scanLives s).gl = s.gl ∧
    (scanLives s).link = s.link ∧
    (scanLives s).lctc = s.lctc ∧
    (scanLives s).wcapLevel = s.wcapLevel := by simp [resolveTwin_frame .., ringTwin_frame .., scanLives]

theorem scanCounters_frame (s : State) :
    (scanCounters s).pending = s.pending ∧
    (scanCounters s).fs = s.fs ∧
    (scanCounters s).scene = s.scene ∧
    (scanCounters s).jtag = s.jtag ∧
    (scanCounters s).boot = s.boot ∧
    (scanCounters s).period = s.period ∧
    (scanCounters s).pwr = s.pwr ∧
    (scanCounters s).scan = s.scan ∧
    (scanCounters s).lct = s.lct ∧
    (scanCounters s).tb = s.tb ∧
    (scanCounters s).tiles = s.tiles ∧
    (scanCounters s).handles = s.handles ∧
    (scanCounters s).dcx = s.dcx ∧
    (scanCounters s).mnt = s.mnt ∧
    (scanCounters s).comp = s.comp ∧
    (scanCounters s).thm = s.thm ∧
    (scanCounters s).gl = s.gl ∧
    (scanCounters s).link = s.link ∧
    (scanCounters s).ozd = s.ozd ∧
    (scanCounters s).lctc = s.lctc ∧
    (scanCounters s).wcapLevel = s.wcapLevel := by simp [ringTwin_frame .., scanCounters]

theorem owedRecords_frame (s : State) :
    (owedRecords s).pending = s.pending ∧
    (owedRecords s).fs = s.fs ∧
    (owedRecords s).scene = s.scene ∧
    (owedRecords s).jtag = s.jtag ∧
    (owedRecords s).period = s.period ∧
    (owedRecords s).pwr = s.pwr ∧
    (owedRecords s).scan = s.scan ∧
    (owedRecords s).lct = s.lct ∧
    (owedRecords s).tb = s.tb ∧
    (owedRecords s).tiles = s.tiles ∧
    (owedRecords s).handles = s.handles ∧
    (owedRecords s).dcx = s.dcx ∧
    (owedRecords s).mnt = s.mnt ∧
    (owedRecords s).comp = s.comp ∧
    (owedRecords s).thm = s.thm ∧
    (owedRecords s).gl = s.gl ∧
    (owedRecords s).link = s.link ∧
    (owedRecords s).lctc = s.lctc ∧
    (owedRecords s).wcapLevel = s.wcapLevel := by simp [counterAdd_frame .., ozLog_frame .., owedRecords]

theorem scanHead_frame (s : State) :
    (scanHead s).pending = s.pending ∧
    (scanHead s).fs = s.fs ∧
    (scanHead s).scene = s.scene ∧
    (scanHead s).jtag = s.jtag ∧
    (scanHead s).period = s.period ∧
    (scanHead s).pwr = s.pwr ∧
    (scanHead s).scan = s.scan ∧
    (scanHead s).lct = s.lct ∧
    (scanHead s).tb = s.tb ∧
    (scanHead s).tiles = s.tiles ∧
    (scanHead s).handles = s.handles ∧
    (scanHead s).dcx = s.dcx ∧
    (scanHead s).mnt = s.mnt ∧
    (scanHead s).comp = s.comp ∧
    (scanHead s).gl = s.gl ∧
    (scanHead s).link = s.link ∧
    (scanHead s).lctc = s.lctc ∧
    (scanHead s).wcapLevel = s.wcapLevel := by simp [loadKeys_frame .., loadLogHead_frame .., loadP1_frame .., loadTable_frame .., touchScan_frame .., scanHead]

theorem scanCopies_frame (s : State) :
    (scanCopies s).pending = s.pending ∧
    (scanCopies s).fs = s.fs ∧
    (scanCopies s).scene = s.scene ∧
    (scanCopies s).jtag = s.jtag ∧
    (scanCopies s).boot = s.boot ∧
    (scanCopies s).period = s.period ∧
    (scanCopies s).pwr = s.pwr ∧
    (scanCopies s).scan = s.scan ∧
    (scanCopies s).lct = s.lct ∧
    (scanCopies s).tb = s.tb ∧
    (scanCopies s).tiles = s.tiles ∧
    (scanCopies s).handles = s.handles ∧
    (scanCopies s).dcx = s.dcx ∧
    (scanCopies s).mnt = s.mnt ∧
    (scanCopies s).comp = s.comp ∧
    (scanCopies s).thm = s.thm ∧
    (scanCopies s).gl = s.gl ∧
    (scanCopies s).link = s.link ∧
    (scanCopies s).lctc = s.lctc ∧
    (scanCopies s).wcapLevel = s.wcapLevel := by simp [resolveCfg_frame .., resolveTwin_frame .., scanCounters_frame .., scanLives_frame .., scanCopies]

theorem endScan_frame (found : Bool) (detail : Nat) (bootOk : Bool) (s : State) :
    (endScan found detail bootOk s).pending = s.pending ∧
    (endScan found detail bootOk s).fs = s.fs ∧
    (endScan found detail bootOk s).scene = s.scene ∧
    (endScan found detail bootOk s).jtag = s.jtag ∧
    (endScan found detail bootOk s).period = s.period ∧
    (endScan found detail bootOk s).pwr = s.pwr ∧
    (endScan found detail bootOk s).scan = s.scan ∧
    (endScan found detail bootOk s).lct = s.lct ∧
    (endScan found detail bootOk s).tb = s.tb ∧
    (endScan found detail bootOk s).tiles = s.tiles ∧
    (endScan found detail bootOk s).handles = s.handles ∧
    (endScan found detail bootOk s).dcx = s.dcx ∧
    (endScan found detail bootOk s).mnt = s.mnt ∧
    (endScan found detail bootOk s).comp = s.comp ∧
    (endScan found detail bootOk s).thm = s.thm ∧
    (endScan found detail bootOk s).gl = s.gl ∧
    (endScan found detail bootOk s).link = s.link ∧
    (endScan found detail bootOk s).lctc = s.lctc ∧
    (endScan found detail bootOk s).wcapLevel = s.wcapLevel := by simp [owedRecords_frame .., reportStore_frame .., endScan]

theorem bootScan_frame (s : State) :
    (bootScan s).pending = s.pending ∧
    (bootScan s).fs = s.fs ∧
    (bootScan s).scene = s.scene ∧
    (bootScan s).jtag = s.jtag ∧
    (bootScan s).period = s.period ∧
    (bootScan s).pwr = s.pwr ∧
    (bootScan s).scan = s.scan ∧
    (bootScan s).lct = s.lct ∧
    (bootScan s).tb = s.tb ∧
    (bootScan s).tiles = s.tiles ∧
    (bootScan s).handles = s.handles ∧
    (bootScan s).dcx = s.dcx ∧
    (bootScan s).mnt = s.mnt ∧
    (bootScan s).comp = s.comp ∧
    (bootScan s).gl = s.gl ∧
    (bootScan s).link = s.link ∧
    (bootScan s).lctc = s.lctc ∧
    (bootScan s).wcapLevel = s.wcapLevel := by simp [endScan_frame .., scanCopies_frame .., scanHead_frame .., bootScan]

theorem writeBootRec_frame (r : BootRec) (s : State) :
    (writeBootRec r s).pending = s.pending ∧
    (writeBootRec r s).fs = s.fs ∧
    (writeBootRec r s).scene = s.scene ∧
    (writeBootRec r s).jtag = s.jtag ∧
    (writeBootRec r s).boot = s.boot ∧
    (writeBootRec r s).period = s.period ∧
    (writeBootRec r s).pwr = s.pwr ∧
    (writeBootRec r s).scan = s.scan ∧
    (writeBootRec r s).lct = s.lct ∧
    (writeBootRec r s).tb = s.tb ∧
    (writeBootRec r s).tiles = s.tiles ∧
    (writeBootRec r s).handles = s.handles ∧
    (writeBootRec r s).dcx = s.dcx ∧
    (writeBootRec r s).mnt = s.mnt ∧
    (writeBootRec r s).comp = s.comp ∧
    (writeBootRec r s).thm = s.thm ∧
    (writeBootRec r s).gl = s.gl ∧
    (writeBootRec r s).link = s.link ∧
    (writeBootRec r s).lctc = s.lctc ∧
    (writeBootRec r s).msgq = s.msgq ∧
    (writeBootRec r s).wcapLevel = s.wcapLevel := by simp [ozRecord_frame .., writeBootRec]

theorem recordChoice_frame (c : Choice) (s : State) :
    (recordChoice c s).pending = s.pending ∧
    (recordChoice c s).fs = s.fs ∧
    (recordChoice c s).scene = s.scene ∧
    (recordChoice c s).jtag = s.jtag ∧
    (recordChoice c s).boot = s.boot ∧
    (recordChoice c s).period = s.period ∧
    (recordChoice c s).pwr = s.pwr ∧
    (recordChoice c s).scan = s.scan ∧
    (recordChoice c s).lct = s.lct ∧
    (recordChoice c s).tb = s.tb ∧
    (recordChoice c s).tiles = s.tiles ∧
    (recordChoice c s).handles = s.handles ∧
    (recordChoice c s).dcx = s.dcx ∧
    (recordChoice c s).mnt = s.mnt ∧
    (recordChoice c s).comp = s.comp ∧
    (recordChoice c s).thm = s.thm ∧
    (recordChoice c s).gl = s.gl ∧
    (recordChoice c s).link = s.link ∧
    (recordChoice c s).lctc = s.lctc ∧
    (recordChoice c s).msgq = s.msgq ∧
    (recordChoice c s).wcapLevel = s.wcapLevel := by simp only [recordChoice]; (repeat' split) <;> simp [writeBootRec_frame ..]

theorem takeSlot_frame (c : Choice) (s : State) :
    (takeSlot c s).pending = s.pending ∧
    (takeSlot c s).fs = s.fs ∧
    (takeSlot c s).scene = s.scene ∧
    (takeSlot c s).jtag = s.jtag ∧
    (takeSlot c s).period = s.period ∧
    (takeSlot c s).pwr = s.pwr ∧
    (takeSlot c s).scan = s.scan ∧
    (takeSlot c s).lct = s.lct ∧
    (takeSlot c s).tb = s.tb ∧
    (takeSlot c s).tiles = s.tiles ∧
    (takeSlot c s).handles = s.handles ∧
    (takeSlot c s).dcx = s.dcx ∧
    (takeSlot c s).mnt = s.mnt ∧
    (takeSlot c s).comp = s.comp ∧
    (takeSlot c s).thm = s.thm ∧
    (takeSlot c s).gl = s.gl ∧
    (takeSlot c s).link = s.link ∧
    (takeSlot c s).ozd = s.ozd ∧
    (takeSlot c s).lctc = s.lctc ∧
    (takeSlot c s).msgq = s.msgq ∧
    (takeSlot c s).wcapLevel = s.wcapLevel := by simp only [takeSlot]; (repeat' split) <;> simp

theorem chooseSlot_frame (s : State) :
    (chooseSlot s).pending = s.pending ∧
    (chooseSlot s).fs = s.fs ∧
    (chooseSlot s).scene = s.scene ∧
    (chooseSlot s).jtag = s.jtag ∧
    (chooseSlot s).period = s.period ∧
    (chooseSlot s).pwr = s.pwr ∧
    (chooseSlot s).scan = s.scan ∧
    (chooseSlot s).lct = s.lct ∧
    (chooseSlot s).tb = s.tb ∧
    (chooseSlot s).tiles = s.tiles ∧
    (chooseSlot s).handles = s.handles ∧
    (chooseSlot s).dcx = s.dcx ∧
    (chooseSlot s).mnt = s.mnt ∧
    (chooseSlot s).comp = s.comp ∧
    (chooseSlot s).thm = s.thm ∧
    (chooseSlot s).gl = s.gl ∧
    (chooseSlot s).link = s.link ∧
    (chooseSlot s).lctc = s.lctc ∧
    (chooseSlot s).wcapLevel = s.wcapLevel := by simp [raise_frame .., recordChoice_frame .., takeSlot_frame .., chooseSlot]

@[simp] theorem applyPair_frame (q : Nat × Word) (s : State) :
    (applyPair q s).pending = s.pending := by simp [bootStore_frame .., applyPair]

theorem applyFallback_frame (s : State) :
    (applyFallback s).pending = s.pending ∧
    (applyFallback s).fs = s.fs ∧
    (applyFallback s).scene = s.scene ∧
    (applyFallback s).jtag = s.jtag ∧
    (applyFallback s).boot = s.boot ∧
    (applyFallback s).period = s.period ∧
    (applyFallback s).pwr = s.pwr ∧
    (applyFallback s).scan = s.scan ∧
    (applyFallback s).lct = s.lct ∧
    (applyFallback s).tb = s.tb ∧
    (applyFallback s).tiles = s.tiles ∧
    (applyFallback s).handles = s.handles ∧
    (applyFallback s).dcx = s.dcx ∧
    (applyFallback s).mnt = s.mnt ∧
    (applyFallback s).comp = s.comp ∧
    (applyFallback s).gl = s.gl ∧
    (applyFallback s).link = s.link ∧
    (applyFallback s).ozd = s.ozd ∧
    (applyFallback s).lctc = s.lctc ∧
    (applyFallback s).msgq = s.msgq ∧
    (applyFallback s).wcapLevel = s.wcapLevel := by simp [setThm_frame .., applyFallback]

theorem reapply_frame (s : State) (i : Nat) :
    (reapply s i).pending = s.pending ∧
    (reapply s i).fs = s.fs ∧
    (reapply s i).scene = s.scene ∧
    (reapply s i).jtag = s.jtag ∧
    (reapply s i).boot = s.boot ∧
    (reapply s i).period = s.period ∧
    (reapply s i).pwr = s.pwr ∧
    (reapply s i).scan = s.scan ∧
    (reapply s i).lct = s.lct ∧
    (reapply s i).tb = s.tb ∧
    (reapply s i).tiles = s.tiles ∧
    (reapply s i).handles = s.handles ∧
    (reapply s i).dcx = s.dcx ∧
    (reapply s i).mnt = s.mnt ∧
    (reapply s i).comp = s.comp ∧
    (reapply s i).thm = s.thm ∧
    (reapply s i).gl = s.gl ∧
    (reapply s i).link = s.link ∧
    (reapply s i).lctc = s.lctc ∧
    (reapply s i).msgq = s.msgq ∧
    (reapply s i).wcapLevel = s.wcapLevel := by simp [logRepair_frame .., ozRecord_frame .., reapply]

theorem applyRepairs_frame (s : State) :
    (applyRepairs s).pending = s.pending ∧
    (applyRepairs s).fs = s.fs ∧
    (applyRepairs s).scene = s.scene ∧
    (applyRepairs s).jtag = s.jtag ∧
    (applyRepairs s).boot = s.boot ∧
    (applyRepairs s).period = s.period ∧
    (applyRepairs s).pwr = s.pwr ∧
    (applyRepairs s).scan = s.scan ∧
    (applyRepairs s).lct = s.lct ∧
    (applyRepairs s).tb = s.tb ∧
    (applyRepairs s).tiles = s.tiles ∧
    (applyRepairs s).handles = s.handles ∧
    (applyRepairs s).dcx = s.dcx ∧
    (applyRepairs s).mnt = s.mnt ∧
    (applyRepairs s).comp = s.comp ∧
    (applyRepairs s).thm = s.thm ∧
    (applyRepairs s).gl = s.gl ∧
    (applyRepairs s).link = s.link ∧
    (applyRepairs s).lctc = s.lctc ∧
    (applyRepairs s).msgq = s.msgq ∧
    (applyRepairs s).wcapLevel = s.wcapLevel := by simp [reapply_frame .., applyRepairs]

@[simp] theorem applyEntry_frame (s : State) (e : DWord) :
    (applyEntry s e).pending = s.pending := by simp only [applyEntry]; (repeat' split) <;> simp [setRegN_frame ..]

@[simp] theorem applyConfig_frame (s : State) :
    (applyConfig s).pending = s.pending := by simp [setRegN_frame .., applyConfig]

theorem startScan_frame (s : State) :
    (startScan s).pending = s.pending ∧
    (startScan s).fs = s.fs ∧
    (startScan s).scene = s.scene ∧
    (startScan s).jtag = s.jtag ∧
    (startScan s).boot = s.boot ∧
    (startScan s).period = s.period ∧
    (startScan s).pwr = s.pwr ∧
    (startScan s).scan = s.scan ∧
    (startScan s).lct = s.lct ∧
    (startScan s).tb = s.tb ∧
    (startScan s).tiles = s.tiles ∧
    (startScan s).handles = s.handles ∧
    (startScan s).dcx = s.dcx ∧
    (startScan s).mnt = s.mnt ∧
    (startScan s).comp = s.comp ∧
    (startScan s).thm = s.thm ∧
    (startScan s).gl = s.gl ∧
    (startScan s).link = s.link ∧
    (startScan s).ozd = s.ozd ∧
    (startScan s).lctc = s.lctc ∧
    (startScan s).msgq = s.msgq ∧
    (startScan s).wcapLevel = s.wcapLevel := by simp [setRegFld_frame .., setScanState_frame .., startScan]

theorem recordReached_frame (s : State) :
    (recordReached s).pending = s.pending ∧
    (recordReached s).fs = s.fs ∧
    (recordReached s).scene = s.scene ∧
    (recordReached s).jtag = s.jtag ∧
    (recordReached s).boot = s.boot ∧
    (recordReached s).period = s.period ∧
    (recordReached s).pwr = s.pwr ∧
    (recordReached s).scan = s.scan ∧
    (recordReached s).lct = s.lct ∧
    (recordReached s).tb = s.tb ∧
    (recordReached s).tiles = s.tiles ∧
    (recordReached s).handles = s.handles ∧
    (recordReached s).dcx = s.dcx ∧
    (recordReached s).mnt = s.mnt ∧
    (recordReached s).comp = s.comp ∧
    (recordReached s).thm = s.thm ∧
    (recordReached s).gl = s.gl ∧
    (recordReached s).link = s.link ∧
    (recordReached s).lctc = s.lctc ∧
    (recordReached s).msgq = s.msgq ∧
    (recordReached s).wcapLevel = s.wcapLevel := by simp [writeBootRec_frame .., recordReached]

theorem openHost_frame (s : State) :
    (openHost s).pending = s.pending ∧
    (openHost s).fs = s.fs ∧
    (openHost s).scene = s.scene ∧
    (openHost s).jtag = s.jtag ∧
    (openHost s).period = s.period ∧
    (openHost s).pwr = s.pwr ∧
    (openHost s).scan = s.scan ∧
    (openHost s).lct = s.lct ∧
    (openHost s).tb = s.tb ∧
    (openHost s).tiles = s.tiles ∧
    (openHost s).handles = s.handles ∧
    (openHost s).dcx = s.dcx ∧
    (openHost s).mnt = s.mnt ∧
    (openHost s).comp = s.comp ∧
    (openHost s).thm = s.thm ∧
    (openHost s).gl = s.gl ∧
    (openHost s).link = s.link ∧
    (openHost s).lctc = s.lctc ∧
    (openHost s).msgq = s.msgq ∧
    (openHost s).wcapLevel = s.wcapLevel := by simp [recordReached_frame .., openHost]

theorem autoLct_frame (s : State) :
    (autoLct s).pending = s.pending ∧
    (autoLct s).fs = s.fs ∧
    (autoLct s).scene = s.scene ∧
    (autoLct s).jtag = s.jtag ∧
    (autoLct s).boot = s.boot ∧
    (autoLct s).period = s.period ∧
    (autoLct s).pwr = s.pwr ∧
    (autoLct s).scan = s.scan ∧
    (autoLct s).lct = s.lct ∧
    (autoLct s).tb = s.tb ∧
    (autoLct s).tiles = s.tiles ∧
    (autoLct s).handles = s.handles ∧
    (autoLct s).dcx = s.dcx ∧
    (autoLct s).mnt = s.mnt ∧
    (autoLct s).comp = s.comp ∧
    (autoLct s).thm = s.thm ∧
    (autoLct s).gl = s.gl ∧
    (autoLct s).link = s.link ∧
    (autoLct s).ozd = s.ozd ∧
    (autoLct s).msgq = s.msgq ∧
    (autoLct s).wcapLevel = s.wcapLevel := by simp only [autoLct]; (repeat' split) <;> simp [effLctCtl_frame .., setReg_frame ..]

theorem carryOut_frame (s : State) :
    (carryOut s).pending = s.pending ∧
    (carryOut s).fs = s.fs ∧
    (carryOut s).scene = s.scene ∧
    (carryOut s).jtag = s.jtag ∧
    (carryOut s).boot = s.boot ∧
    (carryOut s).period = s.period ∧
    (carryOut s).scan = s.scan ∧
    (carryOut s).lct = s.lct ∧
    (carryOut s).tb = s.tb ∧
    (carryOut s).tiles = s.tiles ∧
    (carryOut s).handles = s.handles ∧
    (carryOut s).dcx = s.dcx ∧
    (carryOut s).mnt = s.mnt ∧
    (carryOut s).comp = s.comp ∧
    (carryOut s).thm = s.thm ∧
    (carryOut s).gl = s.gl ∧
    (carryOut s).link = s.link ∧
    (carryOut s).ozd = s.ozd ∧
    (carryOut s).lctc = s.lctc ∧
    (carryOut s).wcapLevel = s.wcapLevel := by simp only [carryOut]; (repeat' split) <;> simp [changeState_frame .., setPwr_frame ..]

@[simp] theorem bootSteps_frame (s : State) :
    (bootSteps s).pending = s.pending := by simp [applyConfig_frame .., applyFallback_frame .., applyLedset_frame .., applyPair_frame .., applyRepairs_frame .., assignShadows_frame .., auditRestart_frame .., autoLct_frame .., carryOut_frame .., chooseSlot_frame .., loadNrr_frame .., openHost_frame .., startScan_frame .., bootSteps]

end Sys2Proof.Machine
end

