-- ==== Sys2Proof/Laws/FramePorts.lean ====
section
/-!
SUPPORT. What each operation of Ports.lean leaves unchanged.
-/
namespace Sys2Proof.Machine

@[simp] theorem nightAddressed_frame (s : State) :
    (nightAddressed s).pending = s.pending := by simp [nightAddressed]

@[simp] theorem wakeByPort_frame (a : Nat) (s : State) :
    (wakeByPort a s).pending = s.pending := by simp [wakeByPort]

@[simp] theorem smbusWrite_frame (cmd : Byte) (a : Nat) (v : Word) (pec : Option Bool) (s : State) :
    (smbusWrite cmd a v pec s).pending = s.pending := by simp [answer_frame .., noteM0_frame .., smbusWrite]

@[simp] theorem smbusRead_frame (cmd : Byte) (a : Nat) (pec : Option Bool) (s : State) :
    (smbusRead cmd a pec s).pending = s.pending := by simp [answer_frame .., readReg_frame .., smbusRead]

theorem jtagSelect_frame (ir : Byte) (dr : JtagDr) (pins : PinMode) (s : State) :
    (jtagSelect ir dr pins s).pending = s.pending ∧
    (jtagSelect ir dr pins s).fs = s.fs ∧
    (jtagSelect ir dr pins s).scene = s.scene ∧
    (jtagSelect ir dr pins s).boot = s.boot ∧
    (jtagSelect ir dr pins s).period = s.period ∧
    (jtagSelect ir dr pins s).pwr = s.pwr ∧
    (jtagSelect ir dr pins s).scan = s.scan ∧
    (jtagSelect ir dr pins s).lct = s.lct ∧
    (jtagSelect ir dr pins s).tb = s.tb ∧
    (jtagSelect ir dr pins s).tiles = s.tiles ∧
    (jtagSelect ir dr pins s).handles = s.handles ∧
    (jtagSelect ir dr pins s).dcx = s.dcx ∧
    (jtagSelect ir dr pins s).mnt = s.mnt ∧
    (jtagSelect ir dr pins s).comp = s.comp ∧
    (jtagSelect ir dr pins s).thm = s.thm ∧
    (jtagSelect ir dr pins s).gl = s.gl ∧
    (jtagSelect ir dr pins s).link = s.link ∧
    (jtagSelect ir dr pins s).ozd = s.ozd ∧
    (jtagSelect ir dr pins s).lctc = s.lctc ∧
    (jtagSelect ir dr pins s).msgq = s.msgq ∧
    (jtagSelect ir dr pins s).wcapLevel = s.wcapLevel := by simp [jtagSelect]

end Sys2Proof.Machine
end

