-- ==== Sys2Proof/Laws/FrameIdle.lean ====
section
/-!
SUPPORT. What each operation of Idle.lean leaves unchanged.
-/
namespace Sys2Proof.Machine

theorem idleTick_frame (s : State) :
    (idleTick s).pending = s.pending ∧
    (idleTick s).fs = s.fs ∧
    (idleTick s).scene = s.scene ∧
    (idleTick s).jtag = s.jtag ∧
    (idleTick s).boot = s.boot ∧
    (idleTick s).period = s.period ∧
    (idleTick s).pwr = s.pwr ∧
    (idleTick s).scan = s.scan ∧
    (idleTick s).lct = s.lct ∧
    (idleTick s).tiles = s.tiles ∧
    (idleTick s).handles = s.handles ∧
    (idleTick s).dcx = s.dcx ∧
    (idleTick s).mnt = s.mnt ∧
    (idleTick s).comp = s.comp ∧
    (idleTick s).thm = s.thm ∧
    (idleTick s).link = s.link ∧
    (idleTick s).lctc = s.lctc ∧
    (idleTick s).msgq = s.msgq := by simp [passTime_frame .., idleTick]

end Sys2Proof.Machine
end

