-- ==== Sys2Proof/Laws/InvOps.lean ====
section
/-!
SUPPORT. The operations of Ops.lean keep the bounds of Inv.
-/
set_option linter.unusedSimpArgs false
namespace Sys2Proof.Machine

@[simp] theorem putMsgq_msgqOk (k : Nat) (v : MsgQ) (s : State) (hv : v.recs.length ≤ 64)
    (hOk : MsgqOk s.msgq) : MsgqOk (putMsgq k v s).msgq := msgqOk_sPut k v s.msgq hv hOk

@[simp] theorem queueRec_msgqOk (k : Nat) (r : EvtRec) (s : State)
    (hOk : MsgqOk s.msgq) : MsgqOk (queueRec k r s).msgq := by
  unfold queueRec
  dsimp only
  split
  · exact putMsgq_msgqOk _ _ _ (by rw [List.length_append]; simpa [bumpLost_frame ..] using ‹_ < 64›) hOk
  · exact putMsgq_msgqOk _ _ _ (getMsgq_ok s k hOk) (by simpa [bumpLost_frame ..] using hOk)

@[simp] theorem queueAll_msgqOk (p : Nat) (r : EvtRec) (s : State)
    (hOk : MsgqOk s.msgq) : MsgqOk (queueAll p r s).msgq := by simp (maxDischargeDepth := 30) +contextual [queueAll, hOk]

@[simp] theorem fireAt_msgqOk (p b ev detail : Nat) (s : State)
    (hOk : MsgqOk s.msgq) : MsgqOk (fireAt p b ev detail s).msgq := by simp only [fireAt]; (repeat' split) <;> first | with_reducible exact hOk | simp (maxDischargeDepth := 30) +contextual [captureOnFault_frame .., setRegBit_frame .., hOk]

@[simp] theorem msgLost_msgqOk (ks : List Nat) (s : State)
    (hOk : MsgqOk s.msgq) : MsgqOk (msgLost ks s).msgq := by simp (maxDischargeDepth := 30) +contextual [msgLost, hOk]

@[simp] theorem raise_msgqOk (ev detail : Nat) (s : State)
    (hOk : MsgqOk s.msgq) : MsgqOk (raise ev detail s).msgq := by simp only [raise]; (repeat' split) <;> first | with_reducible exact hOk | simp (maxDischargeDepth := 30) +contextual [hOk]

@[simp] theorem queuePending_msgqOk (p : Nat) (before : Word) (s : State)
    (hOk : MsgqOk s.msgq) : MsgqOk (queuePending p before s).msgq := by
  unfold queuePending
  exact foldl_inv (fun q => MsgqOk q.msgq) _
    (by intro q x hq; (repeat' split) <;> simp +contextual [hq]) _ _ (by simp (maxDischargeDepth := 30) +contextual [hOk])

@[simp] theorem mntPush_msgqOk (act unit : Nat) (host : Bool) (s : State)
    (hOk : MsgqOk s.msgq) : MsgqOk (mntPush act unit host s).msgq := by simp only [mntPush]; (repeat' split) <;> first | with_reducible exact hOk | simp (maxDischargeDepth := 30) +contextual [bumpSat_frame .., hOk]

@[simp] theorem mntPush_mntOk (act unit : Nat) (host : Bool) (s : State)
    (hOk : MntOk s.mnt) : MntOk (mntPush act unit host s).mnt := by
  unfold mntPush
  split
  · exact hOk
  · split
    · exact mntOk_mk _ _ _ (by simp [bumpSat_frame .., raise_frame ..]; omega)
    · simp [bumpSat_frame .., raise_frame .., mntOk_len _ hOk]

@[simp] theorem mntAbort_msgqOk (act unit cause : Nat) (s : State)
    (hOk : MsgqOk s.msgq) : MsgqOk (mntAbort act unit cause s).msgq := by simp only [mntAbort]; (repeat' split) <;> first | with_reducible exact hOk | simp (maxDischargeDepth := 30) +contextual [bumpSat_frame .., dropRun_frame .., hOk]

@[simp] theorem mntAbort_mntOk (act unit cause : Nat) (s : State)
    (hOk : MntOk s.mnt) : MntOk (mntAbort act unit cause s).mnt := by
  unfold mntAbort
  split
  · exact hOk
  · simp only [raise_frame, bumpSat_frame, dropRun_frame]
    split
    · exact mntOk_mk _ _ _ (by rw [List.length_append, List.length_singleton]; omega)
    · exact mntOk_mk _ _ _ (filter_le _ _ _ hOk)

@[simp] theorem mntFinish_msgqOk (act unit : Nat) (pass : Bool) (s : State)
    (hOk : MsgqOk s.msgq) : MsgqOk (mntFinish act unit pass s).msgq := by simp (maxDischargeDepth := 30) +contextual [bumpWrap_frame .., mntFinish, hOk]

@[simp] theorem mntFinish_mntOk (act unit : Nat) (pass : Bool) (s : State)
    (hOk : MntOk s.mnt) : MntOk (mntFinish act unit pass s).mnt := by
  unfold mntFinish
  split
  · simp only [raise_frame, bumpWrap_frame, mntOk_lit]
    exact filter_le _ _ _ hOk
  · exact hOk

@[simp] theorem mntNoSpare_msgqOk (act unit : Nat) (s : State)
    (hOk : MsgqOk s.msgq) : MsgqOk (mntNoSpare act unit s).msgq := by simp (maxDischargeDepth := 30) +contextual [bumpSat_frame .., mntNoSpare, hOk]

@[simp] theorem mntNoSpare_mntOk (act unit : Nat) (s : State)
    (hOk : MntOk s.mnt) : MntOk (mntNoSpare act unit s).mnt := by
  unfold mntNoSpare
  simp only [raise_frame, bumpSat_frame, mntOk_lit]
  exact filter_le _ _ _ hOk

@[simp] theorem listRow_msgqOk (sys : MemSys) (off cause : Nat) (s : State)
    (hOk : MsgqOk s.msgq) : MsgqOk (listRow sys off cause s).msgq := by simp only [listRow]; (repeat' split) <;> first | with_reducible exact hOk | simp (maxDischargeDepth := 30) +contextual [bumpSat_frame .., rplSet_frame .., hOk]

@[simp] theorem listRow_mntOk (sys : MemSys) (off cause : Nat) (s : State)
    (hOk : MntOk s.mnt) : MntOk (listRow sys off cause s).mnt := by simp only [listRow]; (repeat' split) <;> first | with_reducible exact hOk | simp (maxDischargeDepth := 30) +contextual [bumpSat_frame .., raise_frame .., rplSet_frame .., hOk]

@[simp] theorem raiseUncorr_msgqOk (sys : MemSys) (off reader : Nat) (s : State)
    (hOk : MsgqOk s.msgq) : MsgqOk (raiseUncorr sys off reader s).msgq := by simp (maxDischargeDepth := 30) +contextual [setMem_frame .., raiseUncorr, hOk]

@[simp] theorem uncorr_msgqOk (sys : MemSys) (off reader : Nat) (s : State)
    (hOk : MsgqOk s.msgq) : MsgqOk (uncorr sys off reader s).msgq := by simp only [uncorr]; (repeat' split) <;> first | with_reducible exact hOk | simp (maxDischargeDepth := 30) +contextual [bumpSat_frame .., setRegN_frame .., hOk]

@[simp] theorem uncorr_mntOk (sys : MemSys) (off reader : Nat) (s : State)
    (hOk : MntOk s.mnt) : MntOk (uncorr sys off reader s).mnt := by simp only [uncorr]; (repeat' split) <;> first | with_reducible exact hOk | simp (maxDischargeDepth := 30) +contextual [bumpSat_frame .., raiseUncorr_frame .., setRegN_frame .., hOk]

@[simp] theorem setCells_fsOk (sys : MemSys) (l : List Host.Cell) (s : State) (hl : Memory.wf l = true)
    (hOk : Memory.wf s.fs = true) : Memory.wf (setCells sys l s).fs = true := by
  unfold setCells
  split <;> assumption

@[simp] theorem setCells_sceneOk (sys : MemSys) (l : List Host.Cell) (s : State) (hl : Memory.wf l = true)
    (hOk : Memory.wf s.scene = true) : Memory.wf (setCells sys l s).scene = true := by
  unfold setCells
  split <;> assumption

@[simp] theorem partialUE_msgqOk (sys : MemSys) (c : Nat) (s : State)
    (hOk : MsgqOk s.msgq) : MsgqOk (partialUE sys c s).msgq := by simp only [partialUE]; (repeat' split) <;> first | with_reducible exact hOk | simp (maxDischargeDepth := 30) +contextual [bumpSat_frame .., hOk]

@[simp] theorem partialUE_mntOk (sys : MemSys) (c : Nat) (s : State)
    (hOk : MntOk s.mnt) : MntOk (partialUE sys c s).mnt := by simp only [partialUE]; (repeat' split) <;> first | with_reducible exact hOk | simp (maxDischargeDepth := 30) +contextual [bumpSat_frame .., raise_frame .., hOk]

@[simp] theorem memWrite_fsOk (sys : MemSys) (off : Nat) (data : List Byte) (s : State)
    (hOk : Memory.wf s.fs = true) : Memory.wf (memWrite sys off data s).fs = true := by
  cases sys
  · simp [partialUE_frame .., setUE_frame .., memWrite, setCells, cells, hOk]
  · simp [partialUE_frame .., setUE_frame .., memWrite, setCells, cells, hOk]

@[simp] theorem memWrite_sceneOk (sys : MemSys) (off : Nat) (data : List Byte) (s : State)
    (hOk : Memory.wf s.scene = true) : Memory.wf (memWrite sys off data s).scene = true := by
  cases sys
  · simp [partialUE_frame .., setUE_frame .., memWrite, setCells, cells, hOk]
  · simp [partialUE_frame .., setUE_frame .., memWrite, setCells, cells, hOk]

@[simp] theorem memWrite_msgqOk (sys : MemSys) (off : Nat) (data : List Byte) (s : State)
    (hOk : MsgqOk s.msgq) : MsgqOk (memWrite sys off data s).msgq := by simp (maxDischargeDepth := 30) +contextual [setCells_frame .., setUE_frame .., memWrite, hOk]

@[simp] theorem memWrite_mntOk (sys : MemSys) (off : Nat) (data : List Byte) (s : State)
    (hOk : MntOk s.mnt) : MntOk (memWrite sys off data s).mnt := by simp (maxDischargeDepth := 30) +contextual [setCells_frame .., setUE_frame .., memWrite, hOk]

@[simp] theorem memRead_msgqOk (sys : MemSys) (off n reader : Nat) (s : State)
    (hOk : MsgqOk s.msgq) : MsgqOk (memRead sys off n reader s).1.msgq := by simp (maxDischargeDepth := 30) +contextual [memRead, hOk]

@[simp] theorem memRead_mntOk (sys : MemSys) (off n reader : Nat) (s : State)
    (hOk : MntOk s.mnt) : MntOk (memRead sys off n reader s).1.mnt := by simp (maxDischargeDepth := 30) +contextual [memRead, hOk]

end Sys2Proof.Machine
end

