-- ==== Sys2Proof/Laws/InvStore.lean ====
section
/-!
SUPPORT. The operations of Store.lean keep the bounds of Inv.
-/
namespace Sys2Proof.Machine

@[simp] theorem ozTouch_msgqOk (w : Nat) (s : State)
    (hOk : MsgqOk s.msgq) : MsgqOk (ozTouch w s).msgq := by simp only [ozTouch]; (repeat' split) <;> first | with_reducible exact hOk | simp (maxDischargeDepth := 30) +contextual [bumpSat_frame .., setRegN_frame .., hOk]

@[simp] theorem ozReads_msgqOk (p : Nat → Bool) (s : State)
    (hOk : MsgqOk s.msgq) : MsgqOk (ozReads p s).msgq := by simp (maxDischargeDepth := 30) +contextual [ozReads, hOk]

@[simp] theorem ozReadAt_msgqOk (lo n : Nat) (s : State)
    (hOk : MsgqOk s.msgq) : MsgqOk (ozReadAt lo n s).msgq := by simp (maxDischargeDepth := 30) +contextual [ozReadAt, hOk]

@[simp] theorem reportStore_msgqOk (found : Bool) (detail : Nat) (s : State)
    (hOk : MsgqOk s.msgq) : MsgqOk (reportStore found detail s).msgq := by simp (maxDischargeDepth := 30) +contextual [ozLog_frame .., reportStore, hOk]

@[simp] theorem counterAdd_msgqOk (k n : Nat) (s : State)
    (hOk : MsgqOk s.msgq) : MsgqOk (counterAdd k n s).msgq := by simp (maxDischargeDepth := 30) +contextual [ozRecord_frame .., counterAdd, hOk]

end Sys2Proof.Machine
end

