-- ==== Sys2Proof/Laws/InvLinkOps.lean ====
section
/-!
SUPPORT. The operations of LinkOps.lean keep the bounds of Inv.
-/
set_option linter.unnecessarySeqFocus false
set_option linter.unusedTactic false
namespace Sys2Proof.Machine

@[simp] theorem nak_msgqOk (typ reason : Nat) (r : Req) (s : State)
    (hOk : MsgqOk s.msgq) : MsgqOk (nak typ reason r s).msgq := by simp (maxDischargeDepth := 30) +contextual [bumpSat_frame .., pushOut_frame .., nak, hOk]

@[simp] theorem discardReqs_msgqOk (m : Nat) (s : State)
    (hOk : MsgqOk s.msgq) : MsgqOk (discardReqs m s).msgq := by unfold discardReqs; (repeat' split) <;> first | with_reducible exact hOk | simp (maxDischargeDepth := 30) +contextual [freeFlits_frame .., setLink_frame .., hOk]

end Sys2Proof.Machine
end

