-- ==== Sys2Proof/Laws/InvOperands.lean ====
section
/-!
SUPPORT. The operations of Operands.lean keep the bounds of Inv.
-/
namespace Sys2Proof.Machine

@[simp] theorem freeze_msgqOk (m typ addr reason : Nat) (s : State)
    (hOk : MsgqOk s.msgq) : MsgqOk (freeze m typ addr reason s).msgq := by simp only [freeze]; (repeat' split) <;> first | with_reducible exact hOk | simp (maxDischargeDepth := 30) +contextual [counterAdd_frame .., dcxPark_frame .., raise_frame .., recordViol_frame .., setRegBit_frame .., setRegN_frame .., hOk]

@[simp] theorem violate_msgqOk (m typ addr reason : Nat) (s : State)
    (hOk : MsgqOk s.msgq) : MsgqOk (violate m typ addr reason s).msgq := by simp only [violate]; (repeat' split) <;> first | with_reducible exact hOk | simp (maxDischargeDepth := 30) +contextual [recordViol_frame .., hOk]

@[simp] theorem writeRight_fsOk (m : Master) (a : Nat) (v : Word) (right : Bool) (eff : State → State) (s : State) (heff : ∀ x0, Memory.wf x0.fs = true → Memory.wf (eff x0).fs = true)
    (hOk : Memory.wf s.fs = true) : Memory.wf (writeRight m a v right eff s).fs = true := by simp only [writeRight]; (repeat' split) <;> first | with_reducible exact hOk | simp (maxDischargeDepth := 30) +contextual [answer_frame .., holdOrBusy_frame .., noteM0_frame .., violate_frame .., hOk, heff]

@[simp] theorem writeRight_sceneOk (m : Master) (a : Nat) (v : Word) (right : Bool) (eff : State → State) (s : State) (heff : ∀ x0, Memory.wf x0.scene = true → Memory.wf (eff x0).scene = true)
    (hOk : Memory.wf s.scene = true) : Memory.wf (writeRight m a v right eff s).scene = true := by simp only [writeRight]; (repeat' split) <;> first | with_reducible exact hOk | simp (maxDischargeDepth := 30) +contextual [answer_frame .., holdOrBusy_frame .., noteM0_frame .., violate_frame .., hOk, heff]

@[simp] theorem writeRight_msgqOk (m : Master) (a : Nat) (v : Word) (right : Bool) (eff : State → State) (s : State) (heff : ∀ x0, MsgqOk x0.msgq → MsgqOk (eff x0).msgq)
    (hOk : MsgqOk s.msgq) : MsgqOk (writeRight m a v right eff s).msgq := by simp only [writeRight]; (repeat' split) <;> first | with_reducible exact hOk | simp (maxDischargeDepth := 30) +contextual [answer_frame .., holdOrBusy_frame .., noteM0_frame .., hOk, heff]

@[simp] theorem writeRight_mntOk (m : Master) (a : Nat) (v : Word) (right : Bool) (eff : State → State) (s : State) (heff : ∀ x0, MntOk x0.mnt → MntOk (eff x0).mnt)
    (hOk : MntOk s.mnt) : MntOk (writeRight m a v right eff s).mnt := by simp only [writeRight]; (repeat' split) <;> first | with_reducible exact hOk | simp (maxDischargeDepth := 30) +contextual [answer_frame .., holdOrBusy_frame .., noteM0_frame .., violate_frame .., hOk, heff]

@[simp] theorem writeRight_lctcOk (m : Master) (a : Nat) (v : Word) (right : Bool) (eff : State → State) (s : State) (heff : ∀ x0, LctqOk x0.lctc → LctqOk (eff x0).lctc)
    (hOk : LctqOk s.lctc) : LctqOk (writeRight m a v right eff s).lctc := by simp only [writeRight]; (repeat' split) <;> first | with_reducible exact hOk | simp (maxDischargeDepth := 30) +contextual [answer_frame .., holdOrBusy_frame .., noteM0_frame .., violate_frame .., hOk, heff]

@[simp] theorem writeRight_wcapLevelOk (m : Master) (a : Nat) (v : Word) (right : Bool) (eff : State → State) (s : State) (heff : ∀ x0, WcapOk x0.wcapLevel → WcapOk (eff x0).wcapLevel)
    (hOk : WcapOk s.wcapLevel) : WcapOk (writeRight m a v right eff s).wcapLevel := by simp only [writeRight]; (repeat' split) <;> first | with_reducible exact hOk | simp (maxDischargeDepth := 30) +contextual [answer_frame .., holdOrBusy_frame .., noteM0_frame .., violate_frame .., hOk, heff]

@[simp] theorem writeWith_fsOk (m : Master) (a : Nat) (v : Word) (eff : State → State) (s : State) (heff : ∀ x0, Memory.wf x0.fs = true → Memory.wf (eff x0).fs = true)
    (hOk : Memory.wf s.fs = true) : Memory.wf (writeWith m a v eff s).fs = true := by simp (maxDischargeDepth := 30) +contextual [writeWith, hOk, heff]

@[simp] theorem writeWith_sceneOk (m : Master) (a : Nat) (v : Word) (eff : State → State) (s : State) (heff : ∀ x0, Memory.wf x0.scene = true → Memory.wf (eff x0).scene = true)
    (hOk : Memory.wf s.scene = true) : Memory.wf (writeWith m a v eff s).scene = true := by simp (maxDischargeDepth := 30) +contextual [writeWith, hOk, heff]

@[simp] theorem writeWith_msgqOk (m : Master) (a : Nat) (v : Word) (eff : State → State) (s : State) (heff : ∀ x0, MsgqOk x0.msgq → MsgqOk (eff x0).msgq)
    (hOk : MsgqOk s.msgq) : MsgqOk (writeWith m a v eff s).msgq := by simp (maxDischargeDepth := 30) +contextual [writeWith, hOk, heff]

@[simp] theorem writeWith_mntOk (m : Master) (a : Nat) (v : Word) (eff : State → State) (s : State) (heff : ∀ x0, MntOk x0.mnt → MntOk (eff x0).mnt)
    (hOk : MntOk s.mnt) : MntOk (writeWith m a v eff s).mnt := by simp (maxDischargeDepth := 30) +contextual [writeWith, hOk, heff]

@[simp] theorem writeWith_lctcOk (m : Master) (a : Nat) (v : Word) (eff : State → State) (s : State) (heff : ∀ x0, LctqOk x0.lctc → LctqOk (eff x0).lctc)
    (hOk : LctqOk s.lctc) : LctqOk (writeWith m a v eff s).lctc := by simp (maxDischargeDepth := 30) +contextual [writeWith, hOk, heff]

@[simp] theorem writeWith_wcapLevelOk (m : Master) (a : Nat) (v : Word) (eff : State → State) (s : State) (heff : ∀ x0, WcapOk x0.wcapLevel → WcapOk (eff x0).wcapLevel)
    (hOk : WcapOk s.wcapLevel) : WcapOk (writeWith m a v eff s).wcapLevel := by simp (maxDischargeDepth := 30) +contextual [writeWith, hOk, heff]

@[simp] theorem writePriv_fsOk (m : Master) (a : Nat) (v : Word) (eff : State → State) (s : State) (heff : ∀ x0, Memory.wf x0.fs = true → Memory.wf (eff x0).fs = true)
    (hOk : Memory.wf s.fs = true) : Memory.wf (writePriv m a v eff s).fs = true := by simp (maxDischargeDepth := 30) +contextual [writePriv, hOk, heff]

@[simp] theorem writePriv_sceneOk (m : Master) (a : Nat) (v : Word) (eff : State → State) (s : State) (heff : ∀ x0, Memory.wf x0.scene = true → Memory.wf (eff x0).scene = true)
    (hOk : Memory.wf s.scene = true) : Memory.wf (writePriv m a v eff s).scene = true := by simp (maxDischargeDepth := 30) +contextual [writePriv, hOk, heff]

@[simp] theorem writePriv_msgqOk (m : Master) (a : Nat) (v : Word) (eff : State → State) (s : State) (heff : ∀ x0, MsgqOk x0.msgq → MsgqOk (eff x0).msgq)
    (hOk : MsgqOk s.msgq) : MsgqOk (writePriv m a v eff s).msgq := by simp (maxDischargeDepth := 30) +contextual [writePriv, hOk, heff]

@[simp] theorem writePriv_mntOk (m : Master) (a : Nat) (v : Word) (eff : State → State) (s : State) (heff : ∀ x0, MntOk x0.mnt → MntOk (eff x0).mnt)
    (hOk : MntOk s.mnt) : MntOk (writePriv m a v eff s).mnt := by simp (maxDischargeDepth := 30) +contextual [writePriv, hOk, heff]

@[simp] theorem writePriv_lctcOk (m : Master) (a : Nat) (v : Word) (eff : State → State) (s : State) (heff : ∀ x0, LctqOk x0.lctc → LctqOk (eff x0).lctc)
    (hOk : LctqOk s.lctc) : LctqOk (writePriv m a v eff s).lctc := by simp (maxDischargeDepth := 30) +contextual [writePriv, hOk, heff]

@[simp] theorem writePriv_wcapLevelOk (m : Master) (a : Nat) (v : Word) (eff : State → State) (s : State) (heff : ∀ x0, WcapOk x0.wcapLevel → WcapOk (eff x0).wcapLevel)
    (hOk : WcapOk s.wcapLevel) : WcapOk (writePriv m a v eff s).wcapLevel := by simp (maxDischargeDepth := 30) +contextual [writePriv, hOk, heff]

@[simp] theorem readWith_fsOk (m : Master) (a : Nat) (eff : State → Word × State) (s : State) (heff : ∀ x0, Memory.wf x0.fs = true → Memory.wf (eff x0).2.fs = true)
    (hOk : Memory.wf s.fs = true) : Memory.wf (readWith m a eff s).fs = true := by simp only [readWith]; (repeat' split) <;> first | with_reducible exact hOk | simp (maxDischargeDepth := 30) +contextual [answer_frame .., holdOrBusy_frame .., hOk, heff]

@[simp] theorem readWith_sceneOk (m : Master) (a : Nat) (eff : State → Word × State) (s : State) (heff : ∀ x0, Memory.wf x0.scene = true → Memory.wf (eff x0).2.scene = true)
    (hOk : Memory.wf s.scene = true) : Memory.wf (readWith m a eff s).scene = true := by simp only [readWith]; (repeat' split) <;> first | with_reducible exact hOk | simp (maxDischargeDepth := 30) +contextual [answer_frame .., holdOrBusy_frame .., hOk, heff]

@[simp] theorem readWith_msgqOk (m : Master) (a : Nat) (eff : State → Word × State) (s : State) (heff : ∀ x0, MsgqOk x0.msgq → MsgqOk (eff x0).2.msgq)
    (hOk : MsgqOk s.msgq) : MsgqOk (readWith m a eff s).msgq := by simp only [readWith]; (repeat' split) <;> first | with_reducible exact hOk | simp (maxDischargeDepth := 30) +contextual [answer_frame .., holdOrBusy_frame .., hOk, heff]

@[simp] theorem readWith_mntOk (m : Master) (a : Nat) (eff : State → Word × State) (s : State) (heff : ∀ x0, MntOk x0.mnt → MntOk (eff x0).2.mnt)
    (hOk : MntOk s.mnt) : MntOk (readWith m a eff s).mnt := by simp only [readWith]; (repeat' split) <;> first | with_reducible exact hOk | simp (maxDischargeDepth := 30) +contextual [answer_frame .., holdOrBusy_frame .., hOk, heff]

@[simp] theorem readWith_lctcOk (m : Master) (a : Nat) (eff : State → Word × State) (s : State) (heff : ∀ x0, LctqOk x0.lctc → LctqOk (eff x0).2.lctc)
    (hOk : LctqOk s.lctc) : LctqOk (readWith m a eff s).lctc := by simp only [readWith]; (repeat' split) <;> first | with_reducible exact hOk | simp (maxDischargeDepth := 30) +contextual [answer_frame .., holdOrBusy_frame .., hOk, heff]

@[simp] theorem readWith_wcapLevelOk (m : Master) (a : Nat) (eff : State → Word × State) (s : State) (heff : ∀ x0, WcapOk x0.wcapLevel → WcapOk (eff x0).2.wcapLevel)
    (hOk : WcapOk s.wcapLevel) : WcapOk (readWith m a eff s).wcapLevel := by simp only [readWith]; (repeat' split) <;> first | with_reducible exact hOk | simp (maxDischargeDepth := 30) +contextual [answer_frame .., holdOrBusy_frame .., hOk, heff]

@[simp] theorem dataAccess_fsOk (m : Master) (a : Nat) (x : Acc) (rd : State → Word × State) (wr : Word → State → State) (s : State) (hrd : ∀ x0, Memory.wf x0.fs = true → Memory.wf (rd x0).2.fs = true) (hwr : ∀ x0 x1, Memory.wf x1.fs = true → Memory.wf (wr x0 x1).fs = true)
    (hOk : Memory.wf s.fs = true) : Memory.wf (dataAccess m a x rd wr s).fs = true := by simp only [dataAccess]; (repeat' split) <;> first | with_reducible exact hOk | simp (maxDischargeDepth := 30) +contextual [hOk, hrd, hwr]

@[simp] theorem dataAccess_sceneOk (m : Master) (a : Nat) (x : Acc) (rd : State → Word × State) (wr : Word → State → State) (s : State) (hrd : ∀ x0, Memory.wf x0.scene = true → Memory.wf (rd x0).2.scene = true) (hwr : ∀ x0 x1, Memory.wf x1.scene = true → Memory.wf (wr x0 x1).scene = true)
    (hOk : Memory.wf s.scene = true) : Memory.wf (dataAccess m a x rd wr s).scene = true := by simp only [dataAccess]; (repeat' split) <;> first | with_reducible exact hOk | simp (maxDischargeDepth := 30) +contextual [hOk, hrd, hwr]

@[simp] theorem dataAccess_msgqOk (m : Master) (a : Nat) (x : Acc) (rd : State → Word × State) (wr : Word → State → State) (s : State) (hrd : ∀ x0, MsgqOk x0.msgq → MsgqOk (rd x0).2.msgq) (hwr : ∀ x0 x1, MsgqOk x1.msgq → MsgqOk (wr x0 x1).msgq)
    (hOk : MsgqOk s.msgq) : MsgqOk (dataAccess m a x rd wr s).msgq := by simp only [dataAccess]; (repeat' split) <;> first | with_reducible exact hOk | simp (maxDischargeDepth := 30) +contextual [hOk, hrd, hwr]

@[simp] theorem dataAccess_mntOk (m : Master) (a : Nat) (x : Acc) (rd : State → Word × State) (wr : Word → State → State) (s : State) (hrd : ∀ x0, MntOk x0.mnt → MntOk (rd x0).2.mnt) (hwr : ∀ x0 x1, MntOk x1.mnt → MntOk (wr x0 x1).mnt)
    (hOk : MntOk s.mnt) : MntOk (dataAccess m a x rd wr s).mnt := by simp only [dataAccess]; (repeat' split) <;> first | with_reducible exact hOk | simp (maxDischargeDepth := 30) +contextual [hOk, hrd, hwr]

@[simp] theorem dataAccess_lctcOk (m : Master) (a : Nat) (x : Acc) (rd : State → Word × State) (wr : Word → State → State) (s : State) (hrd : ∀ x0, LctqOk x0.lctc → LctqOk (rd x0).2.lctc) (hwr : ∀ x0 x1, LctqOk x1.lctc → LctqOk (wr x0 x1).lctc)
    (hOk : LctqOk s.lctc) : LctqOk (dataAccess m a x rd wr s).lctc := by simp only [dataAccess]; (repeat' split) <;> first | with_reducible exact hOk | simp (maxDischargeDepth := 30) +contextual [hOk, hrd, hwr]

@[simp] theorem dataAccess_wcapLevelOk (m : Master) (a : Nat) (x : Acc) (rd : State → Word × State) (wr : Word → State → State) (s : State) (hrd : ∀ x0, WcapOk x0.wcapLevel → WcapOk (rd x0).2.wcapLevel) (hwr : ∀ x0 x1, WcapOk x1.wcapLevel → WcapOk (wr x0 x1).wcapLevel)
    (hOk : WcapOk s.wcapLevel) : WcapOk (dataAccess m a x rd wr s).wcapLevel := by simp only [dataAccess]; (repeat' split) <;> first | with_reducible exact hOk | simp (maxDischargeDepth := 30) +contextual [hOk, hrd, hwr]

end Sys2Proof.Machine
end

