-- ==== Sys2Proof/Laws/InvControl.lean ====
section
/-!
SUPPORT. The operations of Control.lean keep the bounds of Inv.
-/
namespace Sys2Proof.Machine

@[simp] theorem thawLink_msgqOk (m : Nat) (s : State)
    (hOk : MsgqOk s.msgq) : MsgqOk (thawLink m s).msgq := by simp (maxDischargeDepth := 30) +contextual [grantPools_frame .., setLink_frame .., thawLink, hOk]

@[simp] theorem effThaw_msgqOk (v : Word) (s : State)
    (hOk : MsgqOk s.msgq) : MsgqOk (effThaw v s).msgq := by simp only [effThaw]; (repeat' split) <;> first | with_reducible exact hOk | simp (maxDischargeDepth := 30) +contextual [setRegBit_frame .., hOk]

end Sys2Proof.Machine
end

