-- ==== Sys2Proof/Laws/InvLayers.lean ====
section
/-!
SUPPORT. The operations of Layers.lean keep the bounds of Inv.
-/
namespace Sys2Proof.Machine

@[simp] theorem armEntry_msgqOk (n : Nat) (s : State)
    (hOk : MsgqOk s.msgq) : MsgqOk (armEntry n s).msgq := by simp (maxDischargeDepth := 30) +contextual [attachDesc_frame .., setShadowWord_frame .., armEntry, hOk]

@[simp] theorem ctxStore_msgqOk (m n w : Nat) (v : Word) (s : State)
    (hOk : MsgqOk s.msgq) : MsgqOk (ctxStore m n w v s).msgq := by simp only [ctxStore]; (repeat' split) <;> first | with_reducible exact hOk | simp (maxDischargeDepth := 30) +contextual [setDirty_frame .., setShadowWord_frame .., hOk]

@[simp] theorem ctxWrite_msgqOk (m : Master) (n w : Nat) (v : Word) (s : State)
    (hOk : MsgqOk s.msgq) : MsgqOk (ctxWrite m n w v s).msgq := by simp only [ctxWrite]; (repeat' split) <;> first | with_reducible exact hOk | simp (maxDischargeDepth := 30) +contextual [answer_frame .., holdOrBusy_frame .., noteM0_frame .., hOk]

@[simp] theorem bufResult_msgqOk (h code : Nat) (s : State)
    (hOk : MsgqOk s.msgq) : MsgqOk (bufResult h code s).msgq := by simp (maxDischargeDepth := 30) +contextual [setRegN_frame .., bufResult, hOk]

@[simp] theorem effDefine_msgqOk (h : Nat) (s : State)
    (hOk : MsgqOk s.msgq) : MsgqOk (effDefine h s).msgq := by simp (maxDischargeDepth := 30) +contextual [putHandle_frame .., effDefine, hOk]

@[simp] theorem effSeal_msgqOk (h : Nat) (s : State)
    (hOk : MsgqOk s.msgq) : MsgqOk (effSeal h s).msgq := by simp only [effSeal]; (repeat' split) <;> first | with_reducible exact hOk | simp (maxDischargeDepth := 30) +contextual [turnReady_frame .., hOk]

@[simp] theorem effRefill_msgqOk (h : Nat) (s : State)
    (hOk : MsgqOk s.msgq) : MsgqOk (effRefill h s).msgq := by simp only [effRefill]; (repeat' split) <;> first | with_reducible exact hOk | simp (maxDischargeDepth := 30) +contextual [putHandle_frame .., sclDrop_frame .., hOk]

@[simp] theorem effRelease_msgqOk (h : Nat) (s : State)
    (hOk : MsgqOk s.msgq) : MsgqOk (effRelease h s).msgq := by simp only [effRelease]; (repeat' split) <;> first | with_reducible exact hOk | simp (maxDischargeDepth := 30) +contextual [putHandle_frame .., sclDrop_frame .., turnFree_frame .., hOk]

@[simp] theorem effQuery_msgqOk (h : Nat) (s : State)
    (hOk : MsgqOk s.msgq) : MsgqOk (effQuery h s).msgq := by simp (maxDischargeDepth := 30) +contextual [setRegN_frame .., effQuery, hOk]

@[simp] theorem effBufCmd_msgqOk (v : Word) (s : State)
    (hOk : MsgqOk s.msgq) : MsgqOk (effBufCmd v s).msgq := by simp only [effBufCmd]; (repeat' split) <;> first | with_reducible exact hOk | simp (maxDischargeDepth := 30) +contextual [hOk]

@[simp] theorem reportNotReady_msgqOk (nr st : List Nat) (s : State)
    (hOk : MsgqOk s.msgq) : MsgqOk (reportNotReady nr st s).msgq := by simp only [reportNotReady]; (repeat' split) <;> first | with_reducible exact hOk | simp (maxDischargeDepth := 30) +contextual [setRegN_frame .., hOk]

@[simp] theorem unpinOne_msgqOk (h : Nat) (s : State)
    (hOk : MsgqOk s.msgq) : MsgqOk (unpinOne h s).msgq := by simp only [unpinOne]; (repeat' split) <;> first | with_reducible exact hOk | simp (maxDischargeDepth := 30) +contextual [turnFree_frame .., turnReady_frame .., hOk]

@[simp] theorem sunsetOne_msgqOk (h : Nat) (s : State)
    (hOk : MsgqOk s.msgq) : MsgqOk (sunsetOne h s).msgq := by simp (maxDischargeDepth := 30) +contextual [putHandle_frame .., sunsetOne, hOk]

@[simp] theorem releasePins_msgqOk (s : State)
    (hOk : MsgqOk s.msgq) : MsgqOk (releasePins s).msgq := by simp (maxDischargeDepth := 30) +contextual [releasePins, hOk]

@[simp] theorem sclPlane_fsOk (base : Nat) (p q : Plane) (s : State)
    (hOk : Memory.wf s.fs = true) : Memory.wf (sclPlane base p q s).fs = true := by simp (maxDischargeDepth := 30) +contextual [memWrite_frame .., sclPlane, hOk]

@[simp] theorem sclPlane_sceneOk (base : Nat) (p q : Plane) (s : State)
    (hOk : Memory.wf s.scene = true) : Memory.wf (sclPlane base p q s).scene = true := by simp (maxDischargeDepth := 30) +contextual [memWrite_frame .., sclPlane, hOk]

@[simp] theorem sclPlane_msgqOk (base : Nat) (p q : Plane) (s : State)
    (hOk : MsgqOk s.msgq) : MsgqOk (sclPlane base p q s).msgq := by simp (maxDischargeDepth := 30) +contextual [memWrite_frame .., sclPlane, hOk]

@[simp] theorem sclPlane_mntOk (base : Nat) (p q : Plane) (s : State)
    (hOk : MntOk s.mnt) : MntOk (sclPlane base p q s).mnt := by simp (maxDischargeDepth := 30) +contextual [memWrite_frame .., sclPlane, hOk]

@[simp] theorem sclLevel_fsOk (base : Nat) (f : Fmt) (p k : Nat) (s : State)
    (hOk : Memory.wf s.fs = true) : Memory.wf (sclLevel base f p k s).fs = true := by simp (maxDischargeDepth := 30) +contextual [sclLevel, hOk]

@[simp] theorem sclLevel_sceneOk (base : Nat) (f : Fmt) (p k : Nat) (s : State)
    (hOk : Memory.wf s.scene = true) : Memory.wf (sclLevel base f p k s).scene = true := by simp (maxDischargeDepth := 30) +contextual [sclLevel, hOk]

@[simp] theorem sclLevel_msgqOk (base : Nat) (f : Fmt) (p k : Nat) (s : State)
    (hOk : MsgqOk s.msgq) : MsgqOk (sclLevel base f p k s).msgq := by simp (maxDischargeDepth := 30) +contextual [sclLevel, hOk]

@[simp] theorem sclLevel_mntOk (base : Nat) (f : Fmt) (p k : Nat) (s : State)
    (hOk : MntOk s.mnt) : MntOk (sclLevel base f p k s).mnt := by simp (maxDischargeDepth := 30) +contextual [sclLevel, hOk]

@[simp] theorem sclReads_msgqOk (base : Nat) (f : Fmt) (p : Nat) (s : State)
    (hOk : MsgqOk s.msgq) : MsgqOk (sclReads base f p s).msgq := by simp (maxDischargeDepth := 30) +contextual [sclReads, hOk]

@[simp] theorem sclReads_mntOk (base : Nat) (f : Fmt) (p : Nat) (s : State)
    (hOk : MntOk s.mnt) : MntOk (sclReads base f p s).mnt := by simp (maxDischargeDepth := 30) +contextual [sclReads, hOk]

@[simp] theorem scaleBuf_fsOk (h : Nat) (s : State)
    (hOk : Memory.wf s.fs = true) : Memory.wf (scaleBuf h s).fs = true := by simp only [scaleBuf]; (repeat' split) <;> first | with_reducible exact hOk | simp (maxDischargeDepth := 30) +contextual [putHandle_frame .., raise_frame .., sclReads_frame .., hOk]

@[simp] theorem scaleBuf_sceneOk (h : Nat) (s : State)
    (hOk : Memory.wf s.scene = true) : Memory.wf (scaleBuf h s).scene = true := by simp only [scaleBuf]; (repeat' split) <;> first | with_reducible exact hOk | simp (maxDischargeDepth := 30) +contextual [putHandle_frame .., raise_frame .., sclReads_frame .., hOk]

@[simp] theorem scaleBuf_msgqOk (h : Nat) (s : State)
    (hOk : MsgqOk s.msgq) : MsgqOk (scaleBuf h s).msgq := by simp only [scaleBuf]; (repeat' split) <;> first | with_reducible exact hOk | simp (maxDischargeDepth := 30) +contextual [putHandle_frame .., hOk]

@[simp] theorem scaleBuf_mntOk (h : Nat) (s : State)
    (hOk : MntOk s.mnt) : MntOk (scaleBuf h s).mnt := by simp only [scaleBuf]; (repeat' split) <;> first | with_reducible exact hOk | simp (maxDischargeDepth := 30) +contextual [putHandle_frame .., raise_frame .., hOk]

end Sys2Proof.Machine
end

