-- ==== Sys2Proof/Laws/InvLct.lean ====
section
/-!
SUPPORT. The operations of Lct.lean keep the bounds of Inv.
-/
set_option linter.unusedSimpArgs false
set_option linter.unusedVariables false
namespace Sys2Proof.Machine

@[simp] theorem lctRaiseUE_msgqOk (i reader : Nat) (s : State)
    (hOk : MsgqOk s.msgq) : MsgqOk (lctRaiseUE i reader s).msgq := by simp (maxDischargeDepth := 30) +contextual [lctRaiseUE, hOk]

@[simp] theorem lctRaiseUE_lctcOk (i reader : Nat) (s : State)
    (hOk : LctqOk s.lctc) : LctqOk (lctRaiseUE i reader s).lctc := by simp (maxDischargeDepth := 30) +contextual [raise_frame .., lctRaiseUE, hOk]

@[simp] theorem lctTouch_msgqOk (i reader : Nat) (s : State)
    (hOk : MsgqOk s.msgq) : MsgqOk (lctTouch i reader s).msgq := by simp only [lctTouch]; (repeat' split) <;> first | with_reducible exact hOk | simp (maxDischargeDepth := 30) +contextual [bumpSat_frame .., lctCountUE_frame .., hOk]

@[simp] theorem lctTouch_lctcOk (i reader : Nat) (s : State)
    (hOk : LctqOk s.lctc) : LctqOk (lctTouch i reader s).lctc := by simp only [lctTouch]; (repeat' split) <;> first | with_reducible exact hOk | simp (maxDischargeDepth := 30) +contextual [bumpSat_frame .., lctCountUE_frame .., hOk]

@[simp] theorem setExtremes_lctcOk (d g : Nat) (s : State)
    (hOk : LctqOk s.lctc) : LctqOk (setExtremes d g s).lctc := by simp (maxDischargeDepth := 30) +contextual [setExtremes, hOk]

@[simp] theorem auditRestart_lctcOk (s : State)
    (hOk : LctqOk s.lctc) : LctqOk (auditRestart s).lctc := by simp (maxDischargeDepth := 30) +contextual [auditRestart, hOk]

@[simp] theorem auditCheck_lctcOk (before : Bool) (s : State)
    (hOk : LctqOk s.lctc) : LctqOk (auditCheck before s).lctc := by simp (maxDischargeDepth := 30) +contextual [auditCheck, hOk]

@[simp] theorem auditEnd_msgqOk (s : State)
    (hOk : MsgqOk s.msgq) : MsgqOk (auditEnd s).msgq := by simp (maxDischargeDepth := 30) +contextual [auditRestart_frame .., bumpWrap_frame .., setExtremes_frame .., setRegN_frame .., auditEnd, hOk]

@[simp] theorem auditEnd_lctcOk (s : State)
    (hOk : LctqOk s.lctc) : LctqOk (auditEnd s).lctc := by
  unfold auditEnd
  dsimp only
  apply auditRestart_lctcOk
  split
  · apply setExtremes_lctcOk
    simp [bumpWrap_frame .., raise_frame .., setRegN_frame .., hOk]
  · simp only [raise_frame]
    apply setExtremes_lctcOk
    simp [bumpWrap_frame .., raise_frame .., setRegN_frame .., hOk]

@[simp] theorem auditStep_msgqOk (i : Nat) (s : State)
    (hOk : MsgqOk s.msgq) : MsgqOk (auditStep i s).msgq := by simp (maxDischargeDepth := 30) +contextual [lctPut_frame .., lctTouch_frame .., auditStep, hOk]

@[simp] theorem auditStep_lctcOk (i : Nat) (s : State)
    (hOk : LctqOk s.lctc) : LctqOk (auditStep i s).lctc := by
  unfold auditStep
  dsimp only
  have h2 : LctqOk (if (lctDecode i (lctEntry s i)).2 = .corrected then
      lctPut i (w64 (lctDecode i (lctEntry s i)).1) (lctTouch i 1 s) else lctTouch i 1 s).lctc := by
    split <;> simp [lctPut_frame .., hOk]
  split
  · exact auditEnd_lctcOk _ h2
  · exact h2

@[simp] theorem loadFail_msgqOk (code crc : Nat) (written : Bool) (s : State)
    (hOk : MsgqOk s.msgq) : MsgqOk (loadFail code crc written s).msgq := by simp only [loadFail]; (repeat' split) <;> first | with_reducible exact hOk | simp (maxDischargeDepth := 30) +contextual [auditRestart_frame .., hOk]

@[simp] theorem loadFail_lctcOk (code crc : Nat) (written : Bool) (s : State)
    (hOk : LctqOk s.lctc) : LctqOk (loadFail code crc written s).lctc := by simp only [loadFail]; (repeat' split) <;> first | with_reducible exact hOk | simp (maxDischargeDepth := 30) +contextual [raise_frame .., unpinOne_frame .., hOk]

@[simp] theorem loadPin_lctcOk (code : Option Nat) (s : State)
    (hOk : LctqOk s.lctc) : LctqOk (loadPin code s).lctc := by simp only [loadPin]; (repeat' split) <;> first | with_reducible exact hOk | simp (maxDischargeDepth := 30) +contextual [putHandle_frame .., hOk]

@[simp] theorem loadBegin_msgqOk (code : Nat) (s : State)
    (hOk : MsgqOk s.msgq) : MsgqOk (loadBegin code s).msgq := by simp (maxDischargeDepth := 30) +contextual [putHandle_frame .., loadBegin, hOk]

@[simp] theorem loadBegin_lctcOk (code : Nat) (s : State)
    (hOk : LctqOk s.lctc) : LctqOk (loadBegin code s).lctc := by simp only [loadBegin]; (repeat' split) <;> first | with_reducible exact hOk | simp (maxDischargeDepth := 30) +contextual [putHandle_frame .., hOk]

theorem loadEntries_msgqOk (i n : Nat) (s : State) (hOk : MsgqOk s.msgq) : MsgqOk (loadEntries i n s).msgq := by
  simp only [loadEntries_frame]
  exact hOk

theorem loadEntries_mntOk (i n : Nat) (s : State) (hOk : MntOk s.mnt) : MntOk (loadEntries i n s).mnt := by
  simp only [loadEntries_frame]
  exact hOk

theorem loadEntries_lctcOk (i n : Nat) (s : State) (hOk : LctqOk s.lctc) : LctqOk (loadEntries i n s).lctc := by
  induction n generalizing i s with
  | zero => exact hOk
  | succ n ih =>
    rw [loadEntries]
    refine ih _ _ ?_
    simp only [lctPut_frame, lctqOk_lit]
    exact hOk

@[simp] theorem loadReads_msgqOk (i n : Nat) (s : State)
    (hOk : MsgqOk s.msgq) : MsgqOk (loadReads i n s).msgq := by simp only [loadReads]; (repeat' split) <;> first | with_reducible exact hOk | simp (maxDischargeDepth := 30) +contextual [hOk]

@[simp] theorem loadReads_mntOk (i n : Nat) (s : State)
    (hOk : MntOk s.mnt) : MntOk (loadReads i n s).mnt := by simp only [loadReads]; (repeat' split) <;> first | with_reducible exact hOk | simp (maxDischargeDepth := 30) +contextual [hOk]

@[simp] theorem loadTo_msgqOk (n : Nat) (s : State)
    (hOk : MsgqOk s.msgq) : MsgqOk (loadTo n s).msgq := by simp only [loadTo]; (repeat' split) <;> first | with_reducible exact hOk | simp (maxDischargeDepth := 30) +contextual [loadEntries_frame .., hOk]

@[simp] theorem loadTo_mntOk (n : Nat) (s : State)
    (hOk : MntOk s.mnt) : MntOk (loadTo n s).mnt := by simp only [loadTo]; (repeat' split) <;> first | with_reducible exact hOk | simp (maxDischargeDepth := 30) +contextual [loadEntries_frame .., hOk]

@[simp] theorem loadTo_lctcOk (n : Nat) (s : State)
    (hOk : LctqOk s.lctc) : LctqOk (loadTo n s).lctc := by
  unfold loadTo; dsimp only
  split
  · exact hOk
  · exact loadEntries_lctcOk _ _ _ (by simp [loadReads_frame .., hOk])

@[simp] theorem loadMove_msgqOk (s : State)
    (hOk : MsgqOk s.msgq) : MsgqOk (loadMove s).msgq := by simp (maxDischargeDepth := 30) +contextual [tickFree_frame .., loadMove, hOk]

@[simp] theorem loadMove_mntOk (s : State)
    (hOk : MntOk s.mnt) : MntOk (loadMove s).mnt := by simp (maxDischargeDepth := 30) +contextual [tickFree_frame .., loadMove, hOk]

@[simp] theorem loadMove_lctcOk (s : State)
    (hOk : LctqOk s.lctc) : LctqOk (loadMove s).lctc := by simp (maxDischargeDepth := 30) +contextual [tickFree_frame .., loadMove, hOk]

@[simp] theorem loadVerdict_msgqOk (s1 : State)
    (hOk : MsgqOk s1.msgq) : MsgqOk (loadVerdict s1).msgq := by simp only [loadVerdict]; (repeat' split) <;> first | with_reducible exact hOk | simp (maxDischargeDepth := 30) +contextual [auditRestart_frame .., setExtremes_frame .., setReg_frame .., hOk]

@[simp] theorem loadVerdict_lctcOk (s1 : State)
    (hOk : LctqOk s1.lctc) : LctqOk (loadVerdict s1).lctc := by
  unfold loadVerdict
  dsimp only
  split
  · apply auditRestart_lctcOk
    simp only [raise_frame]
    have h2 : ∀ t : State, LctqOk t.lctc → LctqOk (match s1.lctc.loadH with
        | some h => if needed t h then t else unpinOne h t
        | none => t).lctc := by
      intro t ht
      split
      · split <;> simp [raise_frame .., setReg_frame .., unpinOne_frame .., ht]
      · exact ht
    apply h2
    simp only [setReg_frame]
    exact setExtremes_lctcOk _ _ _ hOk
  · exact loadFail_lctcOk _ _ _ _ hOk

@[simp] theorem loadComplete_msgqOk (s : State)
    (hOk : MsgqOk s.msgq) : MsgqOk (loadComplete s).msgq := by simp (maxDischargeDepth := 30) +contextual [loadComplete, hOk]

@[simp] theorem loadComplete_mntOk (s : State)
    (hOk : MntOk s.mnt) : MntOk (loadComplete s).mnt := by simp (maxDischargeDepth := 30) +contextual [loadVerdict_frame .., loadComplete, hOk]

@[simp] theorem loadComplete_lctcOk (s : State)
    (hOk : LctqOk s.lctc) : LctqOk (loadComplete s).lctc := by simp (maxDischargeDepth := 30) +contextual [loadComplete, hOk]

@[simp] theorem effLctCtl_lctcOk (v : Word) (s : State)
    (hOk : LctqOk s.lctc) : LctqOk (effLctCtl v s).lctc := by simp only [effLctCtl]; (repeat' split) <;> first | with_reducible exact hOk | simp (maxDischargeDepth := 30) +contextual [setReg_frame .., hOk]

@[simp] theorem lctReadLo_msgqOk (m : Nat) (s : State)
    (hOk : MsgqOk s.msgq) : MsgqOk (lctReadLo m s).2.msgq := by simp only [lctReadLo]; (repeat' split) <;> first | with_reducible exact hOk | simp (maxDischargeDepth := 30) +contextual [bumpSat_frame .., holdHigh_frame .., lctCountUE_frame .., hOk]

@[simp] theorem lctReadLo_lctcOk (m : Nat) (s : State)
    (hOk : LctqOk s.lctc) : LctqOk (lctReadLo m s).2.lctc := by simp only [lctReadLo]; (repeat' split) <;> first | with_reducible exact hOk | simp (maxDischargeDepth := 30) +contextual [bumpSat_frame .., holdHigh_frame .., lctCountUE_frame .., hOk]

@[simp] theorem lctEnqueue_lctcOk (q : LctItem) (s : State) (hq : s.lctc.queue.length < 64)
    (hOk : LctqOk s.lctc) : LctqOk (lctEnqueue q s).lctc := by
  unfold lctEnqueue
  simp only [lctqOk_lit, List.length_append, List.length_singleton]
  omega

@[simp] theorem effWdataHi_lctcOk (v : Word) (s : State) (hq : s.lctc.queue.length < 64)
    (hOk : LctqOk s.lctc) : LctqOk (effWdataHi v s).lctc := by simp [lctAdvance_frame .., effWdataHi, hq, hOk]

@[simp] theorem effCrcExp_lctcOk (v : Word) (s : State) (hq : s.lctc.queue.length < 64)
    (hOk : LctqOk s.lctc) : LctqOk (effCrcExp v s).lctc := by simp [effCrcExp, hq, hOk]

@[simp] theorem lctQueued_fsOk (m : Master) (a : Nat) (v : Word) (eff : State → State) (s : State) (heff : ∀ x0, Memory.wf x0.fs = true → Memory.wf (eff x0).fs = true)
    (hOk : Memory.wf s.fs = true) : Memory.wf (lctQueued m a v eff s).fs = true := by simp (maxDischargeDepth := 30) +contextual [holdOrBusy_frame .., lctQueued, hOk, heff]

@[simp] theorem lctQueued_sceneOk (m : Master) (a : Nat) (v : Word) (eff : State → State) (s : State) (heff : ∀ x0, Memory.wf x0.scene = true → Memory.wf (eff x0).scene = true)
    (hOk : Memory.wf s.scene = true) : Memory.wf (lctQueued m a v eff s).scene = true := by simp (maxDischargeDepth := 30) +contextual [holdOrBusy_frame .., lctQueued, hOk, heff]

@[simp] theorem lctQueued_msgqOk (m : Master) (a : Nat) (v : Word) (eff : State → State) (s : State) (heff : ∀ x0, MsgqOk x0.msgq → MsgqOk (eff x0).msgq)
    (hOk : MsgqOk s.msgq) : MsgqOk (lctQueued m a v eff s).msgq := by simp (maxDischargeDepth := 30) +contextual [holdOrBusy_frame .., lctQueued, hOk, heff]

@[simp] theorem lctQueued_mntOk (m : Master) (a : Nat) (v : Word) (eff : State → State) (s : State) (heff : ∀ x0, MntOk x0.mnt → MntOk (eff x0).mnt)
    (hOk : MntOk s.mnt) : MntOk (lctQueued m a v eff s).mnt := by simp (maxDischargeDepth := 30) +contextual [holdOrBusy_frame .., lctQueued, hOk, heff]

@[simp] theorem lctQueued_lctcOk (m : Master) (a : Nat) (v : Word) (eff : State → State) (s : State)
    (heff : s.lctc.queue.length < 64 → LctqOk (eff s).lctc) (hOk : LctqOk s.lctc) :
    LctqOk (lctQueued m a v eff s).lctc := by
  unfold lctQueued
  split
  · exact heff ‹_›
  · simp [holdOrBusy_frame .., hOk]

@[simp] theorem lctQueued_wcapLevelOk (m : Master) (a : Nat) (v : Word) (eff : State → State) (s : State) (heff : ∀ x0, WcapOk x0.wcapLevel → WcapOk (eff x0).wcapLevel)
    (hOk : WcapOk s.wcapLevel) : WcapOk (lctQueued m a v eff s).wcapLevel := by simp (maxDischargeDepth := 30) +contextual [holdOrBusy_frame .., lctQueued, hOk, heff]

@[simp] theorem lctRead_fsOk (m : Master) (a : Nat) (rd : Nat → State → Word × State) (s : State) (hrd : ∀ x0 x1, Memory.wf x1.fs = true → Memory.wf (rd x0 x1).2.fs = true)
    (hOk : Memory.wf s.fs = true) : Memory.wf (lctRead m a rd s).fs = true := by simp only [lctRead]; (repeat' split) <;> first | with_reducible exact hOk | simp (maxDischargeDepth := 30) +contextual [answer_frame .., holdOrBusy_frame .., loadMove_frame .., violate_frame .., hOk, hrd]

@[simp] theorem lctRead_sceneOk (m : Master) (a : Nat) (rd : Nat → State → Word × State) (s : State) (hrd : ∀ x0 x1, Memory.wf x1.scene = true → Memory.wf (rd x0 x1).2.scene = true)
    (hOk : Memory.wf s.scene = true) : Memory.wf (lctRead m a rd s).scene = true := by simp only [lctRead]; (repeat' split) <;> first | with_reducible exact hOk | simp (maxDischargeDepth := 30) +contextual [answer_frame .., holdOrBusy_frame .., loadMove_frame .., violate_frame .., hOk, hrd]

@[simp] theorem lctRead_msgqOk (m : Master) (a : Nat) (rd : Nat → State → Word × State) (s : State) (hrd : ∀ x0 x1, MsgqOk x1.msgq → MsgqOk (rd x0 x1).2.msgq)
    (hOk : MsgqOk s.msgq) : MsgqOk (lctRead m a rd s).msgq := by simp only [lctRead]; (repeat' split) <;> first | with_reducible exact hOk | simp (maxDischargeDepth := 30) +contextual [answer_frame .., holdOrBusy_frame .., hOk, hrd]

@[simp] theorem lctRead_mntOk (m : Master) (a : Nat) (rd : Nat → State → Word × State) (s : State) (hrd : ∀ x0 x1, MntOk x1.mnt → MntOk (rd x0 x1).2.mnt)
    (hOk : MntOk s.mnt) : MntOk (lctRead m a rd s).mnt := by simp only [lctRead]; (repeat' split) <;> first | with_reducible exact hOk | simp (maxDischargeDepth := 30) +contextual [answer_frame .., holdOrBusy_frame .., violate_frame .., hOk, hrd]

@[simp] theorem lctRead_lctcOk (m : Master) (a : Nat) (rd : Nat → State → Word × State) (s : State) (hrd : ∀ x0 x1, LctqOk x1.lctc → LctqOk (rd x0 x1).2.lctc)
    (hOk : LctqOk s.lctc) : LctqOk (lctRead m a rd s).lctc := by simp only [lctRead]; (repeat' split) <;> first | with_reducible exact hOk | simp (maxDischargeDepth := 30) +contextual [answer_frame .., holdOrBusy_frame .., violate_frame .., hOk, hrd]

@[simp] theorem lctRead_wcapLevelOk (m : Master) (a : Nat) (rd : Nat → State → Word × State) (s : State) (hrd : ∀ x0 x1, WcapOk x1.wcapLevel → WcapOk (rd x0 x1).2.wcapLevel)
    (hOk : WcapOk s.wcapLevel) : WcapOk (lctRead m a rd s).wcapLevel := by simp only [lctRead]; (repeat' split) <;> first | with_reducible exact hOk | simp (maxDischargeDepth := 30) +contextual [answer_frame .., holdOrBusy_frame .., loadMove_frame .., violate_frame .., hOk, hrd]

@[simp] theorem lctWriteHi_msgqOk (m : Master) (v : Word) (s : State)
    (hOk : MsgqOk s.msgq) : MsgqOk (lctWriteHi m v s).msgq := by simp (maxDischargeDepth := 30) +contextual [answer_frame .., effWdataHi_frame .., lctWriteHi, hOk]

@[simp] theorem lctWriteHi_lctcOk (m : Master) (v : Word) (s : State)
    (hOk : LctqOk s.lctc) : LctqOk (lctWriteHi m v s).lctc := by simp (maxDischargeDepth := 30) +contextual [answer_frame .., violate_frame .., lctWriteHi, hOk]

@[simp] theorem lctApply_lctcOk (s : State)
    (hOk : LctqOk s.lctc) : LctqOk (lctApply s).lctc := by simp (maxDischargeDepth := 30) +contextual [applyItem_frame .., lctApply, hOk]

@[simp] theorem effLctAudit_lctcOk (v : Word) (s : State)
    (hOk : LctqOk s.lctc) : LctqOk (effLctAudit v s).lctc := by simp (maxDischargeDepth := 30) +contextual [setReg_frame .., effLctAudit, hOk]

end Sys2Proof.Machine
end

