-- ==== Sys2Proof/Laws/InvFinish.lean ====
section
/-!
SUPPORT. The operations of Finish.lean keep the bounds of Inv.
-/
set_option linter.unnecessarySeqFocus false
set_option linter.unusedSimpArgs false
set_option linter.unusedTactic false
namespace Sys2Proof.Machine

@[simp] theorem writeTargets_fsOk (a : ItemSig) (s : State)
    (hOk : Memory.wf s.fs = true) : Memory.wf (writeTargets a s).fs = true := by simp (maxDischargeDepth := 30) +contextual [writeTargets, hOk]

@[simp] theorem writeTargets_sceneOk (a : ItemSig) (s : State)
    (hOk : Memory.wf s.scene = true) : Memory.wf (writeTargets a s).scene = true := by simp (maxDischargeDepth := 30) +contextual [writeTargets, hOk]

@[simp] theorem writeTargets_msgqOk (a : ItemSig) (s : State)
    (hOk : MsgqOk s.msgq) : MsgqOk (writeTargets a s).msgq := by simp (maxDischargeDepth := 30) +contextual [writeTargets, hOk]

@[simp] theorem writeTargets_mntOk (a : ItemSig) (s : State)
    (hOk : MntOk s.mnt) : MntOk (writeTargets a s).mnt := by simp (maxDischargeDepth := 30) +contextual [writeTargets, hOk]

@[simp] theorem copyTargets_fsOk (i : Nat) (s : State)
    (hOk : Memory.wf s.fs = true) : Memory.wf (copyTargets i s).1.fs = true := by
  unfold copyTargets; dsimp only
  exact foldl_fst_inv (fun q => Memory.wf q.fs = true) _
    (by intro q x hq; dsimp only; (repeat' split) <;> simp (maxDischargeDepth := 30) +contextual [memRead_frame .., hq]) _ _ (by simp (maxDischargeDepth := 30) +contextual [memRead_frame .., hOk])

@[simp] theorem copyTargets_sceneOk (i : Nat) (s : State)
    (hOk : Memory.wf s.scene = true) : Memory.wf (copyTargets i s).1.scene = true := by
  unfold copyTargets; dsimp only
  exact foldl_fst_inv (fun q => Memory.wf q.scene = true) _
    (by intro q x hq; dsimp only; (repeat' split) <;> simp (maxDischargeDepth := 30) +contextual [memRead_frame .., hq]) _ _ (by simp (maxDischargeDepth := 30) +contextual [memRead_frame .., hOk])

@[simp] theorem copyTargets_msgqOk (i : Nat) (s : State)
    (hOk : MsgqOk s.msgq) : MsgqOk (copyTargets i s).1.msgq := by
  unfold copyTargets; dsimp only
  exact foldl_fst_inv (fun q => MsgqOk q.msgq) _
    (by intro q x hq; dsimp only; (repeat' split) <;> simp (maxDischargeDepth := 30) +contextual [hq]) _ _ (by simp (maxDischargeDepth := 30) +contextual [hOk])

@[simp] theorem copyTargets_mntOk (i : Nat) (s : State)
    (hOk : MntOk s.mnt) : MntOk (copyTargets i s).1.mnt := by
  unfold copyTargets; dsimp only
  exact foldl_fst_inv (fun q => MntOk q.mnt) _
    (by intro q x hq; dsimp only; (repeat' split) <;> simp (maxDischargeDepth := 30) +contextual [hq]) _ _ (by simp (maxDischargeDepth := 30) +contextual [hOk])

@[simp] theorem stageItem_fsOk (f : MirFrame) (i : Nat) (a : Option ItemSig) (s : State)
    (hOk : Memory.wf s.fs = true) : Memory.wf (stageItem f i a s).fs = true := by simp (maxDischargeDepth := 30) +contextual [stageItem, hOk]

@[simp] theorem stageItem_sceneOk (f : MirFrame) (i : Nat) (a : Option ItemSig) (s : State)
    (hOk : Memory.wf s.scene = true) : Memory.wf (stageItem f i a s).scene = true := by simp (maxDischargeDepth := 30) +contextual [stageItem, hOk]

@[simp] theorem stageItem_msgqOk (f : MirFrame) (i : Nat) (a : Option ItemSig) (s : State)
    (hOk : MsgqOk s.msgq) : MsgqOk (stageItem f i a s).msgq := by simp (maxDischargeDepth := 30) +contextual [stageItem, hOk]

@[simp] theorem stageItem_mntOk (f : MirFrame) (i : Nat) (a : Option ItemSig) (s : State)
    (hOk : MntOk s.mnt) : MntOk (stageItem f i a s).mnt := by simp (maxDischargeDepth := 30) +contextual [stageItem, hOk]

@[simp] theorem stageFor_fsOk (i : Nat) (a : Option ItemSig) (s : State)
    (hOk : Memory.wf s.fs = true) : Memory.wf (stageFor i a s).fs = true := by simp only [stageFor]; (repeat' split) <;> first | with_reducible exact hOk | simp (maxDischargeDepth := 30) +contextual [hOk]

@[simp] theorem stageFor_sceneOk (i : Nat) (a : Option ItemSig) (s : State)
    (hOk : Memory.wf s.scene = true) : Memory.wf (stageFor i a s).scene = true := by simp only [stageFor]; (repeat' split) <;> first | with_reducible exact hOk | simp (maxDischargeDepth := 30) +contextual [hOk]

@[simp] theorem stageFor_msgqOk (i : Nat) (a : Option ItemSig) (s : State)
    (hOk : MsgqOk s.msgq) : MsgqOk (stageFor i a s).msgq := by simp only [stageFor]; (repeat' split) <;> first | with_reducible exact hOk | simp (maxDischargeDepth := 30) +contextual [hOk]

@[simp] theorem stageFor_mntOk (i : Nat) (a : Option ItemSig) (s : State)
    (hOk : MntOk s.mnt) : MntOk (stageFor i a s).mnt := by simp only [stageFor]; (repeat' split) <;> first | with_reducible exact hOk | simp (maxDischargeDepth := 30) +contextual [hOk]

@[simp] theorem takeStaging_msgqOk (s : State)
    (hOk : MsgqOk s.msgq) : MsgqOk (takeStaging s).msgq := by simp only [takeStaging]; (repeat' split) <;> first | with_reducible exact hOk | simp (maxDischargeDepth := 30) +contextual [bumpSat_frame .., hOk]

@[simp] theorem abortMirror_msgqOk (f : MirFrame) (s : State)
    (hOk : MsgqOk s.msgq) : MsgqOk (abortMirror f s).msgq := by simp (maxDischargeDepth := 30) +contextual [bumpSat_frame .., abortMirror, hOk]

end Sys2Proof.Machine
end

