-- ==== Sys2Proof/Laws/InvChain.lean ====
section
/-!
SUPPORT. The operations of Chain.lean keep the bounds of Inv.
-/
namespace Sys2Proof.Machine

@[simp] theorem tileEvent_msgqOk (t : Nat) (s : State)
    (hOk : MsgqOk s.msgq) : MsgqOk (tileEvent t s).msgq := by simp (maxDischargeDepth := 30) +contextual [tileEvent, hOk]

@[simp] theorem endBver_mntOk (t : Nat) (p : Path) (s : State)
    (hOk : MntOk s.mnt) : MntOk (endBver t p s).mnt := by simp (maxDischargeDepth := 30) +contextual [endBver, hOk]

@[simp] theorem failPath_msgqOk (t : Nat) (p : Path) (cause : Nat) (s : State)
    (hOk : MsgqOk s.msgq) : MsgqOk (failPath t p cause s).msgq := by simp (maxDischargeDepth := 30) +contextual [bumpSat_frame .., endBver_frame .., putTile_frame .., failPath, hOk]

@[simp] theorem failPath_mntOk (t : Nat) (p : Path) (cause : Nat) (s : State)
    (hOk : MntOk s.mnt) : MntOk (failPath t p cause s).mnt := by simp (maxDischargeDepth := 30) +contextual [bumpSat_frame .., putTile_frame .., raise_frame .., failPath, hOk]

@[simp] theorem readHeaders_msgqOk (s : State)
    (hOk : MsgqOk s.msgq) : MsgqOk (readHeaders s).msgq := by simp (maxDischargeDepth := 30) +contextual [readHeaders, hOk]

@[simp] theorem openLife_msgqOk (t : Nat) (s0 : State)
    (hOk : MsgqOk s0.msgq) : MsgqOk (openLife t s0).msgq := by simp only [openLife]; (repeat' split) <;> first | with_reducible exact hOk | simp (maxDischargeDepth := 30) +contextual [putTile_frame .., writeHeader_frame .., writeLife_frame .., hOk]

@[simp] theorem newRef_msgqOk (t : Nat) (s : State) (c : Nat)
    (hOk : MsgqOk s.msgq) : MsgqOk (newRef t s c).msgq := by simp (maxDischargeDepth := 30) +contextual [setRegFld_frame .., tickFree_frame .., newRef, hOk]

@[simp] theorem newRefs_msgqOk (t : Nat) (s : State)
    (hOk : MsgqOk s.msgq) : MsgqOk (newRefs t s).msgq := by simp (maxDischargeDepth := 30) +contextual [newRefs, hOk]

@[simp] theorem openResult_msgqOk (t h j : Nat) (bad : Bool) (s : State)
    (hOk : MsgqOk s.msgq) : MsgqOk (openResult t h j bad s).msgq := by simp (maxDischargeDepth := 30) +contextual [putTile_frame .., openResult, hOk]

@[simp] theorem shortResult_msgqOk (t h j : Nat) (bad : Bool) (s : State)
    (hOk : MsgqOk s.msgq) : MsgqOk (shortResult t h j bad s).msgq := by simp (maxDischargeDepth := 30) +contextual [putTile_frame .., shortResult, hOk]

@[simp] theorem sinkResult_msgqOk (t d m j force : Nat) (w : ChainWord) (s : State)
    (hOk : MsgqOk s.msgq) : MsgqOk (sinkResult t d m j force w s).msgq := by simp (maxDischargeDepth := 30) +contextual [sinkResult, hOk]

@[simp] theorem pulseResult_msgqOk (t dline : Nat) (w : ChainWord) (s : State) (q : Nat × Nat)
    (hOk : MsgqOk s.msgq) : MsgqOk (pulseResult t dline w s q).msgq := by simp (maxDischargeDepth := 30) +contextual [pulseResult, hOk]

@[simp] theorem driverResult_msgqOk (t : Nat) (r : StatusOf) (s : State) (q : ChainWord × Nat)
    (hOk : MsgqOk s.msgq) : MsgqOk (driverResult t r s q).msgq := by simp only [driverResult]; (repeat' split) <;> first | with_reducible exact hOk | simp (maxDischargeDepth := 30) +contextual [hOk]

@[simp] theorem statusRead_msgqOk (t : Nat) (r : StatusOf) (words : List ChainWord) (s : State)
    (hOk : MsgqOk s.msgq) : MsgqOk (statusRead t r words s).msgq := by simp only [statusRead]; (repeat' split) <;> first | with_reducible exact hOk | simp (maxDischargeDepth := 30) +contextual [putTile_frame .., setRegN_frame .., startTrims_frame .., hOk]

@[simp] theorem tileInit_msgqOk (t : Nat) (s : State)
    (hOk : MsgqOk s.msgq) : MsgqOk (tileInit t s).msgq := by simp (maxDischargeDepth := 30) +contextual [putTile_frame .., tileInit, hOk]

@[simp] theorem identityRead_msgqOk (t : Nat) (w : ChainWord) (s : State)
    (hOk : MsgqOk s.msgq) : MsgqOk (identityRead t w s).msgq := by simp (maxDischargeDepth := 30) +contextual [putTile_frame .., setReg_frame .., setRegN_frame .., identityRead, hOk]

@[simp] theorem identityStep_msgqOk (t : Nat) (words : List ChainWord) (s : State)
    (hOk : MsgqOk s.msgq) : MsgqOk (identityStep t words s).msgq := by simp only [identityStep]; (repeat' split) <;> first | with_reducible exact hOk | simp (maxDischargeDepth := 30) +contextual [identityRead_frame .., readAgain_frame .., hOk]

@[simp] theorem tileOn_msgqOk (t : Nat) (s : State)
    (hOk : MsgqOk s.msgq) : MsgqOk (tileOn t s).msgq := by simp (maxDischargeDepth := 30) +contextual [putTile_frame .., writeHeader_frame .., tileOn, hOk]

@[simp] theorem tileAbsent_msgqOk (t : Nat) (s : State)
    (hOk : MsgqOk s.msgq) : MsgqOk (tileAbsent t s).msgq := by simp (maxDischargeDepth := 30) +contextual [endBver_frame .., putTile_frame .., writeHeader_frame .., writeLife_frame .., tileAbsent, hOk]

@[simp] theorem tileAbsent_mntOk (t : Nat) (s : State)
    (hOk : MntOk s.mnt) : MntOk (tileAbsent t s).mnt := by simp (maxDischargeDepth := 30) +contextual [putTile_frame .., tileEvent_frame .., writeHeader_frame .., writeLife_frame .., tileAbsent, hOk]

end Sys2Proof.Machine
end

