-- ==== Sys2Proof/Laws/InvBacklight.lean ====
section
/-!
SUPPORT. The operations of Backlight.lean keep the bounds of Inv.
-/
namespace Sys2Proof.Machine

@[simp] theorem lightBlock_msgqOk (t : Nat) (s : State) (c : Nat)
    (hOk : MsgqOk s.msgq) : MsgqOk (lightBlock t s c).msgq := by simp (maxDischargeDepth := 30) +contextual [putTile_frame .., lightBlock, hOk]

@[simp] theorem startBver_mntOk (t : Nat) (s : State)
    (hOk : MntOk s.mnt) : MntOk (startBver t s).mnt := by simp only [startBver]; (repeat' split) <;> first | with_reducible exact hOk | simp (maxDischargeDepth := 30) +contextual [putTile_frame .., hOk]

@[simp] theorem applyBlock_msgqOk (t : Nat) (s : State) (b : Nat × Bool)
    (hOk : MsgqOk s.msgq) : MsgqOk (applyBlock t s b).msgq := by simp (maxDischargeDepth := 30) +contextual [prepare_frame .., putTile_frame .., restorePath_frame .., startBver_frame .., storeBoost_frame .., applyBlock, hOk]

@[simp] theorem applyBlock_mntOk (t : Nat) (s : State) (b : Nat × Bool)
    (hOk : MntOk s.mnt) : MntOk (applyBlock t s b).mnt := by simp (maxDischargeDepth := 30) +contextual [lightBlock_frame .., prepare_frame .., putTile_frame .., restorePath_frame .., storeBoost_frame .., applyBlock, hOk]

@[simp] theorem applyAt_msgqOk (L : Nat) (s : State)
    (hOk : MsgqOk s.msgq) : MsgqOk (applyAt L s).msgq := by
  unfold applyAt
  exact foldl_inv (fun q => MsgqOk q.msgq) _
    (by intro q x hq; cases hb : blockAt q x L <;> simp [hq]) _ _ hOk

@[simp] theorem applyAt_mntOk (L : Nat) (s : State)
    (hOk : MntOk s.mnt) : MntOk (applyAt L s).mnt := by
  unfold applyAt
  exact foldl_inv (fun q => MntOk q.mnt) _
    (by intro q x hq; cases hb : blockAt q x L <;> simp [hq]) _ _ hOk

@[simp] theorem applySkipped_msgqOk (L : Nat) (s : State)
    (hOk : MsgqOk s.msgq) : MsgqOk (applySkipped L s).msgq := by simp (maxDischargeDepth := 30) +contextual [applySkipped, hOk]

@[simp] theorem applySkipped_mntOk (L : Nat) (s : State)
    (hOk : MntOk s.mnt) : MntOk (applySkipped L s).mnt := by simp (maxDischargeDepth := 30) +contextual [applySkipped, hOk]

@[simp] theorem goodSelected_msgqOk (t : Nat) (p : Path) (f : SentFrame) (words : List ChainWord) (s : State)
    (hOk : MsgqOk s.msgq) : MsgqOk (goodSelected t p f words s).msgq := by simp only [goodSelected]; (repeat' split) <;> first | with_reducible exact hOk | simp (maxDischargeDepth := 30) +contextual [putTile_frame .., trimDone_frame .., hOk]

@[simp] theorem goodIdle_msgqOk (t : Nat) (p : Path) (f : SentFrame) (s : State)
    (hOk : MsgqOk s.msgq) : MsgqOk (goodIdle t p f s).msgq := by simp only [goodIdle]; (repeat' split) <;> first | with_reducible exact hOk | simp (maxDischargeDepth := 30) +contextual [putTile_frame .., hOk]

@[simp] theorem goodIdle_mntOk (t : Nat) (p : Path) (f : SentFrame) (s : State)
    (hOk : MntOk s.mnt) : MntOk (goodIdle t p f s).mnt := by simp only [goodIdle]; (repeat' split) <;> first | with_reducible exact hOk | simp (maxDischargeDepth := 30) +contextual [putTile_frame .., raise_frame .., hOk]

@[simp] theorem goodAbsent_msgqOk (t : Nat) (p : Path) (f : SentFrame) (resp : Bool) (s : State)
    (hOk : MsgqOk s.msgq) : MsgqOk (goodAbsent t p f resp s).msgq := by simp (maxDischargeDepth := 30) +contextual [putTile_frame .., goodAbsent, hOk]

@[simp] theorem badFrame_msgqOk (t : Nat) (p : Path) (f : SentFrame) (s : State)
    (hOk : MsgqOk s.msgq) : MsgqOk (badFrame t p f s).msgq := by simp only [badFrame]; (repeat' split) <;> first | with_reducible exact hOk | simp (maxDischargeDepth := 30) +contextual [bumpSat_frame .., putTile_frame .., hOk]

@[simp] theorem badFrame_mntOk (t : Nat) (p : Path) (f : SentFrame) (s : State)
    (hOk : MntOk s.mnt) : MntOk (badFrame t p f s).mnt := by simp only [badFrame]; (repeat' split) <;> first | with_reducible exact hOk | simp (maxDischargeDepth := 30) +contextual [bumpSat_frame .., putTile_frame .., hOk]

@[simp] theorem takeOver_msgqOk (t : Nat) (p : Path) (s : State)
    (hOk : MsgqOk s.msgq) : MsgqOk (takeOver t p s).msgq := by simp (maxDischargeDepth := 30) +contextual [bumpSat_frame .., putTile_frame .., takeOver, hOk]

@[simp] theorem chainResponse_msgqOk (t : Nat) (p : Path) (words : List ChainWord) (s : State)
    (hOk : MsgqOk s.msgq) : MsgqOk (chainResponse t p words s).msgq := by simp (maxDischargeDepth := 30) +contextual [goodStandby_frame .., chainResponse, hOk]

@[simp] theorem chainResponse_mntOk (t : Nat) (p : Path) (words : List ChainWord) (s : State)
    (hOk : MntOk s.mnt) : MntOk (chainResponse t p words s).mnt := by simp (maxDischargeDepth := 30) +contextual [goodAbsent_frame .., goodSelected_frame .., goodStandby_frame .., takeOver_frame .., chainResponse, hOk]

@[simp] theorem askBver_msgqOk (t : Nat) (p : Path) (host : Bool) (s : State)
    (hOk : MsgqOk s.msgq) : MsgqOk (askBver t p host s).msgq := by simp (maxDischargeDepth := 30) +contextual [askBver, hOk]

@[simp] theorem askBver_mntOk (t : Nat) (p : Path) (host : Bool) (s : State)
    (hOk : MntOk s.mnt) : MntOk (askBver t p host s).mnt := by simp (maxDischargeDepth := 30) +contextual [askBver, hOk]

@[simp] theorem effReinit_msgqOk (t : Nat) (s : State)
    (hOk : MsgqOk s.msgq) : MsgqOk (effReinit t s).msgq := by simp (maxDischargeDepth := 30) +contextual [effReinit, hOk]

@[simp] theorem effTctl_msgqOk (t : Nat) (v : Word) (s : State)
    (hOk : MsgqOk s.msgq) : MsgqOk (effTctl t v s).msgq := by simp only [effTctl]; (repeat' split) <;> first | with_reducible exact hOk | simp (maxDischargeDepth := 30) +contextual [effClearOpen_frame .., effRestore_frame .., hOk]

@[simp] theorem effTctl_mntOk (t : Nat) (v : Word) (s : State)
    (hOk : MntOk s.mnt) : MntOk (effTctl t v s).mnt := by simp only [effTctl]; (repeat' split) <;> first | with_reducible exact hOk | simp (maxDischargeDepth := 30) +contextual [effClearOpen_frame .., effReinit_frame .., effRestore_frame .., hOk]

end Sys2Proof.Machine
end

