-- ==== Sys2Proof/Laws/InvIngest.lean ====
section
/-!
SUPPORT. The operations of Ingest.lean keep the bounds of Inv.
-/
set_option linter.unusedSimpArgs false
set_option linter.unusedVariables false
namespace Sys2Proof.Machine

@[simp] theorem markBad_msgqOk (h : Nat) (s : State)
    (hOk : MsgqOk s.msgq) : MsgqOk (markBad h s).msgq := by simp (maxDischargeDepth := 30) +contextual [putHandle_frame .., markBad, hOk]

@[simp] theorem enterError_msgqOk (n code : Nat) (s : State)
    (hOk : MsgqOk s.msgq) : MsgqOk (enterError n code s).msgq := by simp only [enterError]; (repeat' split) <;> first | with_reducible exact hOk | simp (maxDischargeDepth := 30) +contextual [bumpSat_frame .., leaveSlot_frame .., putDcx_frame .., hOk]

@[simp] theorem settle_msgqOk (n : Nat) (s : State)
    (hOk : MsgqOk s.msgq) : MsgqOk (settle n s).msgq := by simp only [settle]; (repeat' split) <;> first | with_reducible exact hOk | simp (maxDischargeDepth := 30) +contextual [closeContext_frame .., hOk]

@[simp] theorem failContext_msgqOk (n code bit : Nat) (s : State)
    (hOk : MsgqOk s.msgq) : MsgqOk (failContext n code bit s).msgq := by simp (maxDischargeDepth := 30) +contextual [putDcx_frame .., failContext, hOk]

@[simp] theorem ctxResult_msgqOk (n code : Nat) (s : State)
    (hOk : MsgqOk s.msgq) : MsgqOk (ctxResult n code s).msgq := by simp (maxDischargeDepth := 30) +contextual [setRegN_frame .., ctxResult, hOk]

@[simp] theorem effOpen_msgqOk (owner n : Nat) (s : State)
    (hOk : MsgqOk s.msgq) : MsgqOk (effOpen owner n s).msgq := by simp (maxDischargeDepth := 30) +contextual [putDcx_frame .., effOpen, hOk]

@[simp] theorem effClose_msgqOk (n : Nat) (s : State)
    (hOk : MsgqOk s.msgq) : MsgqOk (effClose n s).msgq := by simp only [effClose]; (repeat' split) <;> first | with_reducible exact hOk | simp (maxDischargeDepth := 30) +contextual [closeContext_frame .., hOk]

@[simp] theorem effAbort_msgqOk (n : Nat) (s : State)
    (hOk : MsgqOk s.msgq) : MsgqOk (effAbort n s).msgq := by simp (maxDischargeDepth := 30) +contextual [putDcx_frame .., effAbort, hOk]

@[simp] theorem effCtxQuery_msgqOk (n : Nat) (s : State)
    (hOk : MsgqOk s.msgq) : MsgqOk (effCtxQuery n s).msgq := by simp (maxDischargeDepth := 30) +contextual [setRegN_frame .., effCtxQuery, hOk]

@[simp] theorem effCtxCmd_msgqOk (v : Word) (s : State)
    (hOk : MsgqOk s.msgq) : MsgqOk (effCtxCmd v s).msgq := by simp only [effCtxCmd]; (repeat' split) <;> first | with_reducible exact hOk | simp (maxDischargeDepth := 30) +contextual [hOk]

@[simp] theorem parkError_msgqOk (n : Nat) (s : State)
    (hOk : MsgqOk s.msgq) : MsgqOk (parkError n s).msgq := by simp (maxDischargeDepth := 30) +contextual [parkError, hOk]

@[simp] theorem parkError_mntOk (n : Nat) (s : State)
    (hOk : MntOk s.mnt) : MntOk (parkError n s).mnt := by simp (maxDischargeDepth := 30) +contextual [parkError, hOk]

@[simp] theorem landScene_fsOk (off : Nat) (data : List Byte) (s : State)
    (hOk : Memory.wf s.fs = true) : Memory.wf (landScene off data s).fs = true := by simp (maxDischargeDepth := 30) +contextual [landScene, hOk]

@[simp] theorem landScene_sceneOk (off : Nat) (data : List Byte) (s : State)
    (hOk : Memory.wf s.scene = true) : Memory.wf (landScene off data s).scene = true := by simp (maxDischargeDepth := 30) +contextual [landScene, hOk]

@[simp] theorem landScene_msgqOk (off : Nat) (data : List Byte) (s : State)
    (hOk : MsgqOk s.msgq) : MsgqOk (landScene off data s).msgq := by simp (maxDischargeDepth := 30) +contextual [landScene, hOk]

@[simp] theorem landScene_mntOk (off : Nat) (data : List Byte) (s : State)
    (hOk : MntOk s.mnt) : MntOk (landScene off data s).mnt := by simp (maxDischargeDepth := 30) +contextual [landScene, hOk]

@[simp] theorem directWrite_fsOk (r : Req) (off : Nat) (data : List Byte) (s : State)
    (hOk : Memory.wf s.fs = true) : Memory.wf (directWrite r off data s).fs = true := by simp (maxDischargeDepth := 30) +contextual [complete_frame .., nak_frame .., violate_frame .., directWrite, hOk]

@[simp] theorem directWrite_sceneOk (r : Req) (off : Nat) (data : List Byte) (s : State)
    (hOk : Memory.wf s.scene = true) : Memory.wf (directWrite r off data s).scene = true := by simp (maxDischargeDepth := 30) +contextual [complete_frame .., nak_frame .., violate_frame .., directWrite, hOk]

@[simp] theorem directWrite_msgqOk (r : Req) (off : Nat) (data : List Byte) (s : State)
    (hOk : MsgqOk s.msgq) : MsgqOk (directWrite r off data s).msgq := by simp (maxDischargeDepth := 30) +contextual [complete_frame .., directWrite, hOk]

@[simp] theorem directWrite_mntOk (r : Req) (off : Nat) (data : List Byte) (s : State)
    (hOk : MntOk s.mnt) : MntOk (directWrite r off data s).mnt := by simp (maxDischargeDepth := 30) +contextual [complete_frame .., nak_frame .., violate_frame .., directWrite, hOk]

@[simp] theorem capPerform_fsOk (w : CapWrite) (s : State)
    (hOk : Memory.wf s.fs = true) : Memory.wf (capPerform w s).fs = true := by simp only [capPerform]; (repeat' split) <;> first | with_reducible exact hOk | simp (maxDischargeDepth := 30) +contextual [putDcx_frame .., hOk]

@[simp] theorem capPerform_sceneOk (w : CapWrite) (s : State)
    (hOk : Memory.wf s.scene = true) : Memory.wf (capPerform w s).scene = true := by simp only [capPerform]; (repeat' split) <;> first | with_reducible exact hOk | simp (maxDischargeDepth := 30) +contextual [putDcx_frame .., hOk]

@[simp] theorem capPerform_msgqOk (w : CapWrite) (s : State)
    (hOk : MsgqOk s.msgq) : MsgqOk (capPerform w s).msgq := by simp only [capPerform]; (repeat' split) <;> first | with_reducible exact hOk | simp (maxDischargeDepth := 30) +contextual [putDcx_frame .., hOk]

@[simp] theorem capPerform_mntOk (w : CapWrite) (s : State)
    (hOk : MntOk s.mnt) : MntOk (capPerform w s).mnt := by simp only [capPerform]; (repeat' split) <;> first | with_reducible exact hOk | simp (maxDischargeDepth := 30) +contextual [putDcx_frame .., hOk]

@[simp] theorem capWrite_fsOk (w : CapWrite) (s : State)
    (hOk : Memory.wf s.fs = true) : Memory.wf (capWrite w s).fs = true := by simp (maxDischargeDepth := 30) +contextual [capWrite, hOk]

@[simp] theorem capWrite_sceneOk (w : CapWrite) (s : State)
    (hOk : Memory.wf s.scene = true) : Memory.wf (capWrite w s).scene = true := by simp (maxDischargeDepth := 30) +contextual [capWrite, hOk]

@[simp] theorem capWrite_msgqOk (w : CapWrite) (s : State)
    (hOk : MsgqOk s.msgq) : MsgqOk (capWrite w s).msgq := by simp (maxDischargeDepth := 30) +contextual [capWrite, hOk]

@[simp] theorem capWrite_mntOk (w : CapWrite) (s : State)
    (hOk : MntOk s.mnt) : MntOk (capWrite w s).mnt := by simp (maxDischargeDepth := 30) +contextual [capWrite, hOk]

@[simp] theorem capWrite_wcapLevelOk (w : CapWrite) (s : State)
    (hOk : WcapOk s.wcapLevel) : WcapOk (capWrite w s).wcapLevel := by simp (maxDischargeDepth := 30) +contextual [capPerform_frame .., capWrite, hOk]

@[simp] theorem refillCap_wcapLevelOk (s : State)
    (hOk : WcapOk s.wcapLevel) : WcapOk (refillCap s).wcapLevel := by simp (maxDischargeDepth := 30) +contextual [refillCap, hOk]

@[simp] theorem writeOut_fsOk (n off : Nat) (data : List Byte) (s : State)
    (hOk : Memory.wf s.fs = true) : Memory.wf (writeOut n off data s).fs = true := by simp (maxDischargeDepth := 30) +contextual [writeOut, hOk]

@[simp] theorem writeOut_sceneOk (n off : Nat) (data : List Byte) (s : State)
    (hOk : Memory.wf s.scene = true) : Memory.wf (writeOut n off data s).scene = true := by simp (maxDischargeDepth := 30) +contextual [writeOut, hOk]

@[simp] theorem writeOut_msgqOk (n off : Nat) (data : List Byte) (s : State)
    (hOk : MsgqOk s.msgq) : MsgqOk (writeOut n off data s).msgq := by simp (maxDischargeDepth := 30) +contextual [writeOut, hOk]

@[simp] theorem writeOut_mntOk (n off : Nat) (data : List Byte) (s : State)
    (hOk : MntOk s.mnt) : MntOk (writeOut n off data s).mnt := by simp (maxDischargeDepth := 30) +contextual [writeOut, hOk]

@[simp] theorem writeOut_wcapLevelOk (n off : Nat) (data : List Byte) (s : State)
    (hOk : WcapOk s.wcapLevel) : WcapOk (writeOut n off data s).wcapLevel := by simp (maxDischargeDepth := 30) +contextual [writeOut, hOk]

@[simp] theorem decodeOne_fsOk (n e : Nat) (s : State)
    (hOk : Memory.wf s.fs = true) : Memory.wf (decodeOne n e s).fs = true := by simp only [decodeOne]; (repeat' split) <;> first | with_reducible exact hOk | simp (maxDischargeDepth := 30) +contextual [countOut_frame .., dropTrailing_frame .., failContext_frame .., putDcx_frame .., hOk]

@[simp] theorem decodeOne_sceneOk (n e : Nat) (s : State)
    (hOk : Memory.wf s.scene = true) : Memory.wf (decodeOne n e s).scene = true := by simp only [decodeOne]; (repeat' split) <;> first | with_reducible exact hOk | simp (maxDischargeDepth := 30) +contextual [countOut_frame .., dropTrailing_frame .., failContext_frame .., putDcx_frame .., hOk]

@[simp] theorem decodeOne_msgqOk (n e : Nat) (s : State)
    (hOk : MsgqOk s.msgq) : MsgqOk (decodeOne n e s).msgq := by simp only [decodeOne]; (repeat' split) <;> first | with_reducible exact hOk | simp (maxDischargeDepth := 30) +contextual [countOut_frame .., dropTrailing_frame .., putDcx_frame .., hOk]

@[simp] theorem decodeOne_mntOk (n e : Nat) (s : State)
    (hOk : MntOk s.mnt) : MntOk (decodeOne n e s).mnt := by simp only [decodeOne]; (repeat' split) <;> first | with_reducible exact hOk | simp (maxDischargeDepth := 30) +contextual [countOut_frame .., dropTrailing_frame .., failContext_frame .., putDcx_frame .., hOk]

@[simp] theorem decodeOne_wcapLevelOk (n e : Nat) (s : State)
    (hOk : WcapOk s.wcapLevel) : WcapOk (decodeOne n e s).wcapLevel := by simp only [decodeOne]; (repeat' split) <;> first | with_reducible exact hOk | simp (maxDischargeDepth := 30) +contextual [countOut_frame .., dropTrailing_frame .., failContext_frame .., putDcx_frame .., hOk]

@[simp] theorem streamReady_msgqOk (h : Nat) (s : State)
    (hOk : MsgqOk s.msgq) : MsgqOk (streamReady h s).msgq := by simp (maxDischargeDepth := 30) +contextual [turnReady_frame .., streamReady, hOk]

end Sys2Proof.Machine
end

