-- ==== Sys2Proof/Laws/InvLinkCmd.lean ====
section
/-!
SUPPORT. The operations of LinkCmd.lean keep the bounds of Inv.
-/
namespace Sys2Proof.Machine

@[simp] theorem violateReq_msgqOk (typ reason : Nat) (r : Req) (s : State)
    (hOk : MsgqOk s.msgq) : MsgqOk (violateReq typ reason r s).msgq := by simp (maxDischargeDepth := 30) +contextual [violateReq, hOk]

@[simp] theorem takeTxn_msgqOk (a : Asm) (s : State)
    (hOk : MsgqOk s.msgq) : MsgqOk (takeTxn a s).msgq := by simp (maxDischargeDepth := 30) +contextual [creditUpdate_frame .., freeFlits_frame .., queueReq_frame .., takeTxn, hOk]

@[simp] theorem growTxn_msgqOk (a : Asm) (last : Bool) (s : State)
    (hOk : MsgqOk s.msgq) : MsgqOk (growTxn a last s).msgq := by simp (maxDischargeDepth := 30) +contextual [setLink_frame .., growTxn, hOk]

@[simp] theorem acceptFlit_msgqOk (m : HostMaster) (vc : Fin 4) (kind : Nat) (last : Bool) (data : List Byte) (s : State)
    (hOk : MsgqOk s.msgq) : MsgqOk (acceptFlit m vc kind last data s).msgq := by simp only [acceptFlit]; (repeat' split) <;> first | with_reducible exact hOk | simp (maxDischargeDepth := 30) +contextual [setLink_frame .., hOk]

@[simp] theorem goodFlit_msgqOk (h : Nat) (payload : List Byte) (s : State)
    (hOk : MsgqOk s.msgq) : MsgqOk (goodFlit h payload s).msgq := by simp (maxDischargeDepth := 30) +contextual [ackFlits_frame .., discardFlit_frame .., retryFlit_frame .., setLink_frame .., goodFlit, hOk]

end Sys2Proof.Machine
end

