-- ==== Sys2Proof/Laws/InvLanes.lean ====
section
/-!
SUPPORT. The operations of Lanes.lean keep the bounds of Inv.
-/
namespace Sys2Proof.Machine

@[simp] theorem laneEvent_msgqOk (l : Lane) (b : Nat) (s : State)
    (hOk : MsgqOk s.msgq) : MsgqOk (laneEvent l b s).msgq := by simp only [laneEvent]; (repeat' split) <;> first | with_reducible exact hOk | simp (maxDischargeDepth := 30) +contextual [hOk]

@[simp] theorem failLane_msgqOk (l : Lane) (cause : Nat) (s : State)
    (hOk : MsgqOk s.msgq) : MsgqOk (failLane l cause s).msgq := by simp (maxDischargeDepth := 30) +contextual [putAux_frame .., setLaneCause_frame .., setLaneCopy_frame .., setLaneRole_frame .., failLane, hOk]

@[simp] theorem coverWith_msgqOk (x : Lane) (num : Nat) (s : State)
    (hOk : MsgqOk s.msgq) : MsgqOk (coverWith x num s).msgq := by simp (maxDischargeDepth := 30) +contextual [beginCopy_frame .., bumpSat_frame .., putAux_frame .., setLaneCopy_frame .., setLaneRole_frame .., coverWith, hOk]

@[simp] theorem abortLent_msgqOk (x : Lane) (s : State)
    (hOk : MsgqOk s.msgq) : MsgqOk (abortLent x s).msgq := by simp only [abortLent]; (repeat' split) <;> first | with_reducible exact hOk | simp (maxDischargeDepth := 30) +contextual [putAux_frame .., hOk]

@[simp] theorem abortLent_mntOk (x : Lane) (s : State)
    (hOk : MntOk s.mnt) : MntOk (abortLent x s).mnt := by simp only [abortLent]; (repeat' split) <;> first | with_reducible exact hOk | simp (maxDischargeDepth := 30) +contextual [laneEvent_frame .., putAux_frame .., hOk]

@[simp] theorem takeover_msgqOk (l : Lane) (num : Nat) (s : State)
    (hOk : MsgqOk s.msgq) : MsgqOk (takeover l num s).msgq := by simp only [takeover]; (repeat' split) <;> first | with_reducible exact hOk | simp (maxDischargeDepth := 30) +contextual [darkDriver_frame .., hOk]

@[simp] theorem takeover_mntOk (l : Lane) (num : Nat) (s : State)
    (hOk : MntOk s.mnt) : MntOk (takeover l num s).mnt := by simp only [takeover]; (repeat' split) <;> first | with_reducible exact hOk | simp (maxDischargeDepth := 30) +contextual [coverWith_frame .., darkDriver_frame .., laneEvent_frame .., hOk]

@[simp] theorem askCover_msgqOk (l : Lane) (num : Nat) (s : State)
    (hOk : MsgqOk s.msgq) : MsgqOk (askCover l num s).msgq := by simp only [askCover]; (repeat' split) <;> first | with_reducible exact hOk | simp (maxDischargeDepth := 30) +contextual [askCopy_frame .., putAux_frame .., setLaneCopy_frame .., hOk]

@[simp] theorem askCover_mntOk (l : Lane) (num : Nat) (s : State)
    (hOk : MntOk s.mnt) : MntOk (askCover l num s).mnt := by simp only [askCover]; (repeat' split) <;> first | with_reducible exact hOk | simp (maxDischargeDepth := 30) +contextual [askCopy_frame .., laneEvent_frame .., putAux_frame .., setLaneCopy_frame .., hOk]

@[simp] theorem declareFailed_msgqOk (l : Lane) (cause : Nat) (s : State)
    (hOk : MsgqOk s.msgq) : MsgqOk (declareFailed l cause s).msgq := by simp only [declareFailed]; (repeat' split) <;> first | with_reducible exact hOk | simp (maxDischargeDepth := 30) +contextual [askCopy_frame .., putAux_frame .., setLaneCopy_frame .., hOk]

@[simp] theorem declareFailed_mntOk (l : Lane) (cause : Nat) (s : State)
    (hOk : MntOk s.mnt) : MntOk (declareFailed l cause s).mnt := by simp only [declareFailed]; (repeat' split) <;> first | with_reducible exact hOk | simp (maxDischargeDepth := 30) +contextual [askCopy_frame .., failLane_frame .., laneEvent_frame .., putAux_frame .., setLaneCopy_frame .., hOk]

@[simp] theorem laneCheck_msgqOk (s : State)
    (hOk : MsgqOk s.msgq) : MsgqOk (laneCheck s).msgq := by simp (maxDischargeDepth := 30) +contextual [laneCheck, hOk]

@[simp] theorem laneCheck_mntOk (s : State)
    (hOk : MntOk s.mnt) : MntOk (laneCheck s).mnt := by simp (maxDischargeDepth := 30) +contextual [laneCheck, hOk]

@[simp] theorem takeCopy_msgqOk (l : Lane) (num : Nat) (s : State)
    (hOk : MsgqOk s.msgq) : MsgqOk (takeCopy l num s).msgq := by simp only [takeCopy]; (repeat' split) <;> first | with_reducible exact hOk | simp (maxDischargeDepth := 30) +contextual [hOk]

@[simp] theorem numbered_msgqOk (l : Lane) (num : Nat) (s : State)
    (hOk : MsgqOk s.msgq) : MsgqOk (numbered l num s).msgq := by simp only [numbered]; (repeat' split) <;> first | with_reducible exact hOk | simp (maxDischargeDepth := 30) +contextual [countCopy_frame .., countOwn_frame .., putAux_frame .., setLaneCopy_frame .., setLaneRole_frame .., hOk]

@[simp] theorem laneReturns_msgqOk (l : Lane) (s : State)
    (hOk : MsgqOk s.msgq) : MsgqOk (laneReturns l s).msgq := by simp (maxDischargeDepth := 30) +contextual [setLaneRole_frame .., laneReturns, hOk]

@[simp] theorem markerValid_msgqOk (n : Fin 18) (b : DWord) (inv : Bool) (s0 : State)
    (hOk : MsgqOk s0.msgq) : MsgqOk (markerValid n b inv s0).msgq := by simp (maxDischargeDepth := 30) +contextual [allUp_frame .., markRq_frame .., putAux_frame .., setLaneCause_frame .., setLaneRole_frame .., setLaneState_frame .., setRegBit_frame .., markerValid, hOk]

@[simp] theorem askVerify_msgqOk (l : Lane) (host : Bool) (s : State)
    (hOk : MsgqOk s.msgq) : MsgqOk (askVerify l host s).msgq := by simp only [askVerify]; (repeat' split) <;> first | with_reducible exact hOk | simp (maxDischargeDepth := 30) +contextual [putAux_frame .., hOk]

@[simp] theorem askVerify_mntOk (l : Lane) (host : Bool) (s : State)
    (hOk : MntOk s.mnt) : MntOk (askVerify l host s).mnt := by simp only [askVerify]; (repeat' split) <;> first | with_reducible exact hOk | simp (maxDischargeDepth := 30) +contextual [putAux_frame .., hOk]

@[simp] theorem effLctl_msgqOk (l : Lane) (v : Word) (s : State)
    (hOk : MsgqOk s.msgq) : MsgqOk (effLctl l v s).msgq := by simp only [effLctl]; (repeat' split) <;> first | with_reducible exact hOk | simp (maxDischargeDepth := 30) +contextual [restoreLane_frame .., setReg_frame .., hOk]

@[simp] theorem effLctl_mntOk (l : Lane) (v : Word) (s : State)
    (hOk : MntOk s.mnt) : MntOk (effLctl l v s).mnt := by simp only [effLctl]; (repeat' split) <;> first | with_reducible exact hOk | simp (maxDischargeDepth := 30) +contextual [restoreLane_frame .., setReg_frame .., hOk]

@[simp] theorem attend_msgqOk (num : Nat) (s : State)
    (hOk : MsgqOk s.msgq) : MsgqOk (attend num s).msgq := by simp only [attend]; (repeat' split) <;> first | with_reducible exact hOk | simp (maxDischargeDepth := 30) +contextual [hOk]

@[simp] theorem attend_mntOk (num : Nat) (s : State)
    (hOk : MntOk s.mnt) : MntOk (attend num s).mnt := by simp only [attend]; (repeat' split) <;> first | with_reducible exact hOk | simp (maxDischargeDepth := 30) +contextual [coverWith_frame .., hOk]

@[simp] theorem attendAll_msgqOk (a : BitVec 72) (s : State)
    (hOk : MsgqOk s.msgq) : MsgqOk (attendAll a s).msgq := by simp (maxDischargeDepth := 30) +contextual [attendAll, hOk]

@[simp] theorem attendAll_mntOk (a : BitVec 72) (s : State)
    (hOk : MntOk s.mnt) : MntOk (attendAll a s).mnt := by simp (maxDischargeDepth := 30) +contextual [attendAll, hOk]

@[simp] theorem statusUp_msgqOk (k i : Nat) (d : Word) (s : State)
    (hOk : MsgqOk s.msgq) : MsgqOk (statusUp k i d s).msgq := by simp (maxDischargeDepth := 30) +contextual [setLaneRole_frame .., setLaneState_frame .., setRegBit_frame .., statusUp, hOk]

@[simp] theorem reportFailed_msgqOk (l : Lane) (s : State)
    (hOk : MsgqOk s.msgq) : MsgqOk (reportFailed l s).msgq := by simp (maxDischargeDepth := 30) +contextual [reportFailed, hOk]

@[simp] theorem reportFailed_mntOk (l : Lane) (s : State)
    (hOk : MntOk s.mnt) : MntOk (reportFailed l s).mnt := by simp (maxDischargeDepth := 30) +contextual [laneEvent_frame .., reportFailed, hOk]

@[simp] theorem statusInput_msgqOk (k i : Nat) (d : Word) (s : State)
    (hOk : MsgqOk s.msgq) : MsgqOk (statusInput k i d s).msgq := by simp only [statusInput]; (repeat' split) <;> first | with_reducible exact hOk | simp (maxDischargeDepth := 30) +contextual [hOk]

@[simp] theorem statusInput_mntOk (k i : Nat) (d : Word) (s : State)
    (hOk : MntOk s.mnt) : MntOk (statusInput k i d s).mnt := by simp only [statusInput]; (repeat' split) <;> first | with_reducible exact hOk | simp (maxDischargeDepth := 30) +contextual [laneReturns_frame .., hOk]

@[simp] theorem psbGood_msgqOk (k idx : Nat) (d : Word) (sel : Bool) (s : State)
    (hOk : MsgqOk s.msgq) : MsgqOk (psbGood k idx d sel s).msgq := by simp (maxDischargeDepth := 30) +contextual [setReg_frame .., psbGood, hOk]

@[simp] theorem psbGood_mntOk (k idx : Nat) (d : Word) (sel : Bool) (s : State)
    (hOk : MntOk s.mnt) : MntOk (psbGood k idx d sel s).mnt := by simp (maxDischargeDepth := 30) +contextual [setReg_frame .., statusUp_frame .., psbGood, hOk]

@[simp] theorem psbBad_msgqOk (k : Nat) (s : State)
    (hOk : MsgqOk s.msgq) : MsgqOk (psbBad k s).msgq := by simp (maxDischargeDepth := 30) +contextual [bumpSat_frame .., psbBad, hOk]

end Sys2Proof.Machine
end

