-- ==== Sys2Proof/Laws/InvClock.lean ====
section
/-!
SUPPORT. The operations of Clock.lean keep the bounds of Inv.
-/
namespace Sys2Proof.Machine

@[simp] theorem passTime_wcapLevelOk (n : Nat) (s : State)
    (hOk : WcapOk s.wcapLevel) : WcapOk (passTime n s).wcapLevel := by simp (maxDischargeDepth := 30) +contextual [ozSettle_frame .., tbMidnight_frame .., tbRun_frame .., passTime, hOk]

theorem reachPsi_wcapLevelOk {x : Int} {s t : State} (h : reachPsi x s = some t) (hOk : WcapOk s.wcapLevel) :
    WcapOk t.wcapLevel := by
  unfold reachPsi at h
  dsimp only at h
  (repeat' split at h) <;> simp only [Option.some.injEq, reduceCtorEq] at h
  · rw [← h]; exact hOk
  · rw [← h]; exact passTime_wcapLevelOk _ _ hOk

@[simp] theorem glCheck_msgqOk (s : State)
    (hOk : MsgqOk s.msgq) : MsgqOk (glCheck s).msgq := by simp (maxDischargeDepth := 30) +contextual [raise_frame .., glCheck, hOk]

@[simp] theorem slewDone_msgqOk (s : State)
    (hOk : MsgqOk s.msgq) : MsgqOk (slewDone s).msgq := by simp (maxDischargeDepth := 30) +contextual [slewDone, hOk]

@[simp] theorem seedTicks_msgqOk (s : State)
    (hOk : MsgqOk s.msgq) : MsgqOk (seedTicks s).msgq := by simp (maxDischargeDepth := 30) +contextual [seedTicks, hOk]

@[simp] theorem reseedTicks_msgqOk (s : State)
    (hOk : MsgqOk s.msgq) : MsgqOk (reseedTicks s).msgq := by simp (maxDischargeDepth := 30) +contextual [bumpSat_frame .., raise_frame .., reseedTicks, hOk]

@[simp] theorem tickOut_msgqOk (boundary : Bool) (s : State)
    (hOk : MsgqOk s.msgq) : MsgqOk (tickOut boundary s).msgq := by simp (maxDischargeDepth := 30) +contextual [tickOut, hOk]

@[simp] theorem tickOut_mntOk (boundary : Bool) (s : State)
    (hOk : MntOk s.mnt) : MntOk (tickOut boundary s).mnt := by simp (maxDischargeDepth := 30) +contextual [tickOut, hOk]

end Sys2Proof.Machine
end

