-- ==== Sys2Proof/Laws/InvScanout.lean ====
section
/-!
SUPPORT. The operations of Scanout.lean keep the bounds of Inv.
-/
namespace Sys2Proof.Machine

@[simp] theorem granuleFailed_msgqOk (r sl y : Nat) (s : State) (g : Nat)
    (hOk : MsgqOk s.msgq) : MsgqOk (granuleFailed r sl y s g).msgq := by simp (maxDischargeDepth := 30) +contextual [bumpSat_frame .., setScan_frame .., uncorr_frame .., granuleFailed, hOk]

@[simp] theorem granuleFailed_mntOk (r sl y : Nat) (s : State) (g : Nat)
    (hOk : MntOk s.mnt) : MntOk (granuleFailed r sl y s g).mnt := by simp (maxDischargeDepth := 30) +contextual [bumpSat_frame .., raise_frame .., setScan_frame .., uncorr_frame .., granuleFailed, hOk]

@[simp] theorem rowErrors_msgqOk (r sl y : Nat) (s : State)
    (hOk : MsgqOk s.msgq) : MsgqOk (rowErrors r sl y s).msgq := by simp only [rowErrors]; (repeat' split) <;> first | with_reducible exact hOk | simp (maxDischargeDepth := 30) +contextual [setScan_frame .., hOk]

@[simp] theorem rowErrors_mntOk (r sl y : Nat) (s : State)
    (hOk : MntOk s.mnt) : MntOk (rowErrors r sl y s).mnt := by simp only [rowErrors]; (repeat' split) <;> first | with_reducible exact hOk | simp (maxDischargeDepth := 30) +contextual [setScan_frame .., hOk]

@[simp] theorem showRow_msgqOk (r sl y : Nat) (shownMissing refMissing : Bool) (s : State)
    (hOk : MsgqOk s.msgq) : MsgqOk (showRow r sl y shownMissing refMissing s).msgq := by simp (maxDischargeDepth := 30) +contextual [bumpSat_frame .., rowChecks_frame .., setScan_frame .., showRow, hOk]

@[simp] theorem showRow_mntOk (r sl y : Nat) (shownMissing refMissing : Bool) (s : State)
    (hOk : MntOk s.mnt) : MntOk (showRow r sl y shownMissing refMissing s).mnt := by simp (maxDischargeDepth := 30) +contextual [bumpSat_frame .., rowChecks_frame .., setScan_frame .., showRow, hOk]

@[simp] theorem checkFcrc_msgqOk (r sl : Nat) (s : State)
    (hOk : MsgqOk s.msgq) : MsgqOk (checkFcrc r sl s).msgq := by simp (maxDischargeDepth := 30) +contextual [bumpSat_frame .., checkFcrc, hOk]

@[simp] theorem checkRects_msgqOk (r sl : Nat) (s : State)
    (hOk : MsgqOk s.msgq) : MsgqOk (checkRects r sl s).msgq := by simp (maxDischargeDepth := 30) +contextual [bumpBySat_frame .., setReg_frame .., checkRects, hOk]

@[simp] theorem reportUnderrun_msgqOk (s : State)
    (hOk : MsgqOk s.msgq) : MsgqOk (reportUnderrun s).msgq := by simp only [reportUnderrun]; (repeat' split) <;> first | with_reducible exact hOk | simp (maxDischargeDepth := 30) +contextual [hOk]

@[simp] theorem reportShort_msgqOk (s : State)
    (hOk : MsgqOk s.msgq) : MsgqOk (reportShort s).msgq := by simp (maxDischargeDepth := 30) +contextual [bumpSat_frame .., reportShort, hOk]

@[simp] theorem endFrame_msgqOk (s : State)
    (hOk : MsgqOk s.msgq) : MsgqOk (endFrame s).msgq := by simp only [endFrame]; (repeat' split) <;> first | with_reducible exact hOk | simp (maxDischargeDepth := 30) +contextual [applySkipped_frame .., checkFcrc_frame .., checkRects_frame .., enterIdle_frame .., reportShort_frame .., reportUnderrun_frame .., setScan_frame .., hOk]

@[simp] theorem endFrame_mntOk (s : State)
    (hOk : MntOk s.mnt) : MntOk (endFrame s).mnt := by simp only [endFrame]; (repeat' split) <;> first | with_reducible exact hOk | simp (maxDischargeDepth := 30) +contextual [applySkipped_frame .., checkFcrc_frame .., checkRects_frame .., enterIdle_frame .., reportShort_frame .., reportUnderrun_frame .., setScan_frame .., hOk]

@[simp] theorem startDark_msgqOk (cause : Nat) (s : State)
    (hOk : MsgqOk s.msgq) : MsgqOk (startDark cause s).msgq := by simp (maxDischargeDepth := 30) +contextual [bumpSat_frame .., setScan_frame .., startFrame_frame .., startDark, hOk]

@[simp] theorem beginPanel_msgqOk (s0 : State)
    (hOk : MsgqOk s0.msgq) : MsgqOk (beginPanel s0).msgq := by simp only [beginPanel]; (repeat' split) <;> first | with_reducible exact hOk | simp (maxDischargeDepth := 30) +contextual [enterIdle_frame .., holdIdle_frame .., scanBlock_frame .., startFrame_frame .., swapTab_frame .., hOk]

@[simp] theorem tilesTick_msgqOk (s : State)
    (hOk : MsgqOk s.msgq) : MsgqOk (tilesTick s).msgq := by simp (maxDischargeDepth := 30) +contextual [tilesTick, hOk]

@[simp] theorem slotTick_msgqOk (sl : Nat) (s : State)
    (hOk : MsgqOk s.msgq) : MsgqOk (slotTick sl s).msgq := by simp (maxDischargeDepth := 30) +contextual [endFrame_frame .., firstBlock_frame .., setRegFld_frame .., setScan_frame .., slotTick, hOk]

@[simp] theorem slotTick_mntOk (sl : Nat) (s : State)
    (hOk : MntOk s.mnt) : MntOk (slotTick sl s).mnt := by simp (maxDischargeDepth := 30) +contextual [beginPanel_frame .., endFrame_frame .., firstBlock_frame .., setRegFld_frame .., setScan_frame .., tilesTick_frame .., slotTick, hOk]

@[simp] theorem lineOutput_msgqOk (L : Nat) (shownMissing refMissing : Bool) (s : State)
    (hOk : MsgqOk s.msgq) : MsgqOk (lineOutput L shownMissing refMissing s).msgq := by simp only [lineOutput]; (repeat' split) <;> first | with_reducible exact hOk | simp (maxDischargeDepth := 30) +contextual [dropRows_frame .., issueReads_frame .., sendDrvreg_frame .., setScan_frame .., hOk]

@[simp] theorem lineOutput_mntOk (L : Nat) (shownMissing refMissing : Bool) (s : State)
    (hOk : MntOk s.mnt) : MntOk (lineOutput L shownMissing refMissing s).mnt := by simp only [lineOutput]; (repeat' split) <;> first | with_reducible exact hOk | simp (maxDischargeDepth := 30) +contextual [dropRows_frame .., issueReads_frame .., sendDrvreg_frame .., setScan_frame .., hOk]

@[simp] theorem lineStep_msgqOk (L fill : Nat) (shownMissing refMissing : Bool) (s : State)
    (hOk : MsgqOk s.msgq) : MsgqOk (lineStep L fill shownMissing refMissing s).msgq := by simp (maxDischargeDepth := 30) +contextual [fifoMin_frame .., readAhead_frame .., setRegFld_frame .., setScan_frame .., transmit_frame .., lineStep, hOk]

@[simp] theorem lineStep_mntOk (L fill : Nat) (shownMissing refMissing : Bool) (s : State)
    (hOk : MntOk s.mnt) : MntOk (lineStep L fill shownMissing refMissing s).mnt := by simp (maxDischargeDepth := 30) +contextual [fifoMin_frame .., readAhead_frame .., setRegFld_frame .., setScan_frame .., transmit_frame .., lineStep, hOk]

end Sys2Proof.Machine
end

