-- ==== Sys2Proof/Laws/InvComposer.lean ====
section
/-!
SUPPORT. The operations of Composer.lean keep the bounds of Inv.
-/
namespace Sys2Proof.Machine

@[simp] theorem setRole_msgqOk (e role cause : Nat) (s : State)
    (hOk : MsgqOk s.msgq) : MsgqOk (setRole e role cause s).msgq := by simp (maxDischargeDepth := 30) +contextual [setRegN_frame .., setRole, hOk]

@[simp] theorem endEver_mntOk (e : Nat) (s : State)
    (hOk : MntOk s.mnt) : MntOk (endEver e s).mnt := by simp (maxDischargeDepth := 30) +contextual [endEver, hOk]

@[simp] theorem retireEngine_msgqOk (e role cause : Nat) (s : State)
    (hOk : MsgqOk s.msgq) : MsgqOk (retireEngine e role cause s).msgq := by simp (maxDischargeDepth := 30) +contextual [counterAdd_frame .., endEver_frame .., setComp_frame .., setRole_frame .., retireEngine, hOk]

@[simp] theorem retireEngine_mntOk (e role cause : Nat) (s : State)
    (hOk : MntOk s.mnt) : MntOk (retireEngine e role cause s).mnt := by simp (maxDischargeDepth := 30) +contextual [counterAdd_frame .., endEver_frame .., raise_frame .., setComp_frame .., setRole_frame .., retireEngine, hOk]

@[simp] theorem quarantineLoser_msgqOk (e : Nat) (s : State)
    (hOk : MsgqOk s.msgq) : MsgqOk (quarantineLoser e s).msgq := by simp (maxDischargeDepth := 30) +contextual [quarantineLoser, hOk]

@[simp] theorem quarantineLoser_mntOk (e : Nat) (s : State)
    (hOk : MntOk s.mnt) : MntOk (quarantineLoser e s).mnt := by simp (maxDischargeDepth := 30) +contextual [quarantineLoser, hOk]

@[simp] theorem applyRole_msgqOk (s : State) (q : Nat × BitVec 3)
    (hOk : MsgqOk s.msgq) : MsgqOk (applyRole s q).msgq := by simp (maxDischargeDepth := 30) +contextual [endEver_frame .., applyRole, hOk]

@[simp] theorem applyRole_mntOk (s : State) (q : Nat × BitVec 3)
    (hOk : MntOk s.mnt) : MntOk (applyRole s q).mnt := by simp (maxDischargeDepth := 30) +contextual [setRole_frame .., applyRole, hOk]

@[simp] theorem startEver_mntOk (s : State)
    (hOk : MntOk s.mnt) : MntOk (startEver s).mnt := by simp (maxDischargeDepth := 30) +contextual [askRole_frame .., startEver, hOk]

@[simp] theorem applyRoles_msgqOk (s : State)
    (hOk : MsgqOk s.msgq) : MsgqOk (applyRoles s).msgq := by simp (maxDischargeDepth := 30) +contextual [setComp_frame .., startEver_frame .., applyRoles, hOk]

@[simp] theorem applyRoles_mntOk (s : State)
    (hOk : MntOk s.mnt) : MntOk (applyRoles s).mnt := by simp (maxDischargeDepth := 30) +contextual [setComp_frame .., applyRoles, hOk]

@[simp] theorem fillPlaces_msgqOk (n : Nat) (s : State) (hOk : MsgqOk s.msgq) : MsgqOk (fillPlaces n s).msgq := by
  induction n generalizing s with
  | zero => exact hOk
  | succ n ih =>
    rw [fillPlaces]
    split
    · exact hOk
    · split
      · exact hOk
      · exact ih _ (by simp [setComp_frame .., hOk])

@[simp] theorem reportTrunc_msgqOk (lens : List Nat) (s : State)
    (hOk : MsgqOk s.msgq) : MsgqOk (reportTrunc lens s).msgq := by simp only [reportTrunc]; (repeat' split) <;> first | with_reducible exact hOk | simp (maxDischargeDepth := 30) +contextual [hOk]

@[simp] theorem beginFrame_msgqOk (s : State)
    (hOk : MsgqOk s.msgq) : MsgqOk (beginFrame s).msgq := by simp (maxDischargeDepth := 30) +contextual [nextFrameNumber_frame .., setComp_frame .., setReg_frame .., storeBound_frame .., beginFrame, hOk]

@[simp] theorem texError_msgqOk (s : State) (addr : Nat)
    (hOk : MsgqOk s.msgq) : MsgqOk (texError s addr).msgq := by simp (maxDischargeDepth := 30) +contextual [bumpSat_frame .., setComp_frame .., uncorr_frame .., texError, hOk]

@[simp] theorem texError_mntOk (s : State) (addr : Nat)
    (hOk : MntOk s.mnt) : MntOk (texError s addr).mnt := by simp (maxDischargeDepth := 30) +contextual [bumpSat_frame .., raise_frame .., setComp_frame .., uncorr_frame .., texError, hOk]

@[simp] theorem deliver_fsOk (a : ItemSig) (s : State)
    (hOk : Memory.wf s.fs = true) : Memory.wf (deliver a s).fs = true := by simp (maxDischargeDepth := 30) +contextual [setComp_frame .., deliver, hOk]

@[simp] theorem deliver_sceneOk (a : ItemSig) (s : State)
    (hOk : Memory.wf s.scene = true) : Memory.wf (deliver a s).scene = true := by simp (maxDischargeDepth := 30) +contextual [setComp_frame .., deliver, hOk]

@[simp] theorem deliver_msgqOk (a : ItemSig) (s : State)
    (hOk : MsgqOk s.msgq) : MsgqOk (deliver a s).msgq := by simp (maxDischargeDepth := 30) +contextual [setComp_frame .., deliver, hOk]

@[simp] theorem deliver_mntOk (a : ItemSig) (s : State)
    (hOk : MntOk s.mnt) : MntOk (deliver a s).mnt := by simp (maxDischargeDepth := 30) +contextual [setComp_frame .., deliver, hOk]

@[simp] theorem replaceItem_fsOk (i : Nat) (s : State)
    (hOk : Memory.wf s.fs = true) : Memory.wf (replaceItem i s).fs = true := by simp (maxDischargeDepth := 30) +contextual [bumpSat_frame .., copyTargets_frame .., setComp_frame .., replaceItem, hOk]

@[simp] theorem replaceItem_sceneOk (i : Nat) (s : State)
    (hOk : Memory.wf s.scene = true) : Memory.wf (replaceItem i s).scene = true := by simp (maxDischargeDepth := 30) +contextual [bumpSat_frame .., copyTargets_frame .., setComp_frame .., replaceItem, hOk]

@[simp] theorem replaceItem_msgqOk (i : Nat) (s : State)
    (hOk : MsgqOk s.msgq) : MsgqOk (replaceItem i s).msgq := by simp (maxDischargeDepth := 30) +contextual [bumpSat_frame .., copyTargets_frame .., setComp_frame .., replaceItem, hOk]

@[simp] theorem replaceItem_mntOk (i : Nat) (s : State)
    (hOk : MntOk s.mnt) : MntOk (replaceItem i s).mnt := by simp (maxDischargeDepth := 30) +contextual [bumpSat_frame .., copyTargets_frame .., setComp_frame .., replaceItem, hOk]

@[simp] theorem replaceAll_fsOk (is : List Nat) (s : State)
    (hOk : Memory.wf s.fs = true) : Memory.wf (replaceAll is s).fs = true := by simp only [replaceAll]; (repeat' split) <;> first | with_reducible exact hOk | simp (maxDischargeDepth := 30) +contextual [raise_frame .., hOk]

@[simp] theorem replaceAll_sceneOk (is : List Nat) (s : State)
    (hOk : Memory.wf s.scene = true) : Memory.wf (replaceAll is s).scene = true := by simp only [replaceAll]; (repeat' split) <;> first | with_reducible exact hOk | simp (maxDischargeDepth := 30) +contextual [raise_frame .., hOk]

@[simp] theorem replaceAll_msgqOk (is : List Nat) (s : State)
    (hOk : MsgqOk s.msgq) : MsgqOk (replaceAll is s).msgq := by simp only [replaceAll]; (repeat' split) <;> first | with_reducible exact hOk | simp (maxDischargeDepth := 30) +contextual [hOk]

@[simp] theorem replaceAll_mntOk (is : List Nat) (s : State)
    (hOk : MntOk s.mnt) : MntOk (replaceAll is s).mnt := by simp only [replaceAll]; (repeat' split) <;> first | with_reducible exact hOk | simp (maxDischargeDepth := 30) +contextual [raise_frame .., hOk]

@[simp] theorem compareAudit_msgqOk (i : Nat) (s : State)
    (hOk : MsgqOk s.msgq) : MsgqOk (compareAudit i s).msgq := by simp only [compareAudit]; (repeat' split) <;> first | with_reducible exact hOk | simp (maxDischargeDepth := 30) +contextual [bumpSat_frame .., bumpWrap_frame .., setAudit_frame .., hOk]

@[simp] theorem decideAudit_fsOk (t : ItemSig) (s : State)
    (hOk : Memory.wf s.fs = true) : Memory.wf (decideAudit t s).fs = true := by simp only [decideAudit]; (repeat' split) <;> first | with_reducible exact hOk | simp (maxDischargeDepth := 30) +contextual [quarantineLoser_frame .., raise_frame .., redoOf_frame .., setAudit_frame .., hOk]

@[simp] theorem decideAudit_sceneOk (t : ItemSig) (s : State)
    (hOk : Memory.wf s.scene = true) : Memory.wf (decideAudit t s).scene = true := by simp only [decideAudit]; (repeat' split) <;> first | with_reducible exact hOk | simp (maxDischargeDepth := 30) +contextual [quarantineLoser_frame .., raise_frame .., redoOf_frame .., setAudit_frame .., hOk]

@[simp] theorem decideAudit_msgqOk (t : ItemSig) (s : State)
    (hOk : MsgqOk s.msgq) : MsgqOk (decideAudit t s).msgq := by simp only [decideAudit]; (repeat' split) <;> first | with_reducible exact hOk | simp (maxDischargeDepth := 30) +contextual [redoOf_frame .., setAudit_frame .., hOk]

@[simp] theorem decideAudit_mntOk (t : ItemSig) (s : State)
    (hOk : MntOk s.mnt) : MntOk (decideAudit t s).mnt := by simp only [decideAudit]; (repeat' split) <;> first | with_reducible exact hOk | simp (maxDischargeDepth := 30) +contextual [raise_frame .., redoOf_frame .., setAudit_frame .., hOk]

@[simp] theorem readEntries_msgqOk (t : Nat) (s : State)
    (hOk : MsgqOk s.msgq) : MsgqOk (readEntries t s).msgq := by simp (maxDischargeDepth := 30) +contextual [readEntries, hOk]

@[simp] theorem readEntries_lctcOk (t : Nat) (s : State)
    (hOk : LctqOk s.lctc) : LctqOk (readEntries t s).lctc := by simp (maxDischargeDepth := 30) +contextual [readEntries, hOk]

@[simp] theorem coarseDone_msgqOk (t : Nat) (s : State)
    (hOk : MsgqOk s.msgq) : MsgqOk (coarseDone t s).msgq := by simp (maxDischargeDepth := 30) +contextual [setComp_frame .., zoneAnalysis_frame .., coarseDone, hOk]

@[simp] theorem coarseDone_mntOk (t : Nat) (s : State)
    (hOk : MntOk s.mnt) : MntOk (coarseDone t s).mnt := by simp (maxDischargeDepth := 30) +contextual [setComp_frame .., zoneAnalysis_frame .., coarseDone, hOk]

@[simp] theorem workDone_fsOk (e : Nat) (w : Work) (upset : List (Nat × BitVec 18)) (s : State)
    (hOk : Memory.wf s.fs = true) : Memory.wf (workDone e w upset s).fs = true := by simp only [workDone]; (repeat' split) <;> first | with_reducible exact hOk | simp (maxDischargeDepth := 30) +contextual [bumpWrap_frame .., coarseDone_frame .., compareAudit_frame .., setComp_frame .., texError_frame .., hOk]

@[simp] theorem workDone_sceneOk (e : Nat) (w : Work) (upset : List (Nat × BitVec 18)) (s : State)
    (hOk : Memory.wf s.scene = true) : Memory.wf (workDone e w upset s).scene = true := by simp only [workDone]; (repeat' split) <;> first | with_reducible exact hOk | simp (maxDischargeDepth := 30) +contextual [bumpWrap_frame .., coarseDone_frame .., compareAudit_frame .., setComp_frame .., texError_frame .., hOk]

@[simp] theorem workDone_msgqOk (e : Nat) (w : Work) (upset : List (Nat × BitVec 18)) (s : State)
    (hOk : MsgqOk s.msgq) : MsgqOk (workDone e w upset s).msgq := by
  have hf : ∀ (l : List Nat) (q : State), MsgqOk q.msgq → MsgqOk (l.foldl texError q).msgq := fun l q h =>
    foldl_inv (fun q => MsgqOk q.msgq) texError (fun q x hq => texError_msgqOk q x hq) l q h
  cases w <;> simp (maxDischargeDepth := 30) [bumpWrap_frame .., setComp_frame .., workDone, hf, hOk]

@[simp] theorem workDone_mntOk (e : Nat) (w : Work) (upset : List (Nat × BitVec 18)) (s : State)
    (hOk : MntOk s.mnt) : MntOk (workDone e w upset s).mnt := by
  have hf : ∀ (l : List Nat) (q : State), MntOk q.mnt → MntOk (l.foldl texError q).mnt := fun l q h =>
    foldl_inv (fun q => MntOk q.mnt) texError (fun q x hq => texError_mntOk q x hq) l q h
  cases w <;> simp (maxDischargeDepth := 30) [bumpWrap_frame .., compareAudit_frame .., setComp_frame .., workDone, hf, hOk]

@[simp] theorem storeSignatures_msgqOk (s : State)
    (hOk : MsgqOk s.msgq) : MsgqOk (storeSignatures s).msgq := by simp (maxDischargeDepth := 30) +contextual [bumpSat_frame .., setReg_frame .., storeSignatures, hOk]

@[simp] theorem storeClips_msgqOk (s : State)
    (hOk : MsgqOk s.msgq) : MsgqOk (storeClips s).msgq := by simp (maxDischargeDepth := 30) +contextual [setRegN_frame .., storeClips, hOk]

@[simp] theorem finishFrame_msgqOk (s : State)
    (hOk : MsgqOk s.msgq) : MsgqOk (finishFrame s).msgq := by simp (maxDischargeDepth := 30) +contextual [setComp_frame .., setRegN_frame .., storeClips_frame .., storeFcrc_frame .., storeSignatures_frame .., verifyFrame_frame .., finishFrame, hOk]

@[simp] theorem sunsetComp_fsOk (s : State)
    (hOk : Memory.wf s.fs = true) : Memory.wf (sunsetComp s).fs = true := by simp (maxDischargeDepth := 30) +contextual [checkMirror_frame .., finishFrame_frame .., setComp_frame .., sunsetComp, hOk]

@[simp] theorem sunsetComp_sceneOk (s : State)
    (hOk : Memory.wf s.scene = true) : Memory.wf (sunsetComp s).scene = true := by simp (maxDischargeDepth := 30) +contextual [checkMirror_frame .., finishFrame_frame .., setComp_frame .., sunsetComp, hOk]

@[simp] theorem sunsetComp_msgqOk (s : State)
    (hOk : MsgqOk s.msgq) : MsgqOk (sunsetComp s).msgq := by simp (maxDischargeDepth := 30) +contextual [checkMirror_frame .., setComp_frame .., sunsetComp, hOk]

@[simp] theorem sunsetComp_mntOk (s : State)
    (hOk : MntOk s.mnt) : MntOk (sunsetComp s).mnt := by simp (maxDischargeDepth := 30) +contextual [checkMirror_frame .., finishFrame_frame .., setComp_frame .., sunsetComp, hOk]

@[simp] theorem effEctl_msgqOk (e cmd : Nat) (s : State)
    (hOk : MsgqOk s.msgq) : MsgqOk (effEctl e cmd s).msgq := by simp only [effEctl]; (repeat' split) <;> first | with_reducible exact hOk | simp (maxDischargeDepth := 30) +contextual [askRole_frame .., hOk]

@[simp] theorem effEctl_mntOk (e cmd : Nat) (s : State)
    (hOk : MntOk s.mnt) : MntOk (effEctl e cmd s).mnt := by simp only [effEctl]; (repeat' split) <;> first | with_reducible exact hOk | simp (maxDischargeDepth := 30) +contextual [askRole_frame .., hOk]

end Sys2Proof.Machine
end

