-- ==== Sys2Proof/Laws/InvMemory.lean ====
section
/-!
SUPPORT. The operations of Memory.lean keep the bounds of Inv.
-/
namespace Sys2Proof.Machine

@[simp] theorem urgentRefresh_msgqOk (u : DramUnit) (s : State)
    (hOk : MsgqOk s.msgq) : MsgqOk (urgentRefresh u s).msgq := by simp (maxDischargeDepth := 30) +contextual [bumpSat_frame .., refresh_frame .., setUnit_frame .., tickFree_frame .., urgentRefresh, hOk]

@[simp] theorem applyErrs_fsOk (sys : MemSys) (c : Nat) (w : List Nat) (s : State)
    (hOk : Memory.wf s.fs = true) : Memory.wf (applyErrs sys c w s).fs = true := by
  unfold applyErrs
  cases sys <;> simp [setCells, cells, hOk]

@[simp] theorem applyErrs_sceneOk (sys : MemSys) (c : Nat) (w : List Nat) (s : State)
    (hOk : Memory.wf s.scene = true) : Memory.wf (applyErrs sys c w s).scene = true := by
  unfold applyErrs
  cases sys <;> simp [setCells, cells, hOk]

@[simp] theorem spoil_fsOk (sys : MemSys) (c : Nat) (errs : SymErrs) (s : State)
    (hOk : Memory.wf s.fs = true) : Memory.wf (spoil sys c errs s).fs = true := by
  unfold spoil
  split
  · exact hOk
  · cases sys <;> simp [setUE_frame .., setCells, cells, hOk]

@[simp] theorem spoil_sceneOk (sys : MemSys) (c : Nat) (errs : SymErrs) (s : State)
    (hOk : Memory.wf s.scene = true) : Memory.wf (spoil sys c errs s).scene = true := by
  unfold spoil
  split
  · exact hOk
  · cases sys <;> simp [setUE_frame .., setCells, cells, hOk]

@[simp] theorem tallyRow_msgqOk (sys : MemSys) (off : Nat) (s : State)
    (hOk : MsgqOk s.msgq) : MsgqOk (tallyRow sys off s).msgq := by simp (maxDischargeDepth := 30) +contextual [setMem_frame .., tallyRow, hOk]

@[simp] theorem tallyRow_mntOk (sys : MemSys) (off : Nat) (s : State)
    (hOk : MntOk s.mnt) : MntOk (tallyRow sys off s).mnt := by simp (maxDischargeDepth := 30) +contextual [setMem_frame .., tallyRow, hOk]

@[simp] theorem countCorr_msgqOk (sys : MemSys) (off : Nat) (s : State)
    (hOk : MsgqOk s.msgq) : MsgqOk (countCorr sys off s).msgq := by simp only [countCorr]; (repeat' split) <;> first | with_reducible exact hOk | simp (maxDischargeDepth := 30) +contextual [bumpSat_frame .., hOk]

@[simp] theorem countCorr_mntOk (sys : MemSys) (off : Nat) (s : State)
    (hOk : MntOk s.mnt) : MntOk (countCorr sys off s).mnt := by simp only [countCorr]; (repeat' split) <;> first | with_reducible exact hOk | simp (maxDischargeDepth := 30) +contextual [bumpSat_frame .., hOk]

@[simp] theorem demandRead_fsOk (sys : MemSys) (c reader : Nat) (errs : SymErrs) (s : State)
    (hOk : Memory.wf s.fs = true) : Memory.wf (demandRead sys c reader errs s).fs = true := by simp only [demandRead]; (repeat' split) <;> first | with_reducible exact hOk | simp (maxDischargeDepth := 30) +contextual [countCorr_frame .., setMem_frame .., uncorr_frame .., hOk]

@[simp] theorem demandRead_sceneOk (sys : MemSys) (c reader : Nat) (errs : SymErrs) (s : State)
    (hOk : Memory.wf s.scene = true) : Memory.wf (demandRead sys c reader errs s).scene = true := by simp only [demandRead]; (repeat' split) <;> first | with_reducible exact hOk | simp (maxDischargeDepth := 30) +contextual [countCorr_frame .., setMem_frame .., uncorr_frame .., hOk]

@[simp] theorem demandRead_msgqOk (sys : MemSys) (c reader : Nat) (errs : SymErrs) (s : State)
    (hOk : MsgqOk s.msgq) : MsgqOk (demandRead sys c reader errs s).msgq := by simp only [demandRead]; (repeat' split) <;> first | with_reducible exact hOk | simp (maxDischargeDepth := 30) +contextual [setMem_frame .., spoil_frame .., hOk]

@[simp] theorem demandRead_mntOk (sys : MemSys) (c reader : Nat) (errs : SymErrs) (s : State)
    (hOk : MntOk s.mnt) : MntOk (demandRead sys c reader errs s).mnt := by simp only [demandRead]; (repeat' split) <;> first | with_reducible exact hOk | simp (maxDischargeDepth := 30) +contextual [setMem_frame .., spoil_frame .., hOk]

@[simp] theorem partialWrite_fsOk (sys : MemSys) (c : Nat) (errs : SymErrs) (s : State)
    (hOk : Memory.wf s.fs = true) : Memory.wf (partialWrite sys c errs s).fs = true := by simp (maxDischargeDepth := 30) +contextual [partialUE_frame .., partialWrite, hOk]

@[simp] theorem partialWrite_sceneOk (sys : MemSys) (c : Nat) (errs : SymErrs) (s : State)
    (hOk : Memory.wf s.scene = true) : Memory.wf (partialWrite sys c errs s).scene = true := by simp (maxDischargeDepth := 30) +contextual [partialUE_frame .., partialWrite, hOk]

@[simp] theorem partialWrite_msgqOk (sys : MemSys) (c : Nat) (errs : SymErrs) (s : State)
    (hOk : MsgqOk s.msgq) : MsgqOk (partialWrite sys c errs s).msgq := by simp (maxDischargeDepth := 30) +contextual [spoil_frame .., partialWrite, hOk]

@[simp] theorem partialWrite_mntOk (sys : MemSys) (c : Nat) (errs : SymErrs) (s : State)
    (hOk : MntOk s.mnt) : MntOk (partialWrite sys c errs s).mnt := by simp (maxDischargeDepth := 30) +contextual [spoil_frame .., partialWrite, hOk]

@[simp] theorem serveData_fsOk (sys : MemSys) (r : MemReq) (errs : SymErrs) (s : State)
    (hOk : Memory.wf s.fs = true) : Memory.wf (serveData sys r errs s).fs = true := by simp only [serveData]; (repeat' split) <;> first | with_reducible exact hOk | simp (maxDischargeDepth := 30) +contextual [hOk]

@[simp] theorem serveData_sceneOk (sys : MemSys) (r : MemReq) (errs : SymErrs) (s : State)
    (hOk : Memory.wf s.scene = true) : Memory.wf (serveData sys r errs s).scene = true := by simp only [serveData]; (repeat' split) <;> first | with_reducible exact hOk | simp (maxDischargeDepth := 30) +contextual [hOk]

@[simp] theorem serveData_msgqOk (sys : MemSys) (r : MemReq) (errs : SymErrs) (s : State)
    (hOk : MsgqOk s.msgq) : MsgqOk (serveData sys r errs s).msgq := by simp only [serveData]; (repeat' split) <;> first | with_reducible exact hOk | simp (maxDischargeDepth := 30) +contextual [hOk]

@[simp] theorem serveData_mntOk (sys : MemSys) (r : MemReq) (errs : SymErrs) (s : State)
    (hOk : MntOk s.mnt) : MntOk (serveData sys r errs s).mnt := by simp only [serveData]; (repeat' split) <;> first | with_reducible exact hOk | simp (maxDischargeDepth := 30) +contextual [hOk]

@[simp] theorem issueReq_fsOk (u : DramUnit) (w : Waiting) (errs : SymErrs) (s : State)
    (hOk : Memory.wf s.fs = true) : Memory.wf (issueReq u w errs s).fs = true := by simp (maxDischargeDepth := 30) +contextual [activate_frame .., openRow_frame .., putDram_frame .., setUnit_frame .., takeHeld_frame .., issueReq, hOk]

@[simp] theorem issueReq_sceneOk (u : DramUnit) (w : Waiting) (errs : SymErrs) (s : State)
    (hOk : Memory.wf s.scene = true) : Memory.wf (issueReq u w errs s).scene = true := by simp (maxDischargeDepth := 30) +contextual [activate_frame .., openRow_frame .., putDram_frame .., setUnit_frame .., takeHeld_frame .., issueReq, hOk]

@[simp] theorem issueReq_msgqOk (u : DramUnit) (w : Waiting) (errs : SymErrs) (s : State)
    (hOk : MsgqOk s.msgq) : MsgqOk (issueReq u w errs s).msgq := by simp (maxDischargeDepth := 30) +contextual [activate_frame .., openRow_frame .., putDram_frame .., setUnit_frame .., takeHeld_frame .., issueReq, hOk]

@[simp] theorem issueReq_mntOk (u : DramUnit) (w : Waiting) (errs : SymErrs) (s : State)
    (hOk : MntOk s.mnt) : MntOk (issueReq u w errs s).mnt := by simp (maxDischargeDepth := 30) +contextual [activate_frame .., openRow_frame .., putDram_frame .., setUnit_frame .., takeHeld_frame .., issueReq, hOk]

@[simp] theorem tempFrame_msgqOk (stack : Nat) (t : BitVec 16) (s : State)
    (hOk : MsgqOk s.msgq) : MsgqOk (tempFrame stack t s).msgq := by simp (maxDischargeDepth := 30) +contextual [putDram_frame .., setRegBit_frame .., setRegFld_frame .., tempFrame, hOk]

@[simp] theorem tempRank_msgqOk (ch k : Nat) (t : BitVec 16) (code : Byte) (s : State)
    (hOk : MsgqOk s.msgq) : MsgqOk (tempRank ch k t code s).msgq := by simp (maxDischargeDepth := 30) +contextual [putDram_frame .., setChHot_frame .., tempRank, hOk]

@[simp] theorem scrubPassEnd_msgqOk (sys : MemSys) (s : State)
    (hOk : MsgqOk s.msgq) : MsgqOk (scrubPassEnd sys s).msgq := by simp (maxDischargeDepth := 30) +contextual [bumpWrap_frame .., setMem_frame .., setRegBit_frame .., scrubPassEnd, hOk]

@[simp] theorem scrubCw_fsOk (sys : MemSys) (c : Nat) (errs : SymErrs) (writeArrived : Bool) (s : State)
    (hOk : Memory.wf s.fs = true) : Memory.wf (scrubCw sys c errs writeArrived s).fs = true := by simp only [scrubCw]; (repeat' split) <;> first | with_reducible exact hOk | simp (maxDischargeDepth := 30) +contextual [countCorr_frame .., setMem_frame .., uncorr_frame .., hOk]

@[simp] theorem scrubCw_sceneOk (sys : MemSys) (c : Nat) (errs : SymErrs) (writeArrived : Bool) (s : State)
    (hOk : Memory.wf s.scene = true) : Memory.wf (scrubCw sys c errs writeArrived s).scene = true := by simp only [scrubCw]; (repeat' split) <;> first | with_reducible exact hOk | simp (maxDischargeDepth := 30) +contextual [countCorr_frame .., setMem_frame .., uncorr_frame .., hOk]

@[simp] theorem scrubCw_msgqOk (sys : MemSys) (c : Nat) (errs : SymErrs) (writeArrived : Bool) (s : State)
    (hOk : MsgqOk s.msgq) : MsgqOk (scrubCw sys c errs writeArrived s).msgq := by simp only [scrubCw]; (repeat' split) <;> first | with_reducible exact hOk | simp (maxDischargeDepth := 30) +contextual [applyErrs_frame .., setMem_frame .., spoil_frame .., hOk]

@[simp] theorem scrubCw_mntOk (sys : MemSys) (c : Nat) (errs : SymErrs) (writeArrived : Bool) (s : State)
    (hOk : MntOk s.mnt) : MntOk (scrubCw sys c errs writeArrived s).mnt := by simp only [scrubCw]; (repeat' split) <;> first | with_reducible exact hOk | simp (maxDischargeDepth := 30) +contextual [applyErrs_frame .., setMem_frame .., spoil_frame .., hOk]

@[simp] theorem effPprCmd_msgqOk (sys : MemSys) (v : Word) (s : State)
    (hOk : MsgqOk s.msgq) : MsgqOk (effPprCmd sys v s).msgq := by simp (maxDischargeDepth := 30) +contextual [rplSet_frame .., effPprCmd, hOk]

@[simp] theorem effPprCmd_mntOk (sys : MemSys) (v : Word) (s : State)
    (hOk : MntOk s.mnt) : MntOk (effPprCmd sys v s).mnt := by simp (maxDischargeDepth := 30) +contextual [rplSet_frame .., effPprCmd, hOk]

@[simp] theorem pprCmd_msgqOk (m : Master) (sys : MemSys) (v : Word) (s : State)
    (hOk : MsgqOk s.msgq) : MsgqOk (pprCmd m sys v s).msgq := by simp (maxDischargeDepth := 30) +contextual [pprCmd, hOk]

@[simp] theorem pprCmd_mntOk (m : Master) (sys : MemSys) (v : Word) (s : State)
    (hOk : MntOk s.mnt) : MntOk (pprCmd m sys v s).mnt := by simp (maxDischargeDepth := 30) +contextual [pprCmd, hOk]

end Sys2Proof.Machine
end

