-- ==== Sys2Proof/Laws/InvThermal.lean ====
section
/-!
SUPPORT. The operations of Thermal.lean keep the bounds of Inv.
-/
set_option linter.unusedSimpArgs false
set_option linter.unusedVariables false
namespace Sys2Proof.Machine

@[simp] theorem zoneFault_msgqOk (z cause : Nat) (s : State)
    (hOk : MsgqOk s.msgq) : MsgqOk (zoneFault z cause s).msgq := by simp (maxDischargeDepth := 30) +contextual [setRegBit_frame .., zoneFault, hOk]

@[simp] theorem orderlyShutdown_msgqOk (cause : Nat) (s : State)
    (hOk : MsgqOk s.msgq) : MsgqOk (orderlyShutdown cause s).msgq := by simp (maxDischargeDepth := 30) +contextual [askDark_frame .., cancelCommit_frame .., setRegFld_frame .., stopComposer_frame .., orderlyShutdown, hOk]

@[simp] theorem loseMidnight_fsOk (s : State)
    (hOk : Memory.wf s.fs = true) : Memory.wf (loseMidnight s).fs = true := by simp (maxDischargeDepth := 30) +contextual [loseMidnight, hOk]

@[simp] theorem loseMidnight_sceneOk (s : State)
    (hOk : Memory.wf s.scene = true) : Memory.wf (loseMidnight s).scene = true := by simp (maxDischargeDepth := 30) +contextual [loseMidnight, hOk]

@[simp] theorem loseMidnight_lctcOk (s : State)
    (hOk : LctqOk s.lctc) : LctqOk (loseMidnight s).lctc := by simp (maxDischargeDepth := 30) +contextual [loseMidnight, hOk]

@[simp] theorem enterMidnight_fsOk (byShutdown : Bool) (s : State)
    (hOk : Memory.wf s.fs = true) : Memory.wf (enterMidnight byShutdown s).fs = true := by simp (maxDischargeDepth := 30) +contextual [ozFinish_frame .., raise_frame .., setRegBit_frame .., enterMidnight, hOk]

@[simp] theorem enterMidnight_sceneOk (byShutdown : Bool) (s : State)
    (hOk : Memory.wf s.scene = true) : Memory.wf (enterMidnight byShutdown s).scene = true := by simp (maxDischargeDepth := 30) +contextual [ozFinish_frame .., raise_frame .., setRegBit_frame .., enterMidnight, hOk]

@[simp] theorem enterMidnight_msgqOk (byShutdown : Bool) (s : State)
    (hOk : MsgqOk s.msgq) : MsgqOk (enterMidnight byShutdown s).msgq := by simp (maxDischargeDepth := 30) +contextual [loseMidnight_frame .., ozFinish_frame .., setRegBit_frame .., enterMidnight, hOk]

@[simp] theorem enterMidnight_mntOk (byShutdown : Bool) (s : State)
    (hOk : MntOk s.mnt) : MntOk (enterMidnight byShutdown s).mnt := by simp (maxDischargeDepth := 30) +contextual [loseMidnight_frame .., ozFinish_frame .., raise_frame .., setRegBit_frame .., enterMidnight, hOk]

@[simp] theorem enterMidnight_lctcOk (byShutdown : Bool) (s : State)
    (hOk : LctqOk s.lctc) : LctqOk (enterMidnight byShutdown s).lctc := by simp (maxDischargeDepth := 30) +contextual [ozFinish_frame .., raise_frame .., setRegBit_frame .., enterMidnight, hOk]

@[simp] theorem shutdownRecords_fsOk (s : State)
    (hOk : Memory.wf s.fs = true) : Memory.wf (shutdownRecords s).fs = true := by simp (maxDischargeDepth := 30) +contextual [counterAdd_frame .., ozFlush_frame .., ozLog_frame .., setRegBit_frame .., setRegFld_frame .., writeLives_frame .., shutdownRecords, hOk]

@[simp] theorem shutdownRecords_sceneOk (s : State)
    (hOk : Memory.wf s.scene = true) : Memory.wf (shutdownRecords s).scene = true := by simp (maxDischargeDepth := 30) +contextual [counterAdd_frame .., ozFlush_frame .., ozLog_frame .., setRegBit_frame .., setRegFld_frame .., writeLives_frame .., shutdownRecords, hOk]

@[simp] theorem shutdownRecords_msgqOk (s : State)
    (hOk : MsgqOk s.msgq) : MsgqOk (shutdownRecords s).msgq := by simp (maxDischargeDepth := 30) +contextual [counterAdd_frame .., ozFlush_frame .., ozLog_frame .., setRegBit_frame .., setRegFld_frame .., writeLives_frame .., shutdownRecords, hOk]

@[simp] theorem shutdownRecords_mntOk (s : State)
    (hOk : MntOk s.mnt) : MntOk (shutdownRecords s).mnt := by simp (maxDischargeDepth := 30) +contextual [counterAdd_frame .., ozFlush_frame .., ozLog_frame .., setRegBit_frame .., setRegFld_frame .., writeLives_frame .., shutdownRecords, hOk]

@[simp] theorem shutdownRecords_lctcOk (s : State)
    (hOk : LctqOk s.lctc) : LctqOk (shutdownRecords s).lctc := by simp (maxDischargeDepth := 30) +contextual [counterAdd_frame .., ozFlush_frame .., ozLog_frame .., setRegBit_frame .., setRegFld_frame .., writeLives_frame .., shutdownRecords, hOk]

@[simp] theorem effThmCmd_msgqOk (v : Word) (s : State)
    (hOk : MsgqOk s.msgq) : MsgqOk (effThmCmd v s).msgq := by simp (maxDischargeDepth := 30) +contextual [effThmCmd, hOk]

@[simp] theorem setThrot_msgqOk (on : Bool) (s : State)
    (hOk : MsgqOk s.msgq) : MsgqOk (setThrot on s).msgq := by simp (maxDischargeDepth := 30) +contextual [setRegBit_frame .., setThrot, hOk]

@[simp] theorem setWarn_msgqOk (on : Bool) (s : State)
    (hOk : MsgqOk s.msgq) : MsgqOk (setWarn on s).msgq := by simp (maxDischargeDepth := 30) +contextual [setRegBit_frame .., setWarn, hOk]

@[simp] theorem thresholdStep_msgqOk (i : Nat) (s : State)
    (hOk : MsgqOk s.msgq) : MsgqOk (thresholdStep i s).msgq := by simp only [thresholdStep]; (repeat' split) <;> first | with_reducible exact hOk | simp (maxDischargeDepth := 30) +contextual [setThm_frame .., hOk]

@[simp] theorem rangeStep_msgqOk (s : State)
    (hOk : MsgqOk s.msgq) : MsgqOk (rangeStep s).msgq := by simp (maxDischargeDepth := 30) +contextual [setThm_frame .., rangeStep, hOk]

@[simp] theorem refStep_msgqOk (dev : Nat) (s : State)
    (hOk : MsgqOk s.msgq) : MsgqOk (refStep dev s).msgq := by simp (maxDischargeDepth := 30) +contextual [setThm_frame .., refStep, hOk]

@[simp] theorem calAsk_msgqOk (d : Nat) (host : Bool) (s : State) (u : Nat)
    (hOk : MsgqOk s.msgq) : MsgqOk (calAsk d host s u).msgq := by simp (maxDischargeDepth := 30) +contextual [setThm_frame .., calAsk, hOk]

@[simp] theorem calAsk_mntOk (d : Nat) (host : Bool) (s : State) (u : Nat)
    (hOk : MntOk s.mnt) : MntOk (calAsk d host s u).mnt := by simp (maxDischargeDepth := 30) +contextual [setThm_frame .., calAsk, hOk]

@[simp] theorem calPush_msgqOk (d : Nat) (host : Bool) (s : State)
    (hOk : MsgqOk s.msgq) : MsgqOk (calPush d host s).msgq := by simp only [calPush]; (repeat' split) <;> first | with_reducible exact hOk | simp (maxDischargeDepth := 30) +contextual [mntPush_frame .., setThm_frame .., hOk]

@[simp] theorem calPush_mntOk (d : Nat) (host : Bool) (s : State)
    (hOk : MntOk s.mnt) : MntOk (calPush d host s).mnt := by simp only [calPush]; (repeat' split) <;> first | with_reducible exact hOk | simp (maxDischargeDepth := 30) +contextual [mntPush_frame .., setThm_frame .., hOk]

@[simp] theorem calRequest_msgqOk (d : Nat) (host : Bool) (s : State)
    (hOk : MsgqOk s.msgq) : MsgqOk (calRequest d host s).msgq := by simp (maxDischargeDepth := 30) +contextual [setThm_frame .., calRequest, hOk]

@[simp] theorem calRequest_mntOk (d : Nat) (host : Bool) (s : State)
    (hOk : MntOk s.mnt) : MntOk (calRequest d host s).mnt := by simp (maxDischargeDepth := 30) +contextual [setThm_frame .., calRequest, hOk]

@[simp] theorem calTrigger_msgqOk (s : State)
    (hOk : MsgqOk s.msgq) : MsgqOk (calTrigger s).msgq := by simp (maxDischargeDepth := 30) +contextual [calTrigger, hOk]

@[simp] theorem calTrigger_mntOk (s : State)
    (hOk : MntOk s.mnt) : MntOk (calTrigger s).mnt := by simp (maxDischargeDepth := 30) +contextual [calTrigger, hOk]

@[simp] theorem calRecord_msgqOk (d u : Nat) (ok : Bool) (s : State)
    (hOk : MsgqOk s.msgq) : MsgqOk (calRecord d u ok s).msgq := by simp only [calRecord]; (repeat' split) <;> first | with_reducible exact hOk | simp (maxDischargeDepth := 30) +contextual [bumpSat_frame .., bumpWrap_frame .., dropRun_frame .., setThm_frame .., storeTref_frame .., hOk]

@[simp] theorem calAdvance_msgqOk (d u : Nat) (s : State)
    (hOk : MsgqOk s.msgq) : MsgqOk (calAdvance d u s).msgq := by simp (maxDischargeDepth := 30) +contextual [setThm_frame .., calAdvance, hOk]

@[simp] theorem calAdvance_mntOk (d u : Nat) (s : State)
    (hOk : MntOk s.mnt) : MntOk (calAdvance d u s).mnt := by simp (maxDischargeDepth := 30) +contextual [raise_frame .., setThm_frame .., calAdvance, hOk]

@[simp] theorem effCalReq_msgqOk (v : Word) (s : State)
    (hOk : MsgqOk s.msgq) : MsgqOk (effCalReq v s).msgq := by simp (maxDischargeDepth := 30) +contextual [requestTrims_frame .., effCalReq, hOk]

@[simp] theorem effCalReq_mntOk (v : Word) (s : State)
    (hOk : MntOk s.mnt) : MntOk (effCalReq v s).mnt := by simp (maxDischargeDepth := 30) +contextual [requestTrims_frame .., effCalReq, hOk]

@[simp] theorem takeSample_msgqOk (codes : Vector (BitVec 12) 12) (z : Fin 12) (s : State)
    (hOk : MsgqOk s.msgq) : MsgqOk (takeSample codes z s).msgq := by simp (maxDischargeDepth := 30) +contextual [setThm_frame .., takeSample, hOk]

@[simp] theorem faultyShutdown_msgqOk (s : State)
    (hOk : MsgqOk s.msgq) : MsgqOk (faultyShutdown s).msgq := by simp (maxDischargeDepth := 30) +contextual [faultyShutdown, hOk]

@[simp] theorem compareTemps_msgqOk (s : State)
    (hOk : MsgqOk s.msgq) : MsgqOk (compareTemps s).msgq := by simp (maxDischargeDepth := 30) +contextual [bringUp_frame .., storeTemps_frame .., compareTemps, hOk]

@[simp] theorem compareTemps_mntOk (s : State)
    (hOk : MntOk s.mnt) : MntOk (compareTemps s).mnt := by simp (maxDischargeDepth := 30) +contextual [bringUp_frame .., rangeStep_frame .., storeTemps_frame .., thresholdStep_frame .., compareTemps, hOk]

@[simp] theorem thermalSample_msgqOk (codes : Vector (BitVec 12) 12) (dev : Nat) (s : State)
    (hOk : MsgqOk s.msgq) : MsgqOk (thermalSample codes dev s).msgq := by simp only [thermalSample]; (repeat' split) <;> first | with_reducible exact hOk | simp (maxDischargeDepth := 30) +contextual [bandFilter_frame .., hardwareTrip_frame .., setThm_frame .., hOk]

@[simp] theorem thermalSample_mntOk (codes : Vector (BitVec 12) 12) (dev : Nat) (s : State)
    (hOk : MntOk s.mnt) : MntOk (thermalSample codes dev s).mnt := by simp only [thermalSample]; (repeat' split) <;> first | with_reducible exact hOk | simp (maxDischargeDepth := 30) +contextual [bandFilter_frame .., faultyShutdown_frame .., hardwareTrip_frame .., refStep_frame .., setThm_frame .., takeSample_frame .., hOk]

@[simp] theorem crossCheck_msgqOk (s : State)
    (hOk : MsgqOk s.msgq) : MsgqOk (crossCheck s).msgq := by simp only [crossCheck]; (repeat' split) <;> first | with_reducible exact hOk | simp (maxDischargeDepth := 30) +contextual [setThm_frame .., hOk]

@[simp] theorem effZcmd_msgqOk (v : Word) (s : State)
    (hOk : MsgqOk s.msgq) : MsgqOk (effZcmd v s).msgq := by simp (maxDischargeDepth := 30) +contextual [setRegBit_frame .., setThm_frame .., effZcmd, hOk]

end Sys2Proof.Machine
end

