-- ==== Sys2Proof/Laws/InvMaint.lean ====
section
/-!
SUPPORT. The operations of Maint.lean keep the bounds of Inv.
-/
namespace Sys2Proof.Machine

@[simp] theorem setMnt_mntOk (m : Mnt) (s : State) (hm : MntOk m) : MntOk (setMnt m s).mnt := hm

@[simp] theorem markRunning_mntOk (q : MntReq) (s : State)
    (hOk : MntOk s.mnt) : MntOk (markRunning q s).mnt := by
  unfold markRunning; dsimp only
  repeat' first | with_reducible exact hOk | (simp (maxDischargeDepth := 30) +contextual [hOk]; done) | split | apply setMnt_mntOk

@[simp] theorem startActivity_msgqOk (q : MntReq) (s : State)
    (hOk : MsgqOk s.msgq) : MsgqOk (startActivity q s).msgq := by simp only [startActivity]; (repeat' split) <;> first | with_reducible exact hOk | simp (maxDischargeDepth := 30) +contextual [beginCal_frame .., lend_frame .., markRunning_frame .., startEffect_frame .., hOk]

@[simp] theorem startActivity_mntOk (q : MntReq) (s : State)
    (hOk : MntOk s.mnt) : MntOk (startActivity q s).mnt := by simp only [startActivity]; (repeat' split) <;> first | with_reducible exact hOk | simp (maxDischargeDepth := 30) +contextual [beginCal_frame .., lend_frame .., startEffect_frame .., hOk]

@[simp] theorem endCal_msgqOk (act unit : Nat) (pass : Bool) (s : State)
    (hOk : MsgqOk s.msgq) : MsgqOk (endCal act unit pass s).msgq := by simp (maxDischargeDepth := 30) +contextual [giveBack_frame .., endCal, hOk]

@[simp] theorem endCal_mntOk (act unit : Nat) (pass : Bool) (s : State)
    (hOk : MntOk s.mnt) : MntOk (endCal act unit pass s).mnt := by simp (maxDischargeDepth := 30) +contextual [calRecord_frame .., giveBack_frame .., endCal, hOk]

@[simp] theorem repairDone_msgqOk (sys : MemSys) (unit : Nat) (s : State)
    (hOk : MsgqOk s.msgq) : MsgqOk (repairDone sys unit s).msgq := by simp (maxDischargeDepth := 30) +contextual [logRepair_frame .., ozRecord_frame .., rplSet_frame .., repairDone, hOk]

@[simp] theorem repairFailed_msgqOk (sys : MemSys) (unit : Nat) (s : State)
    (hOk : MsgqOk s.msgq) : MsgqOk (repairFailed sys unit s).msgq := by simp (maxDischargeDepth := 30) +contextual [logRepair_frame .., rplSet_frame .., repairFailed, hOk]

@[simp] theorem endRepair_msgqOk (sys : MemSys) (act unit : Nat) (pass : Bool) (s : State)
    (hOk : MsgqOk s.msgq) : MsgqOk (endRepair sys act unit pass s).msgq := by simp only [endRepair]; (repeat' split) <;> first | with_reducible exact hOk | simp (maxDischargeDepth := 30) +contextual [putDram_frame .., hOk]

@[simp] theorem endRepair_mntOk (sys : MemSys) (act unit : Nat) (pass : Bool) (s : State)
    (hOk : MntOk s.mnt) : MntOk (endRepair sys act unit pass s).mnt := by simp only [endRepair]; (repeat' split) <;> first | with_reducible exact hOk | simp (maxDischargeDepth := 30) +contextual [putDram_frame .., repairDone_frame .., repairFailed_frame .., hOk]

@[simp] theorem endDver_msgqOk (e : Nat) (pass : Bool) (s : State)
    (hOk : MsgqOk s.msgq) : MsgqOk (endDver e pass s).msgq := by simp (maxDischargeDepth := 30) +contextual [setDeRole_frame .., endDver, hOk]

@[simp] theorem endDver_mntOk (e : Nat) (pass : Bool) (s : State)
    (hOk : MntOk s.mnt) : MntOk (endDver e pass s).mnt := by simp (maxDischargeDepth := 30) +contextual [setDeRole_frame .., endDver, hOk]

@[simp] theorem endHver_msgqOk (unit : Nat) (pass : Bool) (s : State)
    (hOk : MsgqOk s.msgq) : MsgqOk (endHver unit pass s).msgq := by simp (maxDischargeDepth := 30) +contextual [bumpWrap_frame .., verifyDone_frame .., endHver, hOk]

@[simp] theorem endActivity_msgqOk (act unit : Nat) (pass : Bool) (s : State)
    (hOk : MsgqOk s.msgq) : MsgqOk (endActivity act unit pass s).msgq := by simp (maxDischargeDepth := 30) +contextual [verifyDone_frame .., endActivity, hOk]

@[simp] theorem endActivity_mntOk (act unit : Nat) (pass : Bool) (s : State)
    (hOk : MntOk s.mnt) : MntOk (endActivity act unit pass s).mnt := by simp (maxDischargeDepth := 30) +contextual [verifyDone_frame .., endActivity, hOk]

@[simp] theorem leaveService_msgqOk (e role : Nat) (s : State)
    (hOk : MsgqOk s.msgq) : MsgqOk (leaveService e role s).msgq := by simp (maxDischargeDepth := 30) +contextual [setDeRole_frame .., leaveService, hOk]

@[simp] theorem dropDver_mntOk (e : Nat) (s : State)
    (hOk : MntOk s.mnt) : MntOk (dropDver e s).mnt := by
  unfold dropDver; dsimp only
  repeat' first | with_reducible exact hOk | (simp (maxDischargeDepth := 30) +contextual [hOk]; done) | split | apply setMnt_mntOk

@[simp] theorem effDecmd_msgqOk (v : Word) (s : State)
    (hOk : MsgqOk s.msgq) : MsgqOk (effDecmd v s).msgq := by simp only [effDecmd]; (repeat' split) <;> first | with_reducible exact hOk | simp (maxDischargeDepth := 30) +contextual [dropDver_frame .., setDeRole_frame .., hOk]

@[simp] theorem effDecmd_mntOk (v : Word) (s : State)
    (hOk : MntOk s.mnt) : MntOk (effDecmd v s).mnt := by simp only [effDecmd]; (repeat' split) <;> first | with_reducible exact hOk | simp (maxDischargeDepth := 30) +contextual [leaveService_frame .., setDeRole_frame .., hOk]

end Sys2Proof.Machine
end

