-- ==== Sys2Proof/Laws/InvMirror.lean ====
section
/-!
SUPPORT. The operations of Mirror.lean keep the bounds of Inv.
-/
namespace Sys2Proof.Machine

@[simp] theorem lineRead_msgqOk (f : MirFrame) (s : State)
    (hOk : MsgqOk s.msgq) : MsgqOk (lineRead f s).msgq := by simp (maxDischargeDepth := 30) +contextual [lineRead, hOk]

@[simp] theorem lineRead_mntOk (f : MirFrame) (s : State)
    (hOk : MntOk s.mnt) : MntOk (lineRead f s).mnt := by simp (maxDischargeDepth := 30) +contextual [lineRead, hOk]

@[simp] theorem mirPush_msgqOk (f : MirFrame) (s : State)
    (hOk : MsgqOk s.msgq) : MsgqOk (mirPush f s).msgq := by simp (maxDischargeDepth := 30) +contextual [pushOut_frame .., setMir_frame .., mirPush, hOk]

@[simp] theorem mirPush_mntOk (f : MirFrame) (s : State)
    (hOk : MntOk s.mnt) : MntOk (mirPush f s).mnt := by simp (maxDischargeDepth := 30) +contextual [pushOut_frame .., putMsgq_frame .., setMir_frame .., mirPush, hOk]

@[simp] theorem sendMir_msgqOk (f : MirFrame) (s : State)
    (hOk : MsgqOk s.msgq) : MsgqOk (sendMir f s).msgq := by simp (maxDischargeDepth := 30) +contextual [mirSent_frame .., sendVc2_frame .., sendMir, hOk]

@[simp] theorem sendMir_mntOk (f : MirFrame) (s : State)
    (hOk : MntOk s.mnt) : MntOk (sendMir f s).mnt := by simp (maxDischargeDepth := 30) +contextual [mirSent_frame .., sendVc2_frame .., sendMir, hOk]

end Sys2Proof.Machine
end

