-- ==== Sys2Proof/Laws/InvTime.lean ====
section
/-!
SUPPORT. The operations of Time.lean keep the bounds of Inv.
-/
set_option linter.unusedSimpArgs false
set_option linter.unusedTactic false
namespace Sys2Proof.Machine

@[simp] theorem setTbState_msgqOk (k : Nat) (x : TbState) (s : State)
    (hOk : MsgqOk s.msgq) : MsgqOk (setTbState k x s).msgq := by simp (maxDischargeDepth := 30) +contextual [putTb_frame .., setTbState, hOk]

@[simp] theorem toHoldover_msgqOk (k : Nat) (s : State)
    (hOk : MsgqOk s.msgq) : MsgqOk (toHoldover k s).msgq := by simp (maxDischargeDepth := 30) +contextual [putTb_frame .., toHoldover, hOk]

@[simp] theorem toFree_msgqOk (k : Nat) (s : State)
    (hOk : MsgqOk s.msgq) : MsgqOk (toFree k s).msgq := by simp (maxDischargeDepth := 30) +contextual [putTb_frame .., toFree, hOk]

@[simp] theorem changePrimary_msgqOk (k : Nat) (s : State)
    (hOk : MsgqOk s.msgq) : MsgqOk (changePrimary k s).msgq := by simp only [changePrimary]; (repeat' split) <;> first | with_reducible exact hOk | simp (maxDischargeDepth := 30) +contextual [putTb_frame .., startTracker_frame .., hOk]

@[simp] theorem stepTb_msgqOk (k cause : Nat) (v : Nat) (d : Int) (s : State)
    (hOk : MsgqOk s.msgq) : MsgqOk (stepTb k cause v d s).msgq := by simp (maxDischargeDepth := 30) +contextual [putTb_frame .., stepTb, hOk]

@[simp] theorem noteBig_msgqOk (k : Nat) (o : Int) (s : State)
    (hOk : MsgqOk s.msgq) : MsgqOk (noteBig k o s).msgq := by simp (maxDischargeDepth := 30) +contextual [putTb_frame .., noteBig, hOk]

@[simp] theorem countLock_msgqOk (k : Nat) (o : Int) (s : State)
    (hOk : MsgqOk s.msgq) : MsgqOk (countLock k o s).msgq := by simp (maxDischargeDepth := 30) +contextual [putTb_frame .., countLock, hOk]

@[simp] theorem servo_msgqOk (k : Nat) (o : Int) (s : State)
    (hOk : MsgqOk s.msgq) : MsgqOk (servo k o s).msgq := by simp (maxDischargeDepth := 30) +contextual [putTb_frame .., setOfs_frame .., servo, hOk]

@[simp] theorem measure_msgqOk (x : Nat) (o : Int) (s : State)
    (hOk : MsgqOk s.msgq) : MsgqOk (measure x o s).msgq := by simp only [measure]; (repeat' split) <;> first | with_reducible exact hOk | simp (maxDischargeDepth := 30) +contextual [shadowUpdate_frame .., hOk]

@[simp] theorem swapRoles_msgqOk (k : Nat) (s : State)
    (hOk : MsgqOk s.msgq) : MsgqOk (swapRoles k s).msgq := by simp (maxDischargeDepth := 30) +contextual [putTb_frame .., swapRoles, hOk]

@[simp] theorem loseSource_msgqOk (x : Nat) (s : State)
    (hOk : MsgqOk s.msgq) : MsgqOk (loseSource x s).msgq := by simp only [loseSource]; (repeat' split) <;> first | with_reducible exact hOk | simp (maxDischargeDepth := 30) +contextual [putTb_frame .., rechoose_frame .., hOk]

@[simp] theorem setPps_msgqOk (i : Nat) (p : Bool) (s : State)
    (hOk : MsgqOk s.msgq) : MsgqOk (setPps i p s).msgq := by simp (maxDischargeDepth := 30) +contextual [setPps, hOk]

@[simp] theorem onPort_fsOk (p : Nat) (h : PtpHdr) (f : State → State) (s : State) (hf : ∀ x0, Memory.wf x0.fs = true → Memory.wf (f x0).fs = true)
    (hOk : Memory.wf s.fs = true) : Memory.wf (onPort p h f s).fs = true := by simp (maxDischargeDepth := 30) +contextual [bumpSat_frame .., gotPtp_frame .., onPort, hOk, hf]

@[simp] theorem onPort_sceneOk (p : Nat) (h : PtpHdr) (f : State → State) (s : State) (hf : ∀ x0, Memory.wf x0.scene = true → Memory.wf (f x0).scene = true)
    (hOk : Memory.wf s.scene = true) : Memory.wf (onPort p h f s).scene = true := by simp (maxDischargeDepth := 30) +contextual [bumpSat_frame .., gotPtp_frame .., onPort, hOk, hf]

@[simp] theorem onPort_msgqOk (p : Nat) (h : PtpHdr) (f : State → State) (s : State) (hf : ∀ x0, MsgqOk x0.msgq → MsgqOk (f x0).msgq)
    (hOk : MsgqOk s.msgq) : MsgqOk (onPort p h f s).msgq := by simp (maxDischargeDepth := 30) +contextual [bumpSat_frame .., gotPtp_frame .., onPort, hOk, hf]

@[simp] theorem onPort_mntOk (p : Nat) (h : PtpHdr) (f : State → State) (s : State) (hf : ∀ x0, MntOk x0.mnt → MntOk (f x0).mnt)
    (hOk : MntOk s.mnt) : MntOk (onPort p h f s).mnt := by simp (maxDischargeDepth := 30) +contextual [bumpSat_frame .., gotPtp_frame .., onPort, hOk, hf]

@[simp] theorem onPort_lctcOk (p : Nat) (h : PtpHdr) (f : State → State) (s : State) (hf : ∀ x0, LctqOk x0.lctc → LctqOk (f x0).lctc)
    (hOk : LctqOk s.lctc) : LctqOk (onPort p h f s).lctc := by simp (maxDischargeDepth := 30) +contextual [bumpSat_frame .., gotPtp_frame .., onPort, hOk, hf]

@[simp] theorem onPort_wcapLevelOk (p : Nat) (h : PtpHdr) (f : State → State) (s : State) (hf : ∀ x0, WcapOk x0.wcapLevel → WcapOk (f x0).wcapLevel)
    (hOk : WcapOk s.wcapLevel) : WcapOk (onPort p h f s).wcapLevel := by simp (maxDischargeDepth := 30) +contextual [bumpSat_frame .., gotPtp_frame .., onPort, hOk, hf]

@[simp] theorem syncDone_msgqOk (x p : Nat) (t1 t2 : Int) (s : State)
    (hOk : MsgqOk s.msgq) : MsgqOk (syncDone x p t1 t2 s).msgq := by simp only [syncDone]; (repeat' split) <;> first | with_reducible exact hOk | simp (maxDischargeDepth := 30) +contextual [putTrk_frame .., hOk]

@[simp] theorem syncTrk_msgqOk (x p : Nat) (h : PtpHdr) (origin : Int) (twoStep : Bool) (s : State)
    (hOk : MsgqOk s.msgq) : MsgqOk (syncTrk x p h origin twoStep s).msgq := by simp only [syncTrk]; (repeat' split) <;> first | with_reducible exact hOk | simp (maxDischargeDepth := 30) +contextual [putTrk_frame .., hOk]

@[simp] theorem followTrk_msgqOk (x p : Nat) (h : PtpHdr) (origin : Int) (s : State)
    (hOk : MsgqOk s.msgq) : MsgqOk (followTrk x p h origin s).msgq := by simp only [followTrk]; (repeat' split) <;> first | with_reducible exact hOk | simp (maxDischargeDepth := 30) +contextual [hOk]

@[simp] theorem eachTracker_fsOk (f : Nat → State → State) (s : State) (hf : ∀ x0 x1, Memory.wf x1.fs = true → Memory.wf (f x0 x1).fs = true)
    (hOk : Memory.wf s.fs = true) : Memory.wf (eachTracker f s).fs = true := by simp (maxDischargeDepth := 30) +contextual [eachTracker, hOk, hf]

@[simp] theorem eachTracker_sceneOk (f : Nat → State → State) (s : State) (hf : ∀ x0 x1, Memory.wf x1.scene = true → Memory.wf (f x0 x1).scene = true)
    (hOk : Memory.wf s.scene = true) : Memory.wf (eachTracker f s).scene = true := by simp (maxDischargeDepth := 30) +contextual [eachTracker, hOk, hf]

@[simp] theorem eachTracker_msgqOk (f : Nat → State → State) (s : State) (hf : ∀ x0 x1, MsgqOk x1.msgq → MsgqOk (f x0 x1).msgq)
    (hOk : MsgqOk s.msgq) : MsgqOk (eachTracker f s).msgq := by simp (maxDischargeDepth := 30) +contextual [eachTracker, hOk, hf]

@[simp] theorem eachTracker_mntOk (f : Nat → State → State) (s : State) (hf : ∀ x0 x1, MntOk x1.mnt → MntOk (f x0 x1).mnt)
    (hOk : MntOk s.mnt) : MntOk (eachTracker f s).mnt := by simp (maxDischargeDepth := 30) +contextual [eachTracker, hOk, hf]

@[simp] theorem eachTracker_lctcOk (f : Nat → State → State) (s : State) (hf : ∀ x0 x1, LctqOk x1.lctc → LctqOk (f x0 x1).lctc)
    (hOk : LctqOk s.lctc) : LctqOk (eachTracker f s).lctc := by simp (maxDischargeDepth := 30) +contextual [eachTracker, hOk, hf]

@[simp] theorem eachTracker_wcapLevelOk (f : Nat → State → State) (s : State) (hf : ∀ x0 x1, WcapOk x1.wcapLevel → WcapOk (f x0 x1).wcapLevel)
    (hOk : WcapOk s.wcapLevel) : WcapOk (eachTracker f s).wcapLevel := by simp (maxDischargeDepth := 30) +contextual [eachTracker, hOk, hf]

@[simp] theorem queueTx_msgqOk (p : Nat) (e : TxTs) (s : State)
    (hOk : MsgqOk s.msgq) : MsgqOk (queueTx p e s).msgq := by simp (maxDischargeDepth := 30) +contextual [putEth_frame .., queueTx, hOk]

@[simp] theorem sendEvent_msgqOk (p k typ : Nat) (domain : BitVec 8) (seq : BitVec 16) (corr stamp : Int) (s : State)
    (hOk : MsgqOk s.msgq) : MsgqOk (sendEvent p k typ domain seq corr stamp s).msgq := by simp (maxDischargeDepth := 30) +contextual [sendPtp_frame .., sendEvent, hOk]

@[simp] theorem answerPdelay_msgqOk (p : Nat) (h : PtpHdr) (s : State)
    (hOk : MsgqOk s.msgq) : MsgqOk (answerPdelay p h s).msgq := by simp (maxDischargeDepth := 30) +contextual [sendPtp_frame .., answerPdelay, hOk]

@[simp] theorem effTbCmd_msgqOk (k cmd : Nat) (s : State)
    (hOk : MsgqOk s.msgq) : MsgqOk (effTbCmd k cmd s).msgq := by simp (maxDischargeDepth := 30) +contextual [putTb_frame .., effTbCmd, hOk]

@[simp] theorem tbCmd_msgqOk (m : Master) (k : Nat) (cmd : Nat) (s : State)
    (hOk : MsgqOk s.msgq) : MsgqOk (tbCmd m k cmd s).msgq := by simp (maxDischargeDepth := 30) +contextual [tbCmd, hOk]

@[simp] theorem effTbPri_msgqOk (k : Nat) (v : Word) (s : State)
    (hOk : MsgqOk s.msgq) : MsgqOk (effTbPri k v s).msgq := by simp (maxDischargeDepth := 30) +contextual [setReg_frame .., effTbPri, hOk]

@[simp] theorem effTbPid_msgqOk (k w : Nat) (v : Word) (s : State)
    (hOk : MsgqOk s.msgq) : MsgqOk (effTbPid k w v s).msgq := by simp (maxDischargeDepth := 30) +contextual [setReg_frame .., effTbPid, hOk]

@[simp] theorem effTbCtl_msgqOk (k : Nat) (v : Word) (s : State)
    (hOk : MsgqOk s.msgq) : MsgqOk (effTbCtl k v s).msgq := by simp (maxDischargeDepth := 30) +contextual [assignShadows_frame .., setReg_frame .., startTracker_frame .., effTbCtl, hOk]

theorem trigReach_wcapLevelOk {k : Nat} {x : Int} {s t : State} (h : trigReach k x s = some t)
    (hOk : WcapOk s.wcapLevel) : WcapOk t.wcapLevel := by
  unfold trigReach at h
  dsimp only at h
  split at h
  · rw [← Option.some.inj h]; exact hOk
  · split at h
    · exact reachPsi_wcapLevelOk h hOk
    · split at h
      · cases h
      · rw [← Option.some.inj h]; exact passTime_wcapLevelOk _ _ hOk

@[simp] theorem trigMiss_msgqOk (k n : Nat) (s : State)
    (hOk : MsgqOk s.msgq) : MsgqOk (trigMiss k n s).msgq := by simp (maxDischargeDepth := 30) +contextual [bumpBySat_frame .., trigMiss, hOk]

@[simp] theorem firePeriodic_msgqOk (k : Nat) (s : State)
    (hOk : MsgqOk s.msgq) : MsgqOk (firePeriodic k s).msgq := by
  unfold firePeriodic
  dsimp only
  (repeat' split) <;> first
    | (rename_i h; have h1 := trigReach_frame h; simp [putTrig_frame .., trigMiss_frame .., trigPulse_frame ..] at h1; simp [putTrig_frame .., trigMiss_frame .., trigPulse_frame .., h1, hOk]; done)
    | simp [putTrig_frame .., trigMiss_frame .., trigPulse_frame .., hOk]

@[simp] theorem firePeriodic_wcapLevelOk (k : Nat) (s : State)
    (hOk : WcapOk s.wcapLevel) : WcapOk (firePeriodic k s).wcapLevel := by
  unfold firePeriodic
  dsimp only
  have h1 : ∀ n (t : Trig), WcapOk (trigMiss k n (putTrig k t s)).wcapLevel := by
    intro n t
    simp only [trigMiss_frame, putTrig_frame]
    exact hOk
  (repeat' split) <;> first
    | exact h1 _ _
    | (rename_i h
       simp only [trigPulse_frame, putTrig_frame]
       exact trigReach_wcapLevelOk h (h1 _ _))

end Sys2Proof.Machine
end

