-- ==== Sys2Proof/Laws/InvOzide.lean ====
section
/-!
SUPPORT. The operations of Ozide.lean keep the bounds of Inv.
-/
set_option linter.unusedSimpArgs false
namespace Sys2Proof.Machine

@[simp] theorem windowStore_msgqOk (word : Nat) (v : DWord) (s : State)
    (hOk : MsgqOk s.msgq) : MsgqOk (windowStore word v s).msgq := by simp (maxDischargeDepth := 30) +contextual [loadKeys_frame .., ozPut_frame .., windowStore, hOk]

@[simp] theorem windowHalf_msgqOk (m : Nat) (word : Nat) (high : Bool) (v : Word) (s : State)
    (hOk : MsgqOk s.msgq) : MsgqOk (windowHalf m word high v s).msgq := by simp only [windowHalf]; (repeat' split) <;> first | with_reducible exact hOk | simp (maxDischargeDepth := 30) +contextual [hOk]

@[simp] theorem windowWriteAt_msgqOk (m word : Nat) (high : Bool) (v : Word) (s : State)
    (hOk : MsgqOk s.msgq) : MsgqOk (windowWriteAt m word high v s).2.msgq := by simp only [windowWriteAt]; (repeat' split) <;> first | with_reducible exact hOk | simp (maxDischargeDepth := 30) +contextual [hOk]

@[simp] theorem windowReadAt_msgqOk (m word : Nat) (high : Bool) (s : State)
    (hOk : MsgqOk s.msgq) : MsgqOk (windowReadAt m word high s).2.msgq := by simp only [windowReadAt]; (repeat' split) <;> first | with_reducible exact hOk | simp (maxDischargeDepth := 30) +contextual [holdHigh_frame .., takeHigh_frame .., windowReads_frame .., hOk]

@[simp] theorem windowWrite_msgqOk (m : Master) (word : Nat) (high : Bool) (v : Word) (s : State)
    (hOk : MsgqOk s.msgq) : MsgqOk (windowWrite m word high v s).msgq := by
  have h1 := windowWriteAt_msgqOk m.val word high v s hOk
  unfold windowWrite
  dsimp only
  repeat' split
  all_goals try (simp [answer_frame .., holdOrBusy_frame .., noteM0_frame .., hOk]; done)
  all_goals (rename_i h2; rw [h2] at h1; simp [answer_frame .., noteM0_frame .., h1])

@[simp] theorem windowRead_msgqOk (m : Master) (word : Nat) (high : Bool) (s : State)
    (hOk : MsgqOk s.msgq) : MsgqOk (windowRead m word high s).msgq := by simp only [windowRead]; (repeat' split) <;> first | with_reducible exact hOk | simp (maxDischargeDepth := 30) +contextual [answer_frame .., holdOrBusy_frame .., hOk]

@[simp] theorem lockOut_msgqOk (m p : Nat) (write : Bool) (s : State)
    (hOk : MsgqOk s.msgq) : MsgqOk (lockOut m p write s).msgq := by simp (maxDischargeDepth := 30) +contextual [counterAdd_frame .., ozLog_frame .., setRegBit_frame .., lockOut, hOk]

@[simp] theorem effUnlKey_msgqOk (m : Nat) (v : Word) (s : State)
    (hOk : MsgqOk s.msgq) : MsgqOk (effUnlKey m v s).msgq := by simp (maxDischargeDepth := 30) +contextual [effUnlKey, hOk]

@[simp] theorem effCtrCmd_msgqOk (v : Word) (s : State)
    (hOk : MsgqOk s.msgq) : MsgqOk (effCtrCmd v s).msgq := by simp (maxDischargeDepth := 30) +contextual [effCtrCmd, hOk]

end Sys2Proof.Machine
end

