-- ==== Sys2Proof/Laws/InvReset.lean ====
section
/-!
SUPPORT. The operations of Reset.lean keep the bounds of Inv.
-/
set_option linter.unreachableTactic false
set_option linter.unusedSimpArgs false
set_option linter.unusedTactic false
set_option linter.unusedVariables false
namespace Sys2Proof.Machine

@[simp] theorem linkForget_msgqOk (s : State)
    (hOk : MsgqOk s.msgq) : MsgqOk (linkForget s).msgq := by simp (maxDischargeDepth := 30) +contextual [putDcx_frame .., linkForget, hOk]

@[simp] theorem linkReset_msgqOk (s : State)
    (hOk : MsgqOk s.msgq) : MsgqOk (linkReset s).msgq := by simp (maxDischargeDepth := 30) +contextual [bumpSat_frame .., laneRetrain_frame .., mirForget_frame .., setRegN_frame .., linkReset, hOk]

@[simp] theorem masterReset_msgqOk (k : Nat) (s : State)
    (hOk : MsgqOk s.msgq) : MsgqOk (masterReset k s).msgq := by simp (maxDischargeDepth := 30) +contextual [endGrants_frame .., mirForget_frame .., putDcx_frame .., setRegBit_frame .., setRegN_frame .., updateInitAll_frame .., masterReset, hOk]

@[simp] theorem unitReset_msgqOk (p : Nat) (s : State)
    (hOk : MsgqOk s.msgq) : MsgqOk (unitReset p s).msgq := by
  unfold unitReset
  iterate 25 (refine ite_ok (P := fun t => MsgqOk t.msgq) (fun _ => ?_) (fun _ => ?_); rotate_left)
  all_goals first | with_reducible exact hOk | simp (maxDischargeDepth := 30) +contextual [applyLedset_frame .., assignShadows_frame .., auditRestart_frame .., clearContexts_frame .., clearLanes_frame .., clearMem_frame .., clearTab_frame .., dcxPark_frame .., dropFrame_frame .., putEth_frame .., putTile_frame .., setScan_frame .., hOk]

@[simp] theorem unitReset_mntOk (p : Nat) (s : State)
    (hOk : MntOk s.mnt) : MntOk (unitReset p s).mnt := by
  unfold unitReset
  iterate 25 (refine ite_ok (P := fun t => MntOk t.mnt) (fun _ => ?_) (fun _ => ?_); rotate_left)
  all_goals first | with_reducible exact hOk | simp (maxDischargeDepth := 30) +contextual [applyLedset_frame .., assignShadows_frame .., auditRestart_frame .., clearContexts_frame .., clearLanes_frame .., clearMem_frame .., clearTab_frame .., dcxPark_frame .., dropFrame_frame .., linkReset_frame .., putEth_frame .., putMsgq_frame .., putTile_frame .., setScan_frame .., hOk]

@[simp] theorem unitReset_lctcOk (p : Nat) (s : State)
    (hOk : LctqOk s.lctc) : LctqOk (unitReset p s).lctc := by
  unfold unitReset
  iterate 25 (refine ite_ok (P := fun t => LctqOk t.lctc) (fun _ => ?_) (fun _ => ?_); rotate_left)
  all_goals first | with_reducible exact hOk | simp (maxDischargeDepth := 30) +contextual [applyLedset_frame .., assignShadows_frame .., clearContexts_frame .., clearLanes_frame .., clearMem_frame .., clearTab_frame .., dcxPark_frame .., dropFrame_frame .., linkReset_frame .., putEth_frame .., putMsgq_frame .., putTile_frame .., setScan_frame .., hOk]

@[simp] theorem unitReset_wcapLevelOk (p : Nat) (s : State)
    (hOk : WcapOk s.wcapLevel) : WcapOk (unitReset p s).wcapLevel := by
  unfold unitReset
  iterate 25 (refine ite_ok (P := fun t => WcapOk t.wcapLevel) (fun _ => ?_) (fun _ => ?_); rotate_left)
  all_goals first | with_reducible exact hOk | simp (maxDischargeDepth := 30) +contextual [applyLedset_frame .., assignShadows_frame .., auditRestart_frame .., clearContexts_frame .., clearLanes_frame .., clearMem_frame .., clearTab_frame .., dcxPark_frame .., dropFrame_frame .., linkReset_frame .., putEth_frame .., putMsgq_frame .., putTile_frame .., setScan_frame .., hOk]

@[simp] theorem blockReset_msgqOk (p : Nat) (s : State)
    (hOk : MsgqOk s.msgq) : MsgqOk (blockReset p s).msgq := by simp (maxDischargeDepth := 30) +contextual [blockRegs_frame .., scanReset_frame .., setRegFld_frame .., blockReset, hOk]

@[simp] theorem blockReset_mntOk (p : Nat) (s : State)
    (hOk : MntOk s.mnt) : MntOk (blockReset p s).mnt := by simp (maxDischargeDepth := 30) +contextual [blockRegs_frame .., scanReset_frame .., setRegFld_frame .., blockReset, hOk]

@[simp] theorem blockReset_lctcOk (p : Nat) (s : State)
    (hOk : LctqOk s.lctc) : LctqOk (blockReset p s).lctc := by simp (maxDischargeDepth := 30) +contextual [blockRegs_frame .., scanReset_frame .., setRegFld_frame .., blockReset, hOk]

@[simp] theorem blockReset_wcapLevelOk (p : Nat) (s : State)
    (hOk : WcapOk s.wcapLevel) : WcapOk (blockReset p s).wcapLevel := by simp (maxDischargeDepth := 30) +contextual [blockRegs_frame .., scanReset_frame .., setRegFld_frame .., blockReset, hOk]

@[simp] theorem askBlockReset_msgqOk (p : Nat) (s : State)
    (hOk : MsgqOk s.msgq) : MsgqOk (askBlockReset p s).msgq := by simp (maxDischargeDepth := 30) +contextual [askBlockReset, hOk]

@[simp] theorem askBlockReset_mntOk (p : Nat) (s : State)
    (hOk : MntOk s.mnt) : MntOk (askBlockReset p s).mnt := by simp (maxDischargeDepth := 30) +contextual [askBlockReset, hOk]

@[simp] theorem askBlockReset_lctcOk (p : Nat) (s : State)
    (hOk : LctqOk s.lctc) : LctqOk (askBlockReset p s).lctc := by simp (maxDischargeDepth := 30) +contextual [askBlockReset, hOk]

@[simp] theorem askBlockReset_wcapLevelOk (p : Nat) (s : State)
    (hOk : WcapOk s.wcapLevel) : WcapOk (askBlockReset p s).wcapLevel := by simp (maxDischargeDepth := 30) +contextual [askBlockReset, hOk]

@[simp] theorem effPageCtl_msgqOk (p : Nat) (v : Word) (s : State)
    (hOk : MsgqOk s.msgq) : MsgqOk (effPageCtl p v s).msgq := by simp (maxDischargeDepth := 30) +contextual [setReg_frame .., effPageCtl, hOk]

@[simp] theorem effPageCtl_mntOk (p : Nat) (v : Word) (s : State)
    (hOk : MntOk s.mnt) : MntOk (effPageCtl p v s).mnt := by simp (maxDischargeDepth := 30) +contextual [setReg_frame .., effPageCtl, hOk]

@[simp] theorem effPageCtl_lctcOk (p : Nat) (v : Word) (s : State)
    (hOk : LctqOk s.lctc) : LctqOk (effPageCtl p v s).lctc := by simp (maxDischargeDepth := 30) +contextual [setReg_frame .., effPageCtl, hOk]

@[simp] theorem effPageCtl_wcapLevelOk (p : Nat) (v : Word) (s : State)
    (hOk : WcapOk s.wcapLevel) : WcapOk (effPageCtl p v s).wcapLevel := by simp (maxDischargeDepth := 30) +contextual [setReg_frame .., effPageCtl, hOk]

@[simp] theorem kept_bounds (s : State) : (kept s).fs = [] ∧ (kept s).scene = [] ∧ (kept s).msgq = [] ∧ (kept s).mnt = {} ∧
    (kept s).lctc = {} ∧ (kept s).wcapLevel = 65536 := ⟨rfl, rfl, rfl, rfl, rfl, rfl⟩

@[simp] theorem powerOnReset_fsOk (s : State)
    (hOk : Memory.wf s.fs = true) : Memory.wf (powerOnReset s).fs = true := by simp [powerOnReset]

@[simp] theorem powerOnReset_sceneOk (s : State)
    (hOk : Memory.wf s.scene = true) : Memory.wf (powerOnReset s).scene = true := by simp [powerOnReset]

@[simp] theorem powerOnReset_msgqOk (s : State)
    (hOk : MsgqOk s.msgq) : MsgqOk (powerOnReset s).msgq := by simp [powerOnReset]

@[simp] theorem powerOnReset_mntOk (s : State)
    (hOk : MntOk s.mnt) : MntOk (powerOnReset s).mnt := by simp [powerOnReset]

@[simp] theorem powerOnReset_lctcOk (s : State)
    (hOk : LctqOk s.lctc) : LctqOk (powerOnReset s).lctc := by simp [powerOnReset]

@[simp] theorem powerOnReset_wcapLevelOk (s : State)
    (hOk : WcapOk s.wcapLevel) : WcapOk (powerOnReset s).wcapLevel := by simp [powerOnReset]

@[simp] theorem keepMem_fsOk (a b : Bool) (s t : State) (hs : Memory.wf s.fs = true) (ht : Memory.wf t.fs = true) :
    Memory.wf (keepMem s a b t).fs = true := by
  cases a <;> cases b <;> simp [setUnverified_frame .., keepMem, hs, ht]

@[simp] theorem keepMem_sceneOk (a b : Bool) (s t : State) (hs : Memory.wf s.scene = true) (ht : Memory.wf t.scene = true) :
    Memory.wf (keepMem s a b t).scene = true := by
  cases a <;> cases b <;> simp [setUnverified_frame .., keepMem, hs, ht]

@[simp] theorem warmReset_fsOk (kind ctr : Nat) (supply : Bool) (s : State)
    (hOk : Memory.wf s.fs = true) : Memory.wf (warmReset kind ctr supply s).fs = true := by
  unfold warmReset; dsimp only
  repeat' first | with_reducible exact hOk | (simp (maxDischargeDepth := 30) +contextual [hOk]; done) | split | apply kept_fsOk | apply keepMem_fsOk

@[simp] theorem warmReset_sceneOk (kind ctr : Nat) (supply : Bool) (s : State)
    (hOk : Memory.wf s.scene = true) : Memory.wf (warmReset kind ctr supply s).scene = true := by
  unfold warmReset; dsimp only
  repeat' first | with_reducible exact hOk | (simp (maxDischargeDepth := 30) +contextual [hOk]; done) | split | apply kept_sceneOk | apply keepMem_sceneOk

@[simp] theorem warmReset_msgqOk (kind ctr : Nat) (supply : Bool) (s : State)
    (hOk : MsgqOk s.msgq) : MsgqOk (warmReset kind ctr supply s).msgq := by simp (maxDischargeDepth := 30) +contextual [keepMem_frame .., setRegFld_frame .., setReg_frame .., warmReset, hOk]

@[simp] theorem warmReset_mntOk (kind ctr : Nat) (supply : Bool) (s : State)
    (hOk : MntOk s.mnt) : MntOk (warmReset kind ctr supply s).mnt := by simp (maxDischargeDepth := 30) +contextual [keepMem_frame .., setRegFld_frame .., setReg_frame .., warmReset, hOk]

@[simp] theorem warmReset_lctcOk (kind ctr : Nat) (supply : Bool) (s : State)
    (hOk : LctqOk s.lctc) : LctqOk (warmReset kind ctr supply s).lctc := by simp (maxDischargeDepth := 30) +contextual [keepMem_frame .., setRegFld_frame .., setReg_frame .., warmReset, hOk]

@[simp] theorem warmReset_wcapLevelOk (kind ctr : Nat) (supply : Bool) (s : State)
    (hOk : WcapOk s.wcapLevel) : WcapOk (warmReset kind ctr supply s).wcapLevel := by simp (maxDischargeDepth := 30) +contextual [keepMem_frame .., setRegFld_frame .., setReg_frame .., warmReset, hOk]

@[simp] theorem chipReset_fsOk (m : Nat) (s : State)
    (hOk : Memory.wf s.fs = true) : Memory.wf (chipReset m s).fs = true := by simp (maxDischargeDepth := 30) +contextual [chipReset, hOk]

@[simp] theorem chipReset_sceneOk (m : Nat) (s : State)
    (hOk : Memory.wf s.scene = true) : Memory.wf (chipReset m s).scene = true := by simp (maxDischargeDepth := 30) +contextual [chipReset, hOk]

@[simp] theorem chipReset_msgqOk (m : Nat) (s : State)
    (hOk : MsgqOk s.msgq) : MsgqOk (chipReset m s).msgq := by simp (maxDischargeDepth := 30) +contextual [chipReset, hOk]

@[simp] theorem chipReset_mntOk (m : Nat) (s : State)
    (hOk : MntOk s.mnt) : MntOk (chipReset m s).mnt := by simp (maxDischargeDepth := 30) +contextual [chipReset, hOk]

@[simp] theorem chipReset_lctcOk (m : Nat) (s : State)
    (hOk : LctqOk s.lctc) : LctqOk (chipReset m s).lctc := by simp (maxDischargeDepth := 30) +contextual [chipReset, hOk]

@[simp] theorem chipReset_wcapLevelOk (m : Nat) (s : State)
    (hOk : WcapOk s.wcapLevel) : WcapOk (chipReset m s).wcapLevel := by simp (maxDischargeDepth := 30) +contextual [chipReset, hOk]

@[simp] theorem effChip_fsOk (m : Nat) (v : Word) (s : State)
    (hOk : Memory.wf s.fs = true) : Memory.wf (effChip m v s).fs = true := by simp (maxDischargeDepth := 30) +contextual [effChip, hOk]

@[simp] theorem effChip_sceneOk (m : Nat) (v : Word) (s : State)
    (hOk : Memory.wf s.scene = true) : Memory.wf (effChip m v s).scene = true := by simp (maxDischargeDepth := 30) +contextual [effChip, hOk]

@[simp] theorem effChip_msgqOk (m : Nat) (v : Word) (s : State)
    (hOk : MsgqOk s.msgq) : MsgqOk (effChip m v s).msgq := by simp (maxDischargeDepth := 30) +contextual [effChip, hOk]

@[simp] theorem effChip_mntOk (m : Nat) (v : Word) (s : State)
    (hOk : MntOk s.mnt) : MntOk (effChip m v s).mnt := by simp (maxDischargeDepth := 30) +contextual [effChip, hOk]

@[simp] theorem effChip_lctcOk (m : Nat) (v : Word) (s : State)
    (hOk : LctqOk s.lctc) : LctqOk (effChip m v s).lctc := by simp (maxDischargeDepth := 30) +contextual [effChip, hOk]

@[simp] theorem effChip_wcapLevelOk (m : Nat) (v : Word) (s : State)
    (hOk : WcapOk s.wcapLevel) : WcapOk (effChip m v s).wcapLevel := by simp (maxDischargeDepth := 30) +contextual [effChip, hOk]

@[simp] theorem effMaster_msgqOk (v : Word) (s : State)
    (hOk : MsgqOk s.msgq) : MsgqOk (effMaster v s).msgq := by simp (maxDischargeDepth := 30) +contextual [effMaster, hOk]

@[simp] theorem writeSysRst_fsOk (m : Master) (v : Word) (s : State)
    (hOk : Memory.wf s.fs = true) : Memory.wf (writeSysRst m v s).fs = true := by simp (maxDischargeDepth := 30) +contextual [effMaster_frame .., writeSysRst, hOk]

@[simp] theorem writeSysRst_sceneOk (m : Master) (v : Word) (s : State)
    (hOk : Memory.wf s.scene = true) : Memory.wf (writeSysRst m v s).scene = true := by simp (maxDischargeDepth := 30) +contextual [effMaster_frame .., writeSysRst, hOk]

@[simp] theorem writeSysRst_msgqOk (m : Master) (v : Word) (s : State)
    (hOk : MsgqOk s.msgq) : MsgqOk (writeSysRst m v s).msgq := by simp (maxDischargeDepth := 30) +contextual [writeSysRst, hOk]

@[simp] theorem writeSysRst_mntOk (m : Master) (v : Word) (s : State)
    (hOk : MntOk s.mnt) : MntOk (writeSysRst m v s).mnt := by simp (maxDischargeDepth := 30) +contextual [effMaster_frame .., writeSysRst, hOk]

@[simp] theorem writeSysRst_lctcOk (m : Master) (v : Word) (s : State)
    (hOk : LctqOk s.lctc) : LctqOk (writeSysRst m v s).lctc := by simp (maxDischargeDepth := 30) +contextual [effMaster_frame .., writeSysRst, hOk]

@[simp] theorem writeSysRst_wcapLevelOk (m : Master) (v : Word) (s : State)
    (hOk : WcapOk s.wcapLevel) : WcapOk (writeSysRst m v s).wcapLevel := by simp (maxDischargeDepth := 30) +contextual [effMaster_frame .., writeSysRst, hOk]

end Sys2Proof.Machine
end

