-- ==== Sys2Proof/Laws/InvPower.lean ====
section
/-!
SUPPORT. The operations of Power.lean keep the bounds of Inv.
-/
namespace Sys2Proof.Machine

@[simp] theorem changeState_msgqOk (new : PState) (src : Nat) (s : State)
    (hOk : MsgqOk s.msgq) : MsgqOk (changeState new src s).msgq := by simp (maxDischargeDepth := 30) +contextual [setPwr_frame .., changeState, hOk]

@[simp] theorem abortForNight_msgqOk (q : MntReq) (s : State)
    (hOk : MsgqOk s.msgq) : MsgqOk (abortForNight q s).msgq := by simp (maxDischargeDepth := 30) +contextual [giveBack_frame .., putDram_frame .., abortForNight, hOk]

@[simp] theorem abortForNight_mntOk (q : MntReq) (s : State)
    (hOk : MntOk s.mnt) : MntOk (abortForNight q s).mnt := by simp (maxDischargeDepth := 30) +contextual [giveBack_frame .., laneEvent_frame .., putDram_frame .., abortForNight, hOk]

@[simp] theorem abortsForNight_msgqOk (s : State)
    (hOk : MsgqOk s.msgq) : MsgqOk (abortsForNight s).msgq := by simp (maxDischargeDepth := 30) +contextual [abortsForNight, hOk]

@[simp] theorem abortsForNight_mntOk (s : State)
    (hOk : MntOk s.mnt) : MntOk (abortsForNight s).mnt := by simp (maxDischargeDepth := 30) +contextual [abortsForNight, hOk]

@[simp] theorem nightFall_msgqOk (s : State)
    (hOk : MsgqOk s.msgq) : MsgqOk (nightFall s).msgq := by simp (maxDischargeDepth := 30) +contextual [darkHostLanes_frame .., enterSrAll_frame .., setPwr_frame .., setRegFld_frame .., setScan_frame .., tellTimes_frame .., trigRate_frame .., nightFall, hOk]

@[simp] theorem nightFall_mntOk (s : State)
    (hOk : MntOk s.mnt) : MntOk (nightFall s).mnt := by simp (maxDischargeDepth := 30) +contextual [changeState_frame .., darkHostLanes_frame .., enterSrAll_frame .., linkReset_frame .., seedTicks_frame .., setPwr_frame .., setRegFld_frame .., setScan_frame .., tellTimes_frame .., trigRate_frame .., nightFall, hOk]

@[simp] theorem nightEnd_msgqOk (s : State)
    (hOk : MsgqOk s.msgq) : MsgqOk (nightEnd s).msgq := by simp (maxDischargeDepth := 30) +contextual [exitSrAll_frame .., setPwr_frame .., setRegFld_frame .., setScan_frame .., setScanState_frame .., tellTimes_frame .., trigRate_frame .., nightEnd, hOk]

@[simp] theorem powerChange_fsOk (s : State)
    (hOk : Memory.wf s.fs = true) : Memory.wf (powerChange s).fs = true := by simp only [powerChange]; (repeat' split) <;> first | with_reducible exact hOk | simp (maxDischargeDepth := 30) +contextual [nightEnd_frame .., nightFall_frame .., writeLives_frame .., hOk]

@[simp] theorem powerChange_sceneOk (s : State)
    (hOk : Memory.wf s.scene = true) : Memory.wf (powerChange s).scene = true := by simp only [powerChange]; (repeat' split) <;> first | with_reducible exact hOk | simp (maxDischargeDepth := 30) +contextual [nightEnd_frame .., nightFall_frame .., writeLives_frame .., hOk]

@[simp] theorem powerChange_msgqOk (s : State)
    (hOk : MsgqOk s.msgq) : MsgqOk (powerChange s).msgq := by simp only [powerChange]; (repeat' split) <;> first | with_reducible exact hOk | simp (maxDischargeDepth := 30) +contextual [writeLives_frame .., hOk]

@[simp] theorem powerChange_mntOk (s : State)
    (hOk : MntOk s.mnt) : MntOk (powerChange s).mnt := by simp only [powerChange]; (repeat' split) <;> first | with_reducible exact hOk | simp (maxDischargeDepth := 30) +contextual [nightEnd_frame .., writeLives_frame .., hOk]

@[simp] theorem powerChange_lctcOk (s : State)
    (hOk : LctqOk s.lctc) : LctqOk (powerChange s).lctc := by simp only [powerChange]; (repeat' split) <;> first | with_reducible exact hOk | simp (maxDischargeDepth := 30) +contextual [nightEnd_frame .., nightFall_frame .., writeLives_frame .., hOk]

@[simp] theorem wake_fsOk (src : Fin 3) (s : State)
    (hOk : Memory.wf s.fs = true) : Memory.wf (wake src s).fs = true := by simp (maxDischargeDepth := 30) +contextual [noteWake_frame .., setPwr_frame .., wake, hOk]

@[simp] theorem wake_sceneOk (src : Fin 3) (s : State)
    (hOk : Memory.wf s.scene = true) : Memory.wf (wake src s).scene = true := by simp (maxDischargeDepth := 30) +contextual [noteWake_frame .., setPwr_frame .., wake, hOk]

@[simp] theorem wake_msgqOk (src : Fin 3) (s : State)
    (hOk : MsgqOk s.msgq) : MsgqOk (wake src s).msgq := by simp (maxDischargeDepth := 30) +contextual [noteWake_frame .., setPwr_frame .., wake, hOk]

@[simp] theorem wake_mntOk (src : Fin 3) (s : State)
    (hOk : MntOk s.mnt) : MntOk (wake src s).mnt := by simp (maxDischargeDepth := 30) +contextual [noteWake_frame .., setPwr_frame .., wake, hOk]

@[simp] theorem wake_lctcOk (src : Fin 3) (s : State)
    (hOk : LctqOk s.lctc) : LctqOk (wake src s).lctc := by simp (maxDischargeDepth := 30) +contextual [noteWake_frame .., setPwr_frame .., wake, hOk]

@[simp] theorem wake_wcapLevelOk (src : Fin 3) (s : State)
    (hOk : WcapOk s.wcapLevel) : WcapOk (wake src s).wcapLevel := by simp (maxDischargeDepth := 30) +contextual [noteWake_frame .., setPwr_frame .., wake, hOk]

@[simp] theorem supplyWarning_msgqOk (rail : Fin 8) (below : Bool) (mv : Nat) (s : State)
    (hOk : MsgqOk s.msgq) : MsgqOk (supplyWarning rail below mv s).msgq := by simp (maxDischargeDepth := 30) +contextual [setPwr_frame .., setRegBit_frame .., supplyWarning, hOk]

@[simp] theorem heldResets_fsOk (s : State)
    (hOk : Memory.wf s.fs = true) : Memory.wf (heldResets s).fs = true := by simp only [heldResets]; (repeat' split) <;> first | with_reducible exact hOk | simp (maxDischargeDepth := 30) +contextual [blockReset_frame .., setPwr_frame .., hOk]

@[simp] theorem heldResets_sceneOk (s : State)
    (hOk : Memory.wf s.scene = true) : Memory.wf (heldResets s).scene = true := by simp only [heldResets]; (repeat' split) <;> first | with_reducible exact hOk | simp (maxDischargeDepth := 30) +contextual [blockReset_frame .., setPwr_frame .., hOk]

@[simp] theorem heldResets_msgqOk (s : State)
    (hOk : MsgqOk s.msgq) : MsgqOk (heldResets s).msgq := by simp only [heldResets]; (repeat' split) <;> first | with_reducible exact hOk | simp (maxDischargeDepth := 30) +contextual [setPwr_frame .., hOk]

@[simp] theorem heldResets_mntOk (s : State)
    (hOk : MntOk s.mnt) : MntOk (heldResets s).mnt := by simp only [heldResets]; (repeat' split) <;> first | with_reducible exact hOk | simp (maxDischargeDepth := 30) +contextual [setPwr_frame .., hOk]

@[simp] theorem heldResets_lctcOk (s : State)
    (hOk : LctqOk s.lctc) : LctqOk (heldResets s).lctc := by simp only [heldResets]; (repeat' split) <;> first | with_reducible exact hOk | simp (maxDischargeDepth := 30) +contextual [setPwr_frame .., hOk]

@[simp] theorem heldResets_wcapLevelOk (s : State)
    (hOk : WcapOk s.wcapLevel) : WcapOk (heldResets s).wcapLevel := by simp only [heldResets]; (repeat' split) <;> first | with_reducible exact hOk | simp (maxDischargeDepth := 30) +contextual [setPwr_frame .., hOk]

@[simp] theorem dipRecovered_fsOk (d : Dip) (minMv durUs : Nat) (s : State)
    (hOk : Memory.wf s.fs = true) : Memory.wf (dipRecovered d minMv durUs s).fs = true := by simp (maxDischargeDepth := 30) +contextual [bumpSat_frame .., counterAdd_frame .., ozFlush_frame .., ozLog_frame .., raise_frame .., setPwr_frame .., setRegN_frame .., dipRecovered, hOk]

@[simp] theorem dipRecovered_sceneOk (d : Dip) (minMv durUs : Nat) (s : State)
    (hOk : Memory.wf s.scene = true) : Memory.wf (dipRecovered d minMv durUs s).scene = true := by simp (maxDischargeDepth := 30) +contextual [bumpSat_frame .., counterAdd_frame .., ozFlush_frame .., ozLog_frame .., raise_frame .., setPwr_frame .., setRegN_frame .., dipRecovered, hOk]

@[simp] theorem dipRecovered_msgqOk (d : Dip) (minMv durUs : Nat) (s : State)
    (hOk : MsgqOk s.msgq) : MsgqOk (dipRecovered d minMv durUs s).msgq := by simp (maxDischargeDepth := 30) +contextual [bumpSat_frame .., counterAdd_frame .., ozFlush_frame .., ozLog_frame .., setPwr_frame .., setRegN_frame .., dipRecovered, hOk]

@[simp] theorem dipRecovered_mntOk (d : Dip) (minMv durUs : Nat) (s : State)
    (hOk : MntOk s.mnt) : MntOk (dipRecovered d minMv durUs s).mnt := by simp (maxDischargeDepth := 30) +contextual [bumpSat_frame .., counterAdd_frame .., ozFlush_frame .., ozLog_frame .., raise_frame .., setPwr_frame .., setRegN_frame .., dipRecovered, hOk]

@[simp] theorem dipRecovered_lctcOk (d : Dip) (minMv durUs : Nat) (s : State)
    (hOk : LctqOk s.lctc) : LctqOk (dipRecovered d minMv durUs s).lctc := by simp (maxDischargeDepth := 30) +contextual [bumpSat_frame .., counterAdd_frame .., ozFlush_frame .., ozLog_frame .., raise_frame .., setPwr_frame .., setRegN_frame .., dipRecovered, hOk]

@[simp] theorem dipRecovered_wcapLevelOk (d : Dip) (minMv durUs : Nat) (s : State)
    (hOk : WcapOk s.wcapLevel) : WcapOk (dipRecovered d minMv durUs s).wcapLevel := by simp (maxDischargeDepth := 30) +contextual [bumpSat_frame .., counterAdd_frame .., ozFlush_frame .., ozLog_frame .., raise_frame .., setPwr_frame .., setRegN_frame .., dipRecovered, hOk]

end Sys2Proof.Machine
end

