-- ==== Sys2Proof/Laws/InvPeriod.lean ====
section
/-!
SUPPORT. The operations of Period.lean keep the bounds of Inv.
-/
namespace Sys2Proof.Machine

@[simp] theorem applyCommit_msgqOk (nr : List Nat) (s : State)
    (hOk : MsgqOk s.msgq) : MsgqOk (applyCommit nr s).msgq := by simp (maxDischargeDepth := 30) +contextual [applyTriggers_frame .., bindBufs_frame .., bumpWrap_frame .., setRegFld_frame .., setRegN_frame .., stampPages_frame .., swapContexts_frame .., swapRegs_frame .., swapTables_frame .., applyCommit, hOk]

@[simp] theorem refuseCommit_msgqOk (mask : Nat) (s : State)
    (hOk : MsgqOk s.msgq) : MsgqOk (refuseCommit mask s).msgq := by simp (maxDischargeDepth := 30) +contextual [bumpWrap_frame .., setRegFld_frame .., refuseCommit, hOk]

@[simp] theorem waitForParts_msgqOk (s : State)
    (hOk : MsgqOk s.msgq) : MsgqOk (waitForParts s).msgq := by simp (maxDischargeDepth := 30) +contextual [setRegFld_frame .., waitForParts, hOk]

@[simp] theorem decideCommit_msgqOk (s : State)
    (hOk : MsgqOk s.msgq) : MsgqOk (decideCommit s).msgq := by simp (maxDischargeDepth := 30) +contextual [setRegBit_frame .., storeBudget_frame .., tickFree_frame .., decideCommit, hOk]

@[simp] theorem latchBand_msgqOk (s : State)
    (hOk : MsgqOk s.msgq) : MsgqOk (latchBand s).msgq := by simp (maxDischargeDepth := 30) +contextual [setRegFld_frame .., latchBand, hOk]

@[simp] theorem restOfSunrise_msgqOk (s : State)
    (hOk : MsgqOk s.msgq) : MsgqOk (restOfSunrise s).msgq := by simp (maxDischargeDepth := 30) +contextual [storeBound_frame .., restOfSunrise, hOk]

@[simp] theorem restOfSunrise_mntOk (s : State)
    (hOk : MntOk s.mnt) : MntOk (restOfSunrise s).mnt := by simp (maxDischargeDepth := 30) +contextual [latchBand_frame .., storeBound_frame .., restOfSunrise, hOk]

@[simp] theorem startComposition_msgqOk (s : State)
    (hOk : MsgqOk s.msgq) : MsgqOk (startComposition s).msgq := by simp (maxDischargeDepth := 30) +contextual [keepRects_frame .., lctApply_frame .., startComposition, hOk]

@[simp] theorem startComposition_mntOk (s : State)
    (hOk : MntOk s.mnt) : MntOk (startComposition s).mnt := by simp (maxDischargeDepth := 30) +contextual [beginFrame_frame .., fillPlaces_frame .., keepRects_frame .., lctApply_frame .., startComposition, hOk]

@[simp] theorem startComposition_lctcOk (s : State)
    (hOk : LctqOk s.lctc) : LctqOk (startComposition s).lctc := by simp (maxDischargeDepth := 30) +contextual [applyRoles_frame .., beginFrame_frame .., fillPlaces_frame .., keepRects_frame .., startComposition, hOk]

@[simp] theorem reportOverrun_msgqOk (s : State)
    (hOk : MsgqOk s.msgq) : MsgqOk (reportOverrun s).msgq := by simp (maxDischargeDepth := 30) +contextual [bumpSat_frame .., reportOverrun, hOk]

@[simp] theorem endModeChange_msgqOk (m : ModeChange) (s : State)
    (hOk : MsgqOk s.msgq) : MsgqOk (endModeChange m s).msgq := by simp (maxDischargeDepth := 30) +contextual [setScanState_frame .., setScan_frame .., endModeChange, hOk]

@[simp] theorem powerRequest_msgqOk (s : State)
    (hOk : MsgqOk s.msgq) : MsgqOk (powerRequest s).msgq := by simp only [powerRequest]; (repeat' split) <;> first | with_reducible exact hOk | simp (maxDischargeDepth := 30) +contextual [midnightDue_frame .., nightDue_frame .., rotateIfDone_frame .., setPwr_frame .., hOk]

@[simp] theorem repeatSunrise_msgqOk (reseeded : Bool) (s : State)
    (hOk : MsgqOk s.msgq) : MsgqOk (repeatSunrise reseeded s).msgq := by simp (maxDischargeDepth := 30) +contextual [setRepeat_frame .., repeatSunrise, hOk]

@[simp] theorem repeatSunrise_mntOk (reseeded : Bool) (s : State)
    (hOk : MntOk s.mnt) : MntOk (repeatSunrise reseeded s).mnt := by simp (maxDischargeDepth := 30) +contextual [latchBand_frame .., reportOverrun_frame .., setRepeat_frame .., repeatSunrise, hOk]

@[simp] theorem throttledSunrise_msgqOk (s : State)
    (hOk : MsgqOk s.msgq) : MsgqOk (throttledSunrise s).msgq := by simp (maxDischargeDepth := 30) +contextual [bumpSat_frame .., setRepeat_frame .., throttledSunrise, hOk]

@[simp] theorem throttledSunrise_mntOk (s : State)
    (hOk : MntOk s.mnt) : MntOk (throttledSunrise s).mnt := by simp (maxDischargeDepth := 30) +contextual [bumpSat_frame .., latchBand_frame .., setRepeat_frame .., throttledSunrise, hOk]

@[simp] theorem tablelessSunrise_msgqOk (s : State)
    (hOk : MsgqOk s.msgq) : MsgqOk (tablelessSunrise s).msgq := by simp (maxDischargeDepth := 30) +contextual [setRepeat_frame .., tablelessSunrise, hOk]

@[simp] theorem tablelessSunrise_mntOk (s : State)
    (hOk : MntOk s.mnt) : MntOk (tablelessSunrise s).mnt := by simp (maxDischargeDepth := 30) +contextual [decideCommit_frame .., latchBand_frame .., setRepeat_frame .., tablelessSunrise, hOk]

@[simp] theorem fullSunrise_msgqOk (acc : Nat) (s : State)
    (hOk : MsgqOk s.msgq) : MsgqOk (fullSunrise acc s).msgq := by simp only [fullSunrise]; (repeat' split) <;> first | with_reducible exact hOk | simp (maxDischargeDepth := 30) +contextual [beginModeChange_frame .., rotateIfDone_frame .., setAcc_frame .., hOk]

@[simp] theorem fullSunrise_mntOk (acc : Nat) (s : State)
    (hOk : MntOk s.mnt) : MntOk (fullSunrise acc s).mnt := by simp only [fullSunrise]; (repeat' split) <;> first | with_reducible exact hOk | simp (maxDischargeDepth := 30) +contextual [beginModeChange_frame .., decideCommit_frame .., latchBand_frame .., rotateIfDone_frame .., setAcc_frame .., hOk]

@[simp] theorem fullSunrise_lctcOk (acc : Nat) (s : State)
    (hOk : LctqOk s.lctc) : LctqOk (fullSunrise acc s).lctc := by simp only [fullSunrise]; (repeat' split) <;> first | with_reducible exact hOk | simp (maxDischargeDepth := 30) +contextual [beginModeChange_frame .., decideCommit_frame .., latchBand_frame .., restOfSunrise_frame .., rotateIfDone_frame .., setAcc_frame .., hOk]

@[simp] theorem firstSunrise_msgqOk (reseeded : Bool) (s : State)
    (hOk : MsgqOk s.msgq) : MsgqOk (firstSunrise reseeded s).msgq := by simp (maxDischargeDepth := 30) +contextual [setRepeat_frame .., firstSunrise, hOk]

@[simp] theorem firstSunrise_mntOk (reseeded : Bool) (s : State)
    (hOk : MntOk s.mnt) : MntOk (firstSunrise reseeded s).mnt := by simp (maxDischargeDepth := 30) +contextual [latchBand_frame .., setRepeat_frame .., firstSunrise, hOk]

@[simp] theorem firstSunrise_lctcOk (reseeded : Bool) (s : State)
    (hOk : LctqOk s.lctc) : LctqOk (firstSunrise reseeded s).lctc := by simp (maxDischargeDepth := 30) +contextual [latchBand_frame .., repeatSunrise_frame .., setRepeat_frame .., firstSunrise, hOk]

@[simp] theorem sunrise_msgqOk (reseeded first : Bool) (s : State)
    (hOk : MsgqOk s.msgq) : MsgqOk (sunrise reseeded first s).msgq := by simp (maxDischargeDepth := 30) +contextual [setAcc_frame .., sunrise, hOk]

@[simp] theorem sunrise_mntOk (reseeded first : Bool) (s : State)
    (hOk : MntOk s.mnt) : MntOk (sunrise reseeded first s).mnt := by simp (maxDischargeDepth := 30) +contextual [setAcc_frame .., sunrise, hOk]

@[simp] theorem sunrise_lctcOk (reseeded first : Bool) (s : State)
    (hOk : LctqOk s.lctc) : LctqOk (sunrise reseeded first s).lctc := by simp (maxDischargeDepth := 30) +contextual [repeatSunrise_frame .., setAcc_frame .., tablelessSunrise_frame .., throttledSunrise_frame .., sunrise, hOk]

@[simp] theorem boundaryMarks_msgqOk (s : State)
    (hOk : MsgqOk s.msgq) : MsgqOk (boundaryMarks s).msgq := by simp (maxDischargeDepth := 30) +contextual [loadPin_frame .., setPeriod_frame .., setReg_frame .., boundaryMarks, hOk]

@[simp] theorem boundaryMarks_mntOk (s : State)
    (hOk : MntOk s.mnt) : MntOk (boundaryMarks s).mnt := by simp (maxDischargeDepth := 30) +contextual [loadPin_frame .., setPeriod_frame .., setReg_frame .., boundaryMarks, hOk]

@[simp] theorem boundaryMarks_lctcOk (s : State)
    (hOk : LctqOk s.lctc) : LctqOk (boundaryMarks s).lctc := by simp (maxDischargeDepth := 30) +contextual [setPeriod_frame .., setReg_frame .., boundaryMarks, hOk]

@[simp] theorem nextBoundary_msgqOk (s : State)
    (hOk : MsgqOk s.msgq) : MsgqOk (nextBoundary s).msgq := by simp (maxDischargeDepth := 30) +contextual [setScan_frame .., nextBoundary, hOk]

@[simp] theorem boundary_msgqOk (s : State)
    (hOk : MsgqOk s.msgq) : MsgqOk (boundary s).msgq := by simp only [boundary]; (repeat' split) <;> first | with_reducible exact hOk | simp (maxDischargeDepth := 30) +contextual [markShown_frame .., storeDuty_frame .., hOk]

@[simp] theorem boundary_mntOk (s : State)
    (hOk : MntOk s.mnt) : MntOk (boundary s).mnt := by simp only [boundary]; (repeat' split) <;> first | with_reducible exact hOk | simp (maxDischargeDepth := 30) +contextual [endModeChange_frame .., markShown_frame .., nextBoundary_frame .., powerRequest_frame .., storeDuty_frame .., hOk]

@[simp] theorem boundary_lctcOk (s : State)
    (hOk : LctqOk s.lctc) : LctqOk (boundary s).lctc := by simp only [boundary]; (repeat' split) <;> first | with_reducible exact hOk | simp (maxDischargeDepth := 30) +contextual [endFrame_frame .., endModeChange_frame .., markShown_frame .., nextBoundary_frame .., powerRequest_frame .., slotTick_frame .., storeDuty_frame .., tickOut_frame .., hOk]

end Sys2Proof.Machine
end

