-- ==== Sys2Proof/Laws/InvAccess.lean ====
section
/-!
SUPPORT. The operations of Access.lean keep the bounds of Inv.
-/
namespace Sys2Proof.Machine

@[simp] theorem effEvtEn_msgqOk (p : Nat) (v : Word) (s : State)
    (hOk : MsgqOk s.msgq) : MsgqOk (effEvtEn p v s).msgq := by simp (maxDischargeDepth := 30) +contextual [setReg_frame .., effEvtEn, hOk]

@[simp] theorem effHead_msgqOk (p o : Nat) (v : Word) (s : State)
    (hOk : MsgqOk s.msgq) : MsgqOk (effHead p o v s).msgq := by simp only [effHead]; (repeat' split) <;> first | with_reducible exact hOk | simp (maxDischargeDepth := 30) +contextual [effOwner_frame .., storeReg_frame .., hOk]

@[simp] theorem effHead_mntOk (p o : Nat) (v : Word) (s : State)
    (hOk : MntOk s.mnt) : MntOk (effHead p o v s).mnt := by simp only [effHead]; (repeat' split) <;> first | with_reducible exact hOk | simp (maxDischargeDepth := 30) +contextual [effEvtEn_frame .., effOwner_frame .., storeReg_frame .., hOk]

@[simp] theorem effHead_lctcOk (p o : Nat) (v : Word) (s : State)
    (hOk : LctqOk s.lctc) : LctqOk (effHead p o v s).lctc := by simp only [effHead]; (repeat' split) <;> first | with_reducible exact hOk | simp (maxDischargeDepth := 30) +contextual [effEvtEn_frame .., effOwner_frame .., storeReg_frame .., hOk]

@[simp] theorem effHead_wcapLevelOk (p o : Nat) (v : Word) (s : State)
    (hOk : WcapOk s.wcapLevel) : WcapOk (effHead p o v s).wcapLevel := by simp only [effHead]; (repeat' split) <;> first | with_reducible exact hOk | simp (maxDischargeDepth := 30) +contextual [effEvtEn_frame .., effOwner_frame .., storeReg_frame .., hOk]

@[simp] theorem effPage01_msgqOk (o : Nat) (v : Word) (s : State)
    (hOk : MsgqOk s.msgq) : MsgqOk (effPage01 o v s).msgq := by simp only [effPage01]; (repeat' split) <;> first | with_reducible exact hOk | simp (maxDischargeDepth := 30) +contextual [storeReg_frame .., hOk]

@[simp] theorem effPage04_msgqOk (o : Nat) (v : Word) (s : State)
    (hOk : MsgqOk s.msgq) : MsgqOk (effPage04 o v s).msgq := by simp (maxDischargeDepth := 30) +contextual [storeReg_frame .., effPage04, hOk]

@[simp] theorem effPage04_mntOk (o : Nat) (v : Word) (s : State)
    (hOk : MntOk s.mnt) : MntOk (effPage04 o v s).mnt := by simp (maxDischargeDepth := 30) +contextual [storeReg_frame .., effPage04, hOk]

@[simp] theorem effPage06_msgqOk (m : Master) (p o : Nat) (v : Word) (s : State)
    (hOk : MsgqOk s.msgq) : MsgqOk (effPage06 m p o v s).msgq := by simp (maxDischargeDepth := 30) +contextual [effDrvreg_frame .., effPsbSel_frame .., storeReg_frame .., effPage06, hOk]

@[simp] theorem effPage06_mntOk (m : Master) (p o : Nat) (v : Word) (s : State)
    (hOk : MntOk s.mnt) : MntOk (effPage06 m p o v s).mnt := by simp (maxDischargeDepth := 30) +contextual [effDrvreg_frame .., effPsbSel_frame .., storeReg_frame .., effPage06, hOk]

@[simp] theorem effPage0C_msgqOk (o : Nat) (v : Word) (s : State)
    (hOk : MsgqOk s.msgq) : MsgqOk (effPage0C o v s).msgq := by simp only [effPage0C]; (repeat' split) <;> first | with_reducible exact hOk | simp (maxDischargeDepth := 30) +contextual [storeReg_frame .., hOk]

@[simp] theorem effPage1E_msgqOk (o : Nat) (v : Word) (s : State)
    (hOk : MsgqOk s.msgq) : MsgqOk (effPage1E o v s).msgq := by simp only [effPage1E]; (repeat' split) <;> first | with_reducible exact hOk | simp (maxDischargeDepth := 30) +contextual [cmxWrite_frame .., eotfWrite_frame .., storeReg_frame .., hOk]

@[simp] theorem effPage1F_msgqOk (m : Master) (o : Nat) (v : Word) (s : State)
    (hOk : MsgqOk s.msgq) : MsgqOk (effPage1F m o v s).msgq := by simp only [effPage1F]; (repeat' split) <;> first | with_reducible exact hOk | simp (maxDischargeDepth := 30) +contextual [effCrcExp_frame .., effLctAudit_frame .., effLctCtl_frame .., storeReg_frame .., hOk]

@[simp] theorem effPage1F_lctcOk (m : Master) (o : Nat) (v : Word) (s : State)
    (hOk : LctqOk s.lctc) : LctqOk (effPage1F m o v s).lctc := by simp only [effPage1F]; (repeat' split) <;> first | with_reducible exact hOk | simp (maxDischargeDepth := 30) +contextual [storeReg_frame .., hOk]

@[simp] theorem effPage21_msgqOk (p o : Nat) (v : Word) (s : State)
    (hOk : MsgqOk s.msgq) : MsgqOk (effPage21 p o v s).msgq := by simp (maxDischargeDepth := 30) +contextual [storeReg_frame .., effPage21, hOk]

@[simp] theorem effPage21_mntOk (p o : Nat) (v : Word) (s : State)
    (hOk : MntOk s.mnt) : MntOk (effPage21 p o v s).mnt := by simp (maxDischargeDepth := 30) +contextual [storeReg_frame .., effPage21, hOk]

@[simp] theorem effPage2B_msgqOk (p o : Nat) (v : Word) (s : State)
    (hOk : MsgqOk s.msgq) : MsgqOk (effPage2B p o v s).msgq := by simp (maxDischargeDepth := 30) +contextual [storeReg_frame .., effPage2B, hOk]

@[simp] theorem effPage2B_mntOk (p o : Nat) (v : Word) (s : State)
    (hOk : MntOk s.mnt) : MntOk (effPage2B p o v s).mnt := by simp (maxDischargeDepth := 30) +contextual [storeReg_frame .., effPage2B, hOk]

@[simp] theorem effMemCtl_msgqOk (sys : MemSys) (v : Word) (s : State)
    (hOk : MsgqOk s.msgq) : MsgqOk (effMemCtl sys v s).msgq := by simp (maxDischargeDepth := 30) +contextual [storeReg_frame .., effMemCtl, hOk]

@[simp] theorem effMemCtl_mntOk (sys : MemSys) (v : Word) (s : State)
    (hOk : MntOk s.mnt) : MntOk (effMemCtl sys v s).mnt := by simp (maxDischargeDepth := 30) +contextual [storeReg_frame .., effMemCtl, hOk]

@[simp] theorem effMemPage_msgqOk (sys : MemSys) (o : Nat) (v : Word) (s : State)
    (hOk : MsgqOk s.msgq) : MsgqOk (effMemPage sys o v s).msgq := by simp only [effMemPage]; (repeat' split) <;> first | with_reducible exact hOk | simp (maxDischargeDepth := 30) +contextual [setMem_frame .., setRegBit_frame .., storeReg_frame .., hOk]

@[simp] theorem effMemPage_mntOk (sys : MemSys) (o : Nat) (v : Word) (s : State)
    (hOk : MntOk s.mnt) : MntOk (effMemPage sys o v s).mnt := by simp only [effMemPage]; (repeat' split) <;> first | with_reducible exact hOk | simp (maxDischargeDepth := 30) +contextual [setMem_frame .., setRegBit_frame .., storeReg_frame .., hOk]

@[simp] theorem effPage34_msgqOk (o : Nat) (v : Word) (s : State)
    (hOk : MsgqOk s.msgq) : MsgqOk (effPage34 o v s).msgq := by simp only [effPage34]; (repeat' split) <;> first | with_reducible exact hOk | simp (maxDischargeDepth := 30) +contextual [effTbShd_frame .., storeReg_frame .., hOk]

@[simp] theorem effPage36_msgqOk (o : Nat) (v : Word) (s : State)
    (hOk : MsgqOk s.msgq) : MsgqOk (effPage36 o v s).msgq := by simp only [effPage36]; (repeat' split) <;> first | with_reducible exact hOk | simp (maxDischargeDepth := 30) +contextual [effThreshold_frame .., storeReg_frame .., hOk]

@[simp] theorem effPage37_msgqOk (o : Nat) (v : Word) (s : State)
    (hOk : MsgqOk s.msgq) : MsgqOk (effPage37 o v s).msgq := by simp only [effPage37]; (repeat' split) <;> first | with_reducible exact hOk | simp (maxDischargeDepth := 30) +contextual [ledWrite_frame .., storeReg_frame .., hOk]

@[simp] theorem effPage37_mntOk (o : Nat) (v : Word) (s : State)
    (hOk : MntOk s.mnt) : MntOk (effPage37 o v s).mnt := by simp only [effPage37]; (repeat' split) <;> first | with_reducible exact hOk | simp (maxDischargeDepth := 30) +contextual [ledWrite_frame .., storeReg_frame .., hOk]

@[simp] theorem effPage39_msgqOk (m : Master) (o : Nat) (v : Word) (s : State)
    (hOk : MsgqOk s.msgq) : MsgqOk (effPage39 m o v s).msgq := by simp only [effPage39]; (repeat' split) <;> first | with_reducible exact hOk | simp (maxDischargeDepth := 30) +contextual [effCtrCmd_frame .., effRelock_frame .., storeReg_frame .., hOk]

@[simp] theorem effPage3A_msgqOk (o : Nat) (v : Word) (s : State)
    (hOk : MsgqOk s.msgq) : MsgqOk (effPage3A o v s).msgq := by simp only [effPage3A]; (repeat' split) <;> first | with_reducible exact hOk | simp (maxDischargeDepth := 30) +contextual [storeReg_frame .., hOk]

@[simp] theorem effPage3A_mntOk (o : Nat) (v : Word) (s : State)
    (hOk : MntOk s.mnt) : MntOk (effPage3A o v s).mnt := by simp only [effPage3A]; (repeat' split) <;> first | with_reducible exact hOk | simp (maxDischargeDepth := 30) +contextual [storeReg_frame .., hOk]

@[simp] theorem effPage_msgqOk (m : Master) (a : Nat) (v : Word) (s : State)
    (hOk : MsgqOk s.msgq) : MsgqOk (effPage m a v s).msgq := by simp only [effPage]; (repeat' split) <;> first | with_reducible exact hOk | simp (maxDischargeDepth := 30) +contextual [effPage00_frame .., effPage03_frame .., effPage20_frame .., effPage26_frame .., effPage28_frame .., effPage29_frame .., effPage2A_frame .., effPage32_frame .., effPage38_frame .., storeReg_frame .., hOk]

@[simp] theorem effPage_mntOk (m : Master) (a : Nat) (v : Word) (s : State)
    (hOk : MntOk s.mnt) : MntOk (effPage m a v s).mnt := by simp only [effPage]; (repeat' split) <;> first | with_reducible exact hOk | simp (maxDischargeDepth := 30) +contextual [effPage00_frame .., effPage01_frame .., effPage03_frame .., effPage0C_frame .., effPage1E_frame .., effPage1F_frame .., effPage20_frame .., effPage26_frame .., effPage28_frame .., effPage29_frame .., effPage2A_frame .., effPage32_frame .., effPage34_frame .., effPage36_frame .., effPage38_frame .., effPage39_frame .., storeReg_frame .., hOk]

@[simp] theorem effPage_lctcOk (m : Master) (a : Nat) (v : Word) (s : State)
    (hOk : LctqOk s.lctc) : LctqOk (effPage m a v s).lctc := by simp only [effPage]; (repeat' split) <;> first | with_reducible exact hOk | simp (maxDischargeDepth := 30) +contextual [effMemPage_frame .., effPage00_frame .., effPage01_frame .., effPage03_frame .., effPage04_frame .., effPage06_frame .., effPage0C_frame .., effPage1E_frame .., effPage20_frame .., effPage21_frame .., effPage26_frame .., effPage28_frame .., effPage29_frame .., effPage2A_frame .., effPage2B_frame .., effPage32_frame .., effPage34_frame .., effPage36_frame .., effPage37_frame .., effPage38_frame .., effPage39_frame .., effPage3A_frame .., storeReg_frame .., hOk]

@[simp] theorem effPage_wcapLevelOk (m : Master) (a : Nat) (v : Word) (s : State)
    (hOk : WcapOk s.wcapLevel) : WcapOk (effPage m a v s).wcapLevel := by simp only [effPage]; (repeat' split) <;> first | with_reducible exact hOk | simp (maxDischargeDepth := 30) +contextual [effMemPage_frame .., effPage00_frame .., effPage01_frame .., effPage03_frame .., effPage04_frame .., effPage06_frame .., effPage0C_frame .., effPage1E_frame .., effPage1F_frame .., effPage20_frame .., effPage21_frame .., effPage26_frame .., effPage28_frame .., effPage29_frame .., effPage2A_frame .., effPage2B_frame .., effPage32_frame .., effPage34_frame .., effPage36_frame .., effPage37_frame .., effPage38_frame .., effPage39_frame .., effPage3A_frame .., storeReg_frame .., hOk]

@[simp] theorem refuseAccess_msgqOk (m : Master) (a reason : Nat) (write : Bool) (op : HeldOp) (s : State)
    (hOk : MsgqOk s.msgq) : MsgqOk (refuseAccess m a reason write op s).msgq := by simp only [refuseAccess]; (repeat' split) <;> first | with_reducible exact hOk | simp (maxDischargeDepth := 30) +contextual [answer_frame .., holdOrBusy_frame .., hOk]

@[simp] theorem writePage_fsOk (m : Master) (a : Nat) (v : Word) (s : State)
    (hOk : Memory.wf s.fs = true) : Memory.wf (writePage m a v s).fs = true := by simp (maxDischargeDepth := 30) +contextual [effPage_frame .., effThmCmd_frame .., noteM0_frame .., refuseAccess_frame .., writePage, hOk]

@[simp] theorem writePage_sceneOk (m : Master) (a : Nat) (v : Word) (s : State)
    (hOk : Memory.wf s.scene = true) : Memory.wf (writePage m a v s).scene = true := by simp (maxDischargeDepth := 30) +contextual [effPage_frame .., effThmCmd_frame .., noteM0_frame .., refuseAccess_frame .., writePage, hOk]

@[simp] theorem writePage_msgqOk (m : Master) (a : Nat) (v : Word) (s : State)
    (hOk : MsgqOk s.msgq) : MsgqOk (writePage m a v s).msgq := by simp (maxDischargeDepth := 30) +contextual [noteM0_frame .., writePage, hOk]

@[simp] theorem writePage_mntOk (m : Master) (a : Nat) (v : Word) (s : State)
    (hOk : MntOk s.mnt) : MntOk (writePage m a v s).mnt := by simp (maxDischargeDepth := 30) +contextual [effThmCmd_frame .., noteM0_frame .., refuseAccess_frame .., writePage, hOk]

@[simp] theorem writePage_lctcOk (m : Master) (a : Nat) (v : Word) (s : State)
    (hOk : LctqOk s.lctc) : LctqOk (writePage m a v s).lctc := by simp (maxDischargeDepth := 30) +contextual [effThmCmd_frame .., noteM0_frame .., refuseAccess_frame .., writePage, hOk]

@[simp] theorem writePage_wcapLevelOk (m : Master) (a : Nat) (v : Word) (s : State)
    (hOk : WcapOk s.wcapLevel) : WcapOk (writePage m a v s).wcapLevel := by simp (maxDischargeDepth := 30) +contextual [effThmCmd_frame .., noteM0_frame .., refuseAccess_frame .., writePage, hOk]

@[simp] theorem writeReg_fsOk (m : Master) (a : Nat) (v : Word) (s : State)
    (hOk : Memory.wf s.fs = true) : Memory.wf (writeReg m a v s).fs = true := by simp only [writeReg]; (repeat' split) <;> first | with_reducible exact hOk | simp (maxDischargeDepth := 30) +contextual [ctxWrite_frame .., noteM0_frame .., refuseAccess_frame .., windowWrite_frame .., hOk]

@[simp] theorem writeReg_sceneOk (m : Master) (a : Nat) (v : Word) (s : State)
    (hOk : Memory.wf s.scene = true) : Memory.wf (writeReg m a v s).scene = true := by simp only [writeReg]; (repeat' split) <;> first | with_reducible exact hOk | simp (maxDischargeDepth := 30) +contextual [ctxWrite_frame .., noteM0_frame .., refuseAccess_frame .., windowWrite_frame .., hOk]

@[simp] theorem writeReg_msgqOk (m : Master) (a : Nat) (v : Word) (s : State)
    (hOk : MsgqOk s.msgq) : MsgqOk (writeReg m a v s).msgq := by simp only [writeReg]; (repeat' split) <;> first | with_reducible exact hOk | simp (maxDischargeDepth := 30) +contextual [noteM0_frame .., hOk]

@[simp] theorem writeReg_mntOk (m : Master) (a : Nat) (v : Word) (s : State)
    (hOk : MntOk s.mnt) : MntOk (writeReg m a v s).mnt := by simp only [writeReg]; (repeat' split) <;> first | with_reducible exact hOk | simp (maxDischargeDepth := 30) +contextual [ctxWrite_frame .., noteM0_frame .., refuseAccess_frame .., windowWrite_frame .., hOk]

@[simp] theorem writeReg_lctcOk (m : Master) (a : Nat) (v : Word) (s : State)
    (hOk : LctqOk s.lctc) : LctqOk (writeReg m a v s).lctc := by simp only [writeReg]; (repeat' split) <;> first | with_reducible exact hOk | simp (maxDischargeDepth := 30) +contextual [ctxWrite_frame .., noteM0_frame .., refuseAccess_frame .., windowWrite_frame .., hOk]

@[simp] theorem writeReg_wcapLevelOk (m : Master) (a : Nat) (v : Word) (s : State)
    (hOk : WcapOk s.wcapLevel) : WcapOk (writeReg m a v s).wcapLevel := by simp only [writeReg]; (repeat' split) <;> first | with_reducible exact hOk | simp (maxDischargeDepth := 30) +contextual [ctxWrite_frame .., noteM0_frame .., refuseAccess_frame .., windowWrite_frame .., hOk]

@[simp] theorem readPage_msgqOk (m : Master) (a : Nat) (s : State)
    (hOk : MsgqOk s.msgq) : MsgqOk (readPage m a s).msgq := by simp (maxDischargeDepth := 30) +contextual [lctReadHi_frame .., readEff_frame .., readPage, hOk]

@[simp] theorem readPage_lctcOk (m : Master) (a : Nat) (s : State)
    (hOk : LctqOk s.lctc) : LctqOk (readPage m a s).lctc := by simp (maxDischargeDepth := 30) +contextual [lctReadHi_frame .., readEff_frame .., readPage, hOk]

@[simp] theorem readPage_mntOk (m : Master) (a : Nat) (s : State)
    (hOk : MntOk s.mnt) : MntOk (readPage m a s).mnt := by simp (maxDischargeDepth := 30) +contextual [lctReadHi_frame .., lctReadLo_frame .., readEff_frame .., readPage, hOk]

@[simp] theorem readReg_msgqOk (m : Master) (a : Nat) (s : State)
    (hOk : MsgqOk s.msgq) : MsgqOk (readReg m a s).msgq := by simp only [readReg]; (repeat' split) <;> first | with_reducible exact hOk | simp (maxDischargeDepth := 30) +contextual [hOk]

@[simp] theorem readReg_lctcOk (m : Master) (a : Nat) (s : State)
    (hOk : LctqOk s.lctc) : LctqOk (readReg m a s).lctc := by simp only [readReg]; (repeat' split) <;> first | with_reducible exact hOk | simp (maxDischargeDepth := 30) +contextual [refuseAccess_frame .., windowRead_frame .., hOk]

@[simp] theorem readReg_mntOk (m : Master) (a : Nat) (s : State)
    (hOk : MntOk s.mnt) : MntOk (readReg m a s).mnt := by simp only [readReg]; (repeat' split) <;> first | with_reducible exact hOk | simp (maxDischargeDepth := 30) +contextual [refuseAccess_frame .., windowRead_frame .., hOk]

end Sys2Proof.Machine
end

