-- ==== Sys2Proof/Laws/InvHostReq.lean ====
section
/-!
SUPPORT. The operations of HostReq.lean keep the bounds of Inv.
-/
set_option linter.unusedSimpArgs false
namespace Sys2Proof.Machine

@[simp] theorem runReq_fsOk (typ : Nat) (r : Req) (eff : RxTxn → State → State) (s : State) (heff : ∀ x0 x1, Memory.wf x1.fs = true → Memory.wf (eff x0 x1).fs = true)
    (hOk : Memory.wf s.fs = true) : Memory.wf (runReq typ r eff s).fs = true := by simp only [runReq]; (repeat' split) <;> first | with_reducible exact hOk | simp (maxDischargeDepth := 30) +contextual [freeReq_frame .., nak_frame .., noteRseq_frame .., takeReq_frame .., violateReq_frame .., hOk, heff]

@[simp] theorem runReq_sceneOk (typ : Nat) (r : Req) (eff : RxTxn → State → State) (s : State) (heff : ∀ x0 x1, Memory.wf x1.scene = true → Memory.wf (eff x0 x1).scene = true)
    (hOk : Memory.wf s.scene = true) : Memory.wf (runReq typ r eff s).scene = true := by simp only [runReq]; (repeat' split) <;> first | with_reducible exact hOk | simp (maxDischargeDepth := 30) +contextual [freeReq_frame .., nak_frame .., noteRseq_frame .., takeReq_frame .., violateReq_frame .., hOk, heff]

@[simp] theorem runReq_msgqOk (typ : Nat) (r : Req) (eff : RxTxn → State → State) (s : State) (heff : ∀ x0 x1, MsgqOk x1.msgq → MsgqOk (eff x0 x1).msgq)
    (hOk : MsgqOk s.msgq) : MsgqOk (runReq typ r eff s).msgq := by simp only [runReq]; (repeat' split) <;> first | with_reducible exact hOk | simp (maxDischargeDepth := 30) +contextual [freeReq_frame .., noteRseq_frame .., takeReq_frame .., hOk, heff]

@[simp] theorem runReq_mntOk (typ : Nat) (r : Req) (eff : RxTxn → State → State) (s : State) (heff : ∀ x0 x1, MntOk x1.mnt → MntOk (eff x0 x1).mnt)
    (hOk : MntOk s.mnt) : MntOk (runReq typ r eff s).mnt := by simp only [runReq]; (repeat' split) <;> first | with_reducible exact hOk | simp (maxDischargeDepth := 30) +contextual [freeReq_frame .., nak_frame .., noteRseq_frame .., takeReq_frame .., violateReq_frame .., hOk, heff]

@[simp] theorem runReq_lctcOk (typ : Nat) (r : Req) (eff : RxTxn → State → State) (s : State) (heff : ∀ x0 x1, LctqOk x1.lctc → LctqOk (eff x0 x1).lctc)
    (hOk : LctqOk s.lctc) : LctqOk (runReq typ r eff s).lctc := by simp only [runReq]; (repeat' split) <;> first | with_reducible exact hOk | simp (maxDischargeDepth := 30) +contextual [freeReq_frame .., nak_frame .., noteRseq_frame .., takeReq_frame .., violateReq_frame .., hOk, heff]

@[simp] theorem runReq_wcapLevelOk (typ : Nat) (r : Req) (eff : RxTxn → State → State) (s : State) (heff : ∀ x0 x1, WcapOk x1.wcapLevel → WcapOk (eff x0 x1).wcapLevel)
    (hOk : WcapOk s.wcapLevel) : WcapOk (runReq typ r eff s).wcapLevel := by simp only [runReq]; (repeat' split) <;> first | with_reducible exact hOk | simp (maxDischargeDepth := 30) +contextual [freeReq_frame .., nak_frame .., noteRseq_frame .., takeReq_frame .., violateReq_frame .., hOk, heff]

@[simp] theorem accessOne_fsOk (q : RxTxn) (isWrite : Bool) (i : Nat) (s : State)
    (hOk : Memory.wf s.fs = true) : Memory.wf (accessOne q isWrite i s).fs = true := by simp (maxDischargeDepth := 30) +contextual [readReg_frame .., accessOne, hOk]

@[simp] theorem accessOne_sceneOk (q : RxTxn) (isWrite : Bool) (i : Nat) (s : State)
    (hOk : Memory.wf s.scene = true) : Memory.wf (accessOne q isWrite i s).scene = true := by simp (maxDischargeDepth := 30) +contextual [readReg_frame .., accessOne, hOk]

@[simp] theorem accessOne_msgqOk (q : RxTxn) (isWrite : Bool) (i : Nat) (s : State)
    (hOk : MsgqOk s.msgq) : MsgqOk (accessOne q isWrite i s).msgq := by simp (maxDischargeDepth := 30) +contextual [accessOne, hOk]

@[simp] theorem accessOne_mntOk (q : RxTxn) (isWrite : Bool) (i : Nat) (s : State)
    (hOk : MntOk s.mnt) : MntOk (accessOne q isWrite i s).mnt := by simp (maxDischargeDepth := 30) +contextual [readReg_frame .., accessOne, hOk]

@[simp] theorem accessOne_lctcOk (q : RxTxn) (isWrite : Bool) (i : Nat) (s : State)
    (hOk : LctqOk s.lctc) : LctqOk (accessOne q isWrite i s).lctc := by simp (maxDischargeDepth := 30) +contextual [accessOne, hOk]

@[simp] theorem accessOne_wcapLevelOk (q : RxTxn) (isWrite : Bool) (i : Nat) (s : State)
    (hOk : WcapOk s.wcapLevel) : WcapOk (accessOne q isWrite i s).wcapLevel := by simp (maxDischargeDepth := 30) +contextual [readReg_frame .., accessOne, hOk]

@[simp] theorem accessAll_fsOk (q : RxTxn) (w : Bool) (n i : Nat) (got : List Byte) (s : State)
    (hOk : Memory.wf s.fs = true) : Memory.wf (accessAll q w n i got s).fs = true := by
  induction n generalizing i got s with
  | zero => simp [endTxn_frame .., freeReq_frame .., holdTxn_frame .., nak_frame .., accessAll, hOk]
  | succ n ih => unfold accessAll; dsimp only; (repeat' split) <;> simp [endTxn_frame .., freeReq_frame .., holdTxn_frame .., nak_frame .., ih, hOk]

@[simp] theorem accessAll_sceneOk (q : RxTxn) (w : Bool) (n i : Nat) (got : List Byte) (s : State)
    (hOk : Memory.wf s.scene = true) : Memory.wf (accessAll q w n i got s).scene = true := by
  induction n generalizing i got s with
  | zero => simp [endTxn_frame .., freeReq_frame .., holdTxn_frame .., nak_frame .., accessAll, hOk]
  | succ n ih => unfold accessAll; dsimp only; (repeat' split) <;> simp [endTxn_frame .., freeReq_frame .., holdTxn_frame .., nak_frame .., ih, hOk]

@[simp] theorem accessAll_msgqOk (q : RxTxn) (w : Bool) (n i : Nat) (got : List Byte) (s : State)
    (hOk : MsgqOk s.msgq) : MsgqOk (accessAll q w n i got s).msgq := by
  induction n generalizing i got s with
  | zero => simp [endTxn_frame .., freeReq_frame .., holdTxn_frame .., accessAll, hOk]
  | succ n ih => unfold accessAll; dsimp only; (repeat' split) <;> simp [endTxn_frame .., freeReq_frame .., holdTxn_frame .., ih, hOk]

@[simp] theorem accessAll_mntOk (q : RxTxn) (w : Bool) (n i : Nat) (got : List Byte) (s : State)
    (hOk : MntOk s.mnt) : MntOk (accessAll q w n i got s).mnt := by
  induction n generalizing i got s with
  | zero => simp [endTxn_frame .., freeReq_frame .., holdTxn_frame .., nak_frame .., accessAll, hOk]
  | succ n ih => unfold accessAll; dsimp only; (repeat' split) <;> simp [endTxn_frame .., freeReq_frame .., holdTxn_frame .., nak_frame .., ih, hOk]

@[simp] theorem accessAll_lctcOk (q : RxTxn) (w : Bool) (n i : Nat) (got : List Byte) (s : State)
    (hOk : LctqOk s.lctc) : LctqOk (accessAll q w n i got s).lctc := by
  induction n generalizing i got s with
  | zero => simp [endTxn_frame .., freeReq_frame .., holdTxn_frame .., nak_frame .., accessAll, hOk]
  | succ n ih => unfold accessAll; dsimp only; (repeat' split) <;> simp [endTxn_frame .., freeReq_frame .., holdTxn_frame .., nak_frame .., ih, hOk]

@[simp] theorem accessAll_wcapLevelOk (q : RxTxn) (w : Bool) (n i : Nat) (got : List Byte) (s : State)
    (hOk : WcapOk s.wcapLevel) : WcapOk (accessAll q w n i got s).wcapLevel := by
  induction n generalizing i got s with
  | zero => simp [endTxn_frame .., freeReq_frame .., holdTxn_frame .., nak_frame .., accessAll, hOk]
  | succ n ih => unfold accessAll; dsimp only; (repeat' split) <;> simp [endTxn_frame .., freeReq_frame .., holdTxn_frame .., nak_frame .., ih, hOk]

@[simp] theorem regsTxn_fsOk (q : RxTxn) (isWrite : Bool) (s : State)
    (hOk : Memory.wf s.fs = true) : Memory.wf (regsTxn q isWrite s).fs = true := by simp (maxDischargeDepth := 30) +contextual [regsTxn, hOk]

@[simp] theorem regsTxn_sceneOk (q : RxTxn) (isWrite : Bool) (s : State)
    (hOk : Memory.wf s.scene = true) : Memory.wf (regsTxn q isWrite s).scene = true := by simp (maxDischargeDepth := 30) +contextual [regsTxn, hOk]

@[simp] theorem regsTxn_msgqOk (q : RxTxn) (isWrite : Bool) (s : State)
    (hOk : MsgqOk s.msgq) : MsgqOk (regsTxn q isWrite s).msgq := by simp (maxDischargeDepth := 30) +contextual [regsTxn, hOk]

@[simp] theorem regsTxn_mntOk (q : RxTxn) (isWrite : Bool) (s : State)
    (hOk : MntOk s.mnt) : MntOk (regsTxn q isWrite s).mnt := by simp (maxDischargeDepth := 30) +contextual [regsTxn, hOk]

@[simp] theorem regsTxn_lctcOk (q : RxTxn) (isWrite : Bool) (s : State)
    (hOk : LctqOk s.lctc) : LctqOk (regsTxn q isWrite s).lctc := by simp (maxDischargeDepth := 30) +contextual [regsTxn, hOk]

@[simp] theorem regsTxn_wcapLevelOk (q : RxTxn) (isWrite : Bool) (s : State)
    (hOk : WcapOk s.wcapLevel) : WcapOk (regsTxn q isWrite s).wcapLevel := by simp (maxDischargeDepth := 30) +contextual [regsTxn, hOk]

@[simp] theorem memTxn_msgqOk (typ : Nat) (q : RxTxn) (sys : MemSys) (off : Nat) (s : State)
    (hOk : MsgqOk s.msgq) : MsgqOk (memTxn typ q sys off s).msgq := by simp (maxDischargeDepth := 30) +contextual [complete_frame .., freeReq_frame .., memTxn, hOk]

@[simp] theorem memTxn_mntOk (typ : Nat) (q : RxTxn) (sys : MemSys) (off : Nat) (s : State)
    (hOk : MntOk s.mnt) : MntOk (memTxn typ q sys off s).mnt := by simp (maxDischargeDepth := 30) +contextual [complete_frame .., freeReq_frame .., nak_frame .., memTxn, hOk]

@[simp] theorem denyTxn_msgqOk (typ reason : Nat) (q : RxTxn) (s : State)
    (hOk : MsgqOk s.msgq) : MsgqOk (denyTxn typ reason q s).msgq := by simp (maxDischargeDepth := 30) +contextual [freeReq_frame .., denyTxn, hOk]

@[simp] theorem effRd_fsOk (q : RxTxn) (s : State)
    (hOk : Memory.wf s.fs = true) : Memory.wf (effRd q s).fs = true := by simp only [effRd]; (repeat' split) <;> first | with_reducible exact hOk | simp (maxDischargeDepth := 30) +contextual [denyTxn_frame .., memTxn_frame .., hOk]

@[simp] theorem effRd_sceneOk (q : RxTxn) (s : State)
    (hOk : Memory.wf s.scene = true) : Memory.wf (effRd q s).scene = true := by simp only [effRd]; (repeat' split) <;> first | with_reducible exact hOk | simp (maxDischargeDepth := 30) +contextual [denyTxn_frame .., memTxn_frame .., hOk]

@[simp] theorem effRd_msgqOk (q : RxTxn) (s : State)
    (hOk : MsgqOk s.msgq) : MsgqOk (effRd q s).msgq := by simp only [effRd]; (repeat' split) <;> first | with_reducible exact hOk | simp (maxDischargeDepth := 30) +contextual [hOk]

@[simp] theorem effRd_mntOk (q : RxTxn) (s : State)
    (hOk : MntOk s.mnt) : MntOk (effRd q s).mnt := by simp only [effRd]; (repeat' split) <;> first | with_reducible exact hOk | simp (maxDischargeDepth := 30) +contextual [denyTxn_frame .., hOk]

@[simp] theorem effRd_lctcOk (q : RxTxn) (s : State)
    (hOk : LctqOk s.lctc) : LctqOk (effRd q s).lctc := by simp only [effRd]; (repeat' split) <;> first | with_reducible exact hOk | simp (maxDischargeDepth := 30) +contextual [denyTxn_frame .., memTxn_frame .., hOk]

@[simp] theorem effRd_wcapLevelOk (q : RxTxn) (s : State)
    (hOk : WcapOk s.wcapLevel) : WcapOk (effRd q s).wcapLevel := by simp only [effRd]; (repeat' split) <;> first | with_reducible exact hOk | simp (maxDischargeDepth := 30) +contextual [denyTxn_frame .., memTxn_frame .., hOk]

@[simp] theorem effWr_fsOk (q : RxTxn) (s : State)
    (hOk : Memory.wf s.fs = true) : Memory.wf (effWr q s).fs = true := by simp only [effWr]; (repeat' split) <;> first | with_reducible exact hOk | simp (maxDischargeDepth := 30) +contextual [denyTxn_frame .., freeReq_frame .., hOk]

@[simp] theorem effWr_sceneOk (q : RxTxn) (s : State)
    (hOk : Memory.wf s.scene = true) : Memory.wf (effWr q s).scene = true := by simp only [effWr]; (repeat' split) <;> first | with_reducible exact hOk | simp (maxDischargeDepth := 30) +contextual [denyTxn_frame .., freeReq_frame .., hOk]

@[simp] theorem effWr_msgqOk (q : RxTxn) (s : State)
    (hOk : MsgqOk s.msgq) : MsgqOk (effWr q s).msgq := by simp only [effWr]; (repeat' split) <;> first | with_reducible exact hOk | simp (maxDischargeDepth := 30) +contextual [freeReq_frame .., hOk]

@[simp] theorem effWr_mntOk (q : RxTxn) (s : State)
    (hOk : MntOk s.mnt) : MntOk (effWr q s).mnt := by simp only [effWr]; (repeat' split) <;> first | with_reducible exact hOk | simp (maxDischargeDepth := 30) +contextual [denyTxn_frame .., freeReq_frame .., hOk]

@[simp] theorem effWr_lctcOk (q : RxTxn) (s : State)
    (hOk : LctqOk s.lctc) : LctqOk (effWr q s).lctc := by simp only [effWr]; (repeat' split) <;> first | with_reducible exact hOk | simp (maxDischargeDepth := 30) +contextual [capWrite_frame .., denyTxn_frame .., freeReq_frame .., hOk]

@[simp] theorem effWr_wcapLevelOk (q : RxTxn) (s : State)
    (hOk : WcapOk s.wcapLevel) : WcapOk (effWr q s).wcapLevel := by simp only [effWr]; (repeat' split) <;> first | with_reducible exact hOk | simp (maxDischargeDepth := 30) +contextual [denyTxn_frame .., freeReq_frame .., hOk]

@[simp] theorem effBput_msgqOk (q : RxTxn) (s : State)
    (hOk : MsgqOk s.msgq) : MsgqOk (effBput q s).msgq := by simp (maxDischargeDepth := 30) +contextual [bputAccept_frame .., freeReq_frame .., effBput, hOk]

@[simp] theorem effBget_msgqOk (q : RxTxn) (s : State)
    (hOk : MsgqOk s.msgq) : MsgqOk (effBget q s).msgq := by simp (maxDischargeDepth := 30) +contextual [freeReq_frame .., effBget, hOk]

@[simp] theorem effBget_mntOk (q : RxTxn) (s : State)
    (hOk : MntOk s.mnt) : MntOk (effBget q s).mnt := by simp (maxDischargeDepth := 30) +contextual [freeReq_frame .., nak_frame .., effBget, hOk]

@[simp] theorem resumeTxn_fsOk (r : Req) (isWrite : Bool) (i : Nat) (got : List Byte) (s : State)
    (hOk : Memory.wf s.fs = true) : Memory.wf (resumeTxn r isWrite i got s).fs = true := by simp only [resumeTxn]; (repeat' split) <;> first | with_reducible exact hOk | simp (maxDischargeDepth := 30) +contextual [freeReq_frame .., nak_frame .., takeReq_frame .., hOk]

@[simp] theorem resumeTxn_sceneOk (r : Req) (isWrite : Bool) (i : Nat) (got : List Byte) (s : State)
    (hOk : Memory.wf s.scene = true) : Memory.wf (resumeTxn r isWrite i got s).scene = true := by simp only [resumeTxn]; (repeat' split) <;> first | with_reducible exact hOk | simp (maxDischargeDepth := 30) +contextual [freeReq_frame .., nak_frame .., takeReq_frame .., hOk]

@[simp] theorem resumeTxn_msgqOk (r : Req) (isWrite : Bool) (i : Nat) (got : List Byte) (s : State)
    (hOk : MsgqOk s.msgq) : MsgqOk (resumeTxn r isWrite i got s).msgq := by unfold resumeTxn; (repeat' split) <;> first | with_reducible exact hOk | simp (maxDischargeDepth := 30) +contextual [freeReq_frame .., takeReq_frame .., hOk]

@[simp] theorem resumeTxn_mntOk (r : Req) (isWrite : Bool) (i : Nat) (got : List Byte) (s : State)
    (hOk : MntOk s.mnt) : MntOk (resumeTxn r isWrite i got s).mnt := by simp only [resumeTxn]; (repeat' split) <;> first | with_reducible exact hOk | simp (maxDischargeDepth := 30) +contextual [freeReq_frame .., nak_frame .., takeReq_frame .., hOk]

@[simp] theorem resumeTxn_lctcOk (r : Req) (isWrite : Bool) (i : Nat) (got : List Byte) (s : State)
    (hOk : LctqOk s.lctc) : LctqOk (resumeTxn r isWrite i got s).lctc := by simp only [resumeTxn]; (repeat' split) <;> first | with_reducible exact hOk | simp (maxDischargeDepth := 30) +contextual [freeReq_frame .., nak_frame .., takeReq_frame .., hOk]

@[simp] theorem resumeTxn_wcapLevelOk (r : Req) (isWrite : Bool) (i : Nat) (got : List Byte) (s : State)
    (hOk : WcapOk s.wcapLevel) : WcapOk (resumeTxn r isWrite i got s).wcapLevel := by simp only [resumeTxn]; (repeat' split) <;> first | with_reducible exact hOk | simp (maxDischargeDepth := 30) +contextual [freeReq_frame .., nak_frame .., takeReq_frame .., hOk]

@[simp] theorem replayHeld_fsOk (h : Held) (s : State)
    (hOk : Memory.wf s.fs = true) : Memory.wf (replayHeld h s).fs = true := by simp only [replayHeld]; (repeat' split) <;> first | with_reducible exact hOk | simp (maxDischargeDepth := 30) +contextual [holdAccess_frame .., readReg_frame .., hOk]

@[simp] theorem replayHeld_sceneOk (h : Held) (s : State)
    (hOk : Memory.wf s.scene = true) : Memory.wf (replayHeld h s).scene = true := by simp only [replayHeld]; (repeat' split) <;> first | with_reducible exact hOk | simp (maxDischargeDepth := 30) +contextual [holdAccess_frame .., readReg_frame .., hOk]

@[simp] theorem replayHeld_msgqOk (h : Held) (s : State)
    (hOk : MsgqOk s.msgq) : MsgqOk (replayHeld h s).msgq := by simp only [replayHeld]; (repeat' split) <;> first | with_reducible exact hOk | simp (maxDischargeDepth := 30) +contextual [holdAccess_frame .., hOk]

@[simp] theorem replayHeld_mntOk (h : Held) (s : State)
    (hOk : MntOk s.mnt) : MntOk (replayHeld h s).mnt := by simp only [replayHeld]; (repeat' split) <;> first | with_reducible exact hOk | simp (maxDischargeDepth := 30) +contextual [holdAccess_frame .., readReg_frame .., hOk]

@[simp] theorem replayHeld_lctcOk (h : Held) (s : State)
    (hOk : LctqOk s.lctc) : LctqOk (replayHeld h s).lctc := by simp only [replayHeld]; (repeat' split) <;> first | with_reducible exact hOk | simp (maxDischargeDepth := 30) +contextual [holdAccess_frame .., hOk]

@[simp] theorem replayHeld_wcapLevelOk (h : Held) (s : State)
    (hOk : WcapOk s.wcapLevel) : WcapOk (replayHeld h s).wcapLevel := by simp only [replayHeld]; (repeat' split) <;> first | with_reducible exact hOk | simp (maxDischargeDepth := 30) +contextual [holdAccess_frame .., readReg_frame .., hOk]

@[simp] theorem replayAllHeld_fsOk (s : State)
    (hOk : Memory.wf s.fs = true) : Memory.wf (replayAllHeld s).fs = true := by simp (maxDischargeDepth := 30) +contextual [replayAllHeld, hOk]

@[simp] theorem replayAllHeld_sceneOk (s : State)
    (hOk : Memory.wf s.scene = true) : Memory.wf (replayAllHeld s).scene = true := by simp (maxDischargeDepth := 30) +contextual [replayAllHeld, hOk]

@[simp] theorem replayAllHeld_msgqOk (s : State)
    (hOk : MsgqOk s.msgq) : MsgqOk (replayAllHeld s).msgq := by simp (maxDischargeDepth := 30) +contextual [replayAllHeld, hOk]

@[simp] theorem replayAllHeld_mntOk (s : State)
    (hOk : MntOk s.mnt) : MntOk (replayAllHeld s).mnt := by simp (maxDischargeDepth := 30) +contextual [replayAllHeld, hOk]

@[simp] theorem replayAllHeld_lctcOk (s : State)
    (hOk : LctqOk s.lctc) : LctqOk (replayAllHeld s).lctc := by simp (maxDischargeDepth := 30) +contextual [replayAllHeld, hOk]

@[simp] theorem replayAllHeld_wcapLevelOk (s : State)
    (hOk : WcapOk s.wcapLevel) : WcapOk (replayAllHeld s).wcapLevel := by simp (maxDischargeDepth := 30) +contextual [replayAllHeld, hOk]

@[simp] theorem recordFlush_fsOk (s : State)
    (hOk : Memory.wf s.fs = true) : Memory.wf (recordFlush s).fs = true := by simp (maxDischargeDepth := 30) +contextual [ozFlush_frame .., reportStore_frame .., recordFlush, hOk]

@[simp] theorem recordFlush_sceneOk (s : State)
    (hOk : Memory.wf s.scene = true) : Memory.wf (recordFlush s).scene = true := by simp (maxDischargeDepth := 30) +contextual [ozFlush_frame .., reportStore_frame .., recordFlush, hOk]

@[simp] theorem recordFlush_msgqOk (s : State)
    (hOk : MsgqOk s.msgq) : MsgqOk (recordFlush s).msgq := by simp (maxDischargeDepth := 30) +contextual [ozFlush_frame .., recordFlush, hOk]

@[simp] theorem recordFlush_mntOk (s : State)
    (hOk : MntOk s.mnt) : MntOk (recordFlush s).mnt := by simp (maxDischargeDepth := 30) +contextual [ozFlush_frame .., reportStore_frame .., recordFlush, hOk]

@[simp] theorem recordFlush_lctcOk (s : State)
    (hOk : LctqOk s.lctc) : LctqOk (recordFlush s).lctc := by simp (maxDischargeDepth := 30) +contextual [ozFlush_frame .., reportStore_frame .., recordFlush, hOk]

@[simp] theorem recordFlush_wcapLevelOk (s : State)
    (hOk : WcapOk s.wcapLevel) : WcapOk (recordFlush s).wcapLevel := by simp (maxDischargeDepth := 30) +contextual [ozFlush_frame .., reportStore_frame .., recordFlush, hOk]

end Sys2Proof.Machine
end

