-- ==== Sys2Proof/Laws/InvBoot.lean ====
section
/-!
SUPPORT. The operations of Boot.lean keep the bounds of Inv.
-/
namespace Sys2Proof.Machine

@[simp] theorem resolveTwin_msgqOk (page magic part block : Nat) (s : State)
    (hOk : MsgqOk s.msgq) : MsgqOk (resolveTwin page magic part block s).msgq := by simp only [resolveTwin]; (repeat' split) <;> first | with_reducible exact hOk | simp (maxDischargeDepth := 30) +contextual [ozLog_frame .., ozRecord_frame .., hOk]

@[simp] theorem ringTwin_msgqOk (page slots key part block : Nat) (s : State)
    (hOk : MsgqOk s.msgq) : MsgqOk (ringTwin page slots key part block s).msgq := by simp only [ringTwin]; (repeat' split) <;> first | with_reducible exact hOk | simp (maxDischargeDepth := 30) +contextual [hOk]

@[simp] theorem resolveCfg_msgqOk (s : State)
    (hOk : MsgqOk s.msgq) : MsgqOk (resolveCfg s).msgq := by simp only [resolveCfg]; (repeat' split) <;> first | with_reducible exact hOk | simp (maxDischargeDepth := 30) +contextual [ozLog_frame .., ozRecord_frame .., hOk]

@[simp] theorem touchScan_msgqOk (s : State)
    (hOk : MsgqOk s.msgq) : MsgqOk (touchScan s).msgq := by simp (maxDischargeDepth := 30) +contextual [touchScan, hOk]

@[simp] theorem scanLives_msgqOk (s : State)
    (hOk : MsgqOk s.msgq) : MsgqOk (scanLives s).msgq := by simp (maxDischargeDepth := 30) +contextual [scanLives, hOk]

@[simp] theorem scanCounters_msgqOk (s : State)
    (hOk : MsgqOk s.msgq) : MsgqOk (scanCounters s).msgq := by simp (maxDischargeDepth := 30) +contextual [scanCounters, hOk]

@[simp] theorem owedRecords_msgqOk (s : State)
    (hOk : MsgqOk s.msgq) : MsgqOk (owedRecords s).msgq := by simp (maxDischargeDepth := 30) +contextual [ozLog_frame .., owedRecords, hOk]

@[simp] theorem scanHead_msgqOk (s : State)
    (hOk : MsgqOk s.msgq) : MsgqOk (scanHead s).msgq := by simp (maxDischargeDepth := 30) +contextual [loadKeys_frame .., loadLogHead_frame .., loadP1_frame .., loadTable_frame .., scanHead, hOk]

@[simp] theorem scanCopies_msgqOk (s : State)
    (hOk : MsgqOk s.msgq) : MsgqOk (scanCopies s).msgq := by simp (maxDischargeDepth := 30) +contextual [scanCopies, hOk]

@[simp] theorem endScan_msgqOk (found : Bool) (detail : Nat) (bootOk : Bool) (s : State)
    (hOk : MsgqOk s.msgq) : MsgqOk (endScan found detail bootOk s).msgq := by simp (maxDischargeDepth := 30) +contextual [endScan, hOk]

@[simp] theorem bootScan_msgqOk (s : State)
    (hOk : MsgqOk s.msgq) : MsgqOk (bootScan s).msgq := by simp (maxDischargeDepth := 30) +contextual [bootScan, hOk]

@[simp] theorem chooseSlot_msgqOk (s : State)
    (hOk : MsgqOk s.msgq) : MsgqOk (chooseSlot s).msgq := by simp (maxDischargeDepth := 30) +contextual [recordChoice_frame .., takeSlot_frame .., chooseSlot, hOk]

@[simp] theorem applyPair_fsOk (q : Nat × Word) (s : State)
    (hOk : Memory.wf s.fs = true) : Memory.wf (applyPair q s).fs = true := by simp (maxDischargeDepth := 30) +contextual [bootStore_frame .., applyPair, hOk]

@[simp] theorem applyPair_sceneOk (q : Nat × Word) (s : State)
    (hOk : Memory.wf s.scene = true) : Memory.wf (applyPair q s).scene = true := by simp (maxDischargeDepth := 30) +contextual [bootStore_frame .., applyPair, hOk]

@[simp] theorem applyPair_msgqOk (q : Nat × Word) (s : State)
    (hOk : MsgqOk s.msgq) : MsgqOk (applyPair q s).msgq := by simp (maxDischargeDepth := 30) +contextual [bootStore_frame .., applyPair, hOk]

@[simp] theorem applyPair_mntOk (q : Nat × Word) (s : State)
    (hOk : MntOk s.mnt) : MntOk (applyPair q s).mnt := by simp (maxDischargeDepth := 30) +contextual [bootStore_frame .., applyPair, hOk]

@[simp] theorem applyPair_lctcOk (q : Nat × Word) (s : State)
    (hOk : LctqOk s.lctc) : LctqOk (applyPair q s).lctc := by simp (maxDischargeDepth := 30) +contextual [bootStore_frame .., applyPair, hOk]

@[simp] theorem applyPair_wcapLevelOk (q : Nat × Word) (s : State)
    (hOk : WcapOk s.wcapLevel) : WcapOk (applyPair q s).wcapLevel := by simp (maxDischargeDepth := 30) +contextual [bootStore_frame .., applyPair, hOk]

@[simp] theorem applyEntry_fsOk (s : State) (e : DWord)
    (hOk : Memory.wf s.fs = true) : Memory.wf (applyEntry s e).fs = true := by simp only [applyEntry]; (repeat' split) <;> first | with_reducible exact hOk | simp (maxDischargeDepth := 30) +contextual [setRegN_frame .., hOk]

@[simp] theorem applyEntry_sceneOk (s : State) (e : DWord)
    (hOk : Memory.wf s.scene = true) : Memory.wf (applyEntry s e).scene = true := by simp only [applyEntry]; (repeat' split) <;> first | with_reducible exact hOk | simp (maxDischargeDepth := 30) +contextual [setRegN_frame .., hOk]

@[simp] theorem applyEntry_msgqOk (s : State) (e : DWord)
    (hOk : MsgqOk s.msgq) : MsgqOk (applyEntry s e).msgq := by simp only [applyEntry]; (repeat' split) <;> first | with_reducible exact hOk | simp (maxDischargeDepth := 30) +contextual [setRegN_frame .., hOk]

@[simp] theorem applyEntry_mntOk (s : State) (e : DWord)
    (hOk : MntOk s.mnt) : MntOk (applyEntry s e).mnt := by simp only [applyEntry]; (repeat' split) <;> first | with_reducible exact hOk | simp (maxDischargeDepth := 30) +contextual [setRegN_frame .., hOk]

@[simp] theorem applyEntry_lctcOk (s : State) (e : DWord)
    (hOk : LctqOk s.lctc) : LctqOk (applyEntry s e).lctc := by simp only [applyEntry]; (repeat' split) <;> first | with_reducible exact hOk | simp (maxDischargeDepth := 30) +contextual [setRegN_frame .., hOk]

@[simp] theorem applyEntry_wcapLevelOk (s : State) (e : DWord)
    (hOk : WcapOk s.wcapLevel) : WcapOk (applyEntry s e).wcapLevel := by simp only [applyEntry]; (repeat' split) <;> first | with_reducible exact hOk | simp (maxDischargeDepth := 30) +contextual [setRegN_frame .., hOk]

@[simp] theorem applyConfig_fsOk (s : State)
    (hOk : Memory.wf s.fs = true) : Memory.wf (applyConfig s).fs = true := by simp (maxDischargeDepth := 30) +contextual [setRegN_frame .., applyConfig, hOk]

@[simp] theorem applyConfig_sceneOk (s : State)
    (hOk : Memory.wf s.scene = true) : Memory.wf (applyConfig s).scene = true := by simp (maxDischargeDepth := 30) +contextual [setRegN_frame .., applyConfig, hOk]

@[simp] theorem applyConfig_msgqOk (s : State)
    (hOk : MsgqOk s.msgq) : MsgqOk (applyConfig s).msgq := by simp (maxDischargeDepth := 30) +contextual [setRegN_frame .., applyConfig, hOk]

@[simp] theorem applyConfig_mntOk (s : State)
    (hOk : MntOk s.mnt) : MntOk (applyConfig s).mnt := by simp (maxDischargeDepth := 30) +contextual [setRegN_frame .., applyConfig, hOk]

@[simp] theorem applyConfig_lctcOk (s : State)
    (hOk : LctqOk s.lctc) : LctqOk (applyConfig s).lctc := by simp (maxDischargeDepth := 30) +contextual [setRegN_frame .., applyConfig, hOk]

@[simp] theorem applyConfig_wcapLevelOk (s : State)
    (hOk : WcapOk s.wcapLevel) : WcapOk (applyConfig s).wcapLevel := by simp (maxDischargeDepth := 30) +contextual [setRegN_frame .., applyConfig, hOk]

@[simp] theorem autoLct_lctcOk (s : State)
    (hOk : LctqOk s.lctc) : LctqOk (autoLct s).lctc := by simp only [autoLct]; (repeat' split) <;> first | with_reducible exact hOk | simp (maxDischargeDepth := 30) +contextual [setReg_frame .., hOk]

@[simp] theorem carryOut_msgqOk (s : State)
    (hOk : MsgqOk s.msgq) : MsgqOk (carryOut s).msgq := by simp only [carryOut]; (repeat' split) <;> first | with_reducible exact hOk | simp (maxDischargeDepth := 30) +contextual [setPwr_frame .., hOk]

@[simp] theorem bootSteps_fsOk (s : State)
    (hOk : Memory.wf s.fs = true) : Memory.wf (bootSteps s).fs = true := by simp (maxDischargeDepth := 30) +contextual [applyFallback_frame .., applyLedset_frame .., applyRepairs_frame .., assignShadows_frame .., auditRestart_frame .., autoLct_frame .., carryOut_frame .., chooseSlot_frame .., loadNrr_frame .., openHost_frame .., startScan_frame .., bootSteps, hOk]

@[simp] theorem bootSteps_sceneOk (s : State)
    (hOk : Memory.wf s.scene = true) : Memory.wf (bootSteps s).scene = true := by simp (maxDischargeDepth := 30) +contextual [applyFallback_frame .., applyLedset_frame .., applyRepairs_frame .., assignShadows_frame .., auditRestart_frame .., autoLct_frame .., carryOut_frame .., chooseSlot_frame .., loadNrr_frame .., openHost_frame .., startScan_frame .., bootSteps, hOk]

@[simp] theorem bootSteps_msgqOk (s : State)
    (hOk : MsgqOk s.msgq) : MsgqOk (bootSteps s).msgq := by simp (maxDischargeDepth := 30) +contextual [applyFallback_frame .., applyLedset_frame .., applyRepairs_frame .., assignShadows_frame .., auditRestart_frame .., autoLct_frame .., loadNrr_frame .., openHost_frame .., startScan_frame .., bootSteps, hOk]

@[simp] theorem bootSteps_mntOk (s : State)
    (hOk : MntOk s.mnt) : MntOk (bootSteps s).mnt := by simp (maxDischargeDepth := 30) +contextual [applyFallback_frame .., applyLedset_frame .., applyRepairs_frame .., assignShadows_frame .., auditRestart_frame .., autoLct_frame .., carryOut_frame .., chooseSlot_frame .., loadNrr_frame .., openHost_frame .., startScan_frame .., bootSteps, hOk]

@[simp] theorem bootSteps_lctcOk (s : State)
    (hOk : LctqOk s.lctc) : LctqOk (bootSteps s).lctc := by simp (maxDischargeDepth := 30) +contextual [applyFallback_frame .., applyLedset_frame .., applyRepairs_frame .., assignShadows_frame .., carryOut_frame .., chooseSlot_frame .., loadNrr_frame .., openHost_frame .., startScan_frame .., bootSteps, hOk]

@[simp] theorem bootSteps_wcapLevelOk (s : State)
    (hOk : WcapOk s.wcapLevel) : WcapOk (bootSteps s).wcapLevel := by simp (maxDischargeDepth := 30) +contextual [applyFallback_frame .., applyLedset_frame .., applyRepairs_frame .., assignShadows_frame .., auditRestart_frame .., autoLct_frame .., carryOut_frame .., chooseSlot_frame .., loadNrr_frame .., openHost_frame .., startScan_frame .., bootSteps, hOk]

end Sys2Proof.Machine
end

