-- ==== Sys2Proof/Laws/InvPorts.lean ====
section
/-!
SUPPORT. The operations of Ports.lean keep the bounds of Inv.
-/
namespace Sys2Proof.Machine

@[simp] theorem nightAddressed_fsOk (s : State)
    (hOk : Memory.wf s.fs = true) : Memory.wf (nightAddressed s).fs = true := by simp (maxDischargeDepth := 30) +contextual [nightAddressed, hOk]

@[simp] theorem nightAddressed_sceneOk (s : State)
    (hOk : Memory.wf s.scene = true) : Memory.wf (nightAddressed s).scene = true := by simp (maxDischargeDepth := 30) +contextual [nightAddressed, hOk]

@[simp] theorem nightAddressed_msgqOk (s : State)
    (hOk : MsgqOk s.msgq) : MsgqOk (nightAddressed s).msgq := by simp (maxDischargeDepth := 30) +contextual [nightAddressed, hOk]

@[simp] theorem nightAddressed_mntOk (s : State)
    (hOk : MntOk s.mnt) : MntOk (nightAddressed s).mnt := by simp (maxDischargeDepth := 30) +contextual [nightAddressed, hOk]

@[simp] theorem nightAddressed_lctcOk (s : State)
    (hOk : LctqOk s.lctc) : LctqOk (nightAddressed s).lctc := by simp (maxDischargeDepth := 30) +contextual [nightAddressed, hOk]

@[simp] theorem nightAddressed_wcapLevelOk (s : State)
    (hOk : WcapOk s.wcapLevel) : WcapOk (nightAddressed s).wcapLevel := by simp (maxDischargeDepth := 30) +contextual [nightAddressed, hOk]

@[simp] theorem wakeByPort_fsOk (a : Nat) (s : State)
    (hOk : Memory.wf s.fs = true) : Memory.wf (wakeByPort a s).fs = true := by simp (maxDischargeDepth := 30) +contextual [wakeByPort, hOk]

@[simp] theorem wakeByPort_sceneOk (a : Nat) (s : State)
    (hOk : Memory.wf s.scene = true) : Memory.wf (wakeByPort a s).scene = true := by simp (maxDischargeDepth := 30) +contextual [wakeByPort, hOk]

@[simp] theorem wakeByPort_msgqOk (a : Nat) (s : State)
    (hOk : MsgqOk s.msgq) : MsgqOk (wakeByPort a s).msgq := by simp (maxDischargeDepth := 30) +contextual [wakeByPort, hOk]

@[simp] theorem wakeByPort_mntOk (a : Nat) (s : State)
    (hOk : MntOk s.mnt) : MntOk (wakeByPort a s).mnt := by simp (maxDischargeDepth := 30) +contextual [wakeByPort, hOk]

@[simp] theorem wakeByPort_lctcOk (a : Nat) (s : State)
    (hOk : LctqOk s.lctc) : LctqOk (wakeByPort a s).lctc := by simp (maxDischargeDepth := 30) +contextual [wakeByPort, hOk]

@[simp] theorem wakeByPort_wcapLevelOk (a : Nat) (s : State)
    (hOk : WcapOk s.wcapLevel) : WcapOk (wakeByPort a s).wcapLevel := by simp (maxDischargeDepth := 30) +contextual [wakeByPort, hOk]

@[simp] theorem smbusWrite_fsOk (cmd : Byte) (a : Nat) (v : Word) (pec : Option Bool) (s : State)
    (hOk : Memory.wf s.fs = true) : Memory.wf (smbusWrite cmd a v pec s).fs = true := by simp (maxDischargeDepth := 30) +contextual [answer_frame .., noteM0_frame .., smbusWrite, hOk]

@[simp] theorem smbusWrite_sceneOk (cmd : Byte) (a : Nat) (v : Word) (pec : Option Bool) (s : State)
    (hOk : Memory.wf s.scene = true) : Memory.wf (smbusWrite cmd a v pec s).scene = true := by simp (maxDischargeDepth := 30) +contextual [answer_frame .., noteM0_frame .., smbusWrite, hOk]

@[simp] theorem smbusWrite_msgqOk (cmd : Byte) (a : Nat) (v : Word) (pec : Option Bool) (s : State)
    (hOk : MsgqOk s.msgq) : MsgqOk (smbusWrite cmd a v pec s).msgq := by simp (maxDischargeDepth := 30) +contextual [answer_frame .., noteM0_frame .., smbusWrite, hOk]

@[simp] theorem smbusWrite_mntOk (cmd : Byte) (a : Nat) (v : Word) (pec : Option Bool) (s : State)
    (hOk : MntOk s.mnt) : MntOk (smbusWrite cmd a v pec s).mnt := by simp (maxDischargeDepth := 30) +contextual [answer_frame .., noteM0_frame .., smbusWrite, hOk]

@[simp] theorem smbusWrite_lctcOk (cmd : Byte) (a : Nat) (v : Word) (pec : Option Bool) (s : State)
    (hOk : LctqOk s.lctc) : LctqOk (smbusWrite cmd a v pec s).lctc := by simp (maxDischargeDepth := 30) +contextual [answer_frame .., noteM0_frame .., smbusWrite, hOk]

@[simp] theorem smbusWrite_wcapLevelOk (cmd : Byte) (a : Nat) (v : Word) (pec : Option Bool) (s : State)
    (hOk : WcapOk s.wcapLevel) : WcapOk (smbusWrite cmd a v pec s).wcapLevel := by simp (maxDischargeDepth := 30) +contextual [answer_frame .., noteM0_frame .., smbusWrite, hOk]

@[simp] theorem smbusRead_fsOk (cmd : Byte) (a : Nat) (pec : Option Bool) (s : State)
    (hOk : Memory.wf s.fs = true) : Memory.wf (smbusRead cmd a pec s).fs = true := by simp (maxDischargeDepth := 30) +contextual [answer_frame .., readReg_frame .., smbusRead, hOk]

@[simp] theorem smbusRead_sceneOk (cmd : Byte) (a : Nat) (pec : Option Bool) (s : State)
    (hOk : Memory.wf s.scene = true) : Memory.wf (smbusRead cmd a pec s).scene = true := by simp (maxDischargeDepth := 30) +contextual [answer_frame .., readReg_frame .., smbusRead, hOk]

@[simp] theorem smbusRead_msgqOk (cmd : Byte) (a : Nat) (pec : Option Bool) (s : State)
    (hOk : MsgqOk s.msgq) : MsgqOk (smbusRead cmd a pec s).msgq := by simp (maxDischargeDepth := 30) +contextual [answer_frame .., smbusRead, hOk]

@[simp] theorem smbusRead_mntOk (cmd : Byte) (a : Nat) (pec : Option Bool) (s : State)
    (hOk : MntOk s.mnt) : MntOk (smbusRead cmd a pec s).mnt := by simp (maxDischargeDepth := 30) +contextual [answer_frame .., readReg_frame .., smbusRead, hOk]

@[simp] theorem smbusRead_lctcOk (cmd : Byte) (a : Nat) (pec : Option Bool) (s : State)
    (hOk : LctqOk s.lctc) : LctqOk (smbusRead cmd a pec s).lctc := by simp (maxDischargeDepth := 30) +contextual [answer_frame .., smbusRead, hOk]

@[simp] theorem smbusRead_wcapLevelOk (cmd : Byte) (a : Nat) (pec : Option Bool) (s : State)
    (hOk : WcapOk s.wcapLevel) : WcapOk (smbusRead cmd a pec s).wcapLevel := by simp (maxDischargeDepth := 30) +contextual [answer_frame .., readReg_frame .., smbusRead, hOk]

end Sys2Proof.Machine
end

