-- ==== Sys2Proof/Laws/InvIdle.lean ====
section
/-!
SUPPORT. The operations of Idle.lean keep the bounds of Inv.
-/
namespace Sys2Proof.Machine

@[simp] theorem idleTick_wcapLevelOk (s : State)
    (hOk : WcapOk s.wcapLevel) : WcapOk (idleTick s).wcapLevel := by simp (maxDischargeDepth := 30) +contextual [idleTick, hOk]

end Sys2Proof.Machine
end

