-- ==== Sys2Proof/WellFormed.lean ====
section
/-!
DEFINITION. Which commands are well formed: the operands that Syntax gives as plain numbers, lists or options lie in
the range that the rule of their row gives them. The commands whose operands cannot be out of range are well formed.
-/
namespace Sys2Proof

/-- LEN is a field of 32 bits, and the data never above 4096 bytes (R143). -/
def Req.wf (r : Req) : Bool := decide (r.len < 2 ^ 32) && decide (r.data.length ≤ 4096)

/-- Ports 0–5 and 0–6 (R316). Scene memory has 2^36 bytes (R310), the frame store less than 2^34 (R314), and its banks
numbers of 4 bits (R313). -/
def MemReq.wf (u : DramUnit) (q : MemReq) : Bool :=
  match u with
  | .pc _ => decide (q.port < 6) && decide (q.offset < 2 ^ 34) && decide (q.bank.toNat < 16) && decide (q.rank = 0)
  | .rank _ _ => decide (q.port < 7) && decide (q.offset < 2 ^ 36)

/-- The memory system of a unit. -/
def systemOf : DramUnit → MemSys
  | .pc _ => .frame
  | .rank _ _ => .scene

/-- Errors are on symbols of the codeword: 66 in the frame store, 144 in scene memory (R327). -/
def errsWf (sys : MemSys) (errs : SymErrs) : Bool :=
  errs.all (fun e => decide (e.1 < (match sys with
    | .frame => 66
    | .scene => 144)))

/-- A receipt or origin timestamp is not negative and its seconds take 48 bits: below 2^48 s in 2^-16 ns (R339). -/
def ptpTimeWf (t : Int) : Bool := decide (0 ≤ t) && decide (t < 2 ^ 64 * 1000000000)

/-- correctionField: a signed number of 64 bits (R339). -/
def PtpHdr.wf (h : PtpHdr) : Bool := decide (-(2 ^ 63) ≤ h.corr) && decide (h.corr < 2 ^ 63)

/-- Activity codes of R429. -/
def activityWf (act : BitVec 4) : Bool := decide (1 ≤ act.toNat) && decide (act.toNat ≤ 11)

/-- The command's operands are in range. -/
def Instr.wf : Instr → Bool
  | .registerWrite _ _ _ => true
  | .holdingRead _ _ => true
  | .shadowWrite _ _ _ => true
  | .mstThaw _ _ => true
  | .owner _ _ _ => true
  | .cmtReq _ _ => true
  | .cmtReady _ _ => true
  | .cmtCancel _ _ => true
  | .lfTick => true
  | .heldAccessExecute => true
  | .blockResetApply => true
  | .dayStart => true
  | .sunset => true
  | .twilightWindowOpen => true
  | .slotTick => true
  | .lineStart _ _ _ => true
  | .chainResponse _ _ _ => true
  | .alertN _ => true
  | .pathVerifyTimer _ _ => true
  | .lifeRecordWrite _ => true
  | .bklRestore _ _ _ => true
  | .bklVerify _ _ _ => true
  | .bklFail _ _ _ => true
  | .clearOpen _ _ => true
  | .reinit _ _ => true
  | .bklTcData _ _ => true
  | .lctLoadArm _ _ => true
  | .lctLoadBegin => true
  | .lctLoadComplete => true
  | .lctLoadReadError n => decide (n < 2073600)
  | .lctRdataLo _ => true
  | .lctRdataHi _ => true
  | .lctWdataHi _ _ => true
  | .lctCrcExp _ _ => true
  | .lctAudit _ _ => true
  | .auditRead => true
  | .contextWrite _ _ _ _ => true
  | .arm _ _ _ => true
  | .define _ _ => true
  | .seal _ _ => true
  | .refill _ _ => true
  | .release _ _ => true
  | .query _ _ => true
  | .lyrCmxData _ _ => true
  | .lyrEotfData _ _ => true
  | .scalerStart => true
  | .scalerDone => true
  | .flitReceive _ => true
  | .retry _ => true
  | .replayTimeout => true
  | .retryStorm => true
  | .linkRetrain => true
  | .linkUp => true
  | .rd r => r.wf
  | .wr r => r.wf
  | .bput r => r.wf
  | .bget r => r.wf
  | .crd _ _ _ _ => true
  | .creditReturnTimer _ _ => true
  | .completionSend _ _ => true
  | .bputCompletion _ => true
  | .evtTimer _ => true
  | .evt _ => true
  | .openCtx _ _ _ => true
  | .closeCtx _ _ => true
  | .abortCtx _ _ => true
  | .ctxQuery _ _ => true
  | .contextLoad _ _ _ => true
  | .contextPark _ => true
  | .tokenDecode _ => true
  | .streamDone _ => true
  | .writeCapGrant => true
  | .marker _ _ => true
  | .laneEnable _ => true
  | .detectRetry _ _ ms => decide (ms ≤ 100)
  | .trainDone _ => true
  | .laneStateTimeout _ => true
  | .laneFail _ _ => true
  | .copyStart _ => true
  | .copyMissingTimer _ => true
  | .laneVerifyTimer _ => true
  | .restore _ _ => true
  | .forceFail _ _ => true
  | .verify _ _ => true
  | .prbsClr _ _ => true
  | .psbFrame _ _ => true
  | .lnpPsbSel _ _ => true
  | .lnpDrvreg _ _ => true
  | .workItemStart _ => true
  | .workItemDone w => w.upset.all (fun e => decide (e.1 < 786432))
  | .residueFault _ => true
  | .zoneAnalysisDone => true
  | .compositionComplete => true
  | .engineVerifyTimer _ => true
  | .cmpVerify _ _ => true
  | .cmpAdmit _ _ => true
  | .retire _ _ => true
  | .lineTransaction => true
  | .finZdata _ => true
  | .finSprData _ _ => true
  | .finXfrData _ _ => true
  | .finMtbData _ _ => true
  | .scnOdData _ _ => true
  | .pnlNsbData _ _ => true
  | .scnFifoMin _ => true
  | .tickSeed => true
  | .refreshUrgent _ => true
  | .refreshDue _ _ => true
  | .memoryRequestIssue u arrivals errs => arrivals.all (MemReq.wf u) && errsWf (systemOf u) errs
  | .neighbourRefresh _ => true
  | .refreshWindowClear _ => true
  | .memoryTempRead _ _ _ => true
  | .powerDownEntry _ => true
  | .scrubRead sys errs _ => errsWf sys errs
  | .scrubRewrite _ => true
  | .soft _ _ _ => true
  | .drop _ _ _ => true
  | .sync _ h origin _ => h.wf && ptpTimeWf origin
  | .followUp _ h origin => h.wf && ptpTimeWf origin
  | .delayResp _ h receipt => h.wf && ptpTimeWf receipt
  | .pdelayReq _ h => h.wf
  | .pdelayResp _ h t2 t3 => h.wf && ptpTimeWf t2 && ptpTimeWf t3
  | .announce _ a => a.hdr.wf
  | .ptpDiscard _ => true
  | .delayReq _ => true
  | .pdelayReqSend _ => true
  | .delayAnswerTimeout _ => true
  | .foreignMasterExpire _ _ => true
  | .sourceLoss _ => true
  | .ppsEdge _ => true
  | .ethLinkChange _ _ _ => true
  | .tbSet _ _ => true
  | .tbStep _ _ => true
  | .tbSwitch _ _ => true
  | .reservo _ _ => true
  | .timTbPri _ _ _ => true
  | .timTbNs _ _ => true
  | .timEthTxqW0 _ _ => true
  | .triggerFire _ => true
  | .ppsOut _ => true
  | .reseedPending => true
  | .timeclkChange _ => true
  | .thermalSample _ _ => true
  | .shutdownRecords => true
  | .sensorCrossCheck => true
  | .thmZcmdRestore _ _ => true
  | .shutdown _ => true
  | .thmMax _ => true
  | .calReq _ _ => true
  | .calRetryTimer _ => true
  | .calRunDone _ _ _ => true
  | .calLedsetData _ _ => true
  | .ozdLowWrite _ _ _ => true
  | .ozdHighWrite _ _ _ => true
  | .ozdUnlKey _ _ => true
  | .ozdRelock _ _ => true
  | .inc _ _ => true
  | .ozdRecordFlush => true
  | .bootSequence => true
  | .por => true
  | .pin _ => true
  | .wdg _ => true
  | .chip _ _ => true
  | .masterReset _ _ => true
  | .srst _ _ => true
  | .pwrReq _ _ => true
  | .powerStateChange => true
  | .wake _ => true
  | .supplyWarning _ _ mv => decide (mv < 65536)
  | .dipRecovery minMv durUs => decide (minMv < 65536) && decide (durUs ≤ 1000)
  | .dipShutdownTimer => true
  | .mntActivityStart => true
  | .mntActivityDone act _ _ => activityWf act
  | .mntRequestAged _ => true
  | .dcxEngineFault _ => true
  | .mntDecmdVerify _ _ => true
  | .mntDecmdAdmit _ _ => true
  | .mntDecmdRetire _ _ => true
  | .smbusWrite _ _ _ _ => true
  | .smbusRead _ _ _ => true
  | .extest => true
  | .idcode => true
  | .samplePreload _ => true
  | .highz => true
  | .clamp => true
  | .extestPulse => true
  | .extestTrain => true
  | .bypass => true
  | .slewEnd => true
  | .dcxVerifyTimer _ => true
  | .secondsOutsideMidnight => true
  | .mntRequeueRetry => true
  | .prbsCheckerReseed _ => true

end Sys2Proof
end

