-- ==== Sys2Proof/Tests/Slice0.lean ====
section
/-!
SUPPORT. The package's own tests: ill-formed commands that the checks refuse, small states that meet the hypotheses of
the statements, and single commands whose outcome the spec gives.
-/
set_option Elab.async false

namespace Sys2Proof.Tests

open Sys2Proof.Machine

/-- Reset with EN set in every page's PAGE_CTL. -/
def baseS : State := (List.range 60).foldl (fun s p => setRegN (Reg.PAGE_CTL p) 1 s) State.reset

/-- The same with some registers at the values listed. -/
def withRegs (l : List (Nat × Nat)) : State := l.foldl (fun s p => setRegN p.1 p.2 s) baseS

/-- The same on another state. -/
def regsOn (l : List (Nat × Nat)) (s : State) : State := l.foldl (fun s p => setRegN p.1 p.2 s) s

/-- What a command leaves. -/
def after (c : Instr) (s : State) : State :=
  match exec c s with
  | .next t => t
  | _ => s

/-! ### Witnesses: the machine and the control plane -/

theorem test_hyps_EmptyQueueIdles : State.reset.pending = [] := by decide +kernel

/-- A state with a written byte, an idle queue and the bounds kept. -/
def invS : State := { baseS with fs := [(5, 7)], pending := [.dayStart] }

theorem test_hyps_StepKeepsInv : Inv invS ∧ step invS = .next { invS with pending := [] } :=
  ⟨⟨by decide, by decide, fun _ => Nat.zero_le _, Nat.zero_le _, Nat.zero_le _, Nat.le_refl _⟩, rfl⟩

/-- PAGE_CTL's neighbour EVT_ROUTE of page 0, and the last register of the last page. -/
theorem test_hyps_RegisterWriteStores :
    (∃ r, regAt 28 = .active r ∧ r.sh = false ∧ writable r = true ∧ ownEffect 28 = false ∧ CanWrite baseS 1 28) ∧
    (∃ r, regAt 241740 = .active r ∧ r.sh = false ∧ writable r = true ∧ ownEffect 241740 = false ∧
      CanWrite baseS 1 241740) :=
  ⟨⟨_, rfl, by decide, by decide, by decide, by decide⟩, ⟨_, rfl, by decide, by decide, by decide, by decide⟩⟩

theorem test_hyps_ShadowWriteSetsDirty :
    (∃ r, regAt 26688 = .shadow r ∧ CanWrite baseS 1 26688) ∧ (∃ r, regAt 219504 = .shadow r ∧ CanWrite baseS 1 219504) ∧
    ∃ r, regAt 24640 = .active r ∧ r.sh = true ∧ gate baseS 1 24640 true = none ∧ frozen baseS 1 = false ∧
      mustHold baseS 1 24640 = none :=
  ⟨⟨_, rfl, by decide⟩, ⟨_, rfl, by decide⟩, _, rfl, rfl, by decide, by decide, by decide⟩

theorem test_hyps_LowReadHoldsHighWord :
    pairLow (activeAddr Reg.OZD_CTR_LO) = true ∧
    CanRead baseS 1 Reg.OZD_CTR_LO ∧ CanRead (after (.holdingRead 1 (BitVec.ofNat 24 Reg.OZD_CTR_LO)) baseS) 1 (Reg.OZD_CTR_LO + 4) ∧
    CanRead baseS 1 (Reg.OZD_CTR_LO + 4) ∧ baseS.holds = [] := by
  decide +kernel

/-- M3 is frozen with number 5. -/
def frozenS : State := withRegs [(Reg.MST_FROZEN, 8), (Reg.MST_VIOL_INFO 3, 5 * 2 ^ 16 + 1 * 2 ^ 8)]

theorem test_hyps_ThawNeedsFreezeNumber : CanWrite frozenS 1 Reg.MST_THAW ∧
    (let v : Word := 0x00050003; 1 ≤ fld v 0 4 ∧ fld v 0 4 ≤ 10 ∧ frozen frozenS (fld v 0 4) = true ∧
      violFseq frozenS (fld v 0 4) = fld v 16 16) ∧
    (let v : Word := 0x00060003; violFseq frozenS (fld v 0 4) ≠ fld v 16 16) := by decide +kernel

theorem test_hyps_OwnerStoresMaster : CanWrite baseS 1 (Reg.OWNER 0) ∧ CanWrite baseS 1 (Reg.OWNER 59) := by decide +kernel

def pendingS : State := withRegs [(Reg.CMT_STAT, 1), (Reg.CMT_PEND_SEQ, 9)]

theorem test_hyps_CommitRequestRegisters : CanWrite baseS 1 Reg.CMT_REQ ∧ CanWrite baseS 1 Reg.CMT_READY ∧
    CanWrite pendingS 1 Reg.CMT_CANCEL ∧ cmtPending pendingS = true ∧ bit (1 : Word) 0 = true ∧
    (let s := { pendingS with pwr := { dip := some ⟨0⟩ } }
     live s = true ∧ s.pwr.shut = false ∧ cmtPending s = true ∧ s.pwr.dip.isSome = true) := by decide +kernel

def openS : State := { baseS with boot := { hostOpen := true } }

theorem test_hyps_WriteWithoutRightFreezes :
    (gate (regsOn [(Reg.MST_FROZEN, 8)] openS) 3 28 true = none ∧ frozen (regsOn [(Reg.MST_FROZEN, 8)] openS) 3 = true) ∧
    (gate openS 10 (Reg.OWNER 0) true = none ∧ frozen openS 10 = false ∧ mustHold openS 10 (Reg.OWNER 0) = none ∧
      privileged openS 10 = false) ∧
    (let s := regsOn [(Reg.MST_PRIV, 2)] openS
     gate s 0 (Reg.OWNER 59) true = none ∧ frozen s 0 = false ∧ mustHold s 0 (Reg.OWNER 59) = none ∧
      privileged s 0 = false) := by decide +kernel

/-- Every check passes: the table is loaded, TB0 is locked, the mode is LF60 at 16 Gb/s, the budget is 90 %. -/
def passS : State := regsOn [(Reg.LNP_CFG + 0x800, 2), (Reg.CMT_BUDGET, 90), (Reg.TIM_TB_CTL 0, 2 ^ 31)]
  { pendingS with lctc := { loaded := true, auditOk := true }, tb := [(0, { st := .locked })] }

theorem test_hyps_CommitAppliesOrRefuses :
    (cmtPending passS = true ∧ enabled passS 0x03 = true ∧ stalled passS = [] ∧ partsMissing (reportNotReady (notReady passS) [] passS) = false ∧
      failMask (reportNotReady (notReady passS) [] passS) (notReady passS) = 0) ∧
    (cmtPending pendingS = true ∧ enabled pendingS 0x03 = true ∧ stalled pendingS = [] ∧
      partsMissing (reportNotReady (notReady pendingS) [] pendingS) = false ∧
      failMask (reportNotReady (notReady pendingS) [] pendingS) (notReady pendingS) = 45) := by decide +kernel

/-- A held write of M2 and a BLOCK reset of page 0x26 that waits. -/
def heldS : State := { baseS with holdOpen := true, heldQ := [⟨.commit, .write 2 28 1⟩] }
def blockS : State := { baseS with period := { resetDue := true }, resetPending := [0x26] }

theorem test_hyps_HeldAccessesAndBlockResets : (live heldS = true ∧ heldS.heldQ = [⟨.commit, .write 2 28 1⟩]) ∧
    (live blockS = true ∧ blockS.period.resetDue = true) := by decide +kernel

/-! ### Witnesses: the light-field period and the backlight -/

/-- TB0 runs and the ticks are seeded. -/
def tickS : State := after .tickSeed (withRegs [(Reg.TIM_TB_CTL 0, 2 ^ 31)])
def sunriseS : State := { tickS with period := { phase := .sunrise } }
def dayS : State := { tickS with period := { phase := .day } }
/-- Slot 0 of a period is on: the next tick is that of slot 3, the last. -/
def slotS : State := { tickS with scan := { nextSlot := 3, active := true, line := 8735, p := 2840000 } }

theorem test_hyps_PeriodRuns :
    (unitOn tickS 0x35 = true ∧ tickS.gl.seeded = true ∧ (reachPsi (gridAt (tickMode tickS) (4 * tickS.gl.k)) tickS).isSome = true) ∧
    (live sunriseS = true ∧ sunriseS.period.phase = .sunrise) ∧ (live dayS = true ∧ dayS.period.phase = .day) ∧
    (unitOn slotS 0x35 = true ∧ slotS.gl.seeded = true ∧ slotS.scan.nextSlot < 4 ∧
      (reachPsi (slotAt slotS slotS.scan.nextSlot) slotS).isSome = true) ∧
    (unitOn slotS 0x28 = true ∧ slotS.scan.active = true ∧ slotS.scan.line < 8736) ∧
    (unitOn slotS 0x28 = true ∧ slotS.scan.active = true ∧ 8640 ≤ slotS.scan.line) := by decide +kernel

/-- A good response to an F1 frame of no codes with sequence 0: position, OK, CRC of each word. -/
def goodF1 : Vector ChainWord 8 := Vector.ofFn (fun d : Fin 8 => mkWord 1 d.val 0 1 0)
def badF1 : Vector ChainWord 8 := Vector.ofFn (fun d : Fin 8 => mkWord 1 d.val 1 1 0)

/-- Tile 23 is ON, its SELECTED path B awaits the answer to an F1 frame, path A stands by. -/
def onS (bad : Nat) : State :=
  { baseS with tiles := [(23, { st := .on, sel := .b, pb := { role := .selected, bad := bad, pend := [codesFrame 0 0 0 []] },
                                      pa := { role := .standby }, lifeBlk := some 5 })] }


theorem test_hyps_ChainResponses :
    live (onS 1) = true ∧ (getTile (onS 1) 23).st = .on ∧ (getPath (getTile (onS 1) 23) .b).role = .selected ∧
    (getPath (getTile (onS 1) 23) .b).pend = [codesFrame 0 0 0 []] ∧ (codesFrame 0 0 0 []).kind = 1 ∧
    goodResponse (codesFrame 0 0 0 []) goodF1.toList = true ∧ goodResponse (codesFrame 0 0 0 []) badF1.toList = false ∧
    (getPath (getTile (onS 1) 23) .b).bad = 1 ∧ (getPath (getTile (onS 1) 23) (otherPath .b)).role = .standby := by decide +kernel

def quarS : State :=
  { baseS with tiles := [(0, { st := .on, sel := .b, pb := { role := .selected }, pa := { role := .quarantined } })] }

theorem test_hyps_PathAndTileCommands :
    (live quarS = true ∧ (getPath (getTile quarS 0) .a).role = .quarantined ∧
      (getPath (getTile quarS 0) .a).barred = false ∧ CanWrite quarS 1 (Reg.BKL_TCTL 0)) ∧
    ((getPath (getTile (onS 0) 23) .a).role = .standby ∧ CanWrite (onS 0) 1 (Reg.BKL_TCTL 23) ∧ (getTile (onS 0) 23).st ≠ .absent) ∧
    (live (onS 0) = true ∧ (getTile (onS 0) 23).st = .on ∧ (getTile (onS 0) 23).lifeBlk = some 5 ∧ deferring (onS 0) = false) ∧
    deferring { onS 0 with pwr := { dip := some ⟨0⟩ } } = true := by decide +kernel

theorem test_hyps_TableReadsAndWrites : ∀ d ∈ dataTables,
    CanRead baseS 1 d.data ∧ CanWrite baseS 1 d.data ∧ regN baseS d.idx < d.size ∧
    (let s := withRegs [(d.idx, d.size - 1)]; CanRead s 1 d.data ∧ CanWrite s 1 d.data ∧ regN s d.idx < d.size) := by decide +kernel

/-! ### Witnesses: the table, the layers, the scaler -/

/-- A load is armed, its boundary has passed, and it has begun from the flash. -/
def armedS (code : Nat) : State :=
  { baseS with lctc := { loading := true, src := true, loaded := true }, period := { loadDue := some code } }
def begunS : State := { baseS with lctc := { loading := true, begun := true, src := true, loaded := true } }

theorem test_hyps_EntryCheckBits : ((2 ^ 56 - 1 : Nat) < 2 ^ 56) ∧ ((61 : Nat) < 62 ∧ (62 : Nat) < 63) := by decide

theorem test_hyps_TableLoadRuns :
    (CanWrite baseS 1 Reg.LCT_CTL ∧ bit (1 : Word) 0 = true ∧ baseS.lctc.loading = false) ∧
    (CanWrite (armedS 0) 1 Reg.LCT_CTL ∧ (armedS 0).lctc.loading = true) ∧
    (unitOn (armedS 0) 0x1F = true ∧ loadCanBegin (armedS 0) = true ∧ (armedS 0).period.loadDue = some 0) ∧
    (unitOn (armedS 2) 0x1F = true ∧ loadCanBegin (armedS 2) = true ∧ (armedS 2).period.loadDue = some 2) ∧
    (unitOn begunS 0x1F = true ∧ begunS.lctc.begun = true ∧ begunS.lctc.src = true) := by decide +kernel

theorem test_hyps_TableLoadCompletes : unitOn begunS 0x1F = true ∧ begunS.lctc.begun = true := by decide

theorem test_hyps_TableEntryReads :
    (let s := regsOn [(Reg.LCT_IDX, 2073599)] { baseS with lct := [(2073599, w64 (2 ^ 56 * eccOf 2073599 0))] }
     CanRead s 1 Reg.LCT_RDATA_LO ∧ regN s Reg.LCT_IDX < lctSize ∧ CanRead (after (.lctRdataLo 1) s) 1 Reg.LCT_RDATA_HI) ∧
    (let s := withRegs [(Reg.LCT_IDX, 2073600)]
     CanRead s 1 Reg.LCT_RDATA_LO ∧ CanRead s 1 Reg.LCT_RDATA_HI ∧ CanWrite s 1 Reg.LCT_WDATA_HI ∧ CanRead s 1 Reg.LCT_WDATA_HI ∧
      CanWrite s 1 Reg.LCT_RDATA_LO ∧ lctSize ≤ regN s Reg.LCT_IDX) := by
  decide +kernel

def fullQ : State := { baseS with lctc := { queue := List.replicate 64 (.crc 1) } }

theorem test_hyps_TableWritesQueue :
    (let s := regsOn [(Reg.LCT_IDX, 2073599)] { baseS with lctc := { queue := List.replicate 63 (.crc 1) } }
     CanWrite s 1 Reg.LCT_WDATA_HI ∧ regN s Reg.LCT_IDX < lctSize ∧ s.lctc.queue.length < 64 ∧ CanWrite s 1 Reg.LCT_CRC_EXP) ∧
    (CanWrite fullQ 1 Reg.LCT_CRC_EXP ∧ 64 ≤ fullQ.lctc.queue.length ∧
      CanWrite { fullQ with boot := { hostOpen := true } } 0 Reg.LCT_CRC_EXP) := by decide +kernel

/-- The audit runs and is at an entry with one wrong bit. -/
def auditS : State := { baseS with lctc := { loaded := true, pass := some 2073598 }, lct := [(2073598, 0x10)] }

theorem test_hyps_AuditReadsInOrder : CanWrite baseS 1 Reg.LCT_AUDIT ∧
    unitOn auditS 0x1F = true ∧ auditMay auditS = true ∧ auditS.lctc.pass = some 2073598 ∧ 2073598 + 1 < lctSize := by decide +kernel

theorem test_hyps_ContextEntryWrites : ∀ n ∈ [0, 3071], ∀ w ∈ [0, 1, 9, 10, 31],
    gate baseS 1 (ctxAddr n w) true = none ∧ frozen baseS 1 = false ∧
    mustHold baseS 1 (ctxAddr n w) = none ∧ entryRight baseS 1 n = true ∧
    (let s := regsOn [(Reg.MST_PRIV, 2), (Reg.OWNER 0x1E, 4)] baseS
     ownerRight s 4 = true ∧ entryRight s 4 n = false) := by decide +kernel

theorem test_hyps_ArmChecksEntry : entryRight baseS 1 3071 = true ∧ gate baseS 1 (ctxAddr 3071 0) true = none ∧
    mustHold baseS 1 (ctxAddr 3071 0) = none ∧ frozen baseS 1 = false := by decide +kernel

def bufS : State :=
  { baseS with handles := [(0, { st := .filling, base := 16, size := 16, pitch := 1 }),
    (8191, { st := .inUse, base := 64, size := 16, pitch := 1, rdesc := some ⟨0, 0, 0, 2, 2, false⟩ })] }

theorem test_hyps_BufferHandleCommands : CanWrite bufS 1 Reg.LYR_BUF_CMD ∧
    ((getHandle bufS 0).st = .filling ∧ (getHandle bufS 0).bad = false ∧ targeted bufS 0 = false) ∧
    ((getHandle bufS 8191).st ≠ .free ∧ (getHandle bufS 8191).st ≠ .releasePending ∧ pinnedState (getHandle bufS 8191).st = true) ∧
    (defineCode (regsOn [(Reg.LYR_BUF_BASE, 128), (Reg.LYR_BUF_SIZE, 16), (Reg.LYR_BUF_PITCH, 1)] bufS) 1 = 0 ∧
      defineCode bufS 0 ≠ 0) := by decide +kernel

def sclS : State := regsOn [(Reg.LYR_SCL_CTL, 1), (Reg.PAGE_CTL 0x1E, 1)] { bufS with sclQueue := [8191] }

theorem test_hyps_ScalerWorksOffQueue :
    (sclS.sclQueue = [8191] ∧ sclS.sclCur = none ∧ fabricOn sclS = true ∧ regBit sclS Reg.LYR_SCL_CTL 0 = true ∧
      enabled sclS 0x1E = true) ∧
    (let s := after .scalerStart sclS
     s.sclCur = some 8191 ∧ fabricOn s = true ∧ (getHandle s 8191).rdesc = some ⟨0, 0, 0, 2, 2, false⟩) := by decide +kernel

/-! ### Witnesses: the host link and decompression -/

/-- The link is UP, host access is open, and M5's pools are granted. -/
def linkS : State := regsOn [(Reg.LNH_LINK_STAT, 0x1001)]
  { baseS with boot := { hostOpen := true }, link := { init := [(2, true)], credit := [(8, 64), (9, 64), (10, 64), (11, 64)] } }

def withLink (l : Link) : State := { linkS with link := l }

/-- A read of 4 bytes of register 0x01C by M5. -/
def rdReg : Req := ⟨2, 0, 7, 9, 4, 0x4A4001C000000, 0, false, []⟩

def flitIn : Vector Byte 128 := Vector.ofFn (fun i : Fin 128 =>
  (hostFlit (flitHeader 0 0 0 2 16) (reqBytes 0 rdReg)).getD i.val 0)

set_option maxRecDepth 100000 in
theorem test_hyps_FlitCarriesRequest : rdReg.vc.val < 2 ∧ rdReg.len < 2 ^ 32 ∧ rdReg.data.length ≤ 104 ∧
    joinLanes (linkLanes linkS) flitIn.toList = hostFlit (flitHeader (linkS.link.rxSeq + 1) 0 rdReg.vc.val rdReg.m.val (16 + rdReg.data.length))
      (reqBytes 0 rdReg) ∧
    unitOn linkS 0x05 = true ∧ linkUpNow linkS = true ∧ linkS.link.asm = [] ∧ 0 < hostCredit linkS rdReg.m.val rdReg.vc.val := by
  decide +kernel

def someFlit : Flit := ⟨5, 0, 2, 1, true, [1]⟩

set_option maxRecDepth 100000 in
theorem test_hyps_FlitsAreReplayed : unitOn linkS 0x05 = true ∧ linkUpNow linkS = true ∧
    (let l := joinLanes (linkLanes linkS) (Vector.replicate 128 (0 : Byte)).toList; crc32c (l.take 124) ≠ leAt l 124 4) ∧
    (∀ l ∈ hostLanes, failEvidence linkS l 1 = false ∧ failEvidence linkS l 3 = false) ∧ 4 ≤ (withLink { replays := 4 }).link.replays ∧
    (withLink { replay := [someFlit], replays := 4 }).link.replay ≠ [] ∧
    unitOn (withLink { replay := [someFlit], replays := 4 }) 0x05 = true ∧
    linkUpNow (withLink { replay := [someFlit], replays := 4 }) = true := by decide +kernel

/-- All host lanes are UP, lane 4's markers gave the number 5. -/
def deskewS : State := regsOn ((List.range 18).map (fun n => (Reg.LNH_LSTAT n, 0xFF000006))) { baseS with lanes := [(4, { logical := some 5 })] }
/-- Twelve are UP: eight lanes, two spares, two DARK. -/
def twelveS : State := regsOn ((List.range 12).map (fun n => (Reg.LNH_LSTAT n, 0xFF000006))) baseS

theorem test_hyps_LinkUpAndRetrain :
    (unitOn deskewS 0x05 = true ∧ linkUpNow deskewS = false ∧ linkWidth (healthy deskewS).length = 16 ∧
      (inOrder deskewS)[15]?.isSome = true ∧ (inOrder deskewS)[17]?.isSome = true ∧
      (getAux deskewS (.host 4)).logical = some 5 ∧ (getAux deskewS (.host 3)).logical = none) ∧
    (unitOn twelveS 0x05 = true ∧ linkUpNow twelveS = false ∧ linkWidth (healthy twelveS).length = 8 ∧
      (inOrder twelveS)[11]?.isSome = true) ∧
    (unitOn baseS 0x05 = true ∧ linkUpNow baseS = false ∧ linkWidth (healthy baseS).length = 0) ∧
    (unitOn (withLink { replay := [someFlit] }) 0x05 = true ∧ linkUpNow (withLink { replay := [someFlit] }) = true ∧
      (withLink { replay := [someFlit] }).link.replay ≠ [] ∧ laneRole deskewS (.host 17) < 3 ∧
      laneState deskewS (.host 17) ≠ lsDARK) := by decide +kernel

/-- M5 has requests received: of one VC each. -/
def rdMem : Req := ⟨2, 1, 7, 9, 8, 0x1000, 0, false, []⟩
def wrMem : Req := ⟨2, 1, 7, 0, 8, 0x1000000FFC, 0, true, [1, 2, 3, 4, 5, 6, 7, 8]⟩
def wrReg : Req := ⟨2, 0, 7, 0, 4, 28, 0, true, [0, 7, 7, 0]⟩
def rdReg0 : Req := ⟨2, 0, 7, 9, 4, 28, 0, false, []⟩
def bputR : Req := ⟨2, 1, 7, 0, 3, 0, 3071, true, [1, 2, 3]⟩
def bgetR : Req := ⟨2, 1, 7, 9, 4096, 0, 8191, false, []⟩

/-- The request has been received, and M5 has every right. -/
def reqS (typ : Nat) (r : Req) : State :=
  regsOn [(Reg.MST_PRIV, 0xFF)] { withLink { linkS.link with reqs := [⟨BitVec.ofNat 3 typ, r, 1, false⟩] } with
    handles := [(8191, { st := .ready, base := 16, size := 16, pitch := 1 }), (7, { st := .filling, base := 64, size := 16, pitch := 1 })],
    dcx := [(3071, { st := .opened, owner := 5, handle := 7 })] }

def gotReq (typ : Nat) (r : Req) : Option RxTxn := mayRun (reqS typ r) typ r

def rdMem0 : Req := ⟨2, 1, 7, 9, 8, 0x1000000FF8, 0, false, []⟩
def wrMem0 : Req := { wrMem with addr := 0x1000000FF8 }

theorem test_hyps_HostRequestsExecute :
    (∀ p ∈ [(0, rdMem0), (0, rdReg0), (1, wrMem0), (1, wrReg), (2, bputR), (3, bgetR)],
      gotReq p.1 p.2 = some ⟨BitVec.ofNat 3 p.1, p.2, 1, false⟩ ∧ frozen (reqS p.1 p.2) 5 = false ∧
      malformed (reqS p.1 p.2) p.1 ⟨BitVec.ofNat 3 p.1, p.2, 1, false⟩ = false) ∧
    targetOf rdMem0.addr.toNat = .scene 0xFF8 ∧ ueIn (reqS 0 rdMem0) .scene 0xFF8 8 = [] ∧
    targetOf wrMem0.addr.toNat = .scene 0xFF8 ∧ hitsPinned (reqS 1 wrMem0) 0xFF8 8 = false ∧ (reqS 1 wrMem0).wcapQ = [] ∧
    (8 ≤ (reqS 1 wrMem0).wcapLevel) ∧ targetOf wrReg.addr.toNat = .regs 28 ∧
    (let s1 := noteRseq rdReg0 (takeReq ⟨0, rdReg0, 1, false⟩ (reqS 0 rdReg0))
     (readReg (Fin.ofNat 11 (3 + rdReg0.m.val)) (accessOf rdReg0 s1 0) s1).lastAccess = .done) ∧
    (let s1 := noteRseq wrReg (takeReq ⟨1, wrReg, 1, false⟩ (reqS 1 wrReg))
     (writeReg (Fin.ofNat 11 (3 + wrReg.m.val)) (accessOf wrReg s1 0) (w32 (ofLe wrReg.data)) s1).lastAccess = .done) ∧
    ((getDcx (reqS 2 bputR) 3071).st = .opened ∧ (getDcx (reqS 2 bputR) 3071).owner.toNat = 3 + bputR.m.val ∧
      pinnedState (getHandle (reqS 2 bputR) 7).st = false ∧ (getDcx (reqS 2 bputR) 3071).ended = false ∧
      (getDcx (reqS 2 bputR) 3071).ending = none) ∧
    ((getHandle (reqS 3 bgetR) 8191).st ≠ .free ∧ bgetR.addr.toNat + bgetR.len ≤ sizeBytes (getHandle (reqS 3 bgetR) 8191) ∧
      ueIn (reqS 3 bgetR) .scene (baseBytes (getHandle (reqS 3 bgetR) 8191)) 4096 = []) := by decide +kernel

/-- A completion waits, credits of a pool are freed. -/
def outT : OutTxn :=
  { m := 2, vc := 1, typ := 0, rsp := true, tag := 9, rseq := 7, len := 4, addr := 0, arg := 0, data := [1, 2, 3, 4] }
def outS : State := withLink { linkS.link with out := [outT], used := [(5, 3)], freed := [(5, 3)] }

theorem test_hyps_CreditsAndSending : (unitOn linkS 0x05 = true ∧ linkUpNow linkS = true ∧ nothingToSend linkS = true) ∧
    (unitOn outS 0x05 = true ∧ linkUpNow outS = true ∧ sGet zeroN (2 * 2 + 1) outS.link.freed ≠ 0 ∧
      sGet zeroN (2 * 2 + 1) outS.link.freed ≤ sGet zeroN (2 * 2 + 1) outS.link.used) ∧
    (nextOut outS 2 1 = some outT ∧ outReady outS outT = true ∧ vcTurn outS 1 = true) := by decide +kernel

def evtS : State :=
  { linkS with msgq := [(2, { recs := List.replicate 6 { num := 48 }, mseq := 6 })],
               dcx := [(0, { st := .done, ended := true, acks := [(24, bputR)] })] }

theorem test_hyps_EventTransactions : dueAck evtS 2 = some (0, 24, bputR) ∧
    (unitOn evtS 0x02 = true ∧ (getMsgq evtS 2).formed.sum ≤ (getMsgq evtS 2).recs.length) ∧
    (unitOn evtS 0x05 = true ∧ linkUpNow evtS = true ∧ (formFives (getMsgq evtS 2)).formed = [5] ∧
      wholeReady evtS (evtTxn 2 5 (getMsgq evtS 2)) = true ∧ vc0Ready evtS = false) := by decide +kernel

def ctxS (c : Dcx) : State := regsOn [(Reg.ING_CTX_HANDLE, 7), (Reg.PAGE_CTL 0x0D, 1), (Reg.PAGE_CTL 0x0C, 1)]
  { baseS with handles := [(7, { st := .filling, base := 64, size := 16, pitch := 1 })], dcx := [(3071, c)] }

theorem test_hyps_ContextCommands :
    (let s := ctxS {}
     CanWrite s 1 Reg.ING_CTX_CMD ∧ (getDcx s 3071).st = .closed ∧ (getHandle s (regFld s Reg.ING_CTX_HANDLE 0 13)).st = .filling ∧
      (getHandle s 7).bad = false ∧ targeted s 7 = false ∧ ctxOffset s < sizeBytes (getHandle s 7) ∧ openCode s 11 3071 ≠ 0) ∧
    CanWrite (ctxS { st := .done }) 1 Reg.ING_CTX_CMD ∧ (getDcx (ctxS { st := .done }) 3071).st = .done ∧
    CanWrite (ctxS { st := .opened, handle := 7 }) 1 Reg.ING_CTX_CMD ∧ (getDcx (ctxS { st := .opened, handle := 7 }) 3071).ending = none ∧
    (getDcx (ctxS { st := .opened, handle := 7 }) 3071).ended = false ∧ (getDcx (ctxS { st := .opened, handle := 7 }) 3071).aborting = false ∧
    outWaiting (ctxS { st := .opened, handle := 7 }) 3071 = false := by decide +kernel

/-- A resident context in a block, its next token the literal 7. -/
def tokC : Dcx := { st := .opened, handle := 7, resident := some 0, ran := some 0, input := [7, 0],
                    blk := some { last := true, table := none, outlen := 5, made := 0 } }
def tokC1 : Dcx := { tokC with input := [0], bit := 1, pos := 9, decoded := 1, hist := [7], prev := some [7],
                               blk := some { last := true, table := none, outlen := 5, made := 1 } }
/-- Every slot is taken and a context waits. -/
def busyS : State := regsOn ((List.range 16).map (fun e => (Reg.DCX_STAT e, 4 * 16)))
  { ctxS {} with dcx := [(0, { st := .opened, resident := some 0 }), (1, { st := .opened, input := [1] })] }
def capS : State := { baseS with wcapQ := [⟨.wr wrMem0, 0xFF8, wrMem0.data⟩] }

theorem test_hyps_StreamsAreDecoded :
    (let s := ctxS { st := .opened, handle := 7, input := [1] }
     wantsSlot (getDcx s 3071) = true ∧ waitsLongest s 3071 = true ∧ fabricOn s = true ∧ deEligible s 0 = true ∧ deResident s 0 < 7) ∧
    (fabricOn busyS = true ∧ parkMay busyS 0 = true) ∧
    (let s := ctxS tokC
     fabricOn s = true ∧ tokC.ending = none ∧ tokC.aborting = false ∧ (getHandle s 7).st = .filling ∧ 1 ≤ s.wcapLevel ∧
      deRole s 0 = 0 ∧ enabled s 0x0D = true ∧ s.wcapQ = [] ∧ (getDcx s 3071).resident = some 0 ∧
      (fdcStep (sizeBytes (getHandle s 7)) tokC).toOption = some (tokC1, [7]) ∧ tokC1.ended = false ∧
      ueIn s .scene (64 * 256) 1 = []) ∧
    (let s := ctxS { st := .opened, handle := 7, ended := true, resident := some 0 }
     fabricOn s = true ∧ enabled s 0x0C = true ∧ (getDcx s 3071).ended = true ∧ (getDcx s 3071).ending = none ∧
      (getDcx s 3071).aborting = false ∧ outWaiting s 3071 = false) ∧
    (fabricOn capS = true ∧ enabled capS 0x0C = true ∧ wrMem0.data.length ≤ capS.wcapLevel ∧ hitsPinned capS 0xFF8 wrMem0.data.length = false ∧
      ueIn capS .scene 0xFF8 wrMem0.data.length = []) := by decide +kernel

/-! ### Witnesses: lanes -/

/-- A lane at a state (and role, CAUSE, COPY) with its page enabled. -/
def laneS (l : Lane) (st : Nat) (x : LaneAux := {}) : State :=
  regsOn [(lstatA l, st + 0xFF000000), (Reg.PAGE_CTL (lanePage l), 1)] { baseS with lanes := [(laneKey l, x)] }

/-- A marker of lane number 17 of link 0. -/
def goodMarker : DWord := w64 (0xF0A66A0F + 2 ^ 32 * 17 + 2 ^ 48 * crc16 (leBytes 6 (0xF0A66A0F + 2 ^ 32 * 17)))

/-- Lanes 3 and 17 are in DESKEW, 1,024 bits apart at the marker of lane 17 that comes at 2,000. -/
def skewS : State := regsOn [(Reg.LNH_LSTAT 3, 0xFF000005), (Reg.LNH_LSTAT 17, 0xFF000005)] { baseS with lanes := [(3, { pos := 3024 })] }

theorem test_hyps_LaneBringUp :
    (∀ l ∈ [Lane.host 17, Lane.panel 107],
      (laneState (laneS l lsDARK) l = lsDARK ∧ (laneS l lsDARK).pwr.st ≠ .night ∧ enabled (laneS l lsDARK) (lanePage l) = true ∧
        laneRole (laneS l lsDARK) l < 3) ∧
      laneState (laneS l lsDETECT) l = lsDETECT ∧ laneState (laneS l lsTRAIN) l = lsTRAIN ∧ laneState (laneS l lsMARK) l = lsMARK ∧
      live (laneS l lsDARK) = true) ∧
    (let s := laneS (.host 17) lsTRAIN { timeouts := 2 }
     laneState s (.host 17) = lsTRAIN ∧ (getAux s (.host 17)).timeouts = 2 ∧ live s = true) ∧
    (markerRead goodMarker = some (goodMarker, false) ∧ markerRead (~~~ goodMarker) = some (goodMarker, true) ∧
      markerRead 0 = none) ∧
    (let s := laneS (.host 17) lsMARK { goods := 1 }
     laneRole s (.host 17) < 3 ∧ laneState s (.host 17) = lsMARK ∧ 1 ≤ (getAux s (.host 17)).goods) ∧
    (let s := laneS (.host 17) lsORIENT
     laneRole s (.host 17) < 3 ∧ laneState s (.host 17) = lsORIENT ∧ dfld goodMarker 40 8 = regFld s Reg.LNH_CFG 8 8) ∧
    (let s := regsOn [(Reg.LNH_CFG, 0x100)] (laneS (.host 17) lsORIENT)
     laneRole s (.host 17) < 3 ∧ laneState s (.host 17) = lsORIENT ∧ dfld goodMarker 40 8 ≠ regFld s Reg.LNH_CFG 8 8) ∧
    (risingLanes skewS = [.host 3, .host 17] ∧ laneState skewS (.host 17) = lsDESKEW ∧ laneRole skewS (.host 17) < 3 ∧
      (∀ k ∈ risingLanes skewS, laneState skewS k = lsDESKEW) ∧
      ∀ j ∈ risingLanes skewS, ∀ k ∈ risingLanes skewS, (if j = .host 17 then 2000 else (getAux skewS j).pos) ≤
        (if k = .host 17 then 2000 else (getAux skewS k).pos) + 1024) ∧
    (isHost (.panel 107) = false ∧ ownNumber (laneS (.panel 107) lsDARK) (.panel 107) % 3 = 2 ∧
      laneRole (laneS (.panel 107) lsDARK) (.panel 107) = lrACTIVE) := by
  decide +kernel

/-- Driver 35's lanes are UP, and lane 107 is its idle spare. -/
def panelS : State := regsOn [(Reg.LNP_LSTAT 105, 0xFF000006), (Reg.LNP_LSTAT 106, 0xFF000006), (Reg.LNP_LSTAT 107, 0xFF000106)]
  { baseS with lanes := [(137, { misses := 2 }), (16, { misses := 2 })] }
/-- The host lanes are UP, 16 and 17 spare; lane 0 has failed and asks for a copy. -/
def hostS : State := regsOn ((List.range 16).map (fun n => (Reg.LNH_LSTAT n, 0xFF000006)) ++
    [(Reg.LNH_LSTAT 16, 0xFF000106), (Reg.LNH_LSTAT 17, 0xFF000106)])
  { baseS with lanes := [(0, { misses := 2, rqIn := 2 })] }
def hostFailS : State := regsOn [(Reg.LNH_LSTAT 0, 0xFF010306)] { hostS with lanes := [(0, { rqOut := true })] }
/-- The same with no spare left, both FAILED, and with a spare on loan. -/
def hostBareS : State := regsOn [(Reg.LNH_LSTAT 16, 0xFF010306), (Reg.LNH_LSTAT 17, 0xFF010306)] hostS
def quarLaneS (l : Lane) : State := laneS l 0x406

theorem test_hyps_LanesFailOver :
    (live panelS = true ∧ laneState panelS (.panel 105) = lsUP ∧ laneRole panelS (.panel 105) = lrACTIVE ∧
      failEvidence panelS (.panel 105) 1 = true ∧ failEvidence panelS (.panel 105) 7 = true ∧ idleSpare panelS (.panel 105) = some (.panel 107)) ∧
    (live hostS = true ∧ laneState hostS (.host 0) = lsUP ∧ laneRole hostS (.host 0) = lrACTIVE ∧
      failEvidence hostS (.host 0) 1 = true ∧ (∀ y ∈ hostLanes, ownNumber hostS y = ownNumber hostS (.host 0) → y = .host 0) ∧
      idleSpare hostS (.host 0) = some (.host 16)) ∧
    (live hostBareS = true ∧ laneState hostBareS (.host 0) = lsUP ∧ laneRole hostBareS (.host 0) = lrACTIVE ∧
      failEvidence hostBareS (.host 0) 1 = true ∧ idleSpare hostBareS (.host 0) = none ∧ lentSpare hostBareS (.host 0) = none) ∧
    (hostLanes.any (fun y => copies (carried hostS (.host 0)) (getAux hostS y)) = false ∧
      hostLanes.find? (fun y => (laneRole hostS y = lrSPARE || laneRole hostS y = lrCOVER) && (getAux hostS y).txCopy.isNone &&
        (getAux hostS y).copyNext.isNone && laneState hostS y = lsUP) = some (.host 16) ∧ 2 ≤ (getAux hostS (.host 0)).rqIn) ∧
    (hostLanes.any (fun y => copies (carried hostFailS (.host 0)) (getAux hostFailS y)) = false ∧
      hostLanes.find? (fun y => (laneRole hostFailS y = lrSPARE || laneRole hostFailS y = lrCOVER) &&
        (getAux hostFailS y).txCopy.isNone && (getAux hostFailS y).copyNext.isNone && laneState hostFailS y = lsUP) =
        some (.host 16) ∧
      laneRole hostFailS (.host 0) = lrFAILED ∧ (getAux hostFailS (.host 0)).rqOut = true ∧
      hostLanes.any (fun z => laneRole hostFailS z = lrCOVER && laneCopy hostFailS z = ownNumber hostFailS (.host 0)) = false) ∧
    (laneRole (quarLaneS (.panel 107)) (.panel 107) = lrQUARANTINED ∧ laneRole (quarLaneS (.host 17)) (.host 17) = lrQUARANTINED) := by
  decide +kernel

/-- Lane 105 has returned as a spare while lane 107 covers it. -/
def coverS : State := regsOn [(Reg.LNP_LSTAT 105, 0xFF000106), (Reg.LNP_LSTAT 107, 0x69000206)] baseS

/-- Host lane 16 covers lane 5, which has its RESTORE and one marker period of its copy behind it. -/
def backS : State := regsOn [(Reg.LNH_LSTAT 5, 0x05000106), (Reg.LNH_LSTAT 16, 0x05000206)] { baseS with lanes := [(5, { phase := .restoring 1 })] }
/-- A marker of lane number 5 of link 0. -/
def marker5 : DWord := w64 (0xF0A66A0F + 2 ^ 32 * 5 + 2 ^ 48 * crc16 (leBytes 6 (0xF0A66A0F + 2 ^ 32 * 5)))
/-- Lane 17's checker expects PRBS-7. -/
def prbsS : State := withRegs [(Reg.LNH_LCTL 17, 32)]

theorem test_hyps_LaneCommands : CanWrite coverS 1 (lctlA (.panel 105)) ∧ laneRole coverS (.panel 105) = lrSPARE ∧
    (groupOf (.panel 105)).any (fun y => laneRole coverS y = lrCOVER && laneCopy coverS y = ownNumber coverS (.panel 105)) = true ∧
    (live backS = true ∧ laneState backS (.host 5) = lsUP ∧ laneRole backS (.host 5) = lrSPARE ∧
      (getAux backS (.host 5)).phase = .restoring 1 ∧ (markerRead marker5).map (fun r => dfld r.1 32 7) = some (ownNumber backS (.host 5)) ∧
      hostLanes.find? (fun y => laneRole backS y = lrCOVER && laneCopy backS y = ownNumber backS (.host 5)) = some (.host 16)) ∧
    (live prbsS = true ∧ prbsTaps (checkerSel prbsS (.host 17)) = some (7, 6) ∧ prbsS.captured.contains 4 = false) ∧
    (CanWrite hostS 1 (lctlA (.host 17)) ∧ laneRole hostS (.host 17) = lrSPARE) ∧
    (∀ l ∈ [Lane.panel 107, Lane.host 17], CanWrite (quarLaneS l) 1 (lctlA l) ∧ laneRole (quarLaneS l) l = lrQUARANTINED) := by
  decide +kernel

def psbS (frame : Nat) : State := { panelS with psb := { frame := frame, bad := [(35, 2)] } }
def fullPsb : State := { baseS with psb := { drvq := List.replicate 16 0 } }

theorem test_hyps_PanelStatusBus : live (psbS 71) = true ∧ psbAddress (psbS 71) 0 = (35, 1) ∧ psbAddress (psbS 35) 0 = (35, 0) ∧
    psbAddress (psbS 143) 0 = (35, 3) ∧ sGet zeroN 35 (psbS 71).psb.bad = 2 ∧ carrierOf panelS (3 * 35) = some (.panel 105) ∧
    CanWrite baseS 1 Reg.LNP_PSB_SEL ∧ fld (35 : Word) 0 6 < 36 ∧ CanWrite baseS 1 Reg.LNP_DRVREG ∧
    baseS.psb.drvq.length < 16 ∧ (fld (0x3F000000 : Word) 24 6 = 63) ∧ CanWrite fullPsb 1 Reg.LNP_DRVREG ∧
    16 ≤ fullPsb.psb.drvq.length := by decide +kernel

/-! ### Witnesses: composer, finishing, mirror -/

def compS (c : Comp) : State := regsOn [(Reg.PAGE_CTL 0x20, 1)] { baseS with comp := { c with st := .composing } }
def coarseS : State := compS { day := true, coarseQ := [509] }

theorem test_hyps_WorkItemsRun :
    (engineClock coarseS 0 = true ∧ composing coarseS = true ∧ coarseS.comp.day = true ∧
      engineFree coarseS 0 = true ∧ (nextWork coarseS 0).isSome = true) ∧
    (∀ w ∈ [Work.coarse 509, Work.full 2039, Work.verify 0],
      let s := compS { running := [⟨67, w⟩] }
      engineClock s 67 = true ∧ composing s = true ∧ s.comp.running.find? (fun r => r.e = 67) = some ⟨67, w⟩) ∧
    (let s := compS { coarse := 510, finQ := [3] }
     unitOn s 0x26 = true ∧ composing s = true ∧ s.comp.coarse = 510 ∧ s.comp.zoned = false) := by decide +kernel

/-- The first `n` items are done. -/
def doneOf (n : Nat) : State :=
  { baseS with comp := { st := .composing, done := (List.range n).map (fun i => ⟨i, 0, [], 0, false⟩) } }

theorem doneOf_complete (n i : Nat) (h : i ∈ List.range n) : itemComplete (doneOf n) i = true := by
  have h0 : (doneItem (doneOf n) i).isSome = true :=
    List.find?_isSome.2 ⟨⟨i, 0, [], 0, false⟩, List.mem_map.2 ⟨i, h, rfl⟩, decide_eq_true rfl⟩
  have h1 : (doneOf n).comp.finQ = [] := rfl
  have h2 : (doneOf n).comp.replaced = [] := rfl
  have h3 : (doneOf n).comp.redo = [] := rfl
  have h4 : (doneOf n).comp.running = [] := rfl
  have h5 : (doneOf n).comp.audits = [] := rfl
  simp [itemComplete, itemWritten, isReplaced, recomputing, auditOpen, h0, h1, h2, h3, h4, h5]

theorem test_hyps_CompositionCompletes :
    compClock (doneOf 2040) = true ∧ composing (doneOf 2040) = true ∧ allComplete (doneOf 2040) = true ∧
      enabled (doneOf 2040) 0x27 = true :=
  ⟨by decide +kernel, by decide +kernel, by
    simp only [allComplete, Bool.and_eq_true]
    exact ⟨List.all_eq_true.2 (doneOf_complete 2040), rfl⟩, by decide +kernel⟩

def engS : State := regsOn [(Reg.CMP_ESTAT 5, 3)] (compS { running := [⟨0, .full 7⟩, ⟨63, .coarse 9⟩], fullQ := [8], coarseQ := [10] })

theorem test_hyps_EnginesLeaveAndReturn : (engineClock engS 0 = true ∧ engineClock engS 63 = true ∧ inRole engS 0 = true ∧ inRole engS 63 = true ∧
      engS.comp.running.find? (fun r => r.e = 0) = some ⟨0, .full 7⟩ ∧
      engS.comp.running.find? (fun r => r.e = 63) = some ⟨63, .coarse 9⟩) ∧
    (live engS = true ∧ ceRole engS 5 = roQUARANTINED ∧ inRole engS 5 = false ∧ CanWrite engS 1 (Reg.CMP_ECTL 5)) ∧
    (CanWrite engS 1 (Reg.CMP_ECTL 67) ∧ ceRole engS 67 ≠ roRETIRED) := by decide +kernel

def mirF (n : Nat) : MirFrame := { frame := 3, buf := 2, m := 2, vx := 1, vy := 1, seqAt := 4, ready := true, next := n }
def mirS (n : Nat) : State := { linkS with mirror := [mirF n] }

theorem test_hyps_LinesZonesAndSeed : (∀ n ∈ [0, 2159],
      (mirS n).mirror.find? (mirMay (mirS n)) = some (mirF n) ∧ unitOn (mirS n) 0x05 = true ∧ (mirF n).lost = false ∧
      (∀ x ∈ (mirS n).link.out, x.vc = 1 → outReady (mirS n) x = false) ∧ linkUpNow (mirS n) = true ∧ vc0Ready (mirS n) = false ∧
      vc3Ready (mirS n) = false ∧ nextOut (mirS n) 2 2 = none ∧ wholeReady (mirS n) (lineTxn (mirS n) (mirF n) n) = true) ∧
    (CanRead baseS 1 Reg.FIN_ZDATA ∧ CanRead (withRegs [(Reg.FIN_ZSEL, 12287)]) 1 Reg.FIN_ZDATA) ∧
    CanRead baseS 1 Reg.SCN_FIFO_MIN ∧ (unitOn baseS 0x35 = true ∧ baseS.gl.seeded = false) := by decide +kernel

/-! ### Witnesses: memory -/

def hotUnits : List DramUnit := [.pc 31, .rank 3 1]
/-- 9 tREFI of debt, and half a one. -/
def debtS (n : Nat) : State := regsOn [(Reg.MFS_CTL, 2 ^ 16 + 3), (Reg.MSC_CTL, 2 ^ 16 + 3)] { baseS with now := n }

theorem test_hyps_RefreshesPayDebt : ∀ u ∈ hotUnits,
    (unitRuns (debtS 8775) u = true ∧ refreshUrgent (debtS 8775) u = true ∧ (getDram (debtS 8775) (dramKey u)).urgent = 0) ∧
    (unitRuns (debtS 500) u = true ∧ urgentFirst (debtS 500) u = false ∧ staggerOk (debtS 500) u = true ∧
      pressing (debtS 500) u = false ∧ (getDram (debtS 500) (queueKey u)).refresh = [] ∧ 0 ≤ debt (debtS 500) u) ∧
    (let s := { debtS 50 with dram := [(31, { paid := 15800 }), (39, { paid := 15800 })] }
     unitRuns s u = true ∧ urgentFirst s u = false ∧ staggerOk s u = true ∧ pressing s u = false ∧
      (getDram s (queueKey u)).refresh = [] ∧ debt s u = -(4 * trefi s u) ∧ idleFor s u 200 = true) ∧
    (unitRuns (debtS 25) u = true ∧ pdTime (debtS 25) (sysOf u) = some 100 ∧ idleFor (debtS 25) u 100 = true) := by decide +kernel

def nrrS : State := { debtS 0 with dram := [(31, { refresh := [(15, 7)] }), (38, { refresh := [(31, 7)] })] }

theorem test_hyps_HeatAndNeighbours : unitOn baseS 0x2F = true ∧ unitOn baseS 0x31 = true ∧ unitOn baseS 0x2E = true ∧
    (1360 ≤ (1360 : BitVec 16).toInt ∧ (1327 : BitVec 16).toInt < 1328 ∧ 1328 ≤ (1359 : BitVec 16).toInt) ∧
    (let s := regsOn [(Reg.MFS_STAT, 2)] { baseS with dram := [(16, { cool := 7 })] }
     regBit s Reg.MFS_STAT 1 = true ∧ (getDram s 16).cool = 7) ∧
    (unitRuns nrrS (.rank 3 1) = true ∧ urgentFirst nrrS (.rank 3 1) = false ∧ pick3 nrrS (.rank 3 1) = none ∧ sysOf (.rank 3 1) = .scene ∧ (getDram nrrS (queueKey (.rank 3 1))).refresh = [(31, 7)]) ∧
    (unitRuns nrrS (.pc 31) = true ∧ urgentFirst nrrS (.pc 31) = false ∧ pick3 nrrS (.pc 31) = none ∧ (getDram nrrS 31).refresh = [(15, 7)]) := by decide +kernel

/-- A read of the frame store's pseudo-channel 31 and of scene channel 3, and a write. -/
def fsReq : MemReq := ⟨0, 0, false, 29760, 0, 5, 1⟩
def scReq : MemReq := ⟨6, 0, true, 0x300, 1, 5, 1⟩

theorem test_hyps_RequestsScrubAndRepair :
    (unitRuns (debtS 0) (.pc 31) = true ∧
      pickReq (([fsReq].filter (reqOk (.pc 31))).foldl (arrive (.pc 31)) (debtS 0)) (.pc 31) = some ⟨fsReq, 0⟩ ∧
      (ueOf (debtS 0) .frame).contains (fsReq.offset / cwSize .frame) = false) ∧
    (unitRuns (debtS 0) (.rank 3 1) = true ∧
      pickReq (([scReq].filter (reqOk (.rank 3 1))).foldl (arrive (.rank 3 1)) (debtS 0)) (.rank 3 1) = some ⟨scReq, 0⟩ ∧
      (ueOf (debtS 0) .scene).contains (scReq.offset / cwSize .scene) = false) ∧
    (∀ sys ∈ [MemSys.frame, MemSys.scene], readEcc sys [] = .clean ∧ readEcc sys [(0, 1)] = .corrected) ∧
    readEcc .frame [(0, 1), (1, 1), (2, 1), (3, 1)] = .uncorrectable ∧
    (∀ sys ∈ [MemSys.frame, MemSys.scene], scrubRuns (debtS 0) sys = true ∧ (ueOf (debtS 0) sys).contains (getMem (debtS 0) sys).scrub = false ∧
      (getMem (debtS 0) sys).scrub + 1 < scrubEnd sys) ∧
    (let s := { debtS 0 with memF := { scrub := 132986879, rewrite := [4], rpl := [(15, 0x40000000)] } }
     scrubRuns s .frame = true ∧ scrubEnd .frame ≤ (getMem s .frame).scrub + 1 ∧ scrubPort s .frame = true ∧ (getMem s .frame).rewrite = [4] ∧
      (ueOf s .frame).contains 4 = false ∧ CanWrite s 1 (memBase .frame + 0xA0) ∧ fld (rplGet s .frame 15) 30 2 ≠ 0) := by
  decide +kernel

/-! ### Witnesses: time -/

/-- TB0 follows PTP on port 1 in domain 0 from the master 1.2 (end to end), TB3 follows PPS input 1. -/
def timeS (st : TbState) (f : Tracker → Tracker := id) (p2p : Nat := 0) : State :=
  regsOn [(Reg.TIM_TB_CTL 0, 2 ^ 31), (Reg.TIM_TB_CTL 3, 2 ^ 31), (Reg.TIM_TB_PRI 0, 2), (Reg.TIM_TB_PRI 3, 4),
    (Reg.TIM_TB_PID_LO 0, 1), (Reg.TIM_TB_PID_LO 0 + 8, 2), (Reg.TIM_ETH_CFG 1, 2 ^ 31 + p2p * 2 ^ 27)]
  { baseS with
    tb := [(0, { value := 2 ^ 100, st := st, i := 5 }), (3, { value := 2 ^ 90 })]
    eth := [(1, { up := true, dlf := some 3, t1 := some 7, pseq := 9 })]
    trk := [(0, f { df := some 100 })] }

def hdr0 : PtpHdr := ⟨0, 0, 1, 2, 9, 0⟩

theorem test_hyps_PtpMessagesMeasure :
    (∀ st ∈ [TbState.unset, TbState.acquire, TbState.locked],
      let s := timeS st
      portUp s 1 = true ∧ hdr0.via = portVia s 1 ∧ accepts s 0 1 hdr0 = true ∧ (∀ y ∈ [1, 2, 3], accepts s y 1 hdr0 = false) ∧
      trackerUse s 0 = some (0, true) ∧ pathDelay s 0 1 = some 100) ∧
    ((rxTime (timeS .locked) 1 0 - (2 ^ 68 : Int) - 100 - asymOf (timeS .locked) 1).natAbs < tbTheta (timeS .locked) 0) ∧
    (let s := timeS .locked (fun t => { t with wait := some ⟨9, 0, 0⟩ })
     (getTrk s 0).wait = some ⟨9, 0, 0⟩ ∧ accepts s 0 1 hdr0 = true ∧ pathDelay s 0 1 = some 100) ∧
    (let s := timeS .locked (fun t => { t with dseq := 9, t3 := some 4, sync := some (1, 2) })
     portP2p s 1 = false ∧ (getTrk s 0).dseq = hdr0.seq ∧ (getTrk s 0).t3 = some 4 ∧ (getTrk s 0).sync = some (1, 2) ∧
      accepts s 0 1 hdr0 = true) ∧
    (let s := timeS .locked id 1
     portUp s 1 = true ∧ portP2p s 1 = true ∧ (getEth s 1).t1 = some 7 ∧ (getEth s 1).pseq = hdr0.seq) := by decide +kernel

theorem test_hyps_PortsExchangeMessages :
    (let s := timeS .locked
     portUp s 1 = true ∧ (getEth s 1).txq.length < 16 ∧ trackerUse s 0 = some (0, true) ∧ trackerPort s 0 = some 1 ∧
      portP2p s 1 = false ∧ hdr0.via = portVia s 1) ∧
    (∀ f ∈ [0, 2 ^ 26], let s := regsOn [(Reg.TIM_ETH_CFG 1, 2 ^ 31 + 2 ^ 28 + 2 ^ 27 + f)] (timeS .locked)
     portUp s 1 = true ∧ (getEth s 1).txq.length < 16 ∧ portP2p s 1 = true ∧ hdr0.via ≠ portVia s 1 ∧
      ({ hdr0 with via := 1 } : PtpHdr).via = portVia s 1) := by decide +kernel

/-- TB0's shadow on tracker 1 is ready. -/
def shdS : State := regsOn [(Reg.TIM_TB_SHD 0, 1)]
  { timeS .locked with tb := [(0, { st := .locked, i := 5, shdTrk := some 1, shdCnt := 16 }), (3, {})] }

theorem test_hyps_SourcesChange :
    (unitOn shdS 0x34 = true ∧ trackerUse shdS 0 = some (0, true) ∧ shadowReady shdS 0 = true) ∧
    (∀ st ∈ [TbState.locked, TbState.acquire], unitOn (timeS st) 0x34 = true ∧ trackerUse (timeS st) 0 = some (0, true) ∧
      shadowReady (timeS st) 0 = false ∧ (getTb (timeS st) 0).st = st) ∧
    (let s := timeS .locked
     trackerUse s 3 = some (3, true) ∧ srcType (srcReg s 3 true) = 3 + 1 ∧ trackerUse s 1 = none ∧ trackerUse s 2 = none ∧
      srcType (srcReg s 0 true) ≠ 3 + 1) ∧
    (unitOn (timeS .locked) 0x33 = true ∧ regBit (timeS .locked) (Reg.TIM_ETH_CFG 1) 31 = true) ∧
    (CanWrite shdS 1 (Reg.TIM_TB_CMD 0) ∧ CanWrite (timeS .holdover) 1 (Reg.TIM_TB_CMD 0) ∧
      1 ≤ srcType (srcReg (timeS .holdover) 0 true) ∧ srcType (srcReg (timeS .holdover) 0 true) ≤ 4 ∧
      (getTb (timeS .holdover) 0).st = .holdover) ∧
    (CanWrite (timeS .locked) 1 (Reg.TIM_TB_PRI 0) ∧ (getTb (timeS .locked) 0).st = .locked ∧
      srcType (getReg (timeS .locked) (Reg.TIM_TB_PRI 0)) ≠ srcType (1 : Word) ∧ srcType (1 : Word) ≠ 5 ∧
      srcType (2 : Word) = srcType (getReg (timeS .locked) (Reg.TIM_TB_PRI 0))) := by decide +kernel

theorem test_hyps_TimeIsSetAndRead :
    (CanWrite (timeS .locked) 1 (Reg.TIM_TB_CMD 0) ∧ CanWrite baseS 1 (Reg.TIM_TB_CMD 3)) ∧
    (CanRead (timeS .locked) 1 (Reg.TIM_TB_NS 0) ∧ CanRead (after (.timTbNs 1 0) (timeS .locked)) 1 (Reg.TIM_TB_SLO 0) ∧
      CanRead baseS 1 (Reg.TIM_TB_SHI 0) ∧ CanRead baseS 1 (Reg.TIM_TB_FRAC 3) ∧ baseS.holds = []) ∧
    (CanRead baseS 1 (Reg.TIM_ETH_TXQ_W0 0) ∧ CanRead baseS 1 (Reg.TIM_ETH_TXQ_W0 1)) := by decide +kernel

/-- Trigger 3 is armed for 1 s, trigger 0 fires with every boundary, and PPS_OUT0 follows TB0. -/
def trigS : State := regsOn [(Reg.TIM_TRIG_CTL 3, 2 ^ 31 + 4), (Reg.TIM_TRIG_ABS_SLO 3, 1), (Reg.TIM_TRIG_CTL 0, 2 ^ 30 + 4),
    (Reg.TIM_GL_OUT, 4), (Reg.TIM_TB_CTL 0, 2 ^ 31), (Reg.TIM_GL_CTL, 2 ^ 16 * 100)]
  { baseS with trig := [(0, { run := true, next := 1 }), (3, { armed := true })], gl := { seeded := true } }

def slewS : State := { trigS with gl := { seeded := true, slewing := true, psi := 5000 * 2 ^ 48 } }

theorem test_hyps_OutputsFollowTime : (unitOn trigS 0x35 = true ∧ trigS.captured = []) ∧
    (trigMode trigS 3 = 2 ∧ (getTrig trigS 3).armed = true ∧ trigTime trigS 3 - tbStepLen trigS (glTb trigS) ≤ trigAbs trigS 3 ∧
      (trigReach 3 (trigAbs trigS 3) trigS).isSome = true) ∧
    (∀ b : Bool, let s := { trigS with trig := [(0, { run := b, next := 1 })] }
      trigMode s 0 = 1 ∧ trigFirst s 0 (trigTime s 0 - tbStepLen s (glTb s)) ≤ trigNext s 0 ∧
      (trigReach 0 (trigAt s 0 (trigNext s 0)) s).isSome = true) ∧
    (regBit trigS Reg.TIM_GL_OUT 2 = true ∧ 0 < tbStepLen trigS (regFld trigS Reg.TIM_GL_OUT 8 2)) ∧
    (let s := { trigS with gl := { seeded := true, psi := 2 ^ 90 } }
     unitOn s 0x35 = true ∧ s.gl.seeded = true ∧ (gridAt (tickMode s) 16).toNat < (glErr s).natAbs) ∧
    (unitOn slewS 0x35 = true ∧ slewS.gl.seeded = true ∧ slewS.gl.slewing = true ∧ 0 < slewMax slewS ∧
      ((getTb slewS (glTb slewS)).value : Int) + divCeil (glErr slewS).natAbs (slewMax slewS) * tbStepLen slewS (glTb slewS) < tbMod) := by
  decide +kernel

/-! ### Witnesses: temperature, store, power, maintenance, ports -/

/-- Every zone at one code. -/
def codesOf (c : Nat) : Vector (BitVec 12) 12 := Vector.replicate 12 (BitVec.ofNat 12 c)

/-- Four samples are in; zone 0 has read 60 °C above the others at two checks. -/
def hotS : State := { baseS with
  thm := { n := 4, samples := [(0, [960, 960, 960, 960])], dev := [(0, 2)] } }

/-- Zone 2 is faulty; its last three checks are as given. -/
def faultyS (l : List Bool) : State :=
  regsOn [(Reg.THM_STAT, 2 ^ 18)] { baseS with thm := { n := 4, checks := [(2, l)] } }

/-- The scene's dark panel frame is out, and Midnight is next. -/
def shutS : State := regsOn [(Reg.THM_STAT, 2 ^ 15)] { baseS with pwr := { shut := true } }

theorem test_hyps_TemperaturesAndShutdown :
    (unitOn hotS 0x36 = true ∧ (∀ z : Fin 12, zoneFaulty hotS z.val = false ∧ (codesOf 800)[z] ≠ 0 ∧ (codesOf 800)[z] ≠ 4095) ∧
      3 ≤ hotS.thm.n ∧
      (∀ z : Fin 12, sampleTemp (zoneTrim hotS z.val).1 (zoneTrim hotS z.val).2 (codesOf 800)[z].toNat < 2000)) ∧
    ((∀ z : Fin 12, (codesOf 3000)[z] ≠ 0 ∧ (codesOf 3000)[z] ≠ 4095) ∧
      2000 ≤ sampleTemp (zoneTrim hotS 0).1 (zoneTrim hotS 0).2 (codesOf 3000)[0].toNat) ∧
    (4 ≤ hotS.thm.n ∧ zoneFaulty hotS 0 = false ∧ 2 ≤ sGet zeroN 0 hotS.thm.dev ∧ 2 ≤ (zoneDiff hotS 0).2 ∧
      128 * (zoneDiff hotS 0).2 < (zoneDiff hotS 0).1.natAbs) ∧
    (∀ z, z < 12 → zoneFaulty { hotS with thm := { n := 4 } } z = false ∧ sGet zeroN z ({ n := 4 } : Thermal).dev < 2) ∧
    (∀ l ∈ [[true, true, true], [true, false, true]],
      CanWrite (faultyS l) 1 Reg.THM_ZCMD ∧ zoneFaulty (faultyS l) 2 = true ∧ sGet (fun _ => []) 2 (faultyS l).thm.checks = l) ∧
    CanRead hotS 1 Reg.THM_MAX ∧
    (gate baseS 1 Reg.THM_CMD true = none ∧ frozen baseS 1 = false ∧ mustHold baseS 1 Reg.THM_CMD = none ∧
      privileged baseS 1 = true ∧ live baseS = true ∧ baseS.pwr.shut = false ∧ baseS.scan.mode = none) ∧
    (live shutS = true ∧ shutS.pwr.shut = true ∧ regFld shutS Reg.THM_STAT 14 2 = 2 ∧ shutdownMayWrite shutS = true) := by decide +kernel

/-- A run of domain 2 is under way: unit 1 runs, unit 2 waits for its retry. -/
def calS : State := { baseS with
  thm := { runs := [2], units := [(2, 1), (2, 2)], started := [(257, some (500, 9))], retry := [2] }
  mnt := { queue := [⟨3, 1, false, false, true⟩] } }

theorem test_hyps_CalibrationRuns :
    (CanWrite baseS 1 Reg.CAL_REQ ∧ baseS.thm.runs.contains 3 = false ∧ baseS.thm.units = [] ∧ baseS.thm.retry = [] ∧
      baseS.mnt.queue.length < 13 ∧ calGroup 3 16 ≠ calGroup 3 0 ∧ ∀ u, calAsked baseS 3 u = false) ∧
    (unitOn calS 0x37 = true ∧ calS.thm.retry.contains 2 = true ∧ (calHeads calS 2).head? = some 1) ∧
    (let s := { calS with mnt := {} }; calAsked s 2 1 = false ∧ (calHeads s 2).head? = some 1 ∧ s.mnt.queue.length < 16) ∧
    (mntRunning calS 3 1 = true ∧ calReady calS 2 1 = true ∧ sGet noRun (unitKey 2 1) calS.thm.started = some (500, 9)) ∧
    (let s := withRegs [(Reg.CAL_LEDSET_IDX, 11)]
     CanRead s 1 Reg.CAL_LEDSET_DATA ∧ CanWrite s 1 Reg.CAL_LEDSET_DATA ∧ ledIndex s < 12) :=
  ⟨⟨by decide +kernel, rfl, rfl, rfl, by decide, by decide, fun _ => rfl⟩, by decide +kernel⟩

/-- Partition 8 at pages 8176 to 8191 has a write key. -/
def keyS : State := regsOn [(Reg.OZD_UNL_SEL, 2 ^ 8 + 8)] { baseS with
  ozd := { words := [], keys := [(8, 77 * 2 ^ 32)], wrong := [(8, 2)], low := [(1, 8320, 5), (2, 0, 6)] }
  boot := { hostOpen := true } }

theorem test_hyps_StoreAccess :
    (∀ w ∈ [0, 7, 8320, 12415],
      WindowOpen keyS 1 w false ∧ windowDenies keyS 1 (w / 8) = none ∧ WindowOpen keyS 1 w true) ∧
    (WindowOpen keyS 3 0 false ∧ windowDenies keyS 3 0 = some 1) ∧
    (keyS.ozd.low.find? (fun e => e.1 = 1 && e.2.1 = 8320) = some (1, 8320, 5) ∧
      keyS.ozd.low.any (fun e => e.1 = 1 && e.2.1 = 0) = false) ∧
    (CanWrite keyS 1 Reg.OZD_UNL_KEY ∧ partKey keyS 8 true = 77 ∧ lockedOut keyS 8 = false ∧ 2 ≤ sGet zeroN 8 keyS.ozd.wrong) ∧
    CanWrite keyS 1 Reg.OZD_RELOCK ∧ (CanWrite keyS 1 Reg.OZD_CTR_CMD ∧ deferring keyS = false) ∧
    (let s := { keyS with pwr := { dip := some ⟨0⟩ } }
     live s = true ∧ deferring s = true ∧ s.ozd.queue.length < 16) ∧
    (let s := { keyS with ozd := { keyS.ozd with queue := [.ring 1552 64 0 9] } }
     live s = true ∧ deferring s = false ∧ s.heldQ = [] ∧ s.ozd.lost = 0 ∧ s.ozd.queue = [.ring 1552 64 0 9]) := by
  decide +kernel

theorem test_hyps_ResetsAndBoot :
    live baseS = true ∧ (calS.mnt.queue.any MntReq.running = true ∧ live calS = true) ∧
    (gate baseS 1 Reg.SYS_RST true = none ∧ frozen baseS 1 = false ∧ mustHold baseS 1 Reg.SYS_RST = none ∧
      privileged baseS 1 = true ∧ baseS.pwr.dip = none) ∧
    (∀ p ∈ [0x0C, 0x28, 0x39, 0x3A], CanWrite baseS 1 (Reg.PAGE_CTL p)) ∧ atBoundary 0x28 = true ∧
    baseS.boot.hostOpen = false := by decide +kernel

/-- A power state, and the one that is due. -/
def pwrS (st : PState) (due : Option PState) (leaving : Option (Fin 3) := none) : State :=
  regsOn [(Reg.AON_WAKE_CTL, 7), (Reg.SCN_STAT, 2 ^ 31)] { baseS with pwr := { st := st, due := due, leaving := leaving } }

theorem test_hyps_PowerStates :
    CanWrite baseS 1 Reg.PWR_REQ ∧
    (∀ s ∈ [pwrS .noon (some .night), pwrS .evening (some .midnight), pwrS .night none (some 2)],
      live s = true ∧ s.pwr.dip = none ∧ s.pwr.shut = false ∧ scanResting s = true) ∧
    (∀ src : Fin 3, wakeEnabled (pwrS .night none) src.val = true) ∧
    ((pwrS .midnight none).pwr.tripped = false ∧ regBit (pwrS .midnight none) Reg.AON_STAT 1 = false) ∧
    (decide (10 * 712 < warnLevel 0) = true ∧ decide (10 * 1045 < warnLevel 3) = false ∧
      regBit baseS Reg.PWR_SUP_STAT 0 ≠ true ∧ regBit (withRegs [(Reg.PWR_SUP_STAT, 8)]) Reg.PWR_SUP_STAT 3 ≠ false) ∧
    (let s := { baseS with pwr := { dip := some ⟨1⟩ } }
     live s = true ∧ suppliesGood s = true ∧ s.pwr.blocks = [] ∧ s.pwr.chip = none ∧ s.pwr.shut = false) := by decide +kernel

/-- Panel lane 5 is verified, engine 4 is quarantined and verified, and a request waits to join again. -/
def mntS : State := regsOn [(Reg.DCX_STAT 4, 3)] (setLaneRole (.panel 5) lrVERIFY { baseS with
  mnt := { queue := [⟨actPVER, 5, false, false, true⟩, ⟨actDVER, 4, false, false, true⟩, ⟨3, 1, false, false, false⟩]
           requeue := [⟨1, 2, true, false, false⟩] } })

/-- A request of a code for panel lane 0, which is active; the last lane of its group is its spare. -/
def askS (act : Nat) : State :=
  let spare := ((groupOf (.panel 0)).getLast?).getD (.panel 0)
  setLaneRole (.panel 0) lrACTIVE (setLaneState spare lsUP (setLaneRole spare lrSPARE (setLaneCopy spare 0xFF
    { withRegs [(Reg.MNT_CTL, 0xFFF)] with mnt := { queue := [⟨act, 0, false, false, false⟩] } })))

theorem test_hyps_MaintenanceRuns :
    (live calS = true ∧ mntRunning mntS actPVER 5 = true ∧ mntRunning mntS actDVER 4 = true ∧
      laneRole mntS (.panel 5) = lrVERIFY ∧ deRole mntS 4 = 3 ∧ mntS.mnt.queue[2]? = some ⟨3, 1, false, false, false⟩) ∧
    (mntS.mnt.queue.length < 16 ∧ mntS.mnt.queue.any (fun r => r.act = 1 && r.unit = 2) = false) ∧
    (fabricOn baseS = true ∧ deRole baseS 0 ≤ 1) ∧
    (live (askS actPVER) = true ∧ (nextActivity (askS actPVER)).map MntReq.act = some actPVER ∧
      needsSpare (askS actPVER) actPVER 0 = false) ∧
    ((nextActivity (askS actPCAL)).map MntReq.act = some actPCAL ∧ needsSpare (askS actPCAL) actPCAL 0 = true ∧
      (idleSpare (askS actPCAL) (calLane actPCAL 0)).isSome = true) ∧
    (CanWrite mntS 1 Reg.MNT_DECMD ∧ 2 ≤ deRole mntS 4) := by decide +kernel

theorem test_hyps_PortsServe :
    (baseS.pwr.tripped = false ∧ baseS.pwr.st ≠ .midnight ∧ baseS.pwr.st ≠ .night) ∧
    ((pwrS .night none).pwr.st = .night ∧ (pwrS .night none).pwr.tripped = false ∧ (pwrS .night none).pwr.shut = false ∧
      wakeEnabled (pwrS .night none) 0 = true) ∧
    ((pwrS .midnight none).pwr.st = .midnight ∧ wakeEnabled (pwrS .midnight none) 0 = true ∧
      regBit (pwrS .midnight none) Reg.AON_STAT 1 = false) := by decide +kernel

/-! ### Ill-formed commands that the checks refuse -/

/-- A request with LEN 2^32, one with 4097 bytes of data, and one that is well formed. -/
theorem test_wf_request : Req.wf ⟨0, 0, 0, 0, 2 ^ 32, 0, 0, false, []⟩ = false ∧
    Req.wf ⟨0, 0, 0, 0, 1, 0, 0, false, List.replicate 4097 0⟩ = false ∧
    Instr.wf (.rd ⟨0, 0, 0, 0, 2 ^ 32, 0, 0, false, []⟩) = false ∧ Instr.wf (.wr ⟨0, 0, 0, 0, 2 ^ 32, 0, 0, false, []⟩) = false ∧
    Instr.wf (.bput ⟨0, 0, 0, 0, 2 ^ 32, 0, 0, false, []⟩) = false ∧
    Instr.wf (.bget ⟨0, 0, 0, 0, 2 ^ 32, 0, 0, false, []⟩) = false ∧
    Instr.wf (.rd ⟨0, 0, 0, 0, 64, 0, 0, false, []⟩) = true := by decide +kernel

/-- Port 6 of the frame store, bank 16, rank 1, an offset beyond each memory, port 7 of scene memory; errors on symbols
and upsets at places that there are not. -/
theorem test_wf_memory : (∀ q ∈ [(⟨6, 0, false, 0, 0, 0, 0⟩ : MemReq), ⟨0, 0, false, 0, 0, 16, 0⟩, ⟨0, 0, false, 2 ^ 34, 0, 0, 0⟩, ⟨0, 0, false, 0, 1, 0, 0⟩],
      Instr.wf (.memoryRequestIssue (.pc 3) [q] []) = false) ∧
    (∀ q ∈ [(⟨7, 0, false, 0, 0, 0, 0⟩ : MemReq), ⟨0, 0, false, 2 ^ 36, 0, 0, 0⟩],
      Instr.wf (.memoryRequestIssue (.rank 0 1) [q] []) = false) ∧
    Instr.wf (.memoryRequestIssue (.rank 0 1) [⟨6, 0, false, 0, 1, 16, 0⟩] [(143, 255)]) = true ∧
    Instr.wf (.memoryRequestIssue (.pc 3) [] [(66, 1)]) = false ∧ Instr.wf (.scrubRead .frame [(66, 1)] false) = false ∧
    Instr.wf (.scrubRead .scene [(144, 1)] false) = false ∧ Instr.wf (.workItemDone ⟨0, [(786432, 0)]⟩) = false := by decide +kernel

/-- A negative time, a time of 2^48 s, and corrections of 65 bits. -/
theorem test_wf_ptp : let h : PtpHdr := ⟨0, 0, 1, 2, 9, 0⟩
    let low : PtpHdr := { h with corr := -(2 ^ 63) - 1 }
    let high : PtpHdr := { h with corr := 2 ^ 63 }
    (∀ t ∈ [(-1 : Int), 2 ^ 64 * 1000000000], Instr.wf (.sync 0 h t true) = false ∧ Instr.wf (.followUp 0 h t) = false ∧
      Instr.wf (.delayResp 0 h t) = false ∧ Instr.wf (.pdelayResp 0 h t 0) = false ∧ Instr.wf (.pdelayResp 0 h 0 t) = false) ∧
    (∀ x ∈ [low, high], Instr.wf (.sync 0 x 0 true) = false ∧ Instr.wf (.followUp 0 x 0) = false ∧
      Instr.wf (.delayResp 0 x 0) = false ∧ Instr.wf (.pdelayReq 0 x) = false ∧ Instr.wf (.pdelayResp 0 x 0 0) = false ∧
      Instr.wf (.announce 0 ⟨x, 0, 0, 0, 0, 0, 0, 0, 0, 0, false⟩) = false) ∧
    Instr.wf (.sync 0 h 0 true) = true := by decide +kernel

/-- Numbers out of range: an LCT entry, a detection window, supplies, a dip, activity codes 0 and 12. -/
theorem test_wf_numbers : Instr.wf (.lctLoadReadError 2073600) = false ∧ Instr.wf (.lctLoadReadError 2073599) = true ∧
    Instr.wf (.detectRetry (.host 0) true 101) = false ∧ Instr.wf (.supplyWarning 0 true 65536) = false ∧
    Instr.wf (.dipRecovery 65536 0) = false ∧ Instr.wf (.dipRecovery 0 1001) = false ∧
    Instr.wf (.mntActivityDone 0 0 true) = false ∧ Instr.wf (.mntActivityDone 12 0 true) = false ∧
    Instr.wf (.mntActivityDone 11 0 true) = true := by decide +kernel

/-! ### Worked examples of the spec -/

/-- 03_ray_geometry.md, six rays under lenslet (1,000, 500). -/
theorem test_rays : ∀ q ∈ [(0, 0, 14627, -8722), (1, 0, 12419, -8722), (2, 0, 10211, -8715), (0, 3, 11305, -12037),
    (1, 3, 9097, -12031), (2, 3, (6889 : Int), (-12031 : Int))],
    rayGeometry 0x2800 0x000206064FF00080 8002 4005 q.1 q.2.1 = ⟨8196224, 4100032, q.2.2.1, q.2.2.2, false⟩ := by decide +kernel

/-- The same example: the green ray of slot 0 crosses two planes. -/
theorem test_crossings : let r : Ray := ⟨8196224, 4100032, 12419, -8722, false⟩
    crossing r 2592 = some (8204083, 4094513) ∧ crossing r (-792) = some (8193823, 4101718) := by decide +kernel

/-- 05_ingest_decompression.md, a two-row stream: its last phrase, whose code is the entry being made, then the row copy. -/
theorem test_stream :
    let c : Dcx :=
      { st := .opened, input := [0x2C, 0x28, 0x30, 0, 0x40, 0x0C, 0x08], bit := 3, pos := 51, decoded := 4,
        dict := [[65, 66], [66, 65]], prev := some [65, 66], hist := [66, 65, 66, 65],
        blk := some ⟨true, none, 12, 4⟩ }
    ((fdcStep 4096 c).toOption.map Prod.snd = some [65, 66, 65]) ∧
    (((fdcStep 4096 c).toOption.bind (fun x => (fdcStep 4096 x.1).toOption)).map (fun x => (x.2, x.1.pos)) =
      some ([66, 65, 66, 65, 66], 91)) ∧
    (match fdcStep 4096 { c with input := [0x34, 0x28, 0x30, 0, 0x40, 0x0C, 0x08] } with
      | .error e => some e
      | .ok _ => none) = some (.err 1 51) := by decide +kernel

/-- 08_finishing.md: a zone code, a compensated value, its drive target, and the pixel's bytes and place. -/
theorem test_finishing :
    let s : State := withRegs [(Reg.FIN_ZGAIN 1, 0xFF0000), (Reg.FIN_K 1, 0xFF0000)]
    let x := { s with tabs := (setTab tabXFR true 7991 64037
      (setTab tabXFR true 7992 64045 s)).tabs }
    demandCode s 1 64093 = 250 ∧ compensate s 1 13189120 49189 = (62327, false) ∧ transfer x 1 62327 = 0xFA3 ∧
    pixelBytes 0x9C4 0xFA3 0x3E8 = [0xC4, 0x39, 0xFA, 0xE8, 0x03] ∧ pixelOff 1 0 8002 4005 = 2961832010 ∧
    fsPc 2961832010 = 25 := by decide +kernel

/-- The same chapter: the modelled backlight of two zones. -/
theorem test_backlight_sum :
    let s := setTab tabSPR true (4096 + 128) 0xC000 (setTab tabSPR true (4096 + 137) 0x1000 baseS)
    spread s 1 2 0 * 250 + spread s 1 2 9 * 220 = 13189120 ∧ reach 16020 16008 = some 0 ∧ reach 7965 8008 = some 2 ∧
    reach 15860 16008 = some 9 ∧ reach 16180 16008 = some 10 := by decide +kernel

/-- 09_scanout_panel.md: overdrive, dither and polarity of a subpixel; command words of two LINE packets. -/
theorem test_scanout :
    let s : State := withRegs [(Reg.SCN_CTL, 35), (Reg.SCN_STAT, 2 ^ 11), (Reg.SCN_PERIOD, 1000001)]
    let x := { s with tabs := (setTab tabOD true 8545 64320 (setTab tabOD true 8578 64000 (setTab tabOD true 8546 65535
      (setTab tabOD true 8579 65535 s)))).tabs }
    overdrive x 1 3500 4003 false = 4036 ∧ ditherCode s 4036 24007 4005 = 1009 ∧ polOf s 4005 = false ∧
    subpixelPol s 24007 4005 = true ∧ cmdWord 1 0xFA5 = 0x11000FA5 ∧ cmdWord 1 0x18064 = 0x1A018064 := by decide +kernel

/-- 13_thermal_calibration.md: samples of TZ5, their average, eight boundaries of throttling, and a driver's trim. -/
theorem test_thermal :
    [2343, 2358, 2366, 2372].map (sampleTemp 0x4000 0) = [1575, 1590, 1598, 1604] ∧
    zoneAvg { baseS with thm := { samples := [(5, [1575, 1590, 1598, 1604])] } } 5 = 1592 ∧
    (∀ q ∈ [(0, 184, false), (184, 112, true), (112, 40, true), (40, 224, false), (8, 192, false)],
      dutyStep (regsOn [(Reg.THM_STAT, 184)] { baseS with thm := { acc := q.1 } }) = (q.2.1, q.2.2)) ∧
    interp4 (fun i => ([0x800, 0x7E0, 0x7B8, 0x790] : List Int).getD i 0) 768 = 0x7E7 := by decide +kernel

/-- 15_resets_power.md, boots from slot B: the fallback and its event's detail, 0x34. -/
theorem test_boot_detail : bootDetail ⟨some 0, true, false, true, true⟩ = 0x34 ∧ bootDetail ⟨some 1, false, false, true, true⟩ = 0x31 := by
  decide +kernel

/-- CRC-32C with the parameters of R131 over the ASCII digits 1 to 9. -/
theorem test_crc32c : crc32c [0x31, 0x32, 0x33, 0x34, 0x35, 0x36, 0x37, 0x38, 0x39] = 0xE3069283 := by decide +kernel

end Sys2Proof.Tests
end

/-!
Writes of shadowed registers and of their shadow images (R19, R43): on which pages they stand, which effect a write of
them has, and from this the obligation on them.
-/
namespace Sys2Proof.Machine

/-! ### Where shadowed registers stand -/

theorem mem_of_findRow {o : Nat} {r : RegRow} : ∀ {l : List RegRow}, findRow o l = some r → r ∈ l
  | q :: t, h => by
    unfold findRow at h
    split at h
    · cases h
      exact List.mem_cons_self
    · exact List.mem_cons_of_mem _ (mem_of_findRow h)

/-- The row found at an offset of page `p` is one of a group that covers the page. -/
theorem group_of_findInGroups {p o : Nat} {r : RegRow} : ∀ {l : List RegGroup}, findInGroups p o l = some r →
    ∃ g ∈ l, g.page ≤ p ∧ p < g.page + g.np ∧ r ∈ g.rows
  | g :: t, h => by
    have later (ht : findInGroups p o t = some r) :
        ∃ g' ∈ g :: t, g'.page ≤ p ∧ p < g'.page + g'.np ∧ r ∈ g'.rows := by
      obtain ⟨g', hmem, hg'⟩ := group_of_findInGroups ht
      exact ⟨g', List.mem_cons_of_mem _ hmem, hg'⟩
    unfold findInGroups at h
    split at h
    · next hp =>
      split at h
      · next q hq =>
        cases h
        exact ⟨g, List.mem_cons_self, hp.1, hp.2, mem_of_findRow hq⟩
      · exact later h
    · exact later h

/-- The pages with shadowed registers. -/
def shadowedPages : List Nat := [0x06, 0x1F, 0x20, 0x26, 0x27, 0x28, 0x29, 0x2A, 0x2B, 0x2C, 0x2D, 0x35]

theorem shadowed_group_pages :
    ∀ g ∈ regGroups, ∀ r ∈ g.rows, r.sh = true → ∀ k < g.np, g.page + k ∈ shadowedPages := by decide

theorem page_of_shadowed {a : Nat} {r : RegRow} (h : activeRow a = some r) (hs : r.sh = true) :
    a / 4096 ∈ shadowedPages := by
  obtain ⟨g, hg, hlo, hhi, hr⟩ := group_of_findInGroups h
  have := shadowed_group_pages g hg r hr hs (a / 4096 - g.page) (by omega)
  rwa [Nat.add_sub_cancel' hlo] at this

/-- A shadow image stands 0x800 above a shadowed register, in the upper half of its page (R43). -/
theorem regAt_shadow {a : Nat} {r : RegRow} (h : regAt a = .shadow r) :
    0x800 ≤ a % 4096 ∧ activeRow (a - 0x800) = some r ∧ r.sh = true := by
  unfold regAt at h
  split at h
  · cases h
  · split at h
    · next ho =>
      split at h
      · next q hq =>
        split at h
        · next hs =>
          cases h
          exact ⟨ho, hq, hs⟩
        · cases h
      · cases h
    · cases h

theorem page_of_shadow {a : Nat} {r : RegRow} (h : regAt a = .shadow r) : a / 4096 ∈ shadowedPages := by
  obtain ⟨ho, hrow, hs⟩ := regAt_shadow h
  have hpage : (a - 0x800) / 4096 = a / 4096 := by omega
  rw [← hpage]
  exact page_of_shadowed hrow hs

/-! ### What a write of a shadow image does -/

theorem ne_of_upper_half {a b : Nat} (ha : 0x800 ≤ a % 4096) (hb : b % 4096 < 0x800) : a ≠ b := by
  rintro rfl
  omega

theorem shadowStat_mod (p : Nat) : Reg.SHADOW_STAT p % 4096 = 0x24 := Nat.add_mul_mod_self_left _ _ _

/-- The command registers of the pages with shadowed registers all stand in the lower half: above it a write only stores. -/
theorem effPage_upper_half {a : Nat} (hp : a / 4096 ∈ shadowedPages) (ho : 0x800 ≤ a % 4096) (m : Master) (v : Word)
    (s : State) : effPage m a v s = storeReg a v s := by
  have ha : a = 4096 * (a / 4096) + a % 4096 := (Nat.div_add_mod a 4096).symm
  unfold effPage
  generalize a % 4096 = o at *
  have hhead : ¬ o < 0x40 := by omega
  have hhalf : ¬ o < 0x800 := by omega
  have hpsb : o ≠ 0x44 ∧ o ≠ 0x4C := by omega
  simp only [shadowedPages, List.mem_cons, List.not_mem_nil, or_false] at hp
  rcases hp with hp | hp | hp | hp | hp | hp | hp | hp | hp | hp | hp | hp
  all_goals
    rw [hp] at ha ⊢
    subst ha
    simp (disch := omega) [hhead, hhalf, hpsb, effPage06, effPage1F, effPage20, effPage26, effPage28, effPage29, effPage2A,
      effPage2B]

theorem storeReg_shadow {a : Nat} {r : RegRow} (h : regAt a = .shadow r) (v : Word) (s : State) :
    storeReg a v s = setDirty (a / 4096) (setReg a ((getReg s a &&& ~~~w32 r.rw) ||| (v &&& w32 r.rw)) s) := by
  simp [storeReg, h]

theorem writeActs_shadow {a : Nat} {r : RegRow} (h : regAt a = .shadow r) : writeActs a = true := by
  simp [writeActs, h]

theorem writeActs_active_shadowed {a : Nat} {r : RegRow} (h : regAt a = .active r) (hs : r.sh = true) :
    writeActs a = false := by
  simp [writeActs, h, hs]

theorem getReg_setDirty_ne {p b : Nat} (h : b ≠ Reg.SHADOW_STAT p) (s : State) : getReg (setDirty p s) b = getReg s b :=
  getReg_setRegBit_ne h _ _ _

theorem regBit_setDirty (p : Nat) (s : State) : regBit (setDirty p s) (Reg.SHADOW_STAT p) 31 = true := by
  simp [regBit, setDirty]

/-! ### Writes of page addresses -/

theorem writeReg_page {a : Nat} (h4 : a % 4 = 0) (hlt : a < 0x3C000) (hrst : a ≠ Reg.SYS_RST) (hthm : a ≠ Reg.THM_CMD)
    (m : Master) (v : Word) (s : State) : writeReg m a v s = writeWith m a v (effPage m a v) s := by
  simp [writeReg, locOf, writePage, h4, hlt, hrst, hthm]

/-- Nothing that stops a read before host access lets a write through (R461). -/
theorem gate_read_of_write {s : State} {m a : Nat} (h : gate s m a true = none) : gate s m a false = none := by
  unfold gate at *
  split_ifs at * <;> simp_all

@[simp] theorem noteM0_lastAccess (m : Master) (s : State) : (noteM0 m s).lastAccess = s.lastAccess := by
  unfold noteM0
  split
  · split <;> rfl
  · rfl

/-- A write of the active offset of a shadowed register acts on nothing, whoever owns the page (R19). -/
theorem writeReg_active_shadowed {a : Nat} {r : RegRow} (h4 : a % 4 = 0) (hlt : a < 0x3C000) (h : regAt a = .active r)
    (hs : r.sh = true) {s : State} {m : Master} (hgate : gate s m.val a true = none) (hfrozen : frozen s m.val = false)
    (hhold : mustHold s m.val a = none) (v : Word) : writeReg m a v s = noteM0 m (answer .done 0 s) := by
  have hacts := writeActs_active_shadowed h hs
  have hrst : a ≠ Reg.SYS_RST := fun e => absurd (e ▸ hacts) (by decide)
  have hthm : a ≠ Reg.THM_CMD := fun e => absurd (e ▸ hacts) (by decide)
  rw [writeReg_page h4 hlt hrst hthm]
  exact writeWith_idle ⟨gate_read_of_write hgate, hfrozen, hhold⟩ hgate hacts _ _

/-- A write of a shadow image by a master with the right to it is its plain store (R19, R43). -/
theorem writeReg_shadow {a : Nat} {r : RegRow} (h4 : a % 4 = 0) (hlt : a < 0x3C000) (h : regAt a = .shadow r) (m : Master)
    (v : Word) (s : State) : writeReg m a v s = writeWith m a v (storeReg a v) s := by
  obtain ⟨ho, -, -⟩ := regAt_shadow h
  rw [writeReg_page h4 hlt (ne_of_upper_half ho (by decide)) (ne_of_upper_half ho (by decide))]
  exact congrArg (writeWith m a v · s) (funext (effPage_upper_half (page_of_shadow h) ho m v))

theorem storeReg_shadow_but {a : Nat} {r : RegRow} (h : regAt a = .shadow r) (v : Word) (s : State) :
    RegsBut [a, Reg.SHADOW_STAT (a / 4096)] s (storeReg a v s) := by
  intro b hb
  simp only [List.mem_cons, List.not_mem_nil, or_false, not_or] at hb
  rw [storeReg_shadow h, getReg_setDirty_ne hb.2, getReg_setReg_ne hb.1]

theorem storeReg_shadow_regs {a : Nat} {r : RegRow} (h : regAt a = .shadow r) (v : Word) (s : State) :
    RegsOnly s (storeReg a v s) := by
  rw [storeReg_shadow h]
  rfl

/-- Settles O8: the active offset of a shadowed register is one that a write does not act on, and the effect of a write
above the lower half of a page with shadowed registers is the plain store, which sets DIRTY. -/
theorem shadowWriteSetsDirty : Obligations.ShadowWriteSetsDirty := by
  unfold Obligations.ShadowWriteSetsDirty
  constructor
  · intro m a v s r h4 hlt hreg hs hgate hfrozen hhold
    refine ⟨writeReg m a.toNat v s, rfl, ?_⟩
    rw [writeReg_active_shadowed h4 hlt hreg hs hgate hfrozen hhold]
    refine ⟨noteM0_lastAccess _ _, fun b hb => ?_, ?_⟩
    · rw [noteM0_getReg _ _ _ (by simpa using hb), getReg_answer]
    · exact noteM0_regs m (answer .done 0 s)
  · intro m a v s r h4 hlt hreg hcan
    have hacts := writeActs_shadow hreg
    obtain ⟨ho, -, -⟩ := regAt_shadow hreg
    have hm0 : a.toNat ≠ Reg.SYS_M0_STAT := ne_of_upper_half ho (by decide)
    have hstat : a.toNat ≠ Reg.SHADOW_STAT (a.toNat / 4096) := ne_of_upper_half ho (by rw [shadowStat_mod]; decide)
    have hstat0 : Reg.SHADOW_STAT (a.toNat / 4096) ≠ Reg.SYS_M0_STAT := fun e =>
      absurd (e ▸ shadowStat_mod (a.toNat / 4096)) (by decide)
    refine ⟨writeReg m a.toNat v s, rfl, ?_⟩
    rw [writeReg_shadow h4 hlt hreg]
    refine ⟨?_, ?_, ?_, writeWith_but hcan hacts v _ _ (storeReg_shadow_but hreg _ _),
      writeWith_regs hcan hacts v _ (storeReg_shadow_regs hreg _ _)⟩
    · rw [writeWith_ok hcan hacts, noteM0_lastAccess, storeReg_shadow hreg]
      rfl
    · rw [writeWith_ok hcan hacts, noteM0_getReg _ _ _ hm0, storeReg_shadow hreg, getReg_setDirty_ne hstat, getReg_setReg_same,
        getReg_answer]
    · rw [writeWith_ok hcan hacts, regBit, noteM0_getReg _ _ _ hstat0, storeReg_shadow hreg]
      exact regBit_setDirty _ _

end Sys2Proof.Machine

/-!
The commit of the shadow set (02_control_plane.md, R54–R59): where shadow images stand, what the swap puts into
registers and tables, what an event leaves in its record, and from these the obligations on requests and decisions.
-/
namespace Sys2Proof.Machine

/-! ### Addresses of shadowed registers and of their images (R43) -/

theorem findRow_bounds {o : Nat} {r : RegRow} : ∀ {l : List RegRow}, findRow o l = some r →
    r.off ≤ o ∧ o < r.off + r.stride * r.cnt
  | q :: t, h => by
    unfold findRow at h
    split at h
    · next hq =>
      cases h
      exact ⟨hq.1, hq.2.1⟩
    · exact findRow_bounds h

theorem findInGroups_bounds {p o : Nat} {r : RegRow} : ∀ {l : List RegGroup}, findInGroups p o l = some r →
    r.off ≤ o ∧ o < r.off + r.stride * r.cnt
  | g :: t, h => by
    unfold findInGroups at h
    split at h
    · split at h
      · next hq =>
        cases h
        exact findRow_bounds hq
      · exact findInGroups_bounds h
    · exact findInGroups_bounds h

theorem rows_of_shadowedPages_in_lower_half :
    ∀ g ∈ regGroups, ∀ k < g.np, g.page + k ∈ shadowedPages → ∀ r ∈ g.rows, r.off + r.stride * r.cnt ≤ 0x800 := by
  decide

/-- The upper half of a page with shadowed registers holds images only. -/
theorem lower_half_of_activeRow {a : Nat} {r : RegRow} (h : activeRow a = some r) (hp : a / 4096 ∈ shadowedPages) :
    a % 4096 < 0x800 := by
  obtain ⟨g, hg, hlo, hhi, hr⟩ := group_of_findInGroups h
  have hrows := rows_of_shadowedPages_in_lower_half g hg (a / 4096 - g.page) (by omega)
    (by rwa [Nat.add_sub_cancel' hlo]) r hr
  have := findInGroups_bounds h
  omega

theorem activeRow_of_regAt {a : Nat} {r : RegRow} (h : regAt a = .active r) : activeRow a = some r := by
  unfold regAt at h
  split at h
  · next hq =>
    cases h
    exact hq
  · repeat' split at h
    all_goals cases h

theorem regAt_of_activeRow {a : Nat} {r : RegRow} (h : activeRow a = some r) : regAt a = .active r := by
  simp [regAt, h]

/-- A register with a shadow image. -/
def isShadowed (a : Nat) : Bool :=
  match regAt a with
  | .active r => r.sh
  | _ => false

theorem isShadowed_iff {a : Nat} : isShadowed a = true ↔ ∃ r, regAt a = .active r ∧ r.sh = true := by
  unfold isShadowed
  split
  · next r h => exact ⟨fun hs => ⟨r, h, hs⟩, fun ⟨q, hq, hs⟩ => by rw [h] at hq; cases hq; exact hs⟩
  · next h => exact ⟨nofun, fun ⟨q, hq, _⟩ => absurd hq (h q)⟩

theorem activeRow_of_isShadowed {a : Nat} (h : isShadowed a = true) : ∃ r, activeRow a = some r ∧ r.sh = true := by
  obtain ⟨r, hr, hs⟩ := isShadowed_iff.1 h
  exact ⟨r, activeRow_of_regAt hr, hs⟩

theorem page_of_isShadowed {a : Nat} (h : isShadowed a = true) : a / 4096 ∈ shadowedPages := by
  obtain ⟨r, hr, hs⟩ := activeRow_of_isShadowed h
  exact page_of_shadowed hr hs

theorem lower_half_of_isShadowed {a : Nat} (h : isShadowed a = true) : a % 4096 < 0x800 := by
  obtain ⟨r, hr, -⟩ := activeRow_of_isShadowed h
  exact lower_half_of_activeRow hr (page_of_isShadowed h)

/-- 0x800 above a shadowed register stands its image. -/
theorem regAt_image {a : Nat} (h : isShadowed a = true) : ∃ r, regAt (a + 0x800) = .shadow r := by
  have hlo := lower_half_of_isShadowed h
  obtain ⟨r, hr, hs⟩ := activeRow_of_isShadowed h
  have hnone : activeRow (a + 0x800) = none := by
    refine Option.eq_none_iff_forall_not_mem.2 fun q hq => ?_
    have hpage : (a + 0x800) / 4096 ∈ shadowedPages := by
      rw [show (a + 0x800) / 4096 = a / 4096 by omega]
      exact page_of_isShadowed h
    have := lower_half_of_activeRow hq hpage
    omega
  have hhi : 0x800 ≤ (a + 0x800) % 4096 := by omega
  exact ⟨r, by simp [regAt, hnone, hhi, hr, hs]⟩

/-- A shadow image stands 0x800 above the register that it is the image of. -/
theorem isShadowed_of_image {a : Nat} {r : RegRow} (h : regAt a = .shadow r) : isShadowed (a - 0x800) = true := by
  obtain ⟨-, hr, hs⟩ := regAt_shadow h
  exact isShadowed_iff.2 ⟨r, regAt_of_activeRow hr, hs⟩

theorem not_isShadowed_image {a : Nat} (h : isShadowed a = true) : isShadowed (a + 0x800) = false := by
  obtain ⟨r, hr⟩ := regAt_image h
  simp [isShadowed, hr]

/-- The register at an address takes no part in a swap: it is neither shadowed nor an image. -/
def unswapped (b : Nat) : Bool := !isShadowed b && decide (b % 4096 < 0x800)

theorem not_mem_of_isShadowed {a : Nat} {l : List Nat} (h : isShadowed a = true) (hl : ∀ b ∈ l, unswapped b = true) :
    a ∉ l ∧ a + 0x800 ∉ l := by
  have hlo := lower_half_of_isShadowed h
  constructor
  · intro ha
    simpa [unswapped, h] using hl a ha
  · intro ha
    have hu := hl _ ha
    simp only [unswapped, Bool.and_eq_true, decide_eq_true_eq] at hu
    omega

theorem shadowed_rows_of_page06 : ∀ g ∈ regGroups, g.page ≤ 6 → 6 < g.page + g.np → ∀ r ∈ g.rows, r.sh = true →
    r.off + r.stride * r.cnt ≤ 0x104 := by decide

/-- The registers, beside those of lanes and engines, that do not reset to 0. -/
def nonzeroResets : List Nat :=
  [Reg.LCT_CTL, Reg.LCT_AUDIT, Reg.ING_WCAP, Reg.THM_STAT, Reg.SYS_RESET_CAUSE, Reg.AON_STAT, Reg.MST_PRIV, Reg.MFS_ROLES,
   Reg.SCN_FIFO_MIN, Reg.DCX_STAT 16]

theorem regReset_eq_zero {a : Nat} (hlane : ¬ (a / 4096 = 6 ∧ 0x104 ≤ a % 4096 ∧ a % 4096 < 0x224))
    (hp : a / 4096 ∈ shadowedPages) (h : a ∉ nonzeroResets) : regReset a = 0 := by
  have hengine : ¬ a / 4096 = 0x25 := fun e => absurd (e ▸ hp) (by decide)
  have hlane' : ¬ (4 ≤ a / 4096 ∧ a / 4096 ≤ 11 ∧ a / 4096 ≠ 5 ∧ 0x104 ≤ a % 4096 ∧ a % 4096 < 0x224 ∧
      a % 4096 % 16 = 4) := by
    simp only [shadowedPages, List.mem_cons, List.not_mem_nil, or_false] at hp
    omega
  simp only [nonzeroResets, List.mem_cons, List.not_mem_nil, or_false, not_or] at h
  obtain ⟨h1, h2, h3, h4, h5, h6, h7, h8, h9, h10⟩ := h
  unfold regReset
  simp only [hlane', hengine, h1, h2, h3, h4, h5, h6, h7, h8, h9, h10, false_and, if_false]

/-- Every shadowed register resets to 0, and so does its image. -/
theorem regReset_of_isShadowed {a : Nat} (h : isShadowed a = true) : regReset a = 0 ∧ regReset (a + 0x800) = 0 := by
  have hp := page_of_isShadowed h
  have hlo := lower_half_of_isShadowed h
  obtain ⟨hreg, himage⟩ := not_mem_of_isShadowed h (l := nonzeroResets) (by decide)
  constructor
  · refine regReset_eq_zero ?_ hp hreg
    rintro ⟨h6, ho, -⟩
    obtain ⟨r, hr, hs⟩ := activeRow_of_isShadowed h
    obtain ⟨g, hg, hfirst, hlast, hmem⟩ := group_of_findInGroups hr
    have hrow := shadowed_rows_of_page06 g hg (h6 ▸ hfirst) (h6 ▸ hlast) r hmem hs
    have := findInGroups_bounds hr
    omega
  · refine regReset_eq_zero (by omega) ?_ himage
    rwa [show (a + 0x800) / 4096 = a / 4096 by omega]

/-! ### Moving entries of a sparse store to other keys -/

section
variable {α : Type}

theorem sFind_filter_keep {k : Nat} {p : Nat × α → Bool} (hp : ∀ v, p (k, v) = true) (l : List (Nat × α)) :
    sFind k (l.filter p) = sFind k l := by
  induction l with
  | nil => rfl
  | cons e t ih =>
    obtain ⟨j, v⟩ := e
    by_cases hj : j = k
    · subst hj
      simp [sFind, hp]
    · cases hv : p (j, v) <;> simp [hv, sFind, hj, ih]

theorem sFind_filter_drop {k : Nat} {p : Nat × α → Bool} (hp : ∀ v, p (k, v) = false) (l : List (Nat × α)) :
    sFind k (l.filter p) = none := by
  induction l with
  | nil => rfl
  | cons e t ih =>
    obtain ⟨j, v⟩ := e
    by_cases hj : j = k
    · subst hj
      simp [hp, ih]
    · cases hv : p (j, v) <;> simp [hv, sFind, hj, ih]

variable [DecidableEq α] {d : Nat → α} {f : Nat → Nat} {k : Nat} {m : List (Nat × α)}

/-- Where `f` takes key `j` and no other to `k`, the store reads at `k` what the moved list holds for `j`. -/
theorem sGet_move {j : Nat} (hf : ∀ e ∈ m, f e.1 = k ↔ e.1 = j) (l : List (Nat × α)) :
    sGet d k (m.foldr (fun e l => sPut d (f e.1) e.2 l) l) = (sFind j m).getD (sGet d k l) := by
  induction m with
  | nil => rfl
  | cons e t ih =>
    rw [List.foldr_cons, sGet_sPut, ih fun e he => hf e (List.mem_cons_of_mem _ he)]
    have he := hf e List.mem_cons_self
    by_cases hj : e.1 = j
    · have hk : k = f e.1 := (he.2 hj).symm
      rw [if_pos hk, sFind, if_pos hj, Option.getD_some]
    · have hk : ¬ k = f e.1 := fun h => hj (he.1 h.symm)
      simp [sFind, hj, hk]

/-- A store reads as before at a key that nothing moves to. -/
theorem sGet_move_ne (hf : ∀ e ∈ m, f e.1 ≠ k) (l : List (Nat × α)) :
    sGet d k (m.foldr (fun e l => sPut d (f e.1) e.2 l) l) = sGet d k l := by
  induction m with
  | nil => rfl
  | cons e t ih =>
    rw [List.foldr_cons, sGet_sPut_ne (hf e List.mem_cons_self).symm, ih fun e he => hf e (List.mem_cons_of_mem _ he)]
end

/-! ### The swap of registers (R58) -/

/-- A stored word is that of a shadow image. -/
def isImage (a : Nat) : Bool :=
  match regAt a with
  | .shadow _ => true
  | _ => false

theorem isImage_iff {a : Nat} : isImage a = true ↔ ∃ r, regAt a = .shadow r := by
  unfold isImage
  split
  · next r h => exact ⟨fun _ => ⟨r, h⟩, fun _ => rfl⟩
  · next h => exact ⟨nofun, fun ⟨r, hr⟩ => absurd hr (h r)⟩

theorem isImage_image {a : Nat} (h : isShadowed a = true) : isImage (a + 0x800) = true :=
  isImage_iff.2 (regAt_image h)

theorem image_of_isImage {a : Nat} (h : isImage a = true) : 0x800 ≤ a ∧ isShadowed (a - 0x800) = true := by
  obtain ⟨r, hr⟩ := isImage_iff.1 h
  have := (regAt_shadow hr).1
  exact ⟨by omega, isShadowed_of_image hr⟩

/-- The swap keeps the words of unshadowed addresses and moves those of the images down. -/
theorem swapRegs_regs (s : State) : (swapRegs s).regs =
    (s.regs.filter (fun e => isImage e.1)).foldr (fun e l => sPut regReset (e.1 - 0x800) e.2 l)
      (s.regs.filter (fun e => !isShadowed e.1)) := by
  have hown (e : Nat × Word) : (match regAt e.1 with | .active r => !r.sh | _ => true) = !isShadowed e.1 := by
    unfold isShadowed
    cases regAt e.1 <;> rfl
  exact congrArg (List.foldr _ · _) (List.filter_congr fun e _ => hown e)

theorem getReg_swapRegs_of_shadowed {a : Nat} (h : isShadowed a = true) (s : State) :
    getReg (swapRegs s) a = getShd s a := by
  have hmove : ∀ e ∈ s.regs.filter (fun e => isImage e.1), e.1 - 0x800 = a ↔ e.1 = a + 0x800 := by
    intro e he
    have himage : isImage e.1 = true := (List.mem_filter.1 he).2
    have := (image_of_isImage himage).1
    omega
  have himage : ∀ _ : Word, isImage (a + 0x800) = true := fun _ => isImage_image h
  have hgone : ∀ _ : Word, (!isShadowed a) = false := fun _ => by rw [h]; rfl
  obtain ⟨hreset, hreset'⟩ := regReset_of_isShadowed h
  unfold getShd getReg
  rw [swapRegs_regs, sGet_move (f := (· - 0x800)) hmove, sFind_filter_keep himage, sGet,
    sFind_filter_drop hgone, sGet, hreset']
  exact congrArg _ hreset

theorem getReg_swapRegs_of_unshadowed {a : Nat} (h : isShadowed a = false) (s : State) :
    getReg (swapRegs s) a = getReg s a := by
  have hmove : ∀ e ∈ s.regs.filter (fun e => isImage e.1), e.1 - 0x800 ≠ a := by
    rintro e he rfl
    have himage : isImage e.1 = true := (List.mem_filter.1 he).2
    rw [(image_of_isImage himage).2] at h
    cases h
  have hkept : ∀ _ : Word, (!isShadowed a) = true := fun _ => by rw [h]; rfl
  unfold getReg
  rw [swapRegs_regs, sGet_move_ne (f := (· - 0x800)) hmove, sGet, sFind_filter_keep hkept, sGet]

theorem getShd_swapRegs {a : Nat} (h : isShadowed a = true) (s : State) : getShd (swapRegs s) a = getShd s a :=
  getReg_swapRegs_of_unshadowed (not_isShadowed_image h) s

/-! ### The swap of tables (R58) -/

theorem getTab_swapTab_same (k : Nat) {i : Nat} (hi : i < 2 ^ 18) (s : State) :
    getTab (swapTab k s) k true i = getTab s k false i := by
  unfold getTab swapTab
  dsimp only
  rw [sGet_move (f := (· + 2 ^ 18)) (j := tabKey k false i), sFind_filter_keep, sGet, sFind_filter_drop, sGet]
  · rfl
  · intro v
    simp only [tabKey, if_true, Bool.false_eq_true, if_false, Bool.not_eq_false', Bool.and_eq_true, decide_eq_true_eq]
    omega
  · intro v
    simp only [tabKey, if_true, Bool.false_eq_true, if_false, Bool.and_eq_true, decide_eq_true_eq]
    omega
  · intro e he
    simp only [tabKey, if_true, Bool.false_eq_true, if_false]
    omega

theorem getTab_swapTab_other {j k i : Nat} {c : Bool} (h : c = true → k ≠ j) (hi : i < 2 ^ 18) (s : State) :
    getTab (swapTab j s) k c i = getTab s k c i := by
  have hkey : ¬ (tabKey j true 0 ≤ tabKey k c i ∧ tabKey k c i < tabKey (j + 1) false 0) := by
    cases c with
    | false =>
      simp only [tabKey, if_true, Bool.false_eq_true, if_false]
      omega
    | true =>
      have := h rfl
      simp only [tabKey, if_true, Bool.false_eq_true, if_false]
      omega
  unfold getTab swapTab
  dsimp only
  rw [sGet_move_ne (f := (· + 2 ^ 18)), sGet, sFind_filter_keep, sGet]
  · intro v
    rw [← Bool.decide_and, decide_eq_false hkey]
    rfl
  · intro e he
    simp only [List.mem_filter, Bool.and_eq_true, decide_eq_true_eq] at he
    simp only [tabKey, if_true, Bool.false_eq_true, if_false] at he hkey ⊢
    omega

theorem getTab_foldl_swapTab {k i : Nat} (hi : i < 2 ^ 18) : ∀ (l : List Nat) (s : State),
    k ∈ l ∨ getTab s k true i = getTab s k false i →
    getTab (l.foldl (fun s t => swapTab t s) s) k true i = getTab s k false i
  | [], s, h => h.resolve_left List.not_mem_nil
  | j :: l, s, h => by
    have hshadow : getTab (swapTab j s) k false i = getTab s k false i := getTab_swapTab_other (c := false) nofun hi s
    rw [List.foldl_cons, getTab_foldl_swapTab hi l, hshadow]
    by_cases hj : k = j
    · subst hj
      exact .inr ((getTab_swapTab_same k hi s).trans hshadow.symm)
    · refine (h.imp (fun hm => (List.mem_cons.1 hm).resolve_left hj) fun he => ?_)
      rw [getTab_swapTab_other (fun _ => hj) hi, he, hshadow]

/-- Only the tables' words differ. -/
abbrev TabsOnly (s t : State) : Prop := t = { s with tabs := t.tabs }

theorem swapTables_tabs (s : State) : TabsOnly s (swapTables s) :=
  foldl_inv (TabsOnly s) _ (fun q j hq => by rw [TabsOnly, hq]; rfl) _ s rfl

theorem getTab_swapTables {k i : Nat} (hk : k ∈ [tabCMX, tabEOTF, tabSPR, tabXFR, tabMTB, tabOD, tabTC]) (hi : i < 2 ^ 18)
    (s : State) : getTab (swapTables s) k true i = getTab s k false i :=
  getTab_foldl_swapTab hi _ s (.inl hk)

/-! ### What the steps of a commit leave alone -/

/-- The layer contexts and the tables read as before. -/
abbrev TablesSame (s t : State) : Prop := t.ctxActive = s.ctxActive ∧ t.ctxShadow = s.ctxShadow ∧ t.tabs = s.tabs

theorem TablesSame.trans {s t u : State} (h : TablesSame s t) (k : TablesSame t u) : TablesSame s u :=
  ⟨k.1.trans h.1, k.2.1.trans h.2.1, k.2.2.trans h.2.2⟩

theorem EventsOnly.tables {s t : State} (h : EventsOnly s t) : TablesSame s t := by
  rw [h]
  exact ⟨rfl, rfl, rfl⟩

/-- Only the state of units that hold their own differs: no register, table, layer context or event. -/
abbrev UnitsOnly (s t : State) : Prop :=
  t = { s with handles := t.handles, trig := t.trig, tiles := t.tiles, scan := t.scan, comp := t.comp, gl := t.gl,
               pwr := t.pwr }

theorem UnitsOnly.trans {s t u : State} (h : UnitsOnly s t) (k : UnitsOnly t u) : UnitsOnly s u := by
  unfold UnitsOnly at *
  rw [k, h]

theorem UnitsOnly.tables {s t : State} (h : UnitsOnly s t) : TablesSame s t := by
  rw [h]
  exact ⟨rfl, rfl, rfl⟩

theorem UnitsOnly.getReg {s t : State} (h : UnitsOnly s t) (a : Nat) : getReg t a = getReg s a := by
  rw [h]
  rfl

theorem UnitsOnly.evRecs {s t : State} (h : UnitsOnly s t) : t.evRecs = s.evRecs := by
  rw [h]

theorem foldl_units {α : Type} (g : State → α → State) (h : ∀ s x, UnitsOnly s (g s x)) (l : List α) (s : State) :
    UnitsOnly s (l.foldl g s) :=
  foldl_inv (UnitsOnly s) g (fun q x hq => hq.trans (h q x)) l s rfl

theorem bindOne_units (h : Nat) (s : State) : UnitsOnly s (bindOne h s) := by
  unfold bindOne
  dsimp only
  split <;> rfl

theorem bindBufs_units (s : State) : UnitsOnly s (bindBufs s) := foldl_units _ (fun q h => bindOne_units h q) _ s

theorem trigStart_units (k : Nat) (s : State) : UnitsOnly s (trigStart k s) := by
  unfold trigStart
  split <;> rfl

theorem trigApply_units (k : Nat) (fresh again : Bool) (s : State) : UnitsOnly s (trigApply k fresh again s) := by
  unfold trigApply
  dsimp only
  split
  · split
    · exact UnitsOnly.trans rfl (trigStart_units _ _)
    · rfl
  · rfl

theorem applyTriggers_units (before s : State) : UnitsOnly s (applyTriggers before s) :=
  foldl_units _ (fun q k => trigApply_units k _ _ q) _ s

theorem restTile_units (s : State) (t : Nat) : UnitsOnly s (restTile s t) := by
  unfold restTile
  dsimp only
  split <;> rfl

theorem restTiles_units (s : State) : UnitsOnly s (restTiles s) := foldl_units _ restTile_units _ s

/-! ### The record of an event (R61, R62) -/

theorem queueAll_evRecs (p : Nat) (r : EvtRec) (s : State) : (queueAll p r s).evRecs = s.evRecs := by
  refine foldl_inv (fun q => q.evRecs = s.evRecs) _ (fun q k hq => Eq.trans ?_ hq) _ s rfl
  unfold queueRec bumpLost
  dsimp only
  split <;> rfl

theorem captureOnFault_evRecs (p ev : Nat) (s : State) : (captureOnFault p ev s).evRecs = s.evRecs := by
  unfold captureOnFault
  dsimp only
  split <;> rfl

/-- An event that fires leaves its record; one whose flag is set already leaves none. -/
theorem fireAt_evRecs (p b ev detail : Nat) (s : State) : (fireAt p b ev detail s).evRecs =
    if regBit s (Reg.EVT_RAW p) b then s.evRecs else sPut (fun _ => {}) ev (evtRec s ev detail) s.evRecs := by
  unfold fireAt
  dsimp only
  split
  · rfl
  · rw [captureOnFault_evRecs]
    split
    · rw [queueAll_evRecs]
      rfl
    · rfl

theorem fireAt_evRecs_ne {j ev : Nat} (h : j ≠ ev) (p b detail : Nat) (s : State) :
    sGet (fun _ => {}) j (fireAt p b ev detail s).evRecs = sGet (fun _ => {}) j s.evRecs := by
  rw [fireAt_evRecs]
  split
  · rfl
  · exact sGet_sPut_ne h _ _ _

/-- A lost record writes that of SYS_EV_MSG_LOST, event 8. -/
theorem msgLost_evRecs_ne {j : Nat} (h : j ≠ 8) (ks : List Nat) (s : State) :
    sGet (fun _ => {}) j (msgLost ks s).evRecs = sGet (fun _ => {}) j s.evRecs :=
  foldl_inv (fun q => sGet (fun _ => {}) j q.evRecs = sGet (fun _ => {}) j s.evRecs) _
    (fun q _ hq => (fireAt_evRecs_ne h _ _ _ q).trans hq) ks s rfl

theorem raise_evRecs_ne {j ev : Nat} (h : j ≠ ev) (h8 : j ≠ 8) (detail : Nat) (s : State) :
    sGet (fun _ => {}) j (raise ev detail s).evRecs = sGet (fun _ => {}) j s.evRecs := by
  unfold raise
  split
  · rfl
  · rw [msgLost_evRecs_ne h8, fireAt_evRecs_ne h]

theorem raise_detail {ev p b : Nat} (hev : evLoc ev = some (p, b)) (h8 : ev ≠ 8) {s : State}
    (hraw : regBit s (Reg.EVT_RAW p) b = false) (detail : Nat) :
    (sGet (fun _ => {}) ev (raise ev detail s).evRecs).detail = w64 detail := by
  unfold raise
  rw [hev]
  dsimp only
  rw [msgLost_evRecs_ne h8, fireAt_evRecs, hraw, if_neg Bool.false_ne_true, sGet_sPut_same]
  rfl

/-! ### Lists of registers that may change -/

theorem RegsBut.append {l k : List Nat} {s t u : State} (h : RegsBut l s t) (h' : RegsBut k t u) : RegsBut (l ++ k) s u := by
  intro a ha
  rw [List.mem_append, not_or] at ha
  rw [h' a ha.2, h a ha.1]

theorem UnitsOnly.but {s t : State} (h : UnitsOnly s t) : RegsBut [] s t := fun a _ => h.getReg a

theorem setReg_but (a : Nat) (v : Word) (s : State) : RegsBut [a] s (setReg a v s) := fun _ hb =>
  getReg_setReg_ne (List.ne_of_not_mem_cons hb) _ _

theorem bumpWrap_but (a : Nat) (s : State) : RegsBut [a] s (bumpWrap a s) := by
  unfold bumpWrap
  split
  · exact fun _ _ => rfl
  · exact setReg_but _ _ _

theorem foldl_setRegN_but (f : Nat → Nat) (n : Nat) : ∀ (l : List Nat) (s : State),
    RegsBut (l.map f) s (l.foldl (fun s p => setRegN (f p) n s) s)
  | [], _ => fun _ _ => rfl
  | p :: l, s => (setReg_but (f p) _ s).append (foldl_setRegN_but f n l _)

theorem RegsBut.regBit {l : List Nat} {s t : State} (h : RegsBut l s t) {a : Nat} (ha : a ∉ l) (n : Nat) :
    regBit t a n = regBit s a n := congrArg (bit · n) (h a ha)

/-- What happens to registers that take no part in a swap leaves the shadowed ones and their images. -/
theorem RegsBut.shadowed {l : List Nat} {s t : State} (h : RegsBut l s t) (hl : ∀ b ∈ l, unswapped b = true) {a : Nat}
    (ha : isShadowed a = true) : getReg t a = getReg s a ∧ getShd t a = getShd s a := by
  obtain ⟨hreg, himage⟩ := not_mem_of_isShadowed ha hl
  exact ⟨h a hreg, h _ himage⟩

theorem shadowStat_not_mem {l : List Nat} (h : ∀ b ∈ l, b % 4096 ≠ 0x24) (p : Nat) : Reg.SHADOW_STAT p ∉ l :=
  fun hp => h _ hp (shadowStat_mod p)

/-! ### The checks (R57) -/

theorem failMask_lt (s : State) (nr : List Nat) : failMask s nr < 2 ^ 7 := by
  have hb (i : Nat) : (!(checks s nr).getD i true).toNat ≤ 1 := Bool.toNat_le _
  have h0 := hb 0
  have h1 := hb 1
  have h2 := hb 2
  have h3 := hb 3
  have h4 := hb 4
  have h5 := hb 5
  have hr : List.range 6 = [0, 1, 2, 3, 4, 5] := rfl
  simp only [failMask, wordOf, hr, List.foldl_cons, List.foldl_nil, BitVec.toNat_ofNat]
  omega

/-- The state on which a decision with no buffer stalled falls: the readiness check and the budget have been reported. -/
def checkedState (s : State) : State :=
  let s1 := reportNotReady (notReady s) [] s
  let sb := storeBudget (notReady s) s1
  if 5 ≤ shadowMode s1 then tickFree sb else sb

/-- The registers that the checks write. -/
def checkRegs : List Nat := [Reg.LYR_NR_FIRST, Reg.LYR_NR_COUNT] ++ evRegs 0x1E ++ [Reg.CMP_WORK, Reg.CMP_CAP]

theorem checkRegs_unswapped : ∀ b ∈ checkRegs, unswapped b = true := by decide

theorem reportNotReady_but (nr st : List Nat) (s : State) :
    RegsBut ([Reg.LYR_NR_FIRST, Reg.LYR_NR_COUNT] ++ evRegs 0x1E) s (reportNotReady nr st s) := by
  unfold reportNotReady
  split
  · exact fun _ _ => rfl
  · exact ((setReg_but _ _ _).append (setReg_but _ _ _)).append (raise_getReg (b := 0) (by decide) _ _)

theorem reportNotReady_events (nr st : List Nat) (s : State) : EventsOnly s (reportNotReady nr st s) := by
  unfold reportNotReady
  split
  · rfl
  · exact EventsOnly.trans rfl (raise_events _ _ _)

theorem storeBudget_but (nr : List Nat) (s : State) : RegsBut [Reg.CMP_WORK, Reg.CMP_CAP] s (storeBudget nr s) := by
  unfold storeBudget setRegN
  exact (setReg_but Reg.CMP_WORK _ _).append (setReg_but Reg.CMP_CAP _ _)

theorem storeBudget_events (nr : List Nat) (s : State) : EventsOnly s (storeBudget nr s) := by
  unfold storeBudget setRegN
  exact (setReg_events Reg.CMP_WORK _ _).trans (setReg_events Reg.CMP_CAP _ _)

theorem getReg_tickFree (s : State) (a : Nat) : getReg (tickFree s) a = getReg s a := rfl

theorem tickFree_events (s : State) : EventsOnly s (tickFree s) := rfl

theorem checkedState_but (s : State) : RegsBut checkRegs s (checkedState s) := by
  have h := (reportNotReady_but (notReady s) [] s).append (storeBudget_but (notReady s) _)
  intro a ha
  unfold checkedState
  dsimp only
  split
  · rw [getReg_tickFree]
    exact h a ha
  · exact h a ha

theorem checkedState_events (s : State) : EventsOnly s (checkedState s) := by
  have h := (reportNotReady_events (notReady s) [] s).trans (storeBudget_events (notReady s) _)
  unfold checkedState
  dsimp only
  split
  · exact h.trans (tickFree_events _)
  · exact h

/-- With a pending request, no buffer stalled and no participant missing the checks decide (R56–R59). -/
theorem decideCommit_eq {s : State} (hp : cmtPending s = true) (he : enabled s 0x03 = true) (hst : stalled s = [])
    (hparts : partsMissing (reportNotReady (notReady s) [] s) = false) :
    decideCommit s =
      (let mask := failMask (reportNotReady (notReady s) [] s) (notReady s)
       if mask = 0 then applyCommit (notReady s) (checkedState s) else refuseCommit mask (checkedState s)) := by
  simp only [decideCommit, hst, hp, he, hparts, List.isEmpty_nil, Bool.not_true, Bool.or_self, Bool.false_eq_true, if_false]
  rfl

/-! ### A refusal (R59) -/

/-- The registers that a refusal writes. -/
def refuseRegs : List Nat := [Reg.CMT_STAT] ++ [Reg.CMT_N_REFUSED] ++ evRegs 3

theorem refuseRegs_unswapped : ∀ b ∈ refuseRegs, unswapped b = true := by decide

/-- A refused request: its cause and its state stand in CMT_STAT. -/
def markRefused (mask : Nat) (s : State) : State :=
  let reason := (((List.range 7).find? (fun i => mask.testBit i)).map (· + 1)).getD 0
  setRegFld Reg.CMT_STAT 0 3 cmtREFUSED (setRegFld Reg.CMT_STAT 4 4 reason (setRegFld Reg.CMT_STAT 8 7 mask s))

theorem refuseCommit_eq (mask : Nat) (s : State) : refuseCommit mask s =
    raise 49 (regN s Reg.CMT_PEND_SEQ + 2 ^ 32 * mask) (bumpWrap Reg.CMT_N_REFUSED (markRefused mask s)) := rfl

theorem markRefused_but (mask : Nat) (s : State) : RegsBut [Reg.CMT_STAT] s (markRefused mask s) := by
  intro a ha
  have hne := List.ne_of_not_mem_cons ha
  simp only [markRefused, getReg_setRegFld_ne hne]

theorem markRefused_state (mask : Nat) (s : State) : cmtState (markRefused mask s) = cmtREFUSED := by
  simp only [cmtState, regFld, markRefused, getReg_setRegFld_same]
  exact fld_setFld_same _ _ _ _ (by omega)

theorem markRefused_mask {mask : Nat} (h : mask < 2 ^ 7) (s : State) :
    regFld (markRefused mask s) Reg.CMT_STAT 8 7 = mask := by
  simp only [regFld, markRefused, getReg_setRegFld_same]
  rw [fld_setFld_ne _ _ _ _ _ _ (by omega) (by omega), fld_setFld_ne _ _ _ _ _ _ (by omega) (by omega),
    fld_setFld_same _ _ _ _ (by omega), Nat.mod_eq_of_lt h]

theorem refuseCommit_tail_but (mask : Nat) (s : State) :
    RegsBut ([Reg.CMT_N_REFUSED] ++ evRegs 3) (markRefused mask s) (refuseCommit mask s) :=
  (bumpWrap_but _ _).append (raise_getReg (b := 1) (by decide) _ _)

theorem refuseCommit_but (mask : Nat) (s : State) : RegsBut refuseRegs s (refuseCommit mask s) :=
  (markRefused_but mask s).append (refuseCommit_tail_but mask s)

theorem refuseCommit_stat (mask : Nat) (s : State) :
    getReg (refuseCommit mask s) Reg.CMT_STAT = getReg (markRefused mask s) Reg.CMT_STAT :=
  refuseCommit_tail_but mask s _ (by decide)

theorem refuseCommit_state (mask : Nat) (s : State) : cmtState (refuseCommit mask s) = cmtREFUSED := by
  rw [cmtState, regFld, refuseCommit_stat]
  exact markRefused_state _ _

theorem refuseCommit_mask {mask : Nat} (h : mask < 2 ^ 7) (s : State) :
    regFld (refuseCommit mask s) Reg.CMT_STAT 8 7 = mask := by
  rw [regFld, refuseCommit_stat]
  exact markRefused_mask h _

theorem refuseCommit_raised (mask : Nat) (s : State) : Raised (refuseCommit mask s) 3 1 :=
  raise_raises (by decide) (by decide) _ _

theorem refuseCommit_events (mask : Nat) (s : State) : EventsOnly s (refuseCommit mask s) := by
  have hmark : EventsOnly s (markRefused mask s) := rfl
  rw [refuseCommit_eq]
  exact (hmark.trans (bumpWrap_regs _ _).events).trans (raise_events _ _ _)

theorem refuseCommit_detail {s : State} (h : regBit s (Reg.EVT_RAW 3) 1 = false) (mask : Nat) :
    (sGet (fun _ => {}) 49 (refuseCommit mask s).evRecs).detail = w64 (regN s Reg.CMT_PEND_SEQ + 2 ^ 32 * mask) := by
  have hraw := (markRefused_but mask s).append (bumpWrap_but Reg.CMT_N_REFUSED _)
  exact raise_detail (by decide) (by decide) ((hraw.regBit (by decide) 1).trans h) _

/-! ### An applied commit (R58) -/

/-- Registers, tables and layer contexts take their shadow values, and the triggers their new settings. -/
def swapAll (nr : List Nat) (s : State) : State := applyTriggers s (swapContexts nr (swapTables (swapRegs s)))

theorem swapAll_getReg (nr : List Nat) (s : State) (a : Nat) : getReg (swapAll nr s) a = getReg (swapRegs s) a := by
  have htab : getReg (swapTables (swapRegs s)) a = getReg (swapRegs s) a := by
    rw [swapTables_tabs (swapRegs s)]
    rfl
  exact ((applyTriggers_units s _).getReg a).trans htab

theorem swapAll_contexts (nr : List Nat) (s : State) :
    (swapAll nr s).ctxActive = s.ctxShadow ∧ (swapAll nr s).ctxShadow = s.ctxShadow := by
  have htab : (swapTables (swapRegs s)).ctxShadow = s.ctxShadow := by
    rw [swapTables_tabs (swapRegs s)]
    rfl
  obtain ⟨hactive, hshadow, -⟩ := (applyTriggers_units s (swapContexts nr (swapTables (swapRegs s)))).tables
  exact ⟨hactive.trans htab, hshadow.trans htab⟩

theorem swapAll_getTab {k i : Nat} (hk : k ∈ [tabCMX, tabEOTF, tabSPR, tabXFR, tabMTB, tabOD, tabTC]) (hi : i < 2 ^ 18)
    (nr : List Nat) (s : State) : getTab (swapAll nr s) k true i = getTab s k false i := by
  obtain ⟨-, -, htabs⟩ := (applyTriggers_units s (swapContexts nr (swapTables (swapRegs s)))).tables
  exact (congrArg (sGet zeroW (tabKey k true i)) htabs).trans (getTab_swapTables hk hi (swapRegs s))

/-- SHADOW_STAT of every page, CMT_LAST_SEQ, CMT_RDY_STAT and CMT_STAT of an applied commit. -/
def stampCommit (seq : Nat) (s : State) : State :=
  setRegFld Reg.CMT_STAT 0 3 cmtAPPLIED (setRegN Reg.CMT_RDY_STAT 0 (setRegN Reg.CMT_LAST_SEQ seq (stampPages seq s)))

/-- The rest of the swap: the counter, the event, the bound buffers and the genlock check. -/
def announceCommit (seq : Nat) (s : State) : State :=
  glCheck (bindBufs (raise 48 seq (bumpWrap Reg.CMT_N_APPLIED s)))

theorem applyCommit_eq (nr : List Nat) (s : State) : applyCommit nr s =
    announceCommit (regN s Reg.CMT_PEND_SEQ) (stampCommit (regN s Reg.CMT_PEND_SEQ) (swapAll nr s)) := rfl

/-- The registers that the stamp writes. -/
def stampRegs : List Nat :=
  (List.range 60).map Reg.SHADOW_STAT ++ ([Reg.CMT_LAST_SEQ] ++ [Reg.CMT_RDY_STAT] ++ [Reg.CMT_STAT])

theorem stampRegs_unswapped : ∀ b ∈ stampRegs, unswapped b = true := by decide

theorem stampPages_but (seq : Nat) (s : State) : RegsBut ((List.range 60).map Reg.SHADOW_STAT) s (stampPages seq s) :=
  foldl_setRegN_but Reg.SHADOW_STAT (seq % 2 ^ 31) _ s

theorem stampCommit_tail_but (seq : Nat) (s : State) :
    RegsBut ([Reg.CMT_LAST_SEQ] ++ [Reg.CMT_RDY_STAT] ++ [Reg.CMT_STAT]) (stampPages seq s) (stampCommit seq s) :=
  ((setReg_but _ _ _).append (setReg_but _ _ _)).append (setReg_but _ _ _)

theorem stampCommit_but (seq : Nat) (s : State) : RegsBut stampRegs s (stampCommit seq s) :=
  (stampPages_but seq s).append (stampCommit_tail_but seq s)

theorem stampCommit_tables (seq : Nat) (s : State) : TablesSame s (stampCommit seq s) := by
  have hpages : EventsOnly s (stampPages seq s) := foldl_events _ (fun q _ => setReg_events _ _ q) _ s
  have htail : EventsOnly (stampPages seq s) (stampCommit seq s) :=
    ((setReg_events _ _ _).trans (setReg_events _ _ _)).trans (setReg_events _ _ _)
  exact (hpages.trans htail).tables

theorem getReg_foldl_setRegN (f : Nat → Nat) (n : Nat) {p : Nat} : ∀ (l : List Nat) (s : State),
    p ∈ l ∨ getReg s (f p) = w32 n → getReg (l.foldl (fun s q => setRegN (f q) n s) s) (f p) = w32 n
  | [], _, h => h.resolve_left List.not_mem_nil
  | q :: l, s, h => by
    refine getReg_foldl_setRegN f n l _ ?_
    by_cases hq : f p = f q
    · exact .inr (by rw [hq, getReg_setRegN_same])
    · rw [getReg_setRegN_ne hq]
      exact h.imp_left fun hm => (List.mem_cons.1 hm).resolve_left fun e => hq (congrArg f e)

theorem stampCommit_shadowStat (seq : Nat) (s : State) (p : Fin 60) :
    getReg (stampCommit seq s) (Reg.SHADOW_STAT p.val) = w32 (seq % 2 ^ 31) :=
  (stampCommit_tail_but seq s _ (shadowStat_not_mem (by decide) _)).trans
    (getReg_foldl_setRegN Reg.SHADOW_STAT _ _ s (.inl (List.mem_range.2 p.isLt)))

theorem stampCommit_lastSeq (seq : Nat) (s : State) : getReg (stampCommit seq s) Reg.CMT_LAST_SEQ = w32 seq := by
  rw [stampCommit, getReg_setRegFld_ne (by decide), getReg_setRegN_ne (by decide), getReg_setRegN_same]

theorem stampCommit_rdyStat (seq : Nat) (s : State) : getReg (stampCommit seq s) Reg.CMT_RDY_STAT = 0 := by
  rw [stampCommit, getReg_setRegFld_ne (by decide), getReg_setRegN_same]
  rfl

theorem stampCommit_state (seq : Nat) (s : State) : cmtState (stampCommit seq s) = cmtAPPLIED := by
  rw [cmtState, regFld, stampCommit, getReg_setRegFld_same]
  exact fld_setFld_same _ _ _ _ (by omega)

/-- The genlock check raises at most TIM_EV_SLEW, beside the generator's own state. -/
theorem glCheck_cases (s : State) :
    ∃ u, UnitsOnly u (glCheck s) ∧ (u = s ∨ ∃ q d, UnitsOnly s q ∧ u = raise 491 d q) := by
  unfold glCheck
  dsimp only
  split
  · exact ⟨_, by split <;> rfl, .inr ⟨_, _, rfl, rfl⟩⟩
  · exact ⟨s, by split <;> rfl, .inl rfl⟩

theorem glCheck_but (s : State) : RegsBut (evRegs 0x35) s (glCheck s) := by
  obtain ⟨u, hu, rfl | ⟨q, d, hq, rfl⟩⟩ := glCheck_cases s
  · exact fun a _ => hu.getReg a
  · exact fun a ha => (hu.getReg a).trans ((raise_getReg (b := 3) (by decide) d q a ha).trans (hq.getReg a))

theorem glCheck_tables (s : State) : TablesSame s (glCheck s) := by
  obtain ⟨u, hu, rfl | ⟨q, d, hq, rfl⟩⟩ := glCheck_cases s
  · exact hu.tables
  · exact (hq.tables.trans (raise_events _ _ _).tables).trans hu.tables

theorem glCheck_evRecs_ne {j : Nat} (h : j ≠ 491) (h8 : j ≠ 8) (s : State) :
    sGet (fun _ => {}) j (glCheck s).evRecs = sGet (fun _ => {}) j s.evRecs := by
  obtain ⟨u, hu, rfl | ⟨q, d, hq, rfl⟩⟩ := glCheck_cases s
  · rw [hu.evRecs]
  · rw [hu.evRecs, raise_evRecs_ne h h8, hq.evRecs]

/-- The registers that the announcement writes. -/
def announceRegs : List Nat := [Reg.CMT_N_APPLIED] ++ evRegs 3 ++ evRegs 0x35

theorem announceRegs_unswapped : ∀ b ∈ announceRegs, unswapped b = true := by decide

theorem bindBufs_glCheck_but (s : State) : RegsBut (evRegs 0x35) s (glCheck (bindBufs s)) :=
  (bindBufs_units s).but.append (glCheck_but _)

theorem announceCommit_but (seq : Nat) (s : State) : RegsBut announceRegs s (announceCommit seq s) :=
  ((bumpWrap_but _ _).append (raise_getReg (b := 0) (by decide) _ _)).append (bindBufs_glCheck_but _)

theorem announceCommit_tables (seq : Nat) (s : State) : TablesSame s (announceCommit seq s) :=
  (((bumpWrap_regs _ s).events.tables.trans (raise_events _ _ _).tables).trans (bindBufs_units _).tables).trans
    (glCheck_tables _)

theorem announceCommit_raised (seq : Nat) (s : State) : Raised (announceCommit seq s) 3 0 :=
  ((bindBufs_glCheck_but _).regBit (by decide) 0).trans (raise_raises (by decide) (by decide) _ _)

theorem announceCommit_detail {s : State} (h : regBit s (Reg.EVT_RAW 3) 0 = false) (seq : Nat) :
    (sGet (fun _ => {}) 48 (announceCommit seq s).evRecs).detail = w64 seq := by
  rw [announceCommit, glCheck_evRecs_ne (by decide) (by decide), (bindBufs_units _).evRecs]
  exact raise_detail (by decide) (by decide) (((bumpWrap_but _ s).regBit (by decide) 0).trans h) _

/-- A register outside the announcement has the value that the stamp leaves. -/
theorem applyCommit_getReg {a : Nat} (h : a ∉ announceRegs) (nr : List Nat) (s : State) : getReg (applyCommit nr s) a =
    getReg (stampCommit (regN s Reg.CMT_PEND_SEQ) (swapAll nr s)) a := by
  rw [applyCommit_eq, announceCommit_but _ _ a h]

theorem applyCommit_state (nr : List Nat) (s : State) : cmtState (applyCommit nr s) = cmtAPPLIED := by
  rw [cmtState, regFld, applyCommit_getReg (by decide)]
  exact stampCommit_state _ _

theorem applyCommit_rdyStat (nr : List Nat) (s : State) : getReg (applyCommit nr s) Reg.CMT_RDY_STAT = 0 := by
  rw [applyCommit_getReg (by decide), stampCommit_rdyStat]

theorem applyCommit_lastSeq (nr : List Nat) (s : State) :
    getReg (applyCommit nr s) Reg.CMT_LAST_SEQ = getReg s Reg.CMT_PEND_SEQ := by
  rw [applyCommit_getReg (by decide), stampCommit_lastSeq]
  exact (BitVec.ofNat_toNat 32 _).trans (BitVec.setWidth_eq _)

theorem applyCommit_shadowStat (nr : List Nat) (s : State) (p : Fin 60) :
    regN (applyCommit nr s) (Reg.SHADOW_STAT p.val) = regN s Reg.CMT_PEND_SEQ % 2 ^ 31 := by
  rw [regN, applyCommit_getReg (shadowStat_not_mem (by decide) _), stampCommit_shadowStat, BitVec.toNat_ofNat,
    Nat.mod_eq_of_lt (by omega)]

theorem applyCommit_raised (nr : List Nat) (s : State) : Raised (applyCommit nr s) 3 0 := announceCommit_raised _ _

theorem applyCommit_tables (nr : List Nat) (s : State) : TablesSame (swapAll nr s) (applyCommit nr s) :=
  (stampCommit_tables _ _).trans (announceCommit_tables _ _)

theorem applyCommit_contexts (nr : List Nat) (s : State) :
    (applyCommit nr s).ctxActive = s.ctxShadow ∧ (applyCommit nr s).ctxShadow = s.ctxShadow := by
  obtain ⟨hactive, hshadow, -⟩ := applyCommit_tables nr s
  rw [hactive, hshadow]
  exact swapAll_contexts nr s

theorem applyCommit_getTab {k i : Nat} (hk : k ∈ [tabCMX, tabEOTF, tabSPR, tabXFR, tabMTB, tabOD, tabTC]) (hi : i < 2 ^ 18)
    (nr : List Nat) (s : State) : getTab (applyCommit nr s) k true i = getTab s k false i := by
  obtain ⟨-, -, htabs⟩ := applyCommit_tables nr s
  exact (congrArg (sGet zeroW (tabKey k true i)) htabs).trans (swapAll_getTab hk hi nr s)

theorem applyCommit_shadowed {a : Nat} (h : isShadowed a = true) (nr : List Nat) (s : State) :
    getReg (applyCommit nr s) a = getShd s a ∧ getShd (applyCommit nr s) a = getShd s a := by
  obtain ⟨hann, hann'⟩ := (announceCommit_but (regN s Reg.CMT_PEND_SEQ) _).shadowed announceRegs_unswapped h
  obtain ⟨hstamp, hstamp'⟩ := (stampCommit_but (regN s Reg.CMT_PEND_SEQ) (swapAll nr s)).shadowed stampRegs_unswapped h
  rw [applyCommit_eq, hann, hann', hstamp, hstamp', swapAll_getReg, getReg_swapRegs_of_shadowed h]
  exact ⟨rfl, (swapAll_getReg nr s _).trans (getShd_swapRegs h s)⟩

theorem applyCommit_detail {s : State} (h : regBit s (Reg.EVT_RAW 3) 0 = false) (nr : List Nat) :
    (sGet (fun _ => {}) 48 (applyCommit nr s).evRecs).detail = w64 (regN s Reg.CMT_PEND_SEQ) := by
  rw [applyCommit_eq]
  refine announceCommit_detail ?_ _
  rw [regBit, stampCommit_but _ _ _ (by decide), swapAll_getReg, getReg_swapRegs_of_unshadowed (by decide)]
  exact h

/-- Settles O14: the checks change neither a swapped value nor the request, and the decision that follows is the swap with
its stamp, or the refusal. -/
theorem commitAppliesOrRefuses : Obligations.CommitAppliesOrRefuses := by
  unfold Obligations.CommitAppliesOrRefuses
  intro s hpend hen hstall hparts
  have hbut := checkedState_but s
  obtain ⟨hactive, hshadow, htabs⟩ := (checkedState_events s).tables
  have hseq : getReg (checkedState s) Reg.CMT_PEND_SEQ = getReg s Reg.CMT_PEND_SEQ := hbut _ (by decide)
  have hseqN : regN (checkedState s) Reg.CMT_PEND_SEQ = regN s Reg.CMT_PEND_SEQ := congrArg BitVec.toNat hseq
  have hraw (n : Nat) : regBit (checkedState s) (Reg.EVT_RAW 3) n = regBit s (Reg.EVT_RAW 3) n := hbut.regBit (by decide) n
  rw [decideCommit_eq hpend hen hstall hparts]
  dsimp only
  generalize hmask : failMask (reportNotReady (notReady s) [] s) (notReady s) = mask
  have hlt : mask < 2 ^ 7 := hmask ▸ failMask_lt _ _
  refine ⟨fun hpass => ?_, fun hfail => ?_⟩
  · rw [if_pos hpass]
    obtain ⟨hact, hshd⟩ := applyCommit_contexts (notReady s) (checkedState s)
    refine ⟨applyCommit_state _ _, applyCommit_rdyStat _ _, (applyCommit_lastSeq _ _).trans hseq, applyCommit_raised _ _,
      hact.trans hshadow, hshd.trans hshadow, fun k hk i hi => ?_, fun p => ?_, fun h => ?_, fun a r hr hs => ?_⟩
    · exact (applyCommit_getTab hk hi _ _).trans (congrArg (sGet zeroW (tabKey k false i)) htabs)
    · rw [applyCommit_shadowStat, hseqN]
    · rw [applyCommit_detail ((hraw 0).trans h), hseqN]
    · have ha := isShadowed_iff.2 ⟨r, hr, hs⟩
      have himage := (hbut.shadowed checkRegs_unswapped ha).2
      obtain ⟨h, h'⟩ := applyCommit_shadowed ha (notReady s) (checkedState s)
      exact ⟨h.trans himage, h'.trans himage⟩
  · rw [if_neg hfail]
    have hkept := hbut.append (refuseCommit_but mask (checkedState s))
    obtain ⟨hact, hshd, htab⟩ := (refuseCommit_events mask (checkedState s)).tables
    refine ⟨refuseCommit_state _ _, refuseCommit_mask hlt _, refuseCommit_raised _ _, fun h => ?_, ?_, hkept _ (by decide),
      fun p => hkept _ (shadowStat_not_mem (by decide) _), hact.trans hactive, hshd.trans hshadow, htab.trans htabs,
      fun a r hr hs => ?_⟩
    · rw [refuseCommit_detail ((hraw 1).trans h), hseqN]
    · rw [cmtPending, refuseCommit_state]
      rfl
    · refine hkept.shadowed ?_ (isShadowed_iff.2 ⟨r, hr, hs⟩)
      exact fun b hb => (List.mem_append.1 hb).elim (checkRegs_unswapped b) (refuseRegs_unswapped b)

/-! ### Requests (R54) -/

/-- A write of CMT_REQ makes the request pending and clears STALLED; WAITED stays with a request that was pending. -/
theorem effCmtReq_stat (v : Word) (s : State) : getReg (effCmtReq v s) Reg.CMT_STAT =
    setFld (setBit (if cmtPending s then getReg s Reg.CMT_STAT else setFld (getReg s Reg.CMT_STAT) 16 8 0) 3 false)
      0 3 cmtPENDING := by
  unfold effCmtReq
  dsimp only
  rw [getReg_setRegFld_same, getReg_setRegBit_same, getReg_setReg_ne (by decide)]
  split
  · rfl
  · rw [getReg_setRegFld_same]

theorem effCmtReq_state (v : Word) (s : State) : cmtState (effCmtReq v s) = cmtPENDING := by
  rw [cmtState, regFld, effCmtReq_stat]
  exact fld_setFld_same _ _ _ _ (by omega)

theorem effCmtReq_stalled (v : Word) (s : State) : regBit (effCmtReq v s) Reg.CMT_STAT 3 = false := by
  rw [regBit, effCmtReq_stat, bit_setFld_ne _ _ _ _ _ (by omega) (by omega), bit_setBit_same _ _ _ (by omega)]

theorem effCmtReq_waited (v : Word) (s : State) : regFld (effCmtReq v s) Reg.CMT_STAT 16 8 =
    if cmtPending s then regFld s Reg.CMT_STAT 16 8 else 0 := by
  rw [regFld, effCmtReq_stat, fld_setFld_ne _ _ _ _ _ _ (by omega) (by omega), fld_setBit_ne _ _ _ _ _ (by omega) (by omega)]
  split
  · rfl
  · exact fld_setFld_same _ _ _ _ (by omega)

theorem effCmtReq_pendSeq (v : Word) (s : State) : getReg (effCmtReq v s) Reg.CMT_PEND_SEQ = v := by
  unfold effCmtReq
  dsimp only
  rw [getReg_setRegFld_ne (by decide), getReg_setRegBit_ne (by decide), getReg_setReg_same]

theorem effCmtReq_but (v : Word) (s : State) : RegsBut [Reg.CMT_STAT, Reg.CMT_PEND_SEQ] s (effCmtReq v s) := by
  intro a ha
  simp only [List.mem_cons, List.not_mem_nil, or_false, not_or] at ha
  obtain ⟨hstat, hseq⟩ := ha
  unfold effCmtReq
  dsimp only
  rw [getReg_setRegFld_ne hstat, getReg_setRegBit_ne hstat, getReg_setReg_ne hseq]
  split
  · rfl
  · rw [getReg_setRegFld_ne hstat]

theorem effCmtReq_regs (v : Word) (s : State) : RegsOnly s (effCmtReq v s) := by
  unfold effCmtReq
  dsimp only
  split <;> rfl

theorem regBit_effCmtReady (m : Nat) (v : Word) (s : State) {k : Nat} (hk : k < 32) :
    regBit (effCmtReady m v s) Reg.CMT_RDY_STAT k = if k = m then bit v 0 else regBit s Reg.CMT_RDY_STAT k := by
  rw [regBit, effCmtReady, getReg_setRegBit_same, bit_setBit _ _ _ _ hk]
  rfl

theorem cancelCommit_state {s : State} (h : cmtPending s = true) : cmtState (cancelCommit s) = cmtCANCELLED := by
  rw [cancelCommit, if_pos h, cmtState, regFld, getReg_setRegFld_same]
  exact fld_setFld_same _ _ _ _ (by omega)

theorem cancelCommit_but (s : State) : RegsBut [Reg.CMT_STAT] s (cancelCommit s) := by
  unfold cancelCommit
  split
  · exact setReg_but _ _ _
  · exact fun _ _ => rfl

theorem cancelCommit_regs (s : State) : RegsOnly s (cancelCommit s) := by
  unfold cancelCommit
  split <;> rfl

/-! ### The orderly shutdown (R54, R367) -/

theorem restTiles_scan (s : State) : (restTiles s).scan = s.scan := by
  refine foldl_inv (fun q => q.scan = s.scan) _ (fun q t hq => Eq.trans ?_ hq) _ s rfl
  unfold restTile
  dsimp only
  split <;> rfl

theorem setScanState_setScan_but (v : Nat) (c : Scan) (s : State) :
    RegsBut [Reg.SCN_STAT] s (setScanState v (setScan c s)) := setReg_but Reg.SCN_STAT _ (setScan c s)

theorem setScanState_setScan_tables (v : Nat) (c : Scan) (s : State) : TablesSame s (setScanState v (setScan c s)) :=
  ⟨rfl, rfl, rfl⟩

/-- With no mode change in progress gate idle has no transition. -/
theorem enterTransition_restTiles {s : State} (h : s.scan.mode = none) : enterTransition (restTiles s) = restTiles s := by
  rw [enterTransition, restTiles_scan, h]

/-- What gate idle writes beside its tiles: the end of a shutdown, and the state of scan-out. -/
theorem enterIdle_of_no_mode {s : State} (h : s.scan.mode = none) :
    RegsBut ([Reg.THM_STAT] ++ [Reg.SCN_STAT]) s (enterIdle s) ∧ TablesSame s (enterIdle s) := by
  have hnote : RegsBut [Reg.THM_STAT] s (if s.pwr.shut then setRegFld Reg.THM_STAT 14 2 2 s else s) ∧
      RegsOnly s (if s.pwr.shut then setRegFld Reg.THM_STAT 14 2 2 s else s) := by
    split
    · exact ⟨setReg_but _ _ _, rfl⟩
    · exact ⟨fun _ _ => rfl, rfl⟩
  unfold enterIdle
  dsimp only
  generalize (if s.pwr.shut then setRegFld Reg.THM_STAT 14 2 2 s else s) = s1 at hnote ⊢
  obtain ⟨hbut, hregs⟩ := hnote
  have hmode : s1.scan.mode = none := by rw [hregs]; exact h
  rw [enterTransition_restTiles]
  · refine ⟨hbut.append fun a ha => ?_, (hregs.events.tables.trans ?_).trans (restTiles_units _).tables⟩
    · rw [(restTiles_units _).getReg]
      exact setScanState_setScan_but _ _ _ a ha
    · exact setScanState_setScan_tables _ _ _
  · exact hmode

/-- The dark panel frame of a shutdown is asked for; a mode change that has come to gate idle ends there. -/
theorem askDark_effect (cause : Nat) (s : State) :
    RegsBut ([Reg.THM_STAT] ++ [Reg.SCN_STAT]) s (askDark cause s) ∧ TablesSame s (askDark cause s) := by
  have hask : ∀ c : Scan, RegsBut ([Reg.THM_STAT] ++ [Reg.SCN_STAT]) s (setScan c s) ∧ TablesSame s (setScan c s) :=
    fun c => ⟨fun _ _ => rfl, rfl, rfl, rfl⟩
  unfold askDark
  dsimp only
  split
  · exact hask _
  · split
    · obtain ⟨hbut, htables⟩ := enterIdle_of_no_mode
        (s := setScan { s.scan with dark := some (BitVec.ofNat 2 cause), mode := none } s) rfl
      exact ⟨fun a ha => hbut a ha, htables⟩
    · exact hask _

/-- The registers that the decision of an orderly shutdown writes. -/
def shutdownRegs : List Nat :=
  [Reg.THM_STAT] ++ [Reg.THM_STAT] ++ evRegs 0x36 ++ [Reg.CMT_STAT] ++ ([Reg.THM_STAT] ++ [Reg.SCN_STAT])

theorem shutdownRegs_unswapped : ∀ b ∈ shutdownRegs, unswapped b = true := by decide

/-- The decision of an orderly shutdown: its cause and its event stand, and the composer has stopped. -/
def shutdownDecided (cause : Nat) (s : State) : State :=
  let s1 := { s with pwr := { s.pwr with shut := true, req := none } }
  let s2 := setRegFld Reg.THM_STAT 12 2 cause (setRegFld Reg.THM_STAT 14 2 1 s1)
  stopComposer (raise 494 (cause + 2 ^ 8 * hotZone s2 + 2 ^ 32 * tc 16 (tHot s2)) s2)

theorem orderlyShutdown_eq {s : State} (hlive : live s = true) (hshut : s.pwr.shut = false) (cause : Nat) :
    orderlyShutdown cause s = askDark 1 (cancelCommit (shutdownDecided cause s)) := by
  rw [orderlyShutdown, hlive, hshut]
  rfl

theorem shutdownDecided_but (cause : Nat) (s : State) :
    RegsBut ([Reg.THM_STAT] ++ [Reg.THM_STAT] ++ evRegs 0x36) s (shutdownDecided cause s) := by
  have hdecide : UnitsOnly s { s with pwr := { s.pwr with shut := true, req := none } } := rfl
  intro a ha
  refine Eq.trans ?_ (hdecide.getReg a)
  exact ((setReg_but _ _ _).append (setReg_but _ _ _)).append (raise_getReg (b := 2) (by decide) _ _) a ha

theorem shutdownDecided_tables (cause : Nat) (s : State) : TablesSame s (shutdownDecided cause s) :=
  TablesSame.trans ⟨rfl, rfl, rfl⟩ (raise_events _ _ _).tables

/-- An orderly shutdown cancels the pending request; no commit event is raised, and no active or shadow value changes. -/
theorem orderlyShutdown_cancels {s : State} (hlive : live s = true) (hshut : s.pwr.shut = false)
    (hpend : cmtPending s = true) (cause : Nat) :
    cmtState (orderlyShutdown cause s) = cmtCANCELLED ∧ RegsBut shutdownRegs s (orderlyShutdown cause s) ∧
      TablesSame s (orderlyShutdown cause s) := by
  rw [orderlyShutdown_eq hlive hshut]
  have hdecided := shutdownDecided_but cause s
  obtain ⟨hbut, htables⟩ := askDark_effect 1 (cancelCommit (shutdownDecided cause s))
  have hstill : cmtPending (shutdownDecided cause s) = true := by
    rw [cmtPending, cmtState, regFld, hdecided _ (by decide)]
    exact hpend
  refine ⟨?_, (hdecided.append (cancelCommit_but _)).append hbut,
    ((shutdownDecided_tables cause s).trans (cancelCommit_regs _).events.tables).trans htables⟩
  rw [cmtState, regFld, hbut _ (by decide)]
  exact cancelCommit_state hstill

/-- A permitted write changes the registers of its effect, SYS_M0_STAT apart. -/
theorem writeWith_getReg {s : State} {m : Master} {a : Nat} (h : CanWrite s m a) (ha : writeActs a = true) (v : Word)
    (eff : State → State) {b : Nat} (hb : b ≠ Reg.SYS_M0_STAT) :
    getReg (writeWith m a v eff s) b = getReg (eff (answer .done 0 s)) b := by
  rw [writeWith_ok h ha, noteM0_getReg _ _ _ hb]

/-- Settles O12: each of the three registers has its effect by the rule for a permitted write, and the shutdown timer in a
dip is an orderly shutdown. -/
theorem commitRequestRegisters : Obligations.CommitRequestRegisters := by
  unfold Obligations.CommitRequestRegisters
  intro m v s
  have hcancels (cause : Nat) (hlive : live s = true) (hshut : s.pwr.shut = false) (hpend : cmtPending s = true) :
      let t := orderlyShutdown cause s
      cmtState t = cmtCANCELLED ∧
      (∀ b : Fin 8, regBit t (Reg.EVT_RAW 3) b.val = regBit s (Reg.EVT_RAW 3) b.val) ∧
      (∀ a r, regAt a = .active r → r.sh = true → getReg t a = getReg s a ∧ getShd t a = getShd s a) ∧
      t.ctxShadow = s.ctxShadow ∧ t.ctxActive = s.ctxActive ∧ t.tabs = s.tabs := by
    obtain ⟨hstate, hbut, hactive, hshadow, htabs⟩ := orderlyShutdown_cancels hlive hshut hpend cause
    exact ⟨hstate, fun b => hbut.regBit (by decide) b.val,
      fun a r hr hs => hbut.shadowed shutdownRegs_unswapped (isShadowed_iff.2 ⟨r, hr, hs⟩), hshadow, hactive, htabs⟩
  refine ⟨fun hcan => ?_, fun hcan => ?_, fun hcan hv hpend => ?_, fun hlive hshut hpend hdip => ?_,
    fun cause hlive hshut hpend => hcancels cause.val hlive hshut hpend⟩
  · have hwrite {a : Nat} (ha : a ≠ Reg.SYS_M0_STAT) :
        getReg (writeWith m Reg.CMT_REQ v (effCmtReq v) s) a = getReg (effCmtReq v (answer .done 0 s)) a :=
      writeWith_getReg hcan (by decide) v _ ha
    have hstat := hwrite (a := Reg.CMT_STAT) (by decide)
    refine ⟨_, rfl, ?_, (hwrite (by decide)).trans (effCmtReq_pendSeq v _), ?_, ?_,
      writeWith_but hcan (by decide) v _ _ (effCmtReq_but v _), writeWith_regs hcan (by decide) v _ (effCmtReq_regs v _)⟩
    · rw [cmtState, regFld, hstat]
      exact effCmtReq_state v _
    · rw [regBit, hstat]
      exact effCmtReq_stalled v _
    · rw [regFld, hstat]
      exact effCmtReq_waited v _
  · have hrdy (k : Nat) (hk : k < 32) : regBit (writeWith m Reg.CMT_READY v (effCmtReady m.val v) s) Reg.CMT_RDY_STAT k =
        if k = m.val then bit v 0 else regBit s Reg.CMT_RDY_STAT k :=
      (congrArg (bit · k) (writeWith_getReg hcan (by decide) v _ (by decide))).trans (regBit_effCmtReady _ v _ hk)
    refine ⟨_, rfl, ?_, fun k hk => ?_, writeWith_but hcan (by decide) v _ _ (setReg_but _ _ _),
      writeWith_regs hcan (by decide) v _ rfl⟩
    · rw [hrdy _ (by omega), if_pos rfl]
    · rw [hrdy _ k.isLt, if_neg hk]
  · have heff : effCmtCancel v (answer .done 0 s) = cancelCommit (answer .done 0 s) := if_pos hv
    refine ⟨_, rfl, ?_, writeWith_but hcan (by decide) v _ _ (heff ▸ cancelCommit_but _),
      writeWith_regs hcan (by decide) v _ (heff ▸ cancelCommit_regs _)⟩
    rw [cmtState, regFld, writeWith_getReg hcan (by decide) v _ (by decide), heff]
    exact cancelCommit_state hpend
  · obtain ⟨hstate, hraw, hvals, -⟩ := hcancels 2 hlive hshut hpend
    exact ⟨orderlyShutdown 2 s, congrArg done (if_pos (by rw [hlive, hdip]; rfl)), hstate, hraw, hvals⟩

end Sys2Proof.Machine

/-!
The bulk load of the lenticular calibration table (03_ray_geometry.md, R79–R82): what arms it, what its boundary does to
it, what its end without success leaves, and from these the obligation on its course.
-/
namespace Sys2Proof.Machine

/-! ### Memory that is left alone -/

theorem memSame_of_eq {s t : State} (hfs : t.fs = s.fs) (hscene : t.scene = s.scene) : MemSame s t :=
  ⟨fun off => congrArg (sGet zeroB off) hfs, fun off => congrArg (sGet zeroB off) hscene⟩

/-! ### Arming a load (R79) -/

/-- The state of the table's unit once a load from the source in `v` is armed: what was queued is discarded. -/
def armedLoad (v : Word) (l : LctCtl) : LctCtl :=
  { l with loading := true, begun := false, src := bit v 1, loadErr := 0, qdiscard := !l.queue.isEmpty, queue := [],
           pass := none }

theorem effLctCtl_arms {v : Word} {s : State} (hstart : bit v 0 = true) (hidle : s.lctc.loading = false) :
    effLctCtl v s = { setReg Reg.LCT_CTL (v &&& 6) s with lctc := armedLoad v s.lctc } := by
  simp only [effLctCtl, hstart, hidle, Bool.not_false, Bool.and_self, if_true]
  rfl

/-- While a load is LOADING, a write of LCT_CTL is a plain store. -/
theorem effLctCtl_loading {s : State} (h : s.lctc.loading = true) (v : Word) :
    effLctCtl v s = setReg Reg.LCT_CTL (v &&& 6) s := by
  simp only [effLctCtl, h, Bool.not_true, Bool.and_false, Bool.false_eq_true, if_false]

/-- A permitted write whose effect beside registers is the unit's new state `l` changes nothing else. -/
theorem writeWith_regs_lctc {s : State} {m : Master} {a : Nat} (h : CanWrite s m a) (ha : writeActs a = true) (v : Word)
    {eff : State → State} {l : LctCtl} (he : RegsOnly { answer .done 0 s with lctc := l } (eff (answer .done 0 s))) :
    RegsOnly { s with lctc := l } (writeWith m a v eff s) := by
  rw [writeWith_ok h ha]
  have hnote := noteM0_regs m (eff (answer .done 0 s))
  unfold RegsOnly at *
  rw [hnote, he]
  rfl

theorem effLctCtl_but (v : Word) (s : State) : RegsBut [Reg.LCT_CTL] s (effLctCtl v s) := by
  have hstore : RegsBut [Reg.LCT_CTL] s (setReg Reg.LCT_CTL (v &&& 6) s) := setReg_but _ _ _
  unfold effLctCtl
  dsimp only
  split
  · exact fun a ha => hstore a ha
  · exact hstore

theorem lctLoadArm_but {s : State} {m : Master} (h : CanWrite s m Reg.LCT_CTL) (v : Word) :
    RegsBut [Reg.LCT_CTL, Reg.SYS_M0_STAT] s (writeWith m Reg.LCT_CTL v (effLctCtl v) s) :=
  writeWith_but h (by decide) v _ [Reg.LCT_CTL] (effLctCtl_but v _)

theorem lctLoadArm_arms {s : State} {m : Master} {v : Word} (h : CanWrite s m Reg.LCT_CTL) (hstart : bit v 0 = true)
    (hidle : s.lctc.loading = false) :
    RegsOnly { s with lctc := armedLoad v s.lctc } (writeWith m Reg.LCT_CTL v (effLctCtl v) s) := by
  refine writeWith_regs_lctc h (by decide) v ?_
  rw [effLctCtl_arms (s := answer .done 0 s) hstart hidle]
  rfl

theorem lctLoadArm_loading {s : State} {m : Master} (h : CanWrite s m Reg.LCT_CTL) (hload : s.lctc.loading = true)
    (v : Word) : RegsOnly s (writeWith m Reg.LCT_CTL v (effLctCtl v) s) := by
  refine writeWith_regs h (by decide) v _ ?_
  rw [effLctCtl_loading (s := answer .done 0 s) hload]
  rfl

/-! ### A load that ends without success (R82) -/

/-- The unit's state of a load that ends with `code`: the table is lost where an entry was written. -/
def endedLoad (code : Nat) (written : Bool) (l : LctCtl) : LctCtl :=
  { l with loading := false, begun := false, loadErr := BitVec.ofNat 4 code, loaded := l.loaded && !written,
           auditOk := l.auditOk && !written, loadH := none }

/-- The buffer of a load that ended loses its pin, where nothing else needs it (R115). -/
def leaveLoadBuf (h : Option Nat) (s : State) : State :=
  match h with
  | some h => if needed s h then s else unpinOne h s
  | none => s

theorem loadFail_eq (code crc : Nat) (written : Bool) (s : State) : loadFail code crc written s =
    auditRestart (raise 307 (crc + 2 ^ 32 * code)
      (leaveLoadBuf s.lctc.loadH { s with lctc := endedLoad code written s.lctc })) := rfl

theorem leaveLoadBuf_lctc (h : Option Nat) (s : State) : (leaveLoadBuf h s).lctc = s.lctc := by
  unfold leaveLoadBuf
  split
  · split
    · rfl
    · simp only [unpinOne_frame]
  · rfl

/-- A restart of the audit keeps what the unit holds of a load. -/
theorem auditRestart_load (s : State) :
    (auditRestart s).lctc.loading = s.lctc.loading ∧ (auditRestart s).lctc.begun = s.lctc.begun ∧
      (auditRestart s).lctc.loadErr = s.lctc.loadErr ∧ (auditRestart s).lctc.loaded = s.lctc.loaded :=
  ⟨rfl, rfl, rfl, rfl⟩

theorem loadFail_lctc (code crc : Nat) (written : Bool) (s : State) :
    (loadFail code crc written s).lctc.loading = false ∧ (loadFail code crc written s).lctc.begun = false ∧
      (loadFail code crc written s).lctc.loadErr = BitVec.ofNat 4 code ∧
      (loadFail code crc written s).lctc.loaded = (s.lctc.loaded && !written) := by
  simp only [loadFail_eq, auditRestart_load, raise_frame, leaveLoadBuf_lctc]
  exact ⟨rfl, rfl, rfl, rfl⟩

theorem loadFail_raised (code crc : Nat) (written : Bool) (s : State) : Raised (loadFail code crc written s) 0x1F 1 :=
  raise_raises (ev := 307) (by decide) (by decide) _ _

/-! ### The boundary of an armed load (R80, R81) -/

theorem execLctLoadBegin_due {code : Nat} {s : State} (hon : unitOn s 0x1F = true) (hbegin : loadCanBegin s = true)
    (hdue : s.period.loadDue = some code) :
    exec .lctLoadBegin s = .next (loadBegin code { s with period := { s.period with loadDue := none } }) := by
  change execLctLoadBegin s = _
  simp only [execLctLoadBegin, hdue, hbegin, hon, Bool.and_self, if_true]

theorem loadBegin_fails {code : Nat} (h : code ≠ 0) (s : State) : loadBegin code s = loadFail code 0 false s := if_neg h

theorem loading_of_loadCanBegin {s : State} (h : loadCanBegin s = true) : s.lctc.loading = true := by
  simp only [loadCanBegin, Bool.and_eq_true] at h
  exact h.1

/-! ### How far a load has come -/

theorem loadTo_of_le {n : Nat} {s : State} (h : n ≤ s.lctc.put) : loadTo n s = s := if_pos h

theorem loadTo_put (n : Nat) (s : State) : (loadTo n s).lctc.put = max s.lctc.put n := by
  unfold loadTo
  dsimp only
  split
  · next h => exact (max_eq_left h).symm
  · next h => exact (max_eq_right (Nat.le_of_not_le h)).symm

theorem loadTo_put_ne_zero {n : Nat} (h : n ≠ 0) (s : State) : (loadTo n s).lctc.put ≠ 0 := by
  rw [loadTo_put]
  omega

theorem min_lctSize_ne_zero {n : Nat} (h : n ≠ 0) : min n lctSize ≠ 0 :=
  (lt_min (Nat.pos_of_ne_zero h) (by decide)).ne'

/-- A QSPI read error ends a load from the image by R82, with the entries written that were read before it. -/
theorem execLctLoadReadError_begun {s : State} (hon : unitOn s 0x1F = true) (hbegun : s.lctc.begun = true)
    (hsrc : s.lctc.src = true) (written : Nat) :
    ∃ crc, exec (.lctLoadReadError written) s =
      .next (loadFail 3 crc ((loadTo (min written lctSize) s).lctc.put ≠ 0) (loadTo (min written lctSize) s)) := by
  refine ⟨(loadTo (min written lctSize) s).lctc.crc.toNat ^^^ 0xFFFFFFFF, ?_⟩
  change execLctLoadReadError written s = _
  simp only [execLctLoadReadError, hbegun, hsrc, hon, Bool.and_self, if_true]

/-- Settles O21: a permitted write with START leaves the unit's state that of an armed load, or while LOADING as it was;
the boundary is the load's beginning or its end by R82, and a read error is its end by R82 at the entry it has come to. -/
theorem tableLoadRuns : Obligations.TableLoadRuns := by
  unfold Obligations.TableLoadRuns
  refine ⟨fun m v s hcan hstart hidle => ?_, fun m v s hcan hload => ?_, fun code s hon hbegin hdue => ?_,
    fun written s hon hbegun hsrc => ?_⟩
  · have hregs := lctLoadArm_arms hcan hstart hidle
    have hlctc : (writeWith m Reg.LCT_CTL v (effLctCtl v) s).lctc = armedLoad v s.lctc := by rw [hregs]
    have hlct : (writeWith m Reg.LCT_CTL v (effLctCtl v) s).lct = s.lct := by rw [hregs]
    refine ⟨_, rfl, ?_, ?_, ?_, ?_, ?_, ?_, hlct, lctLoadArm_but hcan v, hlctc ▸ hregs⟩
    all_goals
      rw [hlctc]
      rfl
  · have hregs := lctLoadArm_loading hcan hload v
    exact ⟨_, rfl, by rw [hregs], lctLoadArm_but hcan v, hregs⟩
  · refine ⟨_, execLctLoadBegin_due hon hbegin hdue, ?_, ?_, ?_, fun hcode => ?_⟩
    · simp only [loadBegin_frame]
    · simp only [loadBegin_frame]
    · have hload : s.lctc.loading = true := loading_of_loadCanBegin hbegin
      rintro rfl
      exact ⟨rfl, hload, rfl⟩
    · rw [loadBegin_fails hcode]
      obtain ⟨hloading, hbegun, herr, hloaded⟩ :=
        loadFail_lctc code 0 false { s with period := { s.period with loadDue := none } }
      exact ⟨hloading, hbegun, herr, hloaded.trans (Bool.and_true _), loadFail_raised _ _ _ _⟩
  · obtain ⟨crc, hexec⟩ := execLctLoadReadError_begun hon hbegun hsrc written
    obtain ⟨hloading, hnotBegun, herr, hloaded⟩ := loadFail_lctc 3 crc
      (decide ((loadTo (min written lctSize) s).lctc.put ≠ 0)) (loadTo (min written lctSize) s)
    refine ⟨_, hexec, hloading, hnotBegun, herr, loadFail_raised _ _ _ _, fun hnone hstart => ?_, fun hsome => ?_,
      memSame_of_eq ?_ ?_⟩
    · have hstill : loadTo (min written lctSize) s = s := loadTo_of_le (by omega)
      rw [hstill, hstart] at hloaded ⊢
      refine ⟨?_, hloaded.trans (Bool.and_true _)⟩
      simp only [loadFail_frame]
    · have hwritten := loadTo_put_ne_zero (min_lctSize_ne_zero hsome) s
      rw [hloaded, decide_eq_true hwritten]
      exact Bool.and_false _
    · simp only [loadFail_frame, loadTo_frame]
    · simp only [loadFail_frame, loadTo_frame]

end Sys2Proof.Machine

/-!
Writes into the context table (04_layers.md, R101): what storing and arming change of an entry's shadow copy, what they
leave of the other entries and of the registers, and from these the obligation on the writes of an entry's words.
-/
namespace Sys2Proof.Machine

/-! ### What an event leaves of the answer -/

theorem queueAll_lastAccess (p : Nat) (r : EvtRec) (s : State) : (queueAll p r s).lastAccess = s.lastAccess := by
  refine foldl_inv (fun q => q.lastAccess = s.lastAccess) _ (fun q k hq => Eq.trans ?_ hq) _ s rfl
  unfold queueRec bumpLost
  dsimp only
  split <;> rfl

theorem captureOnFault_lastAccess (p ev : Nat) (s : State) : (captureOnFault p ev s).lastAccess = s.lastAccess := by
  unfold captureOnFault
  dsimp only
  split <;> rfl

theorem fireAt_lastAccess (p b ev detail : Nat) (s : State) : (fireAt p b ev detail s).lastAccess = s.lastAccess := by
  unfold fireAt
  dsimp only
  split
  · rfl
  · rw [captureOnFault_lastAccess]
    split
    · exact queueAll_lastAccess _ _ _
    · rfl

theorem raise_lastAccess (ev detail : Nat) (s : State) : (raise ev detail s).lastAccess = s.lastAccess := by
  unfold raise
  split
  · rfl
  · exact foldl_inv (fun q => q.lastAccess = s.lastAccess) _ (fun q _ hq => (fireAt_lastAccess _ _ _ _ q).trans hq) _ _
      (fireAt_lastAccess _ _ _ _ s)

/-! ### Words of the shadow copy -/

theorem setBit_eq_self {v : Word} {n : Nat} {b : Bool} (h : bit v n = b) : setBit v n b = v := by
  refine BitVec.eq_of_getLsbD_eq fun i hi => (bit_setBit v n i b hi).trans ?_
  split
  · next e => rw [← h, e, bit]
  · rfl

theorem shadowWord_congr {s t : State} (h : t.ctxShadow = s.ctxShadow) (k x : Nat) : shadowWord t k x = shadowWord s k x :=
  congrArg (sGet zeroW (32 * k + x)) h

@[simp] theorem shadowWord_setShadowWord_same (n w : Nat) (v : Word) (s : State) :
    shadowWord (setShadowWord n w v s) n w = v := sGet_sPut_same _ _ _ _

theorem shadowWord_setShadowWord_ne {n w k x : Nat} (hw : w < 32) (hx : x < 32) (h : k ≠ n ∨ x ≠ w) (v : Word) (s : State) :
    shadowWord (setShadowWord n w v s) k x = shadowWord s k x :=
  sGet_sPut_ne (by omega) _ _ _

@[simp] theorem shadowWord_setDirty (p : Nat) (s : State) (k x : Nat) : shadowWord (setDirty p s) k x = shadowWord s k x := rfl

@[simp] theorem shadowWord_raise (ev detail : Nat) (s : State) (k x : Nat) :
    shadowWord (raise ev detail s) k x = shadowWord s k x :=
  shadowWord_congr (raise_events ev detail s).tables.2.1 k x

@[simp] theorem shadowWord_noteM0 (m : Master) (s : State) (k x : Nat) : shadowWord (noteM0 m s) k x = shadowWord s k x :=
  shadowWord_congr (noteM0_events m s).tables.2.1 k x

/-- Attaching a reduction description changes handles and the scaler queue only (R103). -/
theorem attachDesc_buffers (n : Nat) (s : State) :
    attachDesc n s = { s with handles := (attachDesc n s).handles, sclQueue := (attachDesc n s).sclQueue } := by
  unfold attachDesc sclEnqueue
  dsimp only
  repeat' split
  all_goals rfl

@[simp] theorem shadowWord_attachDesc (n : Nat) (s : State) (k x : Nat) : shadowWord (attachDesc n s) k x = shadowWord s k x := by
  rw [attachDesc_buffers]
  rfl

/-! ### Changes of one entry -/

/-- Of the context table only the shadow copy of entry `n` may differ, and the answer given stands. -/
structure EntryOnly (n : Nat) (s t : State) : Prop where
  answer : t.lastAccess = s.lastAccess
  force : t.ctxForce = s.ctxForce
  others : ∀ k x, x < 32 → k ≠ n → shadowWord t k x = shadowWord s k x

theorem EntryOnly.trans {n : Nat} {s t u : State} (h : EntryOnly n s t) (k : EntryOnly n t u) : EntryOnly n s u :=
  ⟨k.answer.trans h.answer, k.force.trans h.force, fun j x hx hj => (k.others j x hx hj).trans (h.others j x hx hj)⟩

theorem setShadowWord_entry {w : Nat} (hw : w < 32) (n : Nat) (v : Word) (s : State) : EntryOnly n s (setShadowWord n w v s) :=
  ⟨rfl, rfl, fun _ _ hx hk => shadowWord_setShadowWord_ne hw hx (.inl hk) v s⟩

theorem setDirty_entry (n p : Nat) (s : State) : EntryOnly n s (setDirty p s) := ⟨rfl, rfl, fun _ _ _ _ => rfl⟩

theorem raise_entry (n ev detail : Nat) (s : State) : EntryOnly n s (raise ev detail s) :=
  ⟨raise_lastAccess ev detail s, by rw [raise_events ev detail s], fun k x _ _ => shadowWord_raise ev detail s k x⟩

theorem noteM0_entry (n : Nat) (m : Master) (s : State) : EntryOnly n s (noteM0 m s) :=
  ⟨noteM0_lastAccess m s, by rw [noteM0_events m s], fun k x _ _ => shadowWord_noteM0 m s k x⟩

theorem attachDesc_entry (n : Nat) (s : State) : EntryOnly n s (attachDesc n s) :=
  ⟨by rw [attachDesc_buffers], by rw [attachDesc_buffers], fun k x _ _ => shadowWord_attachDesc n s k x⟩

/-! ### Arming (R102) -/

theorem armEntry_entry (n : Nat) (s : State) : EntryOnly n s (armEntry n s) := by
  have hcode := setShadowWord_entry (w := 15) (by omega) n (setFld (shadowWord s n 15) 0 4 (armCode s n)) s
  unfold armEntry
  dsimp only
  split
  · exact (hcode.trans (setShadowWord_entry (by omega) n _ _)).trans (attachDesc_entry n _)
  · exact hcode.trans (raise_entry n _ _ _)

theorem armEntry_but (n : Nat) (s : State) : RegsBut (evRegs 0x1E) s (armEntry n s) := by
  unfold armEntry
  dsimp only
  split
  · rw [attachDesc_buffers]
    exact fun _ _ => rfl
  · exact fun a ha => raise_getReg (b := 4) (by decide) _ _ a ha

/-- Arming sets ARMED where every check passes, and leaves word 0 as it is where one fails. -/
theorem armEntry_word0 (n : Nat) (s : State) : shadowWord (armEntry n s) n 0 =
    if armCode s n = 0 then setBit (shadowWord s n 0) 31 true else shadowWord s n 0 := by
  have hcode (c : Word) : shadowWord (setShadowWord n 15 c s) n 0 = shadowWord s n 0 :=
    shadowWord_setShadowWord_ne (by omega) (by omega) (.inr (by omega)) c s
  unfold armEntry
  dsimp only
  split
  · rw [shadowWord_attachDesc, shadowWord_setShadowWord_same, hcode]
  · rw [shadowWord_raise, hcode]

/-! ### The store of a word (R101) -/

/-- The fields of word 0 are stored with ARMED cleared, and DIRTY is set: the state on which an entry is armed. -/
def word0Stored (m n : Nat) (v : Word) (s : State) : State := setDirty 0x1E (setShadowWord n 0 (word0After s m n v) s)

theorem word0After_armed (s : State) (m n : Nat) (v : Word) : bit (word0After s m n v) 31 = false := by
  have hold : bit (setBit (shadowWord s n 0) 31 false) 31 = false := bit_setBit_same _ _ _ (by omega)
  have hnew (x : Nat) : bit (setFld (v &&& ctxMask 0) 24 4 x) 31 = false := by
    rw [bit_setFld_ne _ _ _ _ _ (by omega) (by omega), bit, BitVec.getLsbD_and]
    exact Bool.and_false _
  unfold word0After
  dsimp only
  split
  · rw [bit_setFld_ne _ _ _ _ _ (by omega) (by omega)]
    split
    · exact hnew _
    · exact hold
  · split
    · exact hnew _
    · exact hold

theorem shadowWord_word0Stored (m n : Nat) (v : Word) (s : State) :
    shadowWord (word0Stored m n v s) n 0 = word0After s m n v := shadowWord_setShadowWord_same _ _ _ _

theorem armCode_word0Stored (m n : Nat) (v : Word) (s : State) :
    armCode (word0Stored m n v s) n = armCode (setShadowWord n 0 (word0After s m n v) s) n := rfl

theorem ctxStore_word0_eq (m n : Nat) (v : Word) (s : State) : ctxStore m n 0 v s =
    if entryRight s m n && bit v 31 then armEntry n (word0Stored m n v s) else word0Stored m n v s := rfl

theorem ctxStore_field_eq {w : Nat} (hw : w ≠ 0) (m n : Nat) (v : Word) (s : State) : ctxStore m n w v s =
    setDirty 0x1E (setShadowWord n w (v &&& ctxMask w) (setShadowWord n 0 (setBit (shadowWord s n 0) 31 false) s)) :=
  if_neg hw

theorem ctxStore_entry {w : Nat} (hw : w < 32) (m n : Nat) (v : Word) (s : State) : EntryOnly n s (ctxStore m n w v s) := by
  by_cases h0 : w = 0
  · subst h0
    have hstored : EntryOnly n s (word0Stored m n v s) := (setShadowWord_entry hw n _ s).trans (setDirty_entry n _ _)
    rw [ctxStore_word0_eq]
    split
    · exact hstored.trans (armEntry_entry n _)
    · exact hstored
  · rw [ctxStore_field_eq h0]
    exact ((setShadowWord_entry (by omega) n _ s).trans (setShadowWord_entry hw n _ _)).trans (setDirty_entry n _ _)

theorem ctxStore_dirty (m n w : Nat) (v : Word) (s : State) :
    regBit (ctxStore m n w v s) (Reg.SHADOW_STAT 0x1E) 31 = true := by
  by_cases h0 : w = 0
  · subst h0
    have hstored : regBit (word0Stored m n v s) (Reg.SHADOW_STAT 0x1E) 31 = true := regBit_setDirty _ _
    rw [ctxStore_word0_eq]
    split
    · rw [(armEntry_but n _).regBit (by decide)]
      exact hstored
    · exact hstored
  · rw [ctxStore_field_eq h0]
    exact regBit_setDirty _ _

theorem ctxStore_field {w : Nat} (h0 : w ≠ 0) (hw : w < 32) (m n : Nat) (v : Word) (s : State) :
    shadowWord (ctxStore m n w v s) n w = v &&& ctxMask w ∧
      shadowWord (ctxStore m n w v s) n 0 = setBit (shadowWord s n 0) 31 false := by
  rw [ctxStore_field_eq h0, shadowWord_setDirty, shadowWord_setDirty, shadowWord_setShadowWord_same,
    shadowWord_setShadowWord_ne hw (by omega) (.inr (Ne.symm h0)), shadowWord_setShadowWord_same]
  exact ⟨rfl, rfl⟩

/-- Word 0 after a write of it: its fields as stored, and ARMED where the master armed the entry and every check passed. -/
theorem ctxStore_word0 (m n : Nat) (v : Word) (s : State) : shadowWord (ctxStore m n 0 v s) n 0 =
    setBit (word0After s m n v) 31
      (entryRight s m n && bit v 31 && decide (armCode (setShadowWord n 0 (word0After s m n v) s) n = 0)) := by
  have hclear : setBit (word0After s m n v) 31 false = word0After s m n v := setBit_eq_self (word0After_armed s m n v)
  rw [ctxStore_word0_eq]
  split
  · next harm =>
    rw [armEntry_word0, shadowWord_word0Stored, armCode_word0Stored, harm, Bool.true_and]
    split
    · next hpass => rw [decide_eq_true hpass]
    · next hfail => rw [decide_eq_false hfail, hclear]
  · next harm => rw [shadowWord_word0Stored, Bool.eq_false_of_not_eq_true harm, Bool.false_and, hclear]

/-! ### The write of a word (R46, R101) -/

section
variable {m : Master} {n w : Nat} {s : State} (hgate : gate s m.val (ctxAddr n w) true = none)
  (hfrozen : frozen s m.val = false) (hhold : mustHold s m.val (ctxAddr n w) = none)
include hgate hfrozen hhold

theorem ctxWrite_ignored (hw : 10 ≤ w) (v : Word) : ctxWrite m n w v s = noteM0 m (answer .done 0 s) := by
  simp only [ctxWrite, hgate, hfrozen, hhold, hw, if_true, Bool.false_eq_true, if_false]

theorem ctxWrite_executed (hw : w < 10) (hright : entryRight s m.val n = true ∨ w = 0 ∧ ownerRight s m.val = true)
    (v : Word) : ctxWrite m n w v s = noteM0 m (ctxStore m.val n w v (answer .done 0 s)) := by
  have hmay : (entryRight s m.val n || decide (w = 0) && ownerRight s m.val) = true := by
    rw [Bool.or_eq_true, Bool.and_eq_true, decide_eq_true_eq]
    exact hright
  simp only [ctxWrite, hgate, hfrozen, hhold, Nat.not_le.2 hw, hmay, if_true, Bool.false_eq_true, if_false]
end

/-- Settles O26: an ignored write only answers, and an executed one is the store of its word, which changes one entry of the
shadow copy and sets DIRTY. -/
theorem contextEntryWrites : Obligations.ContextEntryWrites := by
  unfold Obligations.ContextEntryWrites
  intro m n w v s hgate hfrozen hhold
  refine ⟨fun hw => ⟨ctxWrite m n.val w.val v s, rfl, ?_⟩, fun hw hright => ⟨ctxWrite m n.val w.val v s, rfl, ?_⟩⟩
  · rw [ctxWrite_ignored hgate hfrozen hhold hw]
    refine ⟨noteM0_lastAccess _ _, fun a ha => ?_, noteM0_regs m (answer .done 0 s)⟩
    rw [noteM0_getReg _ _ _ (List.ne_of_not_mem_cons ha), getReg_answer]
  · rw [ctxWrite_executed hgate hfrozen hhold hw hright]
    obtain ⟨hanswer, hforce, hothers⟩ :=
      (ctxStore_entry w.isLt m.val n.val v (answer .done 0 s)).trans (noteM0_entry n.val m _)
    refine ⟨hanswer, hforce, hothers, ?_, fun h1 => ?_, fun h0 => ?_⟩
    · rw [regBit, noteM0_getReg _ _ _ (by decide)]
      exact ctxStore_dirty _ _ _ _ _
    · rw [shadowWord_noteM0, shadowWord_noteM0]
      exact ctxStore_field (Nat.one_le_iff_ne_zero.1 h1) w.isLt m.val n.val v (answer .done 0 s)
    · rw [shadowWord_noteM0, h0, ctxStore_word0]
      refine ⟨fun i => ?_, bit_setBit_same _ _ _ (by omega)⟩
      rw [bit_setBit _ _ _ _ (by omega), if_neg (by omega)]
      rfl

end Sys2Proof.Machine

/-!
Setting and reading a time base (12_time.md, R337, R344, R349): what a jump does to a time base, what a copy that is held
for a master returns, which registers a read of TIM_TB_NS holds, and from these the obligation on them.
-/
namespace Sys2Proof.Machine

/-! ### Time bases that an operation leaves alone -/

theorem getTb_congr {s t : State} (h : t.tb = s.tb) (k : Nat) : getTb t k = getTb s k :=
  congrArg (sGet (fun _ => ({} : Tb)) k) h

@[simp] theorem getTb_raise (ev detail : Nat) (s : State) (k : Nat) : getTb (raise ev detail s) k = getTb s k :=
  getTb_congr (by simp only [raise_frame]) k

@[simp] theorem getTb_glCheck (s : State) (k : Nat) : getTb (glCheck s) k = getTb s k :=
  getTb_congr (by simp only [glCheck_frame]) k

@[simp] theorem getTb_noteM0 (m : Master) (s : State) (k : Nat) : getTb (noteM0 m s) k = getTb s k :=
  getTb_congr (by simp only [noteM0_frame]) k

/-! ### A change of state (R343) -/

theorem setTbState_st (k : Nat) (x : TbState) (s : State) : (getTb (setTbState k x s) k).st = x := by
  unfold setTbState
  dsimp only
  split
  · next h => exact h
  · rw [getTb_raise, getTb_putTb_same]

theorem setTbState_value (k : Nat) (x : TbState) (s : State) :
    (getTb (setTbState k x s) k).value = (getTb s k).value := by
  unfold setTbState
  dsimp only
  split
  · rfl
  · rw [getTb_raise, getTb_putTb_same]

theorem setTbState_getTb_ne {j k : Nat} (h : j ≠ k) (x : TbState) (s : State) :
    getTb (setTbState k x s) j = getTb s j := by
  unfold setTbState
  dsimp only
  split
  · rfl
  · rw [getTb_raise, getTb_putTb_ne h]

theorem setTbState_raised {s : State} {p b : Nat} (hb : b < 32) (h : Raised s p b) (k : Nat) (x : TbState) :
    Raised (setTbState k x s) p b := by
  unfold setTbState
  dsimp only
  split
  · exact h
  · exact raise_keeps _ _ _ _ _ hb h

/-! ### A jump of a time base (R343, R344) -/

/-- Time base `k` has jumped to `v`: the event is raised, LOCKED has become ACQUIRE, and the others are as they were. -/
structure TbJumped (k v : Nat) (s t : State) : Prop where
  raised : Raised t 0x34 0
  others : ∀ j, j ≠ k → getTb t j = getTb s j
  value : (getTb t k).value = v
  st : (getTb t k).st = if (getTb s k).st = .locked then .acquire else (getTb s k).st

/-- A time base that has its new value, with the event raised, before its state follows. -/
def valueSet (k cause v : Nat) (d : Int) (s : State) : State :=
  raise 484 (k + 4 * cause + 2 ^ 16 * tc 48 (divFloor d one48)) (putTb k { getTb s k with value := v } s)

theorem stepTb_eq (k cause v : Nat) (d : Int) (s : State) : stepTb k cause v d s =
    glCheck (if (getTb (valueSet k cause v d s) k).st = .locked then setTbState k .acquire (valueSet k cause v d s)
      else valueSet k cause v d s) := rfl

theorem valueSet_same (k cause v : Nat) (d : Int) (s : State) :
    getTb (valueSet k cause v d s) k = { getTb s k with value := v } := by
  rw [valueSet, getTb_raise, getTb_putTb_same]

theorem valueSet_ne {j k : Nat} (h : j ≠ k) (cause v : Nat) (d : Int) (s : State) :
    getTb (valueSet k cause v d s) j = getTb s j := by
  rw [valueSet, getTb_raise, getTb_putTb_ne h]

theorem valueSet_raised (k cause v : Nat) (d : Int) (s : State) : Raised (valueSet k cause v d s) 0x34 0 :=
  raise_raises (by decide) (by decide) _ _

theorem TbJumped.glCheck {k v : Nat} {s t : State} (h : TbJumped k v s t) : TbJumped k v s (glCheck t) where
  raised := ((glCheck_but t).regBit (by decide) 0).trans h.raised
  others j hj := (getTb_glCheck t j).trans (h.others j hj)
  value := by rw [getTb_glCheck, h.value]
  st := by rw [getTb_glCheck, h.st]

theorem TbJumped.noteM0 {k v : Nat} {s t : State} (h : TbJumped k v s t) (m : Master) : TbJumped k v s (noteM0 m t) where
  raised := (congrArg (bit · 0) (noteM0_getReg m t _ (by decide))).trans h.raised
  others j hj := (getTb_noteM0 m t j).trans (h.others j hj)
  value := by rw [getTb_noteM0, h.value]
  st := by rw [getTb_noteM0, h.st]

theorem stepTb_jumps (k cause v : Nat) (d : Int) (s : State) : TbJumped k v s (stepTb k cause v d s) := by
  rw [stepTb_eq, valueSet_same]
  refine TbJumped.glCheck ?_
  have hraised := valueSet_raised k cause v d s
  split
  · next hlocked => exact {
      raised := setTbState_raised (by omega) hraised k .acquire
      others := fun j hj => by rw [setTbState_getTb_ne hj, valueSet_ne hj]
      value := by rw [setTbState_value, valueSet_same]
      st := by rw [setTbState_st, if_pos hlocked] }
  · next hlocked => exact {
      raised := hraised
      others := fun j hj => valueSet_ne hj cause v d s
      value := by rw [valueSet_same]
      st := by rw [valueSet_same, if_neg hlocked] }

/-- The time in TIM_TB_SET. -/
def setTime (s : State) : Nat :=
  ((regN s Reg.TIM_TB_SET_SHI * 2 ^ 32 + regN s Reg.TIM_TB_SET_SLO) * 1000000000 + regFld s Reg.TIM_TB_SET_NS 0 30) *
    2 ^ 48 % tbMod

/-- The nanoseconds in TIM_TB_ADJ, in units of a time base. -/
def stepBy (s : State) : Int := sx 64 (regN s Reg.TIM_TB_ADJ_HI * 2 ^ 32 + regN s Reg.TIM_TB_ADJ_LO) * 2 ^ 48

theorem effTbCmd_set (k : Nat) (s : State) :
    effTbCmd k 1 s = stepTb k 1 (setTime s) ((setTime s : Int) - (getTb s k).value) s := by
  unfold effTbCmd
  exact if_pos rfl

theorem effTbCmd_step (k : Nat) (s : State) :
    effTbCmd k 2 s = stepTb k 1 (tbAdd (getTb s k).value (stepBy s)) (stepBy s) s := by
  have hunits : ((one48 : Nat) : Int) = 2 ^ 48 := by norm_num
  unfold effTbCmd stepBy
  rw [hunits]
  exact (if_neg (by omega)).trans (if_pos rfl)

theorem writeActs_tbCmd : ∀ k : Fin 4, writeActs (Reg.TIM_TB_CMD k.val) = true := by decide

/-- A permitted command whose effect is a jump makes the time base jump and leaves the memories. -/
theorem tbCmd_jumps {m : Master} {k : Fin 4} {s : State} (h : CanWrite s m (Reg.TIM_TB_CMD k.val)) {cmd cause v : Nat}
    {d : Int} (heff : effTbCmd k.val cmd (answer .done 0 s) = stepTb k.val cause v d (answer .done 0 s)) :
    TbJumped k.val v s (tbCmd m k.val cmd s) ∧ MemSame s (tbCmd m k.val cmd s) := by
  constructor
  · rw [tbCmd, writeWith_ok h (writeActs_tbCmd k), heff]
    obtain ⟨hraised, hothers, hvalue, hst⟩ := (stepTb_jumps k.val cause v d (answer .done 0 s)).noteM0 m
    exact ⟨hraised, hothers, hvalue, hst⟩
  · exact memSame_of_eq (by simp only [tbCmd_frame]) (by simp only [tbCmd_frame])

/-! ### Held copies (R16) -/

/-- The copy held for master `m`'s next read of `a`. -/
abbrev heldCopy (s : State) (m a : Nat) : Option Hold := s.holds.find? (fun h => h.m = m && h.a = a)

@[simp] theorem heldCopy_holdHigh_same (m a : Nat) (v : Word) (s : State) :
    heldCopy (holdHigh m a v s) m a = some ⟨m, a, v⟩ :=
  List.find?_cons_of_pos (by simp)

theorem holdHigh_holds (m a : Nat) (v : Word) (s : State) :
    (holdHigh m a v s).holds = ⟨m, a, v⟩ :: s.holds.filter (fun h => !(h.m = m && h.a = a)) := rfl

theorem heldCopy_holdHigh_ne {a b : Nat} (h : b ≠ a) (m : Nat) (v : Word) (s : State) :
    heldCopy (holdHigh m a v s) m b = heldCopy s m b := by
  rw [heldCopy, holdHigh_holds, List.find?_cons_of_neg (by simpa using h.symm), List.find?_filter]
  refine List.find?_congr fun x _ => ?_
  by_cases hb : x.a = b
  · simp [hb, h]
  · simp [hb]

theorem heldCopy_eq_none {s : State} {m a : Nat} (h : ∀ x ∈ s.holds, ¬ (x.m = m ∧ x.a = a)) : heldCopy s m a = none :=
  List.find?_eq_none.2 fun x hx => by simpa using h x hx

/-- A read of a held register returns the copy, or without one the live value. -/
theorem takeHigh_data (m a : Nat) (live : Word) (s : State) :
    (takeHigh m a live s).1 = ((heldCopy s m a).map Hold.v).getD live := by
  unfold takeHigh heldCopy
  split
  · next h => rw [h]; rfl
  · next h => rw [h]; rfl

/-! ### Reads by address -/

/-- A read of page address `a` has data or an effect of its own, beside the holding registers. -/
def ownRead (a : Nat) : Bool :=
  [Reg.LCT_RDATA_LO, Reg.LCT_RDATA_HI, Reg.LCT_WDATA_HI, Reg.TIM_TB_NS 0, Reg.TIM_TB_NS 1, Reg.TIM_TB_NS 2,
    Reg.TIM_TB_NS 3, Reg.LYR_CMX_DATA, Reg.LYR_EOTF_DATA, Reg.FIN_SPR_DATA, Reg.FIN_XFR_DATA, Reg.FIN_MTB_DATA,
    Reg.FIN_ZDATA, Reg.SCN_OD_DATA, Reg.SCN_FIFO_MIN, Reg.PNL_NSB_DATA, Reg.BKL_TC_DATA, Reg.TIM_ETH_TXQ_W0 0,
    Reg.TIM_ETH_TXQ_W0 1, Reg.THM_MAX, Reg.CAL_LEDSET_DATA].contains a

theorem tbNs_of_arrOff {a : Nat} (hp : a / 4096 = 0x34) (hlo : 0x100 ≤ a % 4096) (hhi : a % 4096 < 0x300)
    (hoff : arrOff 128 (a % 4096) = 0) :
    a = Reg.TIM_TB_NS 0 ∨ a = Reg.TIM_TB_NS 1 ∨ a = Reg.TIM_TB_NS 2 ∨ a = Reg.TIM_TB_NS 3 := by
  unfold arrOff at hoff
  unfold Reg.TIM_TB_NS
  omega

/-- A register without a read of its own is read under R16. -/
theorem readReg_page {a : Nat} (h4 : a % 4 = 0) (hlt : a < 0x3C000) (h : ownRead a = false) (m : Master) (s : State) :
    readReg m a s = readWith m a (pairRead m.val a) s := by
  simp only [ownRead, List.contains_eq_mem, List.mem_cons, List.not_mem_nil, or_false, decide_eq_false_iff_not, not_or] at h
  obtain ⟨hlo, hhi, hwd, h0, h1, h2, h3, hown⟩ := h
  have hns : ¬ (a / 4096 = 0x34 ∧ 0x100 ≤ a % 4096 ∧ a % 4096 < 0x300 ∧ arrOff 128 (a % 4096) = 0) :=
    fun ⟨hp, hfirst, hlast, hoff⟩ => by
      rcases tbNs_of_arrOff hp hfirst hlast hoff with e | e | e | e
      · exact h0 e
      · exact h1 e
      · exact h2 e
      · exact h3 e
  have heff : readEff m.val a = pairRead m.val a := by
    funext s
    simp only [readEff, hown, hns, if_false]
  simp only [readReg, locOf, readPage, h4, hlt, hlo, hhi, hwd, heff, ne_eq, not_true_eq_false, if_true, if_false]

theorem pairRead_held {a : Nat} (hlow : pairLow (activeAddr a) = false) (hheld : heldBy a = true) (m : Nat) (s : State) :
    pairRead m a s = takeHigh m a (regNow s m a) s := by
  simp only [pairRead, hlow, hheld, Bool.false_eq_true, if_true, if_false]

/-! ### The words of an instant (R337) -/

/-- The registers that a read of TIM_TB_NS of time base `k` holds, and what they read as at value `v`. -/
def tbWords (k v : Nat) : List (Nat × Nat) :=
  [(Reg.TIM_TB_SLO k, tbSec v), (Reg.TIM_TB_SHI k, tbSec v / 2 ^ 32), (Reg.TIM_TB_FRAC k, tbFrac v)]

theorem mem_tbWords {k v : Nat} {q : Nat × Nat} : q ∈ tbWords k v ↔
    q = (Reg.TIM_TB_SLO k, tbSec v) ∨ q = (Reg.TIM_TB_SHI k, tbSec v / 2 ^ 32) ∨ q = (Reg.TIM_TB_FRAC k, tbFrac v) := by
  simp [tbWords]

theorem tbWord_addr {k : Fin 4} {v : Nat} {q : Nat × Nat} (h : q ∈ tbWords k.val v) :
    q.1 ∈ [Reg.TIM_TB_SLO k.val, Reg.TIM_TB_SHI k.val, Reg.TIM_TB_FRAC k.val] := by
  rcases mem_tbWords.1 h with rfl | rfl | rfl <;> simp

/-- The registers of seconds and fraction are read under R16, and a read of another holds their values. -/
theorem tbWord_reads : ∀ k : Fin 4, ∀ a ∈ [Reg.TIM_TB_SLO k.val, Reg.TIM_TB_SHI k.val, Reg.TIM_TB_FRAC k.val],
    a % 4 = 0 ∧ a < 0x3C000 ∧ ownRead a = false ∧ pairLow (activeAddr a) = false ∧ heldBy a = true := by decide

theorem regNow_page34 {a : Nat} {r : RegRow} (h : regAt a = .active r) (hkind : r.kind ≠ .wo) (hp : a / 4096 = 0x34)
    (ho : 0x40 ≤ a % 4096) (s : State) (m : Nat) : regNow s m a = page34Now s (a % 4096) := by
  have hhead : ¬ a % 4096 < 0x40 := by omega
  simp only [regNow, h, hkind, hp, hhead, if_false]

/-- The registers of seconds and fraction are read-only and stand in the block of their time base. -/
theorem tbWord_place : ∀ k : Fin 4, ∀ a ∈ [Reg.TIM_TB_SLO k.val, Reg.TIM_TB_SHI k.val, Reg.TIM_TB_FRAC k.val],
    regAt a = .active ⟨a % 128 + 0x100, 4, 128, .co, 0, 0, .volatile, false⟩ ∧ a / 4096 = 0x34 ∧ ¬ a % 4096 < 0x100 ∧
      arrIdx 128 (a % 4096) = k := by decide

theorem tbWord_offset : ∀ k : Fin 4, arrOff 128 (Reg.TIM_TB_SLO k.val % 4096) = 4 ∧
    arrOff 128 (Reg.TIM_TB_SHI k.val % 4096) = 8 ∧ arrOff 128 (Reg.TIM_TB_FRAC k.val % 4096) = 12 := by decide

/-- Seconds and fraction read as those of the time base's value. -/
theorem regNow_tbWord {k : Fin 4} {s : State} {q : Nat × Nat} (h : q ∈ tbWords k.val (getTb s k.val).value) (m : Nat) :
    regNow s m q.1 = w32 q.2 := by
  obtain ⟨hreg, hpage, hblock, hidx⟩ := tbWord_place k q.1 (tbWord_addr h)
  obtain ⟨hslo, hshi, hfrac⟩ := tbWord_offset k
  rw [regNow_page34 hreg nofun hpage (by omega), page34Now, if_neg hblock, hidx]
  rcases mem_tbWords.1 h with rfl | rfl | rfl
  · rw [hslo]
    rfl
  · rw [hshi]
    rfl
  · rw [hfrac]
    rfl

/-- A permitted read of seconds or fraction returns the copy held for the master, or without one the live value. -/
theorem holdingRead_tbWord {k : Fin 4} {v : Nat} {q : Nat × Nat} (hq : q ∈ tbWords k.val v) {m : Master} {a : BitVec 24}
    (ha : a.toNat = q.1) {u : State} (hcan : CanRead u m q.1) :
    ∃ w, exec (.holdingRead m a) u = .next w ∧
      w.readData = ((heldCopy u m.val q.1).map Hold.v).getD (regNow u m.val q.1) := by
  obtain ⟨h4, hlt, hown, hlow, hheld⟩ := tbWord_reads k q.1 (tbWord_addr hq)
  refine ⟨readReg m a.toNat u, rfl, ?_⟩
  rw [ha, readReg_page h4 hlt hown, readWith_ok hcan, pairRead_held hlow hheld]
  exact takeHigh_data _ _ _ _

/-- A read of TIM_TB_NS holds the other words of the same instant for the reading master. -/
theorem heldCopy_readTbNs {k : Nat} {s : State} {q : Nat × Nat} (h : q ∈ tbWords k (getTb s k).value) (m : Nat) :
    heldCopy (readTbNs m k s).2 m q.1 = some ⟨m, q.1, w32 q.2⟩ := by
  have hsec : w32 (tbSec (getTb s k).value % 2 ^ 32) = w32 (tbSec (getTb s k).value) :=
    BitVec.eq_of_toNat_eq (by simp)
  unfold readTbNs
  dsimp only
  rcases mem_tbWords.1 h with rfl | rfl | rfl
  · rw [heldCopy_holdHigh_same, hsec]
  · rw [heldCopy_holdHigh_ne (by simp), heldCopy_holdHigh_same]
  · rw [heldCopy_holdHigh_ne (by simp), heldCopy_holdHigh_ne (by simp), heldCopy_holdHigh_same]

/-! ### The timestamp queue (R349) -/

theorem txHead_w0 (s : State) (p : Nat) : (txHead s p).w0 = (((getEth s p).txq.head?).map TxTs.w0).getD 0 :=
  (Option.getD_map TxTs.w0 ⟨0, 0, 0, 0⟩ _).symm

/-- Settles O52: SET and STEP are jumps of one time base, a read of TIM_TB_NS holds the other words of its instant, which
the master's next reads return, and a read of TIM_ETHn_TXQ_W0 takes the head of the queue. -/
theorem timeIsSetAndRead : Obligations.TimeIsSetAndRead := by
  unfold Obligations.TimeIsSetAndRead
  refine ⟨fun m k s hcan => ⟨?_, ?_⟩, fun m k s u hcan => ⟨?_, fun q hq a ha hread hnone => ?_⟩, fun m p s hcan => ?_⟩
  · obtain ⟨⟨hraised, hothers, hvalue, hst⟩, hmem⟩ := tbCmd_jumps hcan (effTbCmd_set _ _)
    exact ⟨_, rfl, hraised, hothers, hvalue, hst, hmem⟩
  · obtain ⟨⟨hraised, hothers, hvalue, hst⟩, hmem⟩ := tbCmd_jumps hcan (effTbCmd_step _ _)
    exact ⟨_, rfl, hraised, hothers, hvalue, hst, hmem⟩
  · refine ⟨_, congrArg done (readWith_ok hcan _), rfl, rfl, fun _ => rfl, rfl, fun q hq a ha hread hsame => ?_⟩
    have hheld : heldCopy u m.val q.1 = some ⟨m.val, q.1, w32 q.2⟩ := hsame.trans (heldCopy_readTbNs hq m.val)
    obtain ⟨w, hexec, hdata⟩ := holdingRead_tbWord hq ha hread
    exact ⟨w, hexec, by rw [hdata, hheld]; rfl⟩
  · obtain ⟨w, hexec, hdata⟩ := holdingRead_tbWord hq ha hread
    exact ⟨w, hexec, by rw [hdata, heldCopy_eq_none hnone]; exact regNow_tbWord hq m.val⟩
  · exact ⟨_, congrArg done (readWith_ok hcan _), rfl, txHead_w0 s p.val, getEth_putEth_same _ _ _, fun _ => rfl⟩

end Sys2Proof.Machine
